-- ==== Sys2Proof/Word.lean ====
section
/-! DEFINITION. The word types of the device and the plainest shapes they are kept in: bytes, words, wire tokens, queue
words, and the sparse table that holds every repeated part of the state. -/

namespace Sys2Proof

/-- A byte. -/
abbrev Byte := BitVec 8

/-- A 32-bit word (R44, R117, R226). -/
abbrev Word := BitVec 32

/-- A 64-bit register or time value (R7, R18). -/
abbrev DWord := BitVec 64

/-- Sparse data by number: a list of (number, value) with the numbers strictly rising. A number that is not listed holds
the default that the reader of the table names. -/
abbrev Tbl (α : Type) := List (Nat × α)

/-- A word on a wire: 32 data bits and a poison bit (R44). A predicate channel uses bit 0 of `v` and never `psn`. -/
structure Tok where
  v : Word
  psn : Bool
  deriving DecidableEq, Repr

/-- A queue word: data, the three tags and the parity bit (R226). -/
structure QWord where
  data : Word
  sop : Bool
  eop : Bool
  psn : Bool
  par : Bool
  deriving DecidableEq, Repr

end Sys2Proof
end

