-- ==== Sys2Proof/Syntax.lean ====
section
/-! DEFINITION. The commands of the block: every indivisible step the spec names (spec/opcode_table.json), with the
operands its rule reads. Operand types admit only numbers that exist (R22, R225, R186); what a type cannot say is in
WellFormed.lean. -/

namespace Sys2Proof

/-- Tile T0 to T511 (R26). -/
abbrev TileNo := Fin 512
/-- Cell C0 to C15 of a tile (R26). -/
abbrev CellNo := Fin 16
/-- Context slot S0 to S7 (R114). -/
abbrev SlotNo := Fin 8
/-- Floor F0 to F31 (R26). -/
abbrev FloorNo := Fin 32
/-- Sequencer register: g0 to g15 are 0 to 15, f0 to f15 are 16 to 31 (R117). -/
abbrev SReg := Fin 32
/-- Queue Q0 to Q16383 (R225). -/
abbrev QueueNo := Fin 16384
/-- Task 0 to 32,767 (R186). -/
abbrev TaskNo := Fin 32768
/-- Batch 0 to 255 (R202). -/
abbrev BatchNo := Fin 256
/-- Lane 0 to 783 (R331). -/
abbrev LaneNo := Fin 784
/-- Trip line TL0 to TL11 (R390). -/
abbrev LineNo := Fin 12
/-- Link AL0 to AL11 (R504). -/
abbrev LinkNo := Fin 12
/-- Command view 0 to 15 (R436). -/
abbrev ViewNo := Fin 16
/-- A local address (R37). -/
abbrev LocalAddr := BitVec 40

/-- A driver of the wire network: every multiplexer, broadcast line, lane position and receive port that may hold one
token (R84, R94, R101, R105). Directions count north 0, east 1, south 2, west 3. -/
inductive Wire where
  | y (t : TileNo) (c : CellNo)
  | p (t : TileNo) (c : CellNo)
  | loc (t : TileNo) (c : CellNo) (dir : Fin 4) (track : Fin 2)
  | seg (t : TileNo) (c : CellNo) (vertical : Bool)
  | pred (t : TileNo) (c : CellNo) (dir : Fin 4)
  | bline (t : TileNo) (i : Fin 8)
  | pline (t : TileNo) (i : Fin 2)
  | lane (f : FloorNo) (edge : Fin 4) (l : Fin 16) (pos : Fin 4)
  | brecv (f : FloorNo) (k : Fin 16)
  deriving DecidableEq, Repr

/-- The operation codes of Q-form, packet and queue requests, and the answer kinds (R297, R300, R301, R302). -/
inductive POp where
  | rd | wr | cfgwr | qpush | qpop | qdrop | qlvl | signal | cancel | step | dispatch
  | reservedPosted | reserved
  | rsp | datShort | datLine | bridge | popWord | inv | invAck
  deriving DecidableEq, Repr

/-- A packet in the network: the fields of R296, R299 to R302 that its operation uses, and the router it lies at.
`data` holds one entry per data byte, none where the byte enable is 0; bit i of `psn` is the poison of 4-byte word i.
`sent` and `born` are the rim clocks and the device time passed at its injection, `vc` its virtual channel on links
(R311). -/
structure Pkt where
  op : POp
  dest : Nat
  src : Nat
  tag : Nat
  size : Nat
  nb : Bool
  view : Nat
  sys : Bool
  dsdn : Nat
  addr : Nat
  data : List (Option Byte)
  psn : Nat
  sop : Bool
  eop : Bool
  status : Nat
  result : Nat
  sent : Nat
  born : Nat
  vc : Nat
  router : Nat
  local_ : Bool
  deriving DecidableEq, Repr

/-- A command packet's header as the keeper runs it (R442): the ring it came from, the view it acts for, its TAG, the
ring index it was fetched from, its flags and its TARGET word. `remote` is 0, or the SDN of the device that forwarded it,
plus 1 (R453). -/
structure Cmd where
  remote : Nat
  ring : ViewNo
  view : ViewNo
  tag : Word
  index : Nat
  order : Bool
  irq : Bool
  pack : Bool
  target : Word
  deriving DecidableEq, Repr

/-- What the boot ROM meets when it looks for a Drefel copy (R474, R475): no directory or no such entry, a failed flash
read, the bytes of the copy. -/
inductive BootRead where
  | none
  | failed
  | copy (bytes : List Byte)
  deriving DecidableEq, Repr

/-- A mash record (R517): SDN, manifest hash, Drefel version, silicon revision, timebase epoch (master, count, hops),
membership epoch, TCAP, twin state. -/
structure MashRec where
  sdn : Nat
  mhash : Nat
  major : Nat
  minor : Nat
  rev : Nat
  msdn : Nat
  ecnt : Nat
  hops : Nat
  member : Nat
  tcap : Bool
  twin : Nat
  deriving DecidableEq, Repr


/-- The commands the block takes: one constructor per row of the operation table. -/
inductive Instr where
  /-- REGISTER_WRITE (R15). A write to a register that has no row of its own is applied field by field under its access codes, with R16 and R18. -/
  | registerWrite (view : ViewNo) (a : LocalAddr) (wide : Bool) (v : DWord)
  /-- WIRE_TOKEN_TRANSFER (R95). A driver offers a token on a wire and it reaches every reader in the same slot; the fork completes when all readers have taken it. -/
  | wireTokenTransfer (w : Wire) (s : SlotNo)
  /-- BOUNDARY_TOKEN_RELEASE (R99). A token waiting at a tile boundary for slot Ss moves on when the far tile next activates that slot. -/
  | boundaryTokenRelease (w : Wire) (s : SlotNo) (far : TileNo)
  /-- CELL_FIRE (R47). A cell whose read ports, E and output channels are ready takes one token from each read port and starts its configured operation. -/
  | cellFire (t : TileNo) (c : CellNo)
  /-- CELL_RESULT_EMIT (R48). After the operation latency a cell places its result on Y and P, updates its latch, history and exception flags. -/
  | cellResultEmit (t : TileNo) (c : CellNo) (s : SlotNo)
  /-- EXPRESS_INJECT (R103). An express lane position presents the arriving token to its taps and passes it on or injects a cell or bridge word. -/
  | expressInject (f : FloorNo) (edge : Fin 4) (l : Fin 16) (pos : Fin 4)
  /-- BRIDGE_SEND (R107). A bridge send port accepts a word from its lane against credit and sends it as a posted DAT packet. -/
  | bridgeSend (f : FloorNo) (k : Fin 16)
  /-- BRIDGE_RECEIVE (R108). A bridge word arrives at a receive port and is driven onto the lanes that name it, or dropped if the floor is fenced or no injection names it. -/
  | bridgeReceive (p : Pkt)
  /-- SCHED_SWITCH (R120). A scheduler switch reaching a tile takes effect at the next instruction boundary and activates the incoming data slot in one beat. -/
  | schedSwitch (t : TileNo)
  /-- GUARD_CAUSE_DELIVER (R124). An interrupt cause reaches a tile and sets its bit in TIL_GCAUSE of the guard it goes to, or counts in TIL_GOVR. -/
  | guardCauseDeliver (t : TileNo) (cause : Fin 16) (g : Fin 2)
  /-- GUARD_ENTRY (R125). At the next instruction boundary the guard slot is entered, suspending the active slot and recording it in RETA or RETB. -/
  | guardEntry (t : TileNo) (g : Fin 2)
  /-- SPILL_WRITE_COMPLETE (R139). The line buffer holding a spilled frame is written to the lees and the buffer becomes free. -/
  | spillWriteComplete (t : TileNo)
  /-- LEES_FILL_COMPLETE (R141). A fill of the caller's frame from the lees completes, delivering the frame or faulting with LEES_UNCORR. -/
  | leesFillComplete (t : TileNo)
  /-- SLOT_LOAD (R145). Privileged command that checks and loads one slot image into one tile slot. -/
  | slotLoad (c : Cmd) (t : Nat) (s : Nat) (src : Nat) (a : Nat) (len : Nat) (img : List Byte) (readFails : Bool)
  /-- SLOT_LOAD_DONE (R148). The in-tile steps of a slot load finish; the slot becomes IDLE with the new IMG and the reply follows. -/
  | slotLoadDone (t : TileNo) (s : SlotNo)
  /-- SLOT_RESET (R150). Privileged command that returns a FAULTED, STOPPED or IDLE slot to IDLE, zeroing its bank and restarting a stopped tile. -/
  | slotReset (c : Cmd) (t : Nat) (s : Nat)
  /-- ILLEGAL_INSTRUCTION (R155). An instruction with a reserved opcode, a set zero field, a reserved cond or an odd pair register faults with ILLEGAL. -/
  | illegalInstruction (t : TileNo) (w : Word)
  /-- ADD (R156). Sequencer instruction rd := ra + rb. -/
  | add (t : TileNo) (rd ra rb : SReg)
  /-- SUB (R156). Sequencer instruction rd := ra - rb. -/
  | sub (t : TileNo) (rd ra rb : SReg)
  /-- MUL (R156). Sequencer instruction rd := low 32 bits of ra x rb. -/
  | mul (t : TileNo) (rd ra rb : SReg)
  /-- AND (R156). Sequencer instruction rd := ra AND rb. -/
  | and_ (t : TileNo) (rd ra rb : SReg)
  /-- OR (R156). Sequencer instruction rd := ra OR rb. -/
  | or_ (t : TileNo) (rd ra rb : SReg)
  /-- XOR (R156). Sequencer instruction rd := ra XOR rb. -/
  | xor_ (t : TileNo) (rd ra rb : SReg)
  /-- SHL (R156). Sequencer instruction shifting ra left with zero fill. -/
  | shl (t : TileNo) (rd ra rb : SReg)
  /-- SHR (R156). Sequencer instruction shifting ra right with zero fill. -/
  | shr (t : TileNo) (rd ra rb : SReg)
  /-- SAR (R156). Sequencer instruction shifting ra right with sign fill. -/
  | sar (t : TileNo) (rd ra rb : SReg)
  /-- SLT (R156). Sequencer instruction setting rd to 1 when ra is less than rb as signed. -/
  | slt (t : TileNo) (rd ra rb : SReg)
  /-- SLTU (R156). Sequencer instruction setting rd to 1 when ra is less than rb as unsigned. -/
  | sltu (t : TileNo) (rd ra rb : SReg)
  /-- ADDI (R156). Sequencer instruction rd := ra + sext(imm16). -/
  | addi (t : TileNo) (rd ra : SReg) (imm : BitVec 16)
  /-- ANDI (R156). Sequencer instruction rd := ra AND zext(imm16). -/
  | andi (t : TileNo) (rd ra : SReg) (imm : BitVec 16)
  /-- ORI (R156). Sequencer instruction rd := ra OR zext(imm16). -/
  | ori (t : TileNo) (rd ra : SReg) (imm : BitVec 16)
  /-- SHI (R156). Sequencer instruction shifting or rotating ra by an immediate count. -/
  | shi (t : TileNo) (rd ra : SReg) (kind : Fin 4) (k : Fin 32)
  /-- LUI (R156). Sequencer instruction rd := imm16 x 65,536. -/
  | lui (t : TileNo) (rd : SReg) (imm : BitVec 16)
  /-- ADR (R156). Sequencer instruction rd := PC + 4 x sext(imm16). -/
  | adr (t : TileNo) (rd : SReg) (imm : BitVec 16)
  /-- LDB (R158). Sequencer load of a sign-extended byte at EA. -/
  | ldb (t : TileNo) (rd ra : SReg) (imm : BitVec 16)
  /-- LDBU (R158). Sequencer load of a zero-extended byte at EA. -/
  | ldbu (t : TileNo) (rd ra : SReg) (imm : BitVec 16)
  /-- LDH (R158). Sequencer load of a sign-extended halfword at EA. -/
  | ldh (t : TileNo) (rd ra : SReg) (imm : BitVec 16)
  /-- LDHU (R158). Sequencer load of a zero-extended halfword at EA. -/
  | ldhu (t : TileNo) (rd ra : SReg) (imm : BitVec 16)
  /-- LDW (R158). Sequencer load of a word at EA from the own store or a window. -/
  | ldw (t : TileNo) (rd ra : SReg) (imm : BitVec 16)
  /-- STB (R163). Sequencer store of a byte at EA through the line buffer. -/
  | stb (t : TileNo) (rs ra : SReg) (imm : BitVec 16)
  /-- STH (R163). Sequencer store of a halfword at EA through the line buffer. -/
  | sth (t : TileNo) (rs ra : SReg) (imm : BitVec 16)
  /-- STW (R163). Sequencer store of a word at EA through the line buffer. -/
  | stw (t : TileNo) (rs ra : SReg) (imm : BitVec 16)
  /-- LOAD_RESULT_RETURN (R162). A load result returns to its register, correcting, poisoning or faulting under PF, or faulting on a failed window response. -/
  | loadResultReturn (t : TileNo) (tag : Nat)
  /-- LINE_BUFFER_DRAIN (R163). The tile line buffer writes its merged store line to the own store or sends it as a window write. -/
  | lineBufferDrain (t : TileNo)
  /-- ICACHE_FILL (R164). The instruction cache fills a line from the own store, faulting on a fresh line, uncorrectable error or lees range. -/
  | icacheFill (t : TileNo)
  /-- QPUSH (R168). Sequencer instruction appending a register word with SOP, EOP and PSN tags to a queue, blocking or non-blocking. -/
  | qpush (t : TileNo) (r : SReg) (q : Fin 16384) (ind nb sop eop psn : Bool)
  /-- QPOP (R168). Sequencer instruction taking the next poppable word of a queue into a register and its tags into the flags. -/
  | qpop (t : TileNo) (r : SReg) (q : Fin 16384) (ind nb : Bool)
  /-- QDROP (R170). Sequencer instruction handing the queue engine the drop of the rest of the current item. -/
  | qdrop (t : TileNo) (q : Fin 16384) (ind : Bool)
  /-- QLVL (R170). Sequencer instruction returning the live level of a queue. -/
  | qlvl (t : TileNo) (r : SReg) (q : Fin 16384) (ind : Bool)
  /-- JMP (R156). Sequencer jump to a PC-relative target. -/
  | jmp (t : TileNo) (off : BitVec 26)
  /-- CALL (R133). Sequencer call that pushes a frame, spilling the oldest hardware frame when HDEPTH is 6. -/
  | call (t : TileNo) (off : BitVec 26)
  /-- JR (R173). Sequencer jump to the address in ra. -/
  | jr (t : TileNo) (ra : SReg)
  /-- RET (R134). Sequencer return that pops a frame, or at depth 1 ends the activation. -/
  | ret (t : TileNo) (ra : SReg)
  /-- BR (R157). Sequencer conditional branch comparing ra and rb. -/
  | br (t : TileNo) (ra rb : SReg) (cond : Fin 6) (off : BitVec 13)
  /-- LOOP (R174). Sequencer instruction decrementing a counter and branching while it is not zero. -/
  | loop (t : TileNo) (rd : SReg) (imm : BitVec 16)
  /-- WAIT_QNE (R175). WAIT until a queue holds a poppable word or CUT words. -/
  | waitQne (t : TileNo) (ra : SReg) (ind : Bool) (q : Fin 16384)
  /-- WAIT_QSPC (R175). WAIT until a queue has room for one word from this slot. -/
  | waitQspc (t : TileNo) (ra : SReg) (ind : Bool) (q : Fin 16384)
  /-- WAIT_TIME (R175). WAIT until device time reaches a 64-bit value. -/
  | waitTime (t : TileNo) (ra : SReg)
  /-- WAIT_TICKS (R175). WAIT for a number of ticks, taking a delay-list entry. -/
  | waitTicks (t : TileNo) (ra : SReg) (imm : BitVec 16)
  /-- WAIT_FPINV (R175). WAIT until the slot's IV flag is 1. -/
  | waitFpinv (t : TileNo)
  /-- WAIT_CONDITION_MET (R176). The condition of a suspended WAIT comes to hold and the task is made ready to resume, or a guard gets the Wake cause. -/
  | waitConditionMet (t : TileNo) (s : SlotNo)
  /-- YIELD (R177). Sequencer instruction giving up the tile and returning the task to the ready list, or ending it when CX is set. -/
  | yield (t : TileNo)
  /-- SIGNAL (R179). Sequencer instruction sending a SIGNAL to make a task ready. -/
  | signal (t : TileNo) (ra : SReg)
  /-- CANCEL (R179). Sequencer instruction sending a CANCEL for a task. -/
  | cancel (t : TileNo) (ra : SReg)
  /-- RDTIME (R180). Sequencer instruction reading device time from the floor hub replica into a register pair. -/
  | rdtime (t : TileNo) (rd : SReg)
  /-- RAISE (R181). Sequencer instruction setting or clearing a sequencer trip source. -/
  | raise (t : TileNo) (src : Fin 64) (set : Bool)
  /-- FENCE (R182). Sequencer instruction waiting for earlier loads, stores or pushes and optionally invalidating the instruction cache. -/
  | fence (t : TileNo) (m q i : Bool)
  /-- TRAP (R156). Sequencer instruction faulting the context with 0x3213. -/
  | trap (t : TileNo) (imm : BitVec 16)
  /-- RDFL (R153). Sequencer instruction copying the sequencer flags to a register. -/
  | rdfl (t : TileNo) (rd : SReg)
  /-- CLRFL (R156). Sequencer instruction clearing selected sticky flags LP, QP and FR. -/
  | clrfl (t : TileNo) (lp qp fr : Bool)
  /-- TRIGGER_TQNE (R191). A complete item in a TQNE task's trigger queue is credited and adds one activation. -/
  | triggerTqne (k : TaskNo)
  /-- DELAY_EXPIRY (R209). A delay-list entry expires, adding a TDLY activation or ending a WAIT TICKS, and its freed entry goes to the oldest waiter. -/
  | delayExpiry (f : FloorNo)
  /-- STEP_START (R204). A batch reaches a step start in the rim and sends its step event to every floor hub. -/
  | stepStart (b : BatchNo)
  /-- PKT_STEP (R204). A step event reaches a floor hub, which activates the batch's member tasks one per beat subject to OVR. -/
  | pktStep (p : Pkt)
  /-- BATCH_DEADLINE_CHECK (R206). At T + DEADLINE the hubs check member tasks and an overrun is counted and raised once. -/
  | batchDeadlineCheck (b : BatchNo)
  /-- DISPATCH_DECISION (R194). A floor hub takes ready-list entries in order and places the first that fits under the affinity rule. -/
  | dispatchDecision (f : FloorNo)
  /-- PKT_DISPATCH (R199). A roamed dispatch request reaches the target floor, which places the activation or answers BUSY. -/
  | pktDispatch (p : Pkt)
  /-- FLOW_RELEASE (R214). A closed flow entry whose number equals NEXTREL makes its staged output items visible and NEXTREL advances. -/
  | flowRelease (f : FloorNo) (n : Fin 64)
  /-- TASK_DESC_WRITE (R189). A write to a task descriptor is applied only to W0 to W3 of a DISABLED task, else discarded, counted and raising DESC_REJECT. -/
  | taskDescWrite (view : ViewNo) (k : TaskNo) (off : Fin 64) (data : List Byte)
  /-- TASK_ARM (R222). Command that checks a descriptor and arms a task, placing its delay and crediting present items. -/
  | taskArm (c : Cmd) (k : Nat) (keep : Nat)
  /-- TASK_SIGNAL (R222). Command that adds 1 to 255 TSIG activations to a task. -/
  | taskSignal (c : Cmd) (k : Nat) (n : Nat)
  /-- TASK_CANCEL (R218). Command that cancels a task, clearing PEND and setting CX in its running slots. -/
  | taskCancel (c : Cmd) (k : Nat)
  /-- TASK_DISABLE_DRAIN (R221). TASK_DISABLE in DRAIN mode: intake stops and the task becomes DISABLED when its activations complete. -/
  | taskDisableDrain (c : Cmd) (k : Nat) (timeout : Nat)
  /-- TASK_DISABLE_ABORT (R221). TASK_DISABLE in ABORT mode: pending activations cleared and running ones end cancelled. -/
  | taskDisableAbort (c : Cmd) (k : Nat) (timeout : Nat)
  /-- TASK_DRAIN_DONE (R221). A draining task's last activation ends; it becomes DISABLED and the pending DRAIN replies. -/
  | taskDrainDone (k : TaskNo)
  /-- TASK_STATUS (R222). Command returning W4 to W7 of a task descriptor. -/
  | taskStatus (c : Cmd) (k : Nat)
  /-- BATCH_ENABLE (R222). Command setting a batch's EN under the checks of R203. -/
  | batchEnable (c : Cmd) (b : BatchNo)
  /-- BATCH_DISABLE_DRAIN (R221). BATCH_DISABLE in DRAIN mode: EN cleared, no further step or deadline check, activations and rack entries complete. -/
  | batchDisableDrain (c : Cmd) (b : BatchNo) (timeout : Nat)
  /-- BATCH_DISABLE_ABORT (R348). BATCH_DISABLE in ABORT mode: members cancelled and the rack set's entries discarded with lanes to SAFE. -/
  | batchDisableAbort (c : Cmd) (b : BatchNo) (timeout : Nat)
  /-- BATCH_DRAIN_DONE (R221). A draining batch's activations and rack entries complete and the DRAIN replies OK. -/
  | batchDrainDone (b : BatchNo)
  /-- DISABLE_DRAIN_TIMEOUT (R221). The timeout of a pending DISABLE DRAIN expires; it replies TIMEOUT and keeps draining. -/
  | disableDrainTimeout (ring : ViewNo) (tag : Word)
  /-- TMB_BCTL_EN_SET (R203). A write of EN = 1 to TMB_BCTL enables the batch or is refused with ERR set. -/
  | tmbBctlEnSet (view : ViewNo) (b : BatchNo) (v : Word)
  /-- TMB_BCTL_EN_CLEAR (R221). A write of EN = 0 to TMB_BCTL acts as BATCH_DISABLE DRAIN without a reply. -/
  | tmbBctlEnClear (view : ViewNo) (b : BatchNo) (v : Word)
  /-- PKT_SIGNAL (R179). A SIGNAL packet reaches the task's scheduler and adds one activation if TSIG is set. -/
  | pktSignal (p : Pkt)
  /-- PKT_CANCEL (R218). A CANCEL packet reaches the task's scheduler and cancels the task. -/
  | pktCancel (p : Pkt)
  /-- BANK_SWAP (R238). One beat after its conditions hold, a queue swaps its filling and draining banks. -/
  | bankSwap (q : QueueNo)
  /-- TRUNCATION_WORD_STORE (R227). A truncation word waiting for space in a full queue is stored once a pop frees a word, ending the item. -/
  | truncationWordStore (q : QueueNo)
  /-- QUE_CFG_ENABLE_WRITE (R230). A QUE_CFG write with EN = 1 opens a DISABLED queue or is refused with ERR set. -/
  | queCfgEnableWrite (view : ViewNo) (q : QueueNo) (v : DWord)
  /-- QUE_CFG_DISABLE_WRITE (R255). A QUE_CFG write with EN = 0 acts as QUEUE_DISABLE DRAIN without a reply. -/
  | queCfgDisableWrite (view : ViewNo) (q : QueueNo) (v : DWord)
  /-- CMDPATH_LOCK_TIMEOUT (R249). After 1 ms without an accepted word a command-path input lock is released with a truncation word. -/
  | cmdpathLockTimeout (q : QueueNo)
  /-- PUSH_PORT_STORE (R258). A fabric push port takes a word from its lane, tags it by ILEN and stores it into its queue. -/
  | pushPortStore (f : FloorNo) (k : Fin 16)
  /-- POP_PORT_OFFER (R258). A pop port takes a poppable word from its queue and drives it onto its lanes. -/
  | popPortOffer (f : FloorNo) (k : Fin 16)
  /-- QUEUE_PUSH (R259). Command that pushes up to 200 words until the queue is full or another producer holds the lock. -/
  | queuePush (c : Cmd) (q : Nat) (words : List Word) (tags : List Byte)
  /-- QUEUE_POP (R259). Command returning poppable words up to an EOP or the count. -/
  | queuePop (c : Cmd) (q : Nat) (n : Nat)
  /-- QUEUE_DROP (R243). Command dropping the rest of the item whose output lock the view holds. -/
  | queueDrop (c : Cmd) (q : Nat)
  /-- QUEUE_FLUSH (R246). Command discarding every word of a queue, skipping the locked producer and truncating the locked consumer's item. -/
  | queueFlush (c : Cmd) (q : Nat)
  /-- QUEUE_DISABLE_DRAIN (R255). QUEUE_DISABLE in DRAIN mode: no new item, pops continue until empty, then DISABLED. -/
  | queueDisableDrain (c : Cmd) (q : Nat) (timeout : Nat)
  /-- QUEUE_DISABLE_ABORT (R255). QUEUE_DISABLE in ABORT mode: every word poisoned, the locked producer truncated and skipped. -/
  | queueDisableAbort (c : Cmd) (q : Nat) (timeout : Nat)
  /-- QUEUE_DRAIN_DONE (R255). A DRAINING queue reaches level 0 with no lock held and becomes DISABLED. -/
  | queueDrainDone (q : QueueNo)
  /-- QUEUE_STATUS (R259). Command returning the 32-byte queue descriptor without clearing QUE_WMEV. -/
  | queueStatus (c : Cmd) (q : Nat)
  /-- GRADER_JOB_START (R77). An idle grader starts the lowest-numbered ready job when a complete item or truncation word is in its input queue. -/
  | graderJobStart (f : FloorNo)
  /-- GRADER_JOB_DONE (R80). A grader job writes its output item EOP, updating GRD_STATUS and GRD_DONE. -/
  | graderJobDone (f : FloorNo)
  /-- PKT_RD (R295). A RD request reaches its node, is checked and answered with read data or a status. -/
  | pktRd (p : Pkt)
  /-- PKT_WR (R297). A WR request reaches its node, writes its bytes and is answered after global visibility. -/
  | pktWr (p : Pkt)
  /-- PKT_CFGWR (R297). A CFGWR request writes configuration frame space, only from the configuration engine. -/
  | pktCfgwr (p : Pkt)
  /-- PKT_QPUSH (R297). A QPUSH request reaches the queue's hub and pushes, parks or answers BUSY. -/
  | pktQpush (p : Pkt)
  /-- PKT_QPOP (R297). A QPOP request reaches the queue's hub and returns a pop word, parks or answers EMPTY. -/
  | pktQpop (p : Pkt)
  /-- PKT_QDROP (R297). A QDROP request drops the requester's current item. -/
  | pktQdrop (p : Pkt)
  /-- PKT_QLVL (R297). A QLVL request returns the queue level in RESULT. -/
  | pktQlvl (p : Pkt)
  /-- PARKED_REQUEST_COMPLETE (R304). A parked queue request completes when its queue allows. -/
  | parkedRequestComplete (f : FloorNo) (p : Pkt)
  /-- PARK_FULL_RESEND (R304). An initiator resends a request answered BUSY for a full park 64 beats later. -/
  | parkFullResend (i : Fin 560) (tag : Nat)
  /-- RESPONSE_ARRIVAL (R303). An RSP or DAT answer reaches its initiator and is matched by TAG. -/
  | responseArrival (p : Pkt)
  /-- ROUTER_FORWARD (R309). A router forwards a packet by its active route table, correcting head errors or dropping, discarding or answering NO_ROUTE. -/
  | routerForward (p : Pkt) (err : Fin 3) (badPar : Nat)
  /-- SNP_INV (R166). An INV reaches a tile, invalidates its data cache copy and is acknowledged. -/
  | snpInv (p : Pkt)
  /-- SNP_INV_ACK (R166). An INV_ACK reaches the owning store and counts toward the store's global visibility. -/
  | snpInvAck (p : Pkt)
  /-- ROUTE_PLAN (R310). Command applying a host route plan in two ordered commits after loop checks. -/
  | routePlan (c : Cmd) (changes : List (Nat × Nat × Nat × Nat))
  /-- ROUTE_COMMIT (R308). Command making the inactive route bank active, with optional ordered drain. -/
  | routeCommit (c : Cmd) (order : Nat) (timeout : Nat)
  /-- COMMIT_DRAIN_TIMEOUT (R308). An ORDER = 1 commit whose network is not empty after 2 us swaps anyway and sets OOO. -/
  | commitDrainTimeout
  /-- ROUTE_READ (R318). Command returning a router's route table bank. -/
  | routeRead (c : Cmd) (r : Nat) (bank : Nat)
  /-- FLOOR_POWER_OFF_DRAIN (R315). FLOOR_POWER_OFF in DRAIN mode fences the floor and drains it before powering off. -/
  | floorPowerOffDrain (c : Cmd) (f : Nat) (timeout : Nat)
  /-- FLOOR_POWER_OFF_ABORT (R315). FLOOR_POWER_OFF in ABORT mode fences the floor with a drain timeout of 0. -/
  | floorPowerOffAbort (c : Cmd) (f : Nat) (timeout : Nat)
  /-- FLOOR_DRAINED (R315). A fenced floor's requests are all answered and it becomes DRAINED. -/
  | floorDrained (f : FloorNo)
  /-- FLOOR_DRAIN_TIMEOUT (R315). NOC_DRAIN_TO expires; unanswered requests are answered ABORTED and the floor becomes DRAINED. -/
  | floorDrainTimeout (f : FloorNo)
  /-- FLOOR_OFF (R315). A drained floor ends its activations, discards queue words, turns its LDO off and becomes OFF. -/
  | floorOff (f : FloorNo)
  /-- FLOOR_POWER_ON (R317). Command taking an OFF floor to POWERING and raising its LDO. -/
  | floorPowerOn (c : Cmd) (f : Nat)
  /-- FLOOR_POWER_ON_DONE (R317). Calibration and memory initialisation of a powering floor finish; it becomes FENCED and the reply is written. -/
  | floorPowerOnDone (f : FloorNo) (ok : Bool) (clo : Fin 51) (lost : BitVec 16)
  /-- NOC_STATS (R318). Command returning initiator statistics records. -/
  | nocStats (c : Cmd) (first : Nat) (n : Nat)
  /-- NOC_STAT_CLEAR (R313). A write of CLR = 1 to NOC_STAT_CTL zeroes every statistics record in one beat. -/
  | nocStatClear (view : ViewNo) (v : Word)
  /-- CORRECTION_WRITEBACK (R269). A queued write-back of corrected bytes is written unless another write reached the line first. -/
  | correctionWriteback (t : TileNo)
  /-- SCRUB_LINE (R274). A tile's scrubber reads its next line, correcting, logging or rewriting fresh-line errors. -/
  | scrubLine (t : TileNo)
  /-- ECC_FLIP_ARM (R277). A write of ARM = 1 to ECC_FLIP_CTL arms the flip of the next whole-word write to the named tile. -/
  | eccFlipArm (view : ViewNo) (v : Word)
  /-- PAGE_RETIRE (R279). Command starting the copy of a tile page to the lowest usable spare page. -/
  | pageRetire (c : Cmd) (t : Nat) (page : Nat)
  /-- PAGE_COPY_COMMIT (R280). A page copy writes its last line; the remap entry becomes valid and PAGE_RETIRED is logged. -/
  | pageCopyCommit (t : TileNo)
  /-- MEM_READ (R285). Command reading tile store bytes with a poison map. -/
  | memRead (c : Cmd) (a : Nat) (len : Nat)
  /-- MEM_WRITE (R285). Command writing tile store bytes in aligned pieces. -/
  | memWrite (c : Cmd) (a : Nat) (data : List Byte)
  /-- MEM_INIT (R273). Command setting the fresh bit of a range of lines. -/
  | memInit (c : Cmd) (t : Nat) (first : Nat) (n : Nat)
  /-- PAGE_STATUS (R285). Command returning a tile's remap entries and ECC counters. -/
  | pageStatus (c : Cmd) (t : Nat)
  /-- LOG_READ (R285). Command returning error-log records from TAIL and optionally advancing TAIL. -/
  | logRead (c : Cmd) (log : Nat) (n : Nat) (adv : Nat)
  /-- LOG_RECORD_WRITE (R282). An event's record is written at HEAD of its die's log, or dropped and counted when the log is full. -/
  | logRecordWrite (log : Fin 3)
  /-- LOG_TAIL_WRITE (R282). A write of LOG_TAIL frees records, stopping at HEAD. -/
  | logTailWrite (view : ViewNo) (log : Fin 3) (v : Word)
  /-- PPS_IN_EDGE (R323). An active PPS_IN edge is timestamped and the phase error stored and steered. -/
  | ppsInEdge (rising : Bool)
  /-- PPS_MISSING (R323). No PPS_IN edge within the window: LOCK falls, holdover starts and 0x5203 is raised. -/
  | ppsMissing
  /-- TIME_FENCED (R324). Loss of lock for 1 ms or phase error above the limit time-fences the device. -/
  | timeFenced
  /-- TIME_RESTORED (R324). Lock returns with phase error within the limit and the device leaves the fenced state. -/
  | timeRestored
  /-- PPS_OUT_PULSE (R325). PPS_OUT rises at each whole second of device time and falls 1 ms later. -/
  | ppsOutPulse (level : Bool)
  /-- RIM_PLL_LOCK (R321). The rim PLL locks after reset and device time starts at 0. -/
  | rimPllLock
  /-- TIME_SET (R327). Command writing device time in one jump, at once or at the next PPS_IN edge. -/
  | timeSet (c : Cmd) (time : DWord) (at_ : Nat)
  /-- TIME_SET_PPS_TIMEOUT (R327). A TIME_SET with AT = 1 sees no PPS_IN edge within 2 s and replies TIMEOUT. -/
  | timeSetPpsTimeout
  /-- TIME_READ (R352). Command returning TMB_NOW, TMB_STATUS and TMB_PHERR. -/
  | timeRead (c : Cmd)
  /-- RACK_PORT_WORD (R335). A rack port accepts a word and forms entries by its mode, discarding bad headers. -/
  | rackPortWord (p : Pkt)
  /-- RACK_RELEASE (R333). A rack entry reaches its release time and the lane takes its value with the lane's precision. -/
  | rackRelease (l : LaneNo)
  /-- RACK_DEADLINE_CHECK (R341). At R - GUARD a bound lane's rack is checked and the step is on time or a miss. -/
  | rackDeadlineCheck (l : LaneNo)
  /-- RACK_PUT (R352). Command forming one rack entry for a lane. -/
  | rackPut (c : Cmd) (l : Nat) (te : Nat) (fine : Nat) (r : DWord) (v : Word) (psn : Nat)
  /-- RACK_CLEAR (R352). Command zeroing CONSEC and ending STICKY holds of a lane range. -/
  | rackClear (c : Cmd) (first : Nat) (n : Nat)
  /-- LANE_DISABLE_DRAIN (R351). LANE_DISABLE in DRAIN mode stops intake and disables the lanes once their racks are empty. -/
  | laneDisableDrain (c : Cmd) (first : Nat) (n : Nat) (timeout : Nat)
  /-- LANE_DISABLE_ABORT (R351). LANE_DISABLE in ABORT mode discards every entry and drives the safe state at once. -/
  | laneDisableAbort (c : Cmd) (first : Nat) (n : Nat) (timeout : Nat)
  /-- LANE_DRAIN_DONE (R351). The racks of a draining lane range empty; EN := 0 and the DRAIN replies OK. -/
  | laneDrainDone (first : Nat) (n : Nat)
  /-- RACK_STATUS (R352). Command returning RAK_LANE and RAK_LSTAT of a lane range. -/
  | rackStatus (c : Cmd) (first : Nat) (n : Nat)
  /-- SAMPLE_READY (R359). An input sample becomes ready with its timestamp and is queued for handover, or discarded as an overrun. -/
  | sampleReady (n : Fin 496)
  /-- STREAM_DELIVER (R361). A buffered sample is delivered to its queue or bridge destination once it can accept. -/
  | streamDeliver (n : Fin 496)
  /-- SD_FILTER_OUTPUT (R365). At a decimation boundary the sinc filter of an SD input produces one sample. -/
  | sdFilterOutput (i : Fin 256) (bits : List Bool)
  /-- SD_COMPARATOR_CHANGE (R367). A fast-path HI or LO comparator asserts or deasserts as a trip source. -/
  | sdComparatorChange (i : Fin 256) (bits : List Bool)
  /-- SD_STUCK (R366). A run of 128 equal bits sets STUCK and raises 0x6102. -/
  | sdStuck (i : Fin 256) (bits : List Bool)
  /-- ADC_FRAME_RECEIVE (R369). A serial ADC frame is received and gives one sample per channel, or is discarded as a framing error. -/
  | adcFrameReceive (p : Fin 16) (lanes : List (List Bool))
  /-- ADC_CLOCK_LOSS (R370). No DCO edge for 1 us: CLK falls and 0x6104 is raised. -/
  | adcClockLoss (p : Fin 16)
  /-- ADC_CNV_PULSE (R370). ADCP_CNV rises at its period and phase and falls after CWID. -/
  | adcCnvPulse (p : Fin 16) (level : Bool)
  /-- ADC_TRAIN (R387). Command sweeping each lane's DLY against a pattern and centring it. -/
  | adcTrain (c : Cmd) (p : Nat) (pattern : Word)
  /-- ENC_EDGE (R371). An accepted quadrature edge counts up or down, or is counted as an error, or Z clears the count. -/
  | encEdge (n : Fin 32) (a : Bool) (b : Bool) (z : Bool)
  /-- ENC_SAMPLE (R371). At its period an encoder takes a quadrature sample or starts a serial transfer. -/
  | encSample (n : Fin 32) (a : Bool)
  /-- ENC_SERIAL_DONE (R371). A serial encoder transfer takes its last bit and gives a sample, checking parity and line. -/
  | encSerialDone (n : Fin 32) (bits : List Bool)
  /-- CARRIER_PERIOD_START (R374). A PWM carrier starts a period, applying shadow parameters and new PERNS or PHS. -/
  | carrierPeriodStart (c : Fin 32)
  /-- GATE_EDGE_HOLD_END (R372). A gate edge deferred by minimum pulse or dead time is applied or dropped when its hold ends. -/
  | gateEdgeHoldEnd (g : Fin 512)
  /-- VL_FRAME_DELAYED (R379). A frame released too soon after the previous one starts 16 ns after its end and is counted. -/
  | vlFrameDelayed (l : Fin 48)
  /-- VL_SAFE_REPEAT (R380). A trip-held valve link sends another safe frame every 1,024 ns. -/
  | vlSafeRepeat (l : Fin 48)
  /-- VL_UPLINK_FRAME (R382). An uplink frame is received and gives one sample, poisoned on CRC failure or count mismatch. -/
  | vlUplinkFrame (n : Fin 48) (body : List Byte) (cut : Bool) (errs : Nat)
  /-- VL_RX_UP (R383). The valve-link receiver aligns and takes 8 clean idle sets, becoming UP. -/
  | vlRxUp (n : Fin 48) (errs : Nat)
  /-- VL_DOWN (R383). Code errors or 2 us without K28.5 take the receiver down and raise 0x6302. -/
  | vlDown (n : Fin 48) (errs : Nat)
  /-- VL_WATCHDOG (R384). UWD expires without a good uplink frame, setting WDOG and asserting the watchdog trip source. -/
  | vlWatchdog (n : Fin 48)
  /-- GPIO_EDGE (R385). A filtered GPIO level change is accepted, captured as a sample and updates its trip source. -/
  | gpioEdge (k : Fin 32) (level : Bool)
  /-- IO_SUPPLY (R357). A bank's VDDIO leaves its window for 1 us; VOK falls and 0x6401 is raised. -/
  | ioSupply (k : Fin 22)
  /-- IO_SUPPLY_OK (R357). A bank's VDDIO has been back inside its window for 1 us and VOK returns to 1. -/
  | ioSupplyOk (k : Fin 22)
  /-- STREAM_DISABLE_DRAIN (R387). STREAM_DISABLE in DRAIN mode delivers buffered samples and then disables the streams. -/
  | streamDisableDrain (c : Cmd) (first : Nat) (n : Nat) (timeout : Nat)
  /-- STREAM_DISABLE_ABORT (R387). STREAM_DISABLE in ABORT mode discards buffered samples and truncates open items. -/
  | streamDisableAbort (c : Cmd) (first : Nat) (n : Nat) (timeout : Nat)
  /-- TRIP_PIN_EDGE (R400). A filtered TRIP pin input goes low, asserting its edge source. -/
  | tripPinEdge (n : LineNo) (low : Bool)
  /-- TRIP_SAFE_INPUT (R392). The filtered TRIP_SAFE level changes, asserting or deasserting source 556. -/
  | tripSafeInput (high : Bool)
  /-- TRP_MASK_WRITE (R395). A mask write takes effect within 100 ns and latches the line at once for an asserted level source. -/
  | trpMaskWrite (view : ViewNo) (n : LineNo) (w : Fin 32) (v : Word)
  /-- TRIP_CLEAR (R399). Command stopping the drives of latched lines and starting the settle wait. -/
  | tripClear (c : Cmd) (lines : Nat)
  /-- TRIP_CLEAR_SETTLE (R399). After SETTLE ns each line's level sources are checked and the line clears or is refused. -/
  | tripClearSettle (lines : Fin 4096)
  /-- TRIP_FORCE (R407). Command asserting source 1023 toward the named enabled lines. -/
  | tripForce (c : Cmd) (lines : Nat)
  /-- TRIP_STATUS (R407). Command returning TRP_STATUS and the capture records of the named lines. -/
  | tripStatus (c : Cmd) (lines : Nat)
  /-- TRIP_SNAPSHOT (R407). Command returning TRP_SNAP of a line and TRP_SRCSEEN. -/
  | tripSnapshot (c : Cmd) (line : Nat)
  /-- TRIP_FRAME_REPEAT (R401). A trip frame is sent again every 1 us while any bit is 1. -/
  | tripFrameRepeat (m : LinkNo)
  /-- TRIP_FRAME_RECEIVE (R525). A received trip frame asserts link trip sources on HELD or FULL links, or is only shown in MASHING. -/
  | tripFrameReceive (m : LinkNo) (bits : BitVec 12)
  /-- HOST_WATCHDOG_KICK (R402). A write to TRP_HOSTKICK restarts the host watchdog. -/
  | hostWatchdogKick (view : ViewNo) (v : Word)
  /-- HOST_WATCHDOG (R402). PERIOD passes without a kick; source 849 asserts and 0x7201 is raised. -/
  | hostWatchdog
  /-- KEEPER_WATCHDOG (R402). Drefel fails to service its watchdog for 10 ms; source 848 asserts and 0x7202 is raised. -/
  | keeperWatchdog
  /-- GRAVITY_TRIM (R412). Every 2 us gravity computes targets and power and raises, lowers or holds each floor's code. -/
  | gravityTrim (tb : List Nat) (pest : Nat)
  /-- KILN_CONFIRM (R417). Kiln measures the replicas at the next lower code and confirms it or backs off for 1 ms. -/
  | kilnConfirm (f : FloorNo) (ok : Bool) (taps : Nat) (lost : Option (Fin 17))
  /-- KILN_TAP_CHANGE (R420). Kiln changes a channel's tap in that channel's borrowed beat. -/
  | kilnTapChange (f : FloorNo)
  /-- KILN_WATCH_END (R417). The 4,096-beat watch window after a downward step ends and shorter taps are applied. -/
  | kilnWatchEnd (f : FloorNo)
  /-- KLN_RETREAT (R418). A near-miss lengthens the tap, raises CLO and orders the higher code at once. -/
  | klnRetreat (f : FloorNo)
  /-- KILN_SD_PHASE_STEP (R422). Kiln moves an SD input's sampling phase one step toward the eye centre. -/
  | kilnSdPhaseStep (i : Fin 256) (up : Bool) (narrow : Bool)
  /-- THERMAL_SENSOR_READ (R423). Junction sensors are read every 10 us, driving THERM_N and the critical state. -/
  | thermalSensorRead (sensor : Fin 547) (temp : BitVec 8)
  /-- PMBUS_POLL (R555). Every 1 ms the device polls the core and SRAM regulators to calibrate its power estimate. -/
  | pmbusPoll (core : Option Word) (sram : Option Word)
  /-- TURN_TRIGGER (R426). A thermal or fault trigger starts the evacuation of a tile to its bound spare, or is retried every 1 ms. -/
  | turnTrigger (t : TileNo) (cause : Fin 3)
  /-- TURN_MOVE_START (R427). A pending move whose conditions all hold starts copying the slot to the spare. -/
  | turnMoveStart (t : TileNo)
  /-- TURN_COMMIT (R429). The last payload word arrives and the slot moves to the spare in one beat, with corridors and locks. -/
  | turnCommit (t : TileNo)
  /-- GRV_LIMITS (R434). Command writing TBMAX, RSV and PRIO of a floor. -/
  | grvLimits (c : Cmd) (f : Nat) (tbmax : Nat) (rsv : Nat) (prio : Nat)
  /-- GRV_STATUS (R434). Command returning GRV_FSTAT and KLN_FLOOR of floors. -/
  | grvStatus (c : Cmd) (first : Nat) (n : Nat)
  /-- TURN_MOVE (R434). Command triggering moves of a tile's data slots and replying when all are committed. -/
  | turnMove (c : Cmd) (t : Nat) (slots : Nat) (timeout : Nat)
  /-- TURN_RETURN (R434). Command returning an EVAC or RETIRED tile to SPARE after a retest. -/
  | turnReturn (c : Cmd) (t : Nat) (pass : Bool)
  /-- KLN_RECAL (R434). Command running a full calibration of a fenced floor. -/
  | klnRecal (c : Cmd) (f : Nat)
  /-- RING_DOORBELL (R441). A write of CMD_DB sets the ring's TAIL, or stops the ring on an index fault. -/
  | ringDoorbell (v : ViewNo) (w : Word)
  /-- RING_ENABLE (R441). A write of EN = 1 to CMD_CFG clears ERR and zeroes the ring indices. -/
  | ringEnable (v : ViewNo) (w : Word)
  /-- RING_DISABLE (R441). A write of EN = 0 to CMD_CFG stops fetching while commands in progress complete. -/
  | ringDisable (v : ViewNo) (w : Word)
  /-- COMMAND_FETCH (R444). The device fetches the next command slot when reply room allows and checks it in order. -/
  | commandFetch (v : ViewNo) (slot : List Byte) (fails : Bool)
  /-- REPLY_WRITE (R446). A completed command's reply is written at RTAIL with PHASE and RTAIL advances. -/
  | replyWrite (v : ViewNo) (fails : Bool)
  /-- MSIX_COALESCE_TIMEOUT (R449). The oldest unsignalled reply reaches DELAY us and the ring's reply vector is sent. -/
  | msixCoalesceTimeout (v : ViewNo)
  /-- PCIE_RESET (R452). PERST_N, hot reset or PF FLR resets every ring and host queue port and releases command-path locks. -/
  | pcieReset
  /-- VF_FLR (R452). FLR or removal of a VF resets its ring, its ports and its command-path locks. -/
  | vfFlr (v : ViewNo)
  /-- DEV_INFO (R456). Command returning device identity, firmware, manifest hash, SDN and acting view. -/
  | devInfo (c : Cmd)
  /-- NOP (R456). Command echoing its parameter bytes. -/
  | nop (c : Cmd) (data : List Byte)
  /-- VIEW_GRANT (R456). Command setting the owner view of a range of resources. -/
  | viewGrant (c : Cmd) (kind : Nat) (first : Nat) (n : Nat) (view : Nat)
  /-- VIEW_REVOKE (R459). Command that waits for the old owner's commands and then sets the owner to 0. -/
  | viewRevoke (c : Cmd) (kind : Nat) (first : Nat) (n : Nat)
  /-- VIEW_TABLE (R456). Command returning owners of a range of resources. -/
  | viewTable (c : Cmd) (kind : Nat) (first : Nat) (n : Nat)
  /-- GUARD_DOORBELL (R456). Command delivering the Doorbell cause to a named guard. -/
  | guardDoorbell (c : Cmd) (t : Nat) (g : Nat)
  /-- HOSTQ_BIND (R461). Command binding and enabling a host queue port. -/
  | hostqBind (c : Cmd) (p : Nat) (q : Nat) (dir : Nat) (view : Nat)
  /-- HOSTQ_DISABLE_DRAIN (R463). HOSTQ_DISABLE in DRAIN mode finishes the open item and FIFO before disabling the port. -/
  | hostqDisableDrain (c : Cmd) (p : Nat) (timeout : Nat)
  /-- HOSTQ_DISABLE_ABORT (R463). HOSTQ_DISABLE in ABORT mode discards the FIFO and truncates or drops the item. -/
  | hostqDisableAbort (c : Cmd) (p : Nat) (timeout : Nat)
  /-- HMW_SET (R465). Command writing a host memory window segment. -/
  | hmwSet (c : Cmd) (seg : Nat) (en : Nat) (fn : Nat) (addr : DWord)
  /-- REG_READ (R457). Command reading consecutive 32-bit register units after range checks. -/
  | regRead (c : Cmd) (a : Nat) (n : Nat)
  /-- REG_WRITE (R457). Command writing consecutive 32-bit register units after range checks. -/
  | regWrite (c : Cmd) (a : Nat) (pad : Nat) (data : List Word)
  /-- FORWARDED_COMMAND (R453). A command with TARGET naming another device is sent on VC2 and its reply written when it returns. -/
  | forwardedCommand (c : Cmd) (op : Nat) (params : List Byte) (back : Option (Nat × List Byte))
  /-- FORWARD_TIMEOUT (R453). A forwarded command gets no reply within 100 ms and replies TIMEOUT. -/
  | forwardTimeout (ring : ViewNo) (tag : Word)
  /-- HQ_PUSH_WRITE (R462). A write to HQ_PUSH or HQ_BULK puts tagged words into a push port FIFO, or is discarded. -/
  | hqPushWrite (h : Fin 64) (view : ViewNo) (off : BitVec 12) (ws : List Word) (whole : Bool)
  /-- HQ_PORT_TRANSFER (R462). A host queue port moves a word between its FIFO and its queue. -/
  | hqPortTransfer (h : Fin 64)
  /-- HQ_POP_READ (R462). A 64-bit read of HQ_POP consumes the oldest FIFO word or returns VALID = 0. -/
  | hqPopRead (h : Fin 64) (view : ViewNo) (off : BitVec 12) (wide : Bool)
  /-- HMW_COMPLETION (R464). A host memory window access completes from PCIe, or fails with NO_ROUTE and HMW_ERROR. -/
  | hmwCompletion (p : Pkt) (res : Fin 3) (data : List Byte)
  /-- RESET_ASSERT (R471). RESET_N falls and the device returns to its reset state with pins in their reset states. -/
  | resetAssert
  /-- RESET_RELEASE (R472). RESET_N rises; BOOTSEL, SAFE_POL and eFuses are latched and the boot ROM starts. -/
  | resetRelease (bootsel : BitVec 3)
  /-- BOOT_COPY_VERIFY (R474). The boot ROM reads and verifies a Drefel copy, running it or trying copy B or halting. -/
  | bootCopyVerify (copyB : Bool) (r : BootRead)
  /-- MEMORY_INIT_DONE (R476). Power-up memory initialisation of stores, queues, task tables and route tables completes. -/
  | memoryInitDone
  /-- KILN_CALIBRATION_DONE (R479). Initial kiln calibration completes, setting CALOK and CLO or leaving a floor OFF. -/
  | kilnCalibrationDone (f : FloorNo) (ok : Bool) (clo : Fin 51) (lost : BitVec 16)
  /-- READY (R476). Link calibration and trip self-test finish and READY is released. -/
  | ready
  /-- AUTOLOAD (R480). With BOOTSEL 0b000 Drefel loads the manifest, guard image and floor images from flash after READY. -/
  | autoload (kind : Fin 4) (floor : FloorNo) (entry : Fin 63) (img : List Byte) (fails : Bool)
  /-- IMAGE_LOAD_MANIFEST (R484). IMAGE_LOAD of kind 0 checks a manifest and makes it the manifest in force. -/
  | imageLoadManifest (c : Cmd) (floor : Nat) (src : Nat) (entry : Nat) (a : DWord) (len : Nat) (img : List Byte) (fails : Bool)
  /-- IMAGE_LOAD_GUARD (R490). IMAGE_LOAD of kind 1 loads a guard image, applied in one rim clock. -/
  | imageLoadGuard (c : Cmd) (floor : Nat) (src : Nat) (entry : Nat) (a : DWord) (len : Nat) (img : List Byte) (fails : Bool)
  /-- IMAGE_LOAD_FLOOR (R486). IMAGE_LOAD of kind 2 starts pass 1 of a floor load. -/
  | imageLoadFloor (c : Cmd) (floor : Nat) (src : Nat) (entry : Nat) (a : DWord) (len : Nat)
  /-- LOAD_PASS1_DONE (R488). Pass 1 passes and the floor is fenced and drained for pass 2. -/
  | loadPass1Done (img : List Byte) (fails : Bool)
  /-- LOAD_PASS2_DONE (R488). Pass 2 writes its frames; slots are set up, the floor opens or the load faults. -/
  | loadPass2Done (img : List Byte) (fails : Bool)
  /-- LOAD_STATUS (R502). Command returning CFG_FLOOR or CFG_GUARD and CFG_LTIME. -/
  | loadStatus (c : Cmd) (f : Nat)
  /-- MANIFEST_READ (R502). Command returning bytes of the manifest in force. -/
  | manifestRead (c : Cmd) (off : Nat) (len : Nat)
  /-- FLOOR_FREEZE (R492). Command freezing a floor at a step boundary or at once. -/
  | floorFreeze (c : Cmd) (f : Nat) (b : Nat) (imm : Nat) (timeout : Nat)
  /-- FREEZE_TAKE_EFFECT (R492). The freeze moment arrives; the floor stops dispatch and becomes FROZEN within 16 beats. -/
  | freezeTakeEffect (f : FloorNo)
  /-- READBACK (R494). Command returning configuration and state bytes of a frozen floor. -/
  | readback (c : Cmd) (a : Nat) (len : Nat)
  /-- FLOOR_THAW (R495). Command resuming a frozen floor or withdrawing a pending freeze. -/
  | floorThaw (c : Cmd) (f : Nat)
  /-- CFGDATA (R496). JTAG capture of CFGDATA reads the unit at CFGADDR and advances it. -/
  | cfgdata
  /-- CFGADDR (R496). JTAG update of CFGADDR sets the local address of the next read. -/
  | cfgaddr (a : LocalAddr)
  /-- FRZCTL (R496). JTAG update of FRZCTL freezes or thaws a floor. -/
  | frzctl (v : BitVec 8)
  /-- FUSEPGM (R499). JTAG update of FUSEPGM programs eFuse bits in provisioning mode. -/
  | fusepgm (v : BitVec 400)
  /-- EXTEST (R496). JTAG EXTEST takes every field pin from the boundary scan register. -/
  | extest (pins : Option (List (Nat × Bool)))
  /-- LINK_ENABLE (R510). A write of EN = 1 to ALK_CTL starts link training. -/
  | linkEnable (m : LinkNo) (v : Word)
  /-- LINK_TRAINED (R510). All four lanes train and the link enters MASHING, or fails to FAILED. -/
  | linkTrained (m : LinkNo) (ok : Bool)
  /-- LINK_RETRY (R510). A FAILED link retries training every 100 ms. -/
  | linkRetry (m : LinkNo)
  /-- LINK_REPLAY (R506). An uncorrectable codeword discards its frames and requests replay from the first lost frame. -/
  | linkReplay (m : LinkNo)
  /-- LINK_RETRAIN (R511). A link retrains on replay, alignment or error rate and resumes within 10 ms or fails. -/
  | linkRetrain (m : LinkNo)
  /-- LINK_DOWN (R512). A link leaving FULL or HELD ends dependent traffic, locks, trip sources and time lock. -/
  | linkDown (m : LinkNo)
  /-- LINK_EQ_STEP (R508). Kiln moves a lane's equalisation or emphasis one step at a codeword boundary. -/
  | linkEqStep (m : LinkNo) (k : Fin 4) (tx : Bool) (up : Bool)
  /-- SIDE_SLOT_RECEIVE (R509). A side slot is received, checked by CRC and acted on by its KIND. -/
  | sideSlotReceive (m : LinkNo) (slot : BitVec 80)
  /-- MASH_RECORD_RECEIVE (R518). A peer's mash record is checked and the link becomes HELD or FULL by the verdicts. -/
  | mashRecordReceive (m : LinkNo) (r : MashRec) (held : Bool)
  /-- GATEWAY_PACKET_ENTRY (R515). A system packet enters from a link and is proxied and handled as a local request. -/
  | gatewayPacketEntry (m : LinkNo) (p : Pkt) (src : BitVec 12) (hops : Fin 64)
  /-- SYS_REQUEST_TIMEOUT (R515). A system request unanswered after RSPTO is answered NO_ROUTE and counted. -/
  | sysRequestTimeout (id : Nat)
  /-- XCH_PUSH (R516). A system channel pops a word from its source queue and sends it as a remote QPUSH. -/
  | xchPush (m : LinkNo) (k : Fin 16)
  /-- TIME_SERVICE_EXCHANGE (R522). Every 10 us a link exchanges time-service packets to measure delay and steer device time. -/
  | timeServiceExchange (m : LinkNo) (delay : Word) (off : Word) (hops : Fin 16)
  /-- TIME_MASTER (R521). The time master changes and 0xA401 is raised. -/
  | timeMaster (sdn : BitVec 12) (ecnt : BitVec 16) (pinned : Bool)
  /-- LINK_STATUS (R536). Command returning a link's status, peer record and counters. -/
  | linkStatus (c : Cmd) (l : Nat)
  /-- LINK_DISABLE_DRAIN (R512). LINK_DISABLE in DRAIN mode stops routing to the link and disables it once drained. -/
  | linkDisableDrain (c : Cmd) (l : Nat) (timeout : Nat)
  /-- LINK_DISABLE_ABORT (R512). LINK_DISABLE in ABORT mode discards the link's traffic and disables it at once. -/
  | linkDisableAbort (c : Cmd) (l : Nat) (timeout : Nat)
  /-- MASH_STATUS (R536). Command returning the own mash record, compatibility table and link states. -/
  | mashStatus (c : Cmd)
  /-- JOIN (R519). Command writing the membership epoch, re-running mash-in and optionally aligning device time. -/
  | join (c : Cmd) (epoch : Word) (links : Nat) (align : Nat)
  /-- SYS_ROUTE (R514). Command changing the gateway crossbar table in two commits. -/
  | sysRoute (c : Cmd) (changes : List (Nat × Nat × Nat))
  /-- TIME_PIN (R521). Command pinning or unpinning the time master. -/
  | timePin (c : Cmd) (sdn : Nat) (cap : Bool)
  /-- TWIN_CTL (R526). Command setting twin mode, role, link, heartbeat batch and HBOVR. -/
  | twinCtl (c : Cmd) (mode : Nat) (role : Nat) (link : Nat) (batch : Nat) (hbovr : Nat)
  /-- TWIN_HB_CHECK (R527). At T + 1,500 ns the partner heartbeat is checked and takeover or demotion is decided. -/
  | twinHbCheck (seen : Bool)
  /-- TWIN_TAKEOVER (R528). A standby becomes active and its outputs start driving between T + 1,600 and 1,650 ns. -/
  | twinTakeover
  /-- TWIN_DUAL_ACTIVE (R530). An active device sees its partner active and the higher SDN demotes with DUAL and INHIB set. -/
  | twinDualActive
  /-- TWIN_ACT_INPUT (R526). In EXT mode a change of TWIN_ACT_IN sets the role within 100 ns. -/
  | twinActInput (high : Bool)
  /-- TRN_DEFERRED (R427). A move still deferred TRN_DEFMAX after its trigger raises 0x8302 once, and deferred moves are re-evaluated at least every 1 us, counting TRN_DEFERS. -/
  | trnDeferred (t : TileNo)
  /-- TURN_MOVE_TIMEOUT (R434). The timeout of a TURN_MOVE expires before all its moves commit, and it replies TIMEOUT with the moves still pending. -/
  | turnMoveTimeout (t : TileNo)
  /-- ROUTE_COMMIT_TIMEOUT (R318). The timeout of a ROUTE_COMMIT expires while PEND stays 1; it replies TIMEOUT and the commit goes on. -/
  | routeCommitTimeout
  /-- FREEZE_TIMEOUT (R492). A FLOOR_FREEZE with IMM = 0 whose batch step does not start within its timeout is withdrawn and replies TIMEOUT. -/
  | freezeTimeout (f : FloorNo)
  /-- RIM_PLL_LOCK_LOSS (R322). The rim PLL loses lock, LOCK falls to 0 and TIMEBASE_OK goes low, starting the 1 ms run toward time fencing. -/
  | rimPllLockLoss
  /-- SYSTEM_LOCK_LOSS (R523). In SYSTEM mode no time-service exchange completes on the parent link for 100 us, so LOCK falls to 0 and TIMEBASE_OK goes low. -/
  | systemLockLoss
  /-- SD_STUCK_CLEAR (R366). The first bit that differs from a stuck run clears STUCK on a sigma-delta input. -/
  | sdStuckClear (i : Fin 256) (bits : List Bool)
  /-- ADC_CLOCK_RETURN (R370). A DCO edge arrives after a clock loss and CLK of the serial ADC port returns to 1. -/
  | adcClockReturn (p : Fin 16)
  /-- PWM_LEVEL_CHANGE (R374). A PWM carrier reaches an output's compare point within a period and the output's logical level changes, entering stages 3 and 4 and the interlock check. -/
  | pwmLevelChange (g : Fin 512)
  /-- PWM_MID_PERIOD_UPDATE (R375). At the mid-period point of a centre-aligned carrier, a released PWM word with UPD = 1 takes effect. -/
  | pwmMidPeriodUpdate (g : Fin 512)
  /-- SAFE_POL_CHANGE (R356). While RESET_N is low, a change of a SAFE_POL strap pin changes the level driven on the gate pins of its bank. -/
  | safePolChange (v : BitVec 16)
  /-- KEEPER_WATCHDOG_SERVICE (R402). Drefel resumes servicing its watchdog and source 848 deasserts. -/
  | keeperWatchdogService
  /-- MANAGEMENT_COMMAND_RECEIVE (R453). A command forwarded from another device arrives on VC2, is run with view 0 rights and its reply is sent back. -/
  | managementCommandReceive (m : LinkNo) (c : Cmd) (op : Nat) (params : List Byte)
  /-- ADC_TRAIN_DONE (R387). The DLY sweep of ADC_TRAIN finishes within 200 us, setting each lane's DLY and writing the reply or FAULT. -/
  | adcTrainDone (p : Fin 16) (pass : List (BitVec 64))
  /-- KLN_RECAL_DONE (R434). The full calibration of KLN_RECAL finishes within 5 ms, setting CALOK and CLO and replying. -/
  | klnRecalDone (f : FloorNo) (ok : Bool) (clo : Fin 51) (lost : BitVec 16)
  deriving DecidableEq, Repr

end Sys2Proof
end

