-- ==== Sys2Proof/Decode.lean ====
section
/-! DEFINITION. Words that spell commands. The operation table gives no row any bits, so no table word spells a command. The
tile sequencer's 32-bit instructions (R154 to R157, R175) do have an encoding of their own: `decodeSeq` reads it and
`encodeSeq` writes it. -/

namespace Sys2Proof

/-- The command that a table word spells: the table gives no row any bits. -/
def decodeTableWord (_nbits _w : Nat) : Option Instr := none

/-! ### Fields of a sequencer instruction (R154) -/

def seqOp (w : Word) : Nat := (w.extractLsb' 26 6).toNat
def seqRd (w : Word) : SReg := (w.extractLsb' 21 5).toFin
def seqRa (w : Word) : SReg := (w.extractLsb' 16 5).toFin
def seqRb (w : Word) : SReg := (w.extractLsb' 11 5).toFin
def seqImm (w : Word) : BitVec 16 := w.extractLsb' 0 16
def seqQ (w : Word) : Fin 16384 := (w.extractLsb' 7 14).toFin
def seqBit (w : Word) (i : Nat) : Bool := w.getLsbD i

/-- An instruction when its fields marked zero are (R155). -/
def seqIf (zeros : Bool) (i : Instr) : Option Instr := if zeros then some i else none

/-- Bits [10:0] of the R form are zero. -/
def rZero (w : Word) : Bool := w.extractLsb' 0 11 == 0#11

/-- The rd field is zero; the ra field is zero; the rb field is zero. -/
def rd0 (w : Word) : Bool := seqRd w == 0
def ra0 (w : Word) : Bool := seqRa w == 0
def rb0 (w : Word) : Bool := seqRb w == 0

/-- Arithmetic of the R form: opcodes 0x00 to 0x0A (R156). -/
def decodeR (t : TileNo) (w : Word) : Option Instr :=
  let d := seqRd w
  let a := seqRa w
  let b := seqRb w
  match seqOp w with
  | 0x00 => some (.add t d a b)
  | 0x01 => some (.sub t d a b)
  | 0x02 => some (.mul t d a b)
  | 0x03 => some (.and_ t d a b)
  | 0x04 => some (.or_ t d a b)
  | 0x05 => some (.xor_ t d a b)
  | 0x06 => some (.shl t d a b)
  | 0x07 => some (.shr t d a b)
  | 0x08 => some (.sar t d a b)
  | 0x09 => some (.slt t d a b)
  | 0x0A => some (.sltu t d a b)
  | _ => none

/-- Immediates, loads and stores: opcodes 0x0C to 0x1F (R156). -/
def decodeI (t : TileNo) (w : Word) : Option Instr :=
  let d := seqRd w
  let a := seqRa w
  let m := seqImm w
  match seqOp w with
  | 0x0C => some (.addi t d a m)
  | 0x0D => some (.andi t d a m)
  | 0x0E => some (.ori t d a m)
  | 0x0F => seqIf (w.extractLsb' 7 9 == 0#9) (.shi t d a (w.extractLsb' 5 2).toFin (w.extractLsb' 0 5).toFin)
  | 0x10 => seqIf (ra0 w) (.lui t d m)
  | 0x11 => seqIf (ra0 w) (.adr t d m)
  | 0x18 => some (.ldb t d a m)
  | 0x19 => some (.ldbu t d a m)
  | 0x1A => some (.ldh t d a m)
  | 0x1B => some (.ldhu t d a m)
  | 0x1C => some (.ldw t d a m)
  | 0x1D => some (.stb t d a m)
  | 0x1E => some (.sth t d a m)
  | 0x1F => some (.stw t d a m)
  | _ => none

/-- An indirect queue number names its register in q14[4:0], and q14[13:5] is zero (R154). -/
def qInd (w : Word) : Bool := !seqBit w 6 || w.extractLsb' 12 9 == 0#9

/-- Queue instructions: opcodes 0x20 to 0x23 (R154, R156). -/
def decodeQ (t : TileNo) (w : Word) : Option Instr :=
  let r := seqRd w
  let q := seqQ w
  let ind := seqBit w 6
  match seqOp w with
  | 0x20 => seqIf (qInd w && w.extractLsb' 0 2 == 0#2)
      (.qpush t r q ind (seqBit w 5) (seqBit w 4) (seqBit w 3) (seqBit w 2))
  | 0x21 => seqIf (qInd w && w.extractLsb' 0 5 == 0#5) (.qpop t r q ind (seqBit w 5))
  | 0x22 => seqIf (qInd w && rd0 w && w.extractLsb' 0 6 == 0#6) (.qdrop t q ind)
  | 0x23 => seqIf (qInd w && w.extractLsb' 0 6 == 0#6) (.qlvl t r q ind)
  | _ => none

/-- The condition of BR, when it is not reserved (R157). -/
def brCond (w : Word) : Option (Fin 6) :=
  let c := (w.extractLsb' 13 3).toNat
  if h : c < 6 then some ⟨c, h⟩ else none

/-- Control transfer: opcodes 0x28 to 0x2D (R156, R157). -/
def decodeJ (t : TileNo) (w : Word) : Option Instr :=
  match seqOp w with
  | 0x28 => some (.jmp t (w.extractLsb' 0 26))
  | 0x29 => some (.call t (w.extractLsb' 0 26))
  | 0x2A => seqIf (rd0 w && rb0 w && rZero w) (.jr t (seqRa w))
  | 0x2B => seqIf (rd0 w && rb0 w && rZero w) (.ret t (seqRa w))
  | 0x2C => (brCond w).map fun c => .br t (seqRd w) (seqRa w) c (w.extractLsb' 0 13)
  | 0x2D => seqIf (ra0 w) (.loop t (seqRd w) (seqImm w))
  | _ => none

/-- WAIT by its kind (R175): unused register fields and imm16[14] of a queue kind are zero, a pair names an even register. -/
def decodeWait (t : TileNo) (w : Word) : Option Instr :=
  let a := seqRa w
  let m := seqImm w
  let ind := seqBit w 15
  let q : Fin 16384 := (w.extractLsb' 0 14).toFin
  let qok := !seqBit w 14 && (ind || ra0 w)
  match (w.extractLsb' 23 3).toNat with
  | 0 => seqIf qok (.waitQne t a ind q)
  | 1 => seqIf qok (.waitQspc t a ind q)
  | 2 => seqIf (a.val % 2 == 0 && m == 0#16) (.waitTime t a)
  | 3 => seqIf (m == 0#16 || ra0 w) (.waitTicks t a m)
  | 4 => seqIf (ra0 w && m == 0#16) (.waitFpinv t)
  | _ => none

/-- Waiting, tasks, time, trip sources, fences and flags: opcodes 0x30 to 0x39 (R156). -/
def decodeS (t : TileNo) (w : Word) : Option Instr :=
  let m := seqImm w
  let rest0 := rd0 w && rb0 w && rZero w
  match seqOp w with
  | 0x30 => if w.extractLsb' 21 2 = 0#2 then decodeWait t w else none
  | 0x31 => seqIf (w.extractLsb' 0 26 == 0#26) (.yield t)
  | 0x32 => seqIf rest0 (.signal t (seqRa w))
  | 0x33 => seqIf rest0 (.cancel t (seqRa w))
  | 0x34 => seqIf ((seqRd w).val % 2 == 0 && ra0 w && rb0 w && rZero w) (.rdtime t (seqRd w))
  | 0x35 => seqIf (rd0 w && ra0 w && w.extractLsb' 6 9 == 0#9) (.raise t (w.extractLsb' 0 6).toFin (seqBit w 15))
  | 0x36 => seqIf (rd0 w && ra0 w) (.fence t (seqBit w 0) (seqBit w 1) (seqBit w 2))
  | 0x37 => seqIf (rd0 w && ra0 w) (.trap t m)
  | 0x38 => seqIf (ra0 w && rb0 w && rZero w) (.rdfl t (seqRd w))
  | 0x39 => seqIf (rd0 w && ra0 w && w.extractLsb' 7 9 == 0#9 && w.extractLsb' 0 4 == 0#4)
      (.clrfl t (seqBit w 6) (seqBit w 5) (seqBit w 4))
  | _ => none

/-- The instruction that word `w` is for the sequencer of tile `t`; none when it is ILLEGAL (R155) (open points: log 36). -/
def decodeSeq (t : TileNo) (w : Word) : Option Instr :=
  let o := seqOp w
  if o < 0x0B then (if rZero w then decodeR t w else none)
  else if o < 0x20 then decodeI t w
  else if o < 0x28 then decodeQ t w
  else if o < 0x30 then decodeJ t w
  else decodeS t w

/-! ### The encoder -/

def reg5 (r : SReg) : BitVec 5 := BitVec.ofFin r
def bit1 (b : Bool) : BitVec 1 := BitVec.ofBool b
def q14 (q : Fin 16384) : BitVec 14 := BitVec.ofFin q

def encR (op : BitVec 6) (d a b : SReg) : Word := op ++ reg5 d ++ reg5 a ++ reg5 b ++ 0#11
def encI (op : BitVec 6) (d a : SReg) (m : BitVec 16) : Word := op ++ reg5 d ++ reg5 a ++ m
def encQ (op : BitVec 6) (r : SReg) (q : Fin 16384) (ind : Bool) (low : BitVec 6) : Word :=
  op ++ reg5 r ++ q14 q ++ bit1 ind ++ low
def encW (kind : BitVec 3) (a : SReg) (m : BitVec 16) : Word := 0x30#6 ++ kind ++ 0#2 ++ reg5 a ++ m

/-- The word of a sequencer instruction (R154 to R157, R175); none for the other commands. -/
def encodeSeq : Instr → Option Word
  | .add _ d a b => some (encR 0x00#6 d a b)
  | .sub _ d a b => some (encR 0x01#6 d a b)
  | .mul _ d a b => some (encR 0x02#6 d a b)
  | .and_ _ d a b => some (encR 0x03#6 d a b)
  | .or_ _ d a b => some (encR 0x04#6 d a b)
  | .xor_ _ d a b => some (encR 0x05#6 d a b)
  | .shl _ d a b => some (encR 0x06#6 d a b)
  | .shr _ d a b => some (encR 0x07#6 d a b)
  | .sar _ d a b => some (encR 0x08#6 d a b)
  | .slt _ d a b => some (encR 0x09#6 d a b)
  | .sltu _ d a b => some (encR 0x0A#6 d a b)
  | .addi _ d a m => some (encI 0x0C#6 d a m)
  | .andi _ d a m => some (encI 0x0D#6 d a m)
  | .ori _ d a m => some (encI 0x0E#6 d a m)
  | .shi _ d a k n => some (encI 0x0F#6 d a (0#9 ++ (BitVec.ofFin k : BitVec 2) ++ (BitVec.ofFin n : BitVec 5)))
  | .lui _ d m => some (encI 0x10#6 d 0 m)
  | .adr _ d m => some (encI 0x11#6 d 0 m)
  | .ldb _ d a m => some (encI 0x18#6 d a m)
  | .ldbu _ d a m => some (encI 0x19#6 d a m)
  | .ldh _ d a m => some (encI 0x1A#6 d a m)
  | .ldhu _ d a m => some (encI 0x1B#6 d a m)
  | .ldw _ d a m => some (encI 0x1C#6 d a m)
  | .stb _ d a m => some (encI 0x1D#6 d a m)
  | .sth _ d a m => some (encI 0x1E#6 d a m)
  | .stw _ d a m => some (encI 0x1F#6 d a m)
  | .qpush _ r q ind nb sop eop psn =>
      some (encQ 0x20#6 r q ind (bit1 nb ++ bit1 sop ++ bit1 eop ++ bit1 psn ++ 0#2))
  | .qpop _ r q ind nb => some (encQ 0x21#6 r q ind (bit1 nb ++ 0#5))
  | .qdrop _ q ind => some (encQ 0x22#6 0 q ind 0#6)
  | .qlvl _ r q ind => some (encQ 0x23#6 r q ind 0#6)
  | .jmp _ o => some (0x28#6 ++ o)
  | .call _ o => some (0x29#6 ++ o)
  | .jr _ a => some (encR 0x2A#6 0 a 0)
  | .ret _ a => some (encR 0x2B#6 0 a 0)
  | .br _ a b c o => some (0x2C#6 ++ reg5 a ++ reg5 b ++ BitVec.ofNat 3 c.val ++ o)
  | .loop _ d m => some (encI 0x2D#6 d 0 m)
  | .waitQne _ a ind q => some (encW 0#3 a (bit1 ind ++ 0#1 ++ q14 q))
  | .waitQspc _ a ind q => some (encW 1#3 a (bit1 ind ++ 0#1 ++ q14 q))
  | .waitTime _ a => some (encW 2#3 a 0#16)
  | .waitTicks _ a m => some (encW 3#3 a m)
  | .waitFpinv _ => some (encW 4#3 0 0#16)
  | .yield _ => some (0x31#6 ++ 0#26)
  | .signal _ a => some (encR 0x32#6 0 a 0)
  | .cancel _ a => some (encR 0x33#6 0 a 0)
  | .rdtime _ d => some (encR 0x34#6 d 0 0)
  | .raise _ n st => some (encI 0x35#6 0 0 (bit1 st ++ 0#9 ++ (BitVec.ofFin n : BitVec 6)))
  | .fence _ m q i => some (encI 0x36#6 0 0 (0#13 ++ bit1 i ++ bit1 q ++ bit1 m))
  | .trap _ m => some (encI 0x37#6 0 0 m)
  | .rdfl _ d => some (encR 0x38#6 d 0 0)
  | .clrfl _ lp qp fr => some (encI 0x39#6 0 0 (0#9 ++ bit1 lp ++ bit1 qp ++ bit1 fr ++ 0#4))
  | _ => none

end Sys2Proof
end

