-- ==== Sys2Proof/Config.lean ====
section
/-! DEFINITION. What an implementation fixes and the spec leaves open: constants without a body, so that no proof can see
a value of them. -/

namespace Sys2Proof.Config

open Sys2Proof

/-- The next value that the spec leaves open, named by the model's own counter `State.free` (log 1). -/
opaque freeValue : Nat → BitVec 64

/-- The candidate seed of RCPS for a binary32 operand (R68 bounds its error and leaves the value open; log 10). -/
opaque rcpsSeed : Word → Word

/-- The candidate seed of RSQS for a binary32 operand (R68; log 10). -/
opaque rsqsSeed : Word → Word

/-- Whether a fused multiply-add of zero, infinity and a quiet NaN sets IV: IEEE 754, which R57 names, leaves it to the
implementation (log 10). -/
opaque fmaZeroInfQuiet : Bool

/-- SHA-384 of a byte string: the standard that R481 names, which the spec does not restate (log 11). -/
opaque sha384 : List Byte → BitVec 384

/-- Whether an ECDSA P-384 signature verifies: key (x, y), message, signature (r, s), 96 bytes each pair (log 11). -/
opaque ecdsaP384 : List Byte → List Byte → List Byte → Bool

/-- What the turning engine reads in a turn patch (R112, R113, R427): live store ranges (first byte, bytes), the batches it
lists with the added beats of each, the largest added beats. -/
structure TurnPatch where
  live : List (Nat × Nat)
  batches : List (Nat × Nat)
  addb : Nat
  deriving DecidableEq, Repr

/-- The turn patch of local tile and slot in the turn patch area of a floor frame: Idkan's layout, which the spec does not
give (R102, R113; log 30). -/
opaque turnPatch : List Byte → Nat → Nat → Option TurnPatch

/-- The compatibility table held in Drefel, one byte per silicon revision (R518; log 31). -/
opaque compatRevs : List Byte

/-- The reply of MASH_STATUS made from the items of R536, whose byte layout the spec does not give (log 31). -/
opaque mashStatus : List Nat → List Byte

/-- Measured VDDIO of I/O bank `k` in mV, at index k + 22 n after the supervisor of the bank has seen it leave or meet its
window n times: the board sets it (R355; log 5). -/
opaque vddio : Nat → Nat

/-- The level at the ball of gate pin `g` in rim clock `t` while the device does not drive it: the board sets it (R376;
log 63). -/
opaque ballLevel : Nat → Nat → Bool

end Sys2Proof.Config
end

