-- ==== Sys2Proof/Machine/Regs.lean ====
section
/-! DEFINITION. The register table of the device: every register of the spec's register tables with its place in the local
address space (R37, R42, R43), its width, the bits of each access code (R15) and its reset value (R14). -/

namespace Sys2Proof.Machine

open Sys2Proof

/-- Every register name of the spec. An array is one name; its element is chosen by a flat index. -/
inductive Reg where
  | DEV_ID | DEV_STATUS | DEV_FWVER | DEV_BOOT | DEV_EFUSE_ID | DEV_FUSE
  | DEV_FAULT | DEV_KEYHASH | DEV_SYSCFG | DEV_MEMBER | DEV_TEPOCH | DEV_TWIN
  | DEV_TWSTAT | DEV_TWCNT | CMD_CBASE | CMD_RBASE | CMD_CFG | CMD_DB
  | CMD_CHEAD | CMD_RTAIL | CMD_RHEAD | CMD_COAL | CMD_INFLT | CMD_HMW
  | CMD_HQ | CMD_FETCHED | CMD_REJECTED | CMD_HQ_ERR | CFG_STATUS | CFG_MANIFEST
  | CFG_JTAG | CFG_LOADS | CFG_FLOOR | CFG_LTIME | CFG_GUARD | TMB_CTL
  | TMB_STATUS | TMB_NOW | TMB_FENCE_NS | TMB_PPS_OFS | TMB_PPS_LAST | TMB_PHERR
  | TMB_FENCE_CNT | TMB_BPER | TMB_BPHS | TMB_BDL | TMB_BCTL | TMB_BCP
  | TMB_BOVR | TMB_BNEXT | RAK_LANE | RAK_LSTAT | RAK_SAFEW | RAK_PORT
  | RAK_MISS_TOTAL | RAK_LATE | RAK_FULL | RAK_BADLANE | RAK_PORTERR | RAK_PSN
  | RAK_MSRC | TRP_STATUS | TRP_PINCTL | TRP_HOSTWD | TRP_HOSTKICK | TRP_LINE_CFG
  | TRP_LINE_CNT | TRP_GBANK | TRP_VLINK | TRP_LINKOUT | TRP_LINE_ACT | TRP_MASK
  | TRP_CAPT | TRP_CAPS | TRP_SNAP | TRP_SRCLIVE | TRP_SRCSEEN | GRV_CTL
  | GRV_PCAP | GRV_PEST | GRV_THERM | GRV_CAPCNT | GRV_FLOOR | GRV_FSTAT
  | KLN_CTL | KLN_FLOOR | TRN_CTL | TRN_MARGIN | TRN_DEFMAX | TRN_MOVES
  | TRN_DEFERS | TRN_FLOOR | TRN_LAST | ECC_CFG | ECC_SCRUB | ECC_SCRUB_PASS
  | ECC_FLIP_D | ECC_FLIP_C | ECC_FLIP_CTL | ECC_CE_TOTAL | ECC_UE_TOTAL | ECC_LOGSUPP
  | LOG_HEAD | LOG_TAIL | LOG_STATUS | LOG_DROP | LOG_REC | NOC_ROUTE_CTL
  | NOC_DRAIN_TO | NOC_FENCE_DROP | NOC_NOROUTE_DROP | NOC_ABORTED | NOC_LATE_DROP | NOC_HDR_CE
  | NOC_HDR_UE | NOC_DAT_PAR | NOC_RT_REJ | NOC_STAT_CTL | NOC_GRT_CTL | NOC_FLOOR
  | NOC_ISTAT_BYTES | NOC_ISTAT_PKTS | NOC_ISTAT_NPDONE | NOC_ISTAT_HIST | NOC_ISTAT_MAXLAT | NOC_RT
  | NOC_GRT | FIO_BANK | FIO_MCLK | FIO_FCMAP | FIO_FCOD | FIO_GPIO_IN
  | FIO_GPIO | FIO_STRM | FIO_SLOST | FIO_SD | FIO_SDTH | FIO_ADCCFG
  | FIO_ADCCNV | FIO_ADCSTAT | FIO_ENCCFG | FIO_ENCTIM | FIO_ENCST | FIO_ENCPOS
  | FIO_GOUT | FIO_CAR | FIO_GIN | FIO_GILK | FIO_VLCFG | FIO_VLBLK
  | FIO_VLSTAT | FIO_VLCRC | FIO_VLCODE | FIO_VLDLYD | FIO_VLABORT | FIO_VLSP
  | ALK_CTL | ALK_STATUS | ALK_MASH | ALK_PEER | ALK_ASYM | ALK_DELAY
  | ALK_FEC_CW | ALK_FEC_UNC | ALK_REPLAY | ALK_SLOT_ERR | ALK_RETRAIN | ALK_RSPTO
  | ALK_XCH | QUE_CFG | QUE_WM_HIGH | QUE_WM_LOW | QUE_STATUS | QUE_WMEV
  | QUE_ITEMS | QUE_FLUSH_SKIP | QUE_PAR_ERR | QUE_FRAME_ERR | QUE_DROP_WORDS | QUE_CFG_REJ
  | QUE_POOL_USED | SCH_CFG | SCH_STATUS | SCH_DISPATCH | SCH_PREEMPT | SCH_ROAM_OUT
  | SCH_ROAM_IN | SCH_READY_LOST | SCH_ACT_SAT | SCH_CRED_HELD | SCH_DLY_FULL | SCH_SEQ_FULL
  | SCH_DESC_REJ | SCH_FLOW | GRD_JOB | GRD_STATUS | GRD_DONE | GRD_LAST_BEATS
  | TIL_CTX | TIL_GCFG | TIL_GEN | TIL_GCAUSE | TIL_GOVR | TIL_SLOT
  | TIL_LEES | TIL_FAULT | TIL_SWITCHES | TIL_GENTRIES | TIL_FPX | TIL_SLN
  | TIL_XSTALL | TIL_RAISE | TIL_ICMISS | TIL_DCMISS | TIL_LUT | TIL_K0
  | TIL_K1 | TIL_KPAIR | TIL_WIN | TIL_REMAP | TIL_ECC_CE | TIL_ECC_UE
  | TIL_ECC_LASTUE
  deriving DecidableEq, Repr

/-- Who may reach a register from a tenant view (R41, R460): nobody, the owner of the tile, queue, batch or lane, or the
owner of the lane for reads only. -/
inductive RegOwner where
  | priv | tile | queue | batch | lane | laneRead
  deriving DecidableEq, Repr

/-- Place, width and access codes of one register name. Element `i` is `i / n2`, `i % n2` in the two strides. -/
structure RegInfo where
  base : Nat
  n1 : Nat
  s1 : Nat
  n2 : Nat
  s2 : Nat
  wide : Bool
  rw : Nat
  w1c : Nat
  w1s : Nat
  rcl : Nat
  own : RegOwner
  deriving DecidableEq, Repr

/-- The register table (rule of spec/ behind each row) (open points: log 47). -/
def Reg.info : Reg → RegInfo
  | .DEV_ID => ⟨0x400000000, 1, 0x100000000, 1, 0x8, false, 0, 0, 0, 0, .priv⟩  -- R438
  | .DEV_STATUS => ⟨0x400000004, 1, 0x100000000, 1, 0x8, false, 0, 0, 0, 0, .priv⟩  -- R439
  | .DEV_FWVER => ⟨0x400000008, 1, 0x100000000, 1, 0x8, false, 0, 0, 0, 0, .priv⟩  -- R438
  | .DEV_BOOT => ⟨0x400000010, 1, 0x100000000, 1, 0x8, false, 0, 0, 0, 0, .priv⟩  -- R500
  | .DEV_EFUSE_ID => ⟨0x400000020, 1, 0x100000000, 1, 0x8, true, 0, 0, 0, 0, .priv⟩  -- R500
  | .DEV_FUSE => ⟨0x400000028, 1, 0x100000000, 1, 0x8, false, 0, 0, 0, 0, .priv⟩  -- R500
  | .DEV_FAULT => ⟨0x400000030, 1, 0x100000000, 1, 0x8, false, 0, 0xb, 0, 0, .priv⟩  -- R547
  | .DEV_KEYHASH => ⟨0x400000040, 1, 0x100000000, 6, 0x8, true, 0, 0, 0, 0, .priv⟩  -- R500
  | .DEV_SYSCFG => ⟨0x400000100, 1, 0x100000000, 1, 0x8, false, 0x7fff1fff, 0, 0, 0, .priv⟩  -- R533
  | .DEV_MEMBER => ⟨0x400000104, 1, 0x100000000, 1, 0x8, false, 0, 0, 0, 0, .priv⟩  -- R533
  | .DEV_TEPOCH => ⟨0x400000108, 1, 0x100000000, 1, 0x8, true, 0, 0, 0, 0, .priv⟩  -- R533
  | .DEV_TWIN => ⟨0x400000110, 1, 0x100000000, 1, 0x8, true, 0, 0, 0, 0, .priv⟩  -- R533
  | .DEV_TWSTAT => ⟨0x400000118, 1, 0x100000000, 1, 0x8, false, 0, 0x20000000, 0, 0, .priv⟩  -- R533
  | .DEV_TWCNT => ⟨0x40000011c, 1, 0x100000000, 1, 0x8, false, 0, 0, 0, 0xffffffff, .priv⟩  -- R533
  | .CMD_CBASE => ⟨0x400010000, 1, 0x100000000, 16, 0x40, true, 0xfffffffffffff000, 0, 0, 0, .priv⟩  -- R440
  | .CMD_RBASE => ⟨0x400010008, 1, 0x100000000, 16, 0x40, true, 0xfffffffffffff000, 0, 0, 0, .priv⟩  -- R440
  | .CMD_CFG => ⟨0x400010010, 1, 0x100000000, 16, 0x40, false, 0x800f0000, 0, 0, 0, .priv⟩  -- R440
  | .CMD_DB => ⟨0x400010014, 1, 0x100000000, 16, 0x40, false, 0, 0, 0, 0, .priv⟩  -- R440
  | .CMD_CHEAD => ⟨0x400010018, 1, 0x100000000, 16, 0x40, false, 0, 0, 0, 0, .priv⟩  -- R440
  | .CMD_RTAIL => ⟨0x40001001c, 1, 0x100000000, 16, 0x40, false, 0, 0, 0, 0, .priv⟩  -- R440
  | .CMD_RHEAD => ⟨0x400010020, 1, 0x100000000, 16, 0x40, false, 0xffff, 0, 0, 0, .priv⟩  -- R440
  | .CMD_COAL => ⟨0x400010024, 1, 0x100000000, 16, 0x40, false, 0xffffffff, 0, 0, 0, .priv⟩  -- R440
  | .CMD_INFLT => ⟨0x400010028, 1, 0x100000000, 16, 0x40, false, 0, 0, 0, 0, .priv⟩  -- R440
  | .CMD_HMW => ⟨0x400010800, 1, 0x100000000, 32, 0x8, true, 0, 0, 0, 0, .priv⟩  -- R465
  | .CMD_HQ => ⟨0x400010a00, 1, 0x100000000, 64, 0x4, false, 0, 0, 0, 0, .priv⟩  -- R467
  | .CMD_FETCHED => ⟨0x400010b00, 1, 0x100000000, 1, 0x8, false, 0, 0, 0, 0xffffffff, .priv⟩  -- R467
  | .CMD_REJECTED => ⟨0x400010b04, 1, 0x100000000, 1, 0x8, false, 0, 0, 0, 0xffffffff, .priv⟩  -- R467
  | .CMD_HQ_ERR => ⟨0x400010b08, 1, 0x100000000, 1, 0x8, false, 0, 0, 0, 0xffffffff, .priv⟩  -- R467
  | .CFG_STATUS => ⟨0x400020000, 1, 0x100000000, 1, 0x8, false, 0, 0, 0, 0, .priv⟩  -- R501
  | .CFG_MANIFEST => ⟨0x400020008, 1, 0x100000000, 1, 0x8, true, 0, 0, 0, 0, .priv⟩  -- R501
  | .CFG_JTAG => ⟨0x400020010, 1, 0x100000000, 1, 0x8, false, 0x1, 0, 0, 0, .priv⟩  -- R501
  | .CFG_LOADS => ⟨0x400020018, 1, 0x100000000, 1, 0x8, false, 0, 0, 0, 0xffffffff, .priv⟩  -- R501
  | .CFG_FLOOR => ⟨0x400020100, 1, 0x100000000, 32, 0x10, true, 0, 0, 0, 0, .priv⟩  -- R501
  | .CFG_LTIME => ⟨0x400020108, 1, 0x100000000, 32, 0x10, true, 0, 0, 0, 0, .priv⟩  -- R501
  | .CFG_GUARD => ⟨0x400020300, 1, 0x100000000, 1, 0x8, true, 0, 0, 0, 0, .priv⟩  -- R501
  | .TMB_CTL => ⟨0x400030000, 1, 0x100000000, 1, 0x8, false, 0xf, 0, 0, 0, .priv⟩  -- R349
  | .TMB_STATUS => ⟨0x400030004, 1, 0x100000000, 1, 0x8, false, 0, 0, 0, 0, .priv⟩  -- R349
  | .TMB_NOW => ⟨0x400030008, 1, 0x100000000, 1, 0x8, true, 0, 0, 0, 0, .priv⟩  -- R349
  | .TMB_FENCE_NS => ⟨0x400030010, 1, 0x100000000, 1, 0x8, false, 0xffff, 0, 0, 0, .priv⟩  -- R349
  | .TMB_PPS_OFS => ⟨0x400030014, 1, 0x100000000, 1, 0x8, false, 0xffffffff, 0, 0, 0, .priv⟩  -- R349
  | .TMB_PPS_LAST => ⟨0x400030018, 1, 0x100000000, 1, 0x8, true, 0, 0, 0, 0, .priv⟩  -- R349
  | .TMB_PHERR => ⟨0x400030020, 1, 0x100000000, 1, 0x8, false, 0, 0, 0, 0, .priv⟩  -- R349
  | .TMB_FENCE_CNT => ⟨0x400030024, 1, 0x100000000, 1, 0x8, false, 0, 0, 0, 0xffffffff, .priv⟩  -- R349
  | .TMB_BPER => ⟨0x400038000, 1, 0x100000000, 256, 0x20, false, 0xffffffff, 0, 0, 0, .batch⟩  -- R202
  | .TMB_BPHS => ⟨0x400038004, 1, 0x100000000, 256, 0x20, false, 0xffffffff, 0, 0, 0, .batch⟩  -- R202
  | .TMB_BDL => ⟨0x400038008, 1, 0x100000000, 256, 0x20, false, 0xffffffff, 0, 0, 0, .batch⟩  -- R202
  | .TMB_BCTL => ⟨0x40003800c, 1, 0x100000000, 256, 0x20, false, 0xe0ff0000, 0, 0, 0, .batch⟩  -- R202
  | .TMB_BCP => ⟨0x400038010, 1, 0x100000000, 256, 0x20, false, 0xffffffff, 0, 0, 0, .batch⟩  -- R202
  | .TMB_BOVR => ⟨0x400038014, 1, 0x100000000, 256, 0x20, false, 0, 0, 0, 0xffffffff, .batch⟩  -- R202
  | .TMB_BNEXT => ⟨0x400038018, 1, 0x100000000, 256, 0x20, true, 0, 0, 0, 0, .batch⟩  -- R202
  | .RAK_LANE => ⟨0x400040000, 1, 0x100000000, 784, 0x8, true, 0xfffffffeff3f0000, 0, 0, 0, .laneRead⟩  -- R350
  | .RAK_LSTAT => ⟨0x400042000, 1, 0x100000000, 784, 0x4, false, 0, 0, 0, 0xffff, .lane⟩  -- R350
  | .RAK_SAFEW => ⟨0x400043000, 1, 0x100000000, 784, 0x4, false, 0xffffffff, 0, 0, 0, .lane⟩  -- R350
  | .RAK_PORT => ⟨0x400044000, 1, 0x100000000, 32, 0x8, true, 0xffffffc000000000, 0, 0, 0, .priv⟩  -- R350
  | .RAK_MISS_TOTAL => ⟨0x400044200, 1, 0x100000000, 1, 0x8, false, 0, 0, 0, 0xffffffff, .priv⟩  -- R350
  | .RAK_LATE => ⟨0x400044204, 1, 0x100000000, 1, 0x8, false, 0, 0, 0, 0xffffffff, .priv⟩  -- R350
  | .RAK_FULL => ⟨0x400044208, 1, 0x100000000, 1, 0x8, false, 0, 0, 0, 0xffffffff, .priv⟩  -- R350
  | .RAK_BADLANE => ⟨0x40004420c, 1, 0x100000000, 1, 0x8, false, 0, 0, 0, 0xffffffff, .priv⟩  -- R350
  | .RAK_PORTERR => ⟨0x400044210, 1, 0x100000000, 1, 0x8, false, 0, 0, 0, 0xffffffff, .priv⟩  -- R350
  | .RAK_PSN => ⟨0x400044214, 1, 0x100000000, 1, 0x8, false, 0, 0, 0, 0xffffffff, .priv⟩  -- R350
  | .RAK_MSRC => ⟨0x400044220, 1, 0x100000000, 1, 0x8, false, 0, 0, 0, 0, .priv⟩  -- R350
  | .TRP_STATUS => ⟨0x400050000, 1, 0x100000000, 1, 0x8, false, 0, 0, 0, 0, .priv⟩  -- R406
  | .TRP_PINCTL => ⟨0x400050004, 1, 0x100000000, 1, 0x8, false, 0xff003f, 0, 0, 0, .priv⟩  -- R406
  | .TRP_HOSTWD => ⟨0x400050008, 1, 0x100000000, 1, 0x8, false, 0x8000ffff, 0, 0, 0, .priv⟩  -- R406
  | .TRP_HOSTKICK => ⟨0x40005000c, 1, 0x100000000, 1, 0x8, false, 0, 0, 0, 0, .priv⟩  -- R406
  | .TRP_LINE_CFG => ⟨0x400050040, 1, 0x100000000, 12, 0x4, false, 0xe000ffff, 0, 0, 0, .priv⟩  -- R406
  | .TRP_LINE_CNT => ⟨0x400050080, 1, 0x100000000, 12, 0x4, false, 0, 0, 0, 0xffffffff, .priv⟩  -- R406
  | .TRP_GBANK => ⟨0x400050100, 1, 0x100000000, 16, 0x4, false, 0xc0000fff, 0, 0, 0, .priv⟩  -- R406
  | .TRP_VLINK => ⟨0x400050140, 1, 0x100000000, 48, 0x4, false, 0xfff, 0, 0, 0, .priv⟩  -- R406
  | .TRP_LINKOUT => ⟨0x400050200, 1, 0x100000000, 12, 0x4, false, 0xfff, 0, 0, 0, .priv⟩  -- R406
  | .TRP_LINE_ACT => ⟨0x400050240, 1, 0x100000000, 12, 0x8, true, 0, 0, 0, 0, .priv⟩  -- R406
  | .TRP_MASK => ⟨0x400051000, 1, 0x100000000, 384, 0x4, false, 0xffffffff, 0, 0, 0, .priv⟩  -- R406
  | .TRP_CAPT => ⟨0x400052000, 1, 0x100000000, 12, 0x10, true, 0, 0, 0, 0, .priv⟩  -- R406
  | .TRP_CAPS => ⟨0x400052008, 1, 0x100000000, 12, 0x10, false, 0, 0, 0, 0, .priv⟩  -- R406
  | .TRP_SNAP => ⟨0x400053000, 1, 0x100000000, 384, 0x4, false, 0, 0, 0, 0, .priv⟩  -- R406
  | .TRP_SRCLIVE => ⟨0x400054000, 1, 0x100000000, 32, 0x4, false, 0, 0, 0, 0, .priv⟩  -- R406
  | .TRP_SRCSEEN => ⟨0x400054080, 1, 0x100000000, 32, 0x4, false, 0, 0xffffffff, 0, 0, .priv⟩  -- R406
  | .GRV_CTL => ⟨0x400060000, 1, 0x100000000, 1, 0x8, false, 0x8000ffff, 0, 0, 0, .priv⟩  -- R431
  | .GRV_PCAP => ⟨0x400060004, 1, 0x100000000, 1, 0x8, false, 0xffff, 0, 0, 0, .priv⟩  -- R431
  | .GRV_PEST => ⟨0x400060008, 1, 0x100000000, 1, 0x8, false, 0, 0, 0, 0, .priv⟩  -- R431
  | .GRV_THERM => ⟨0x40006000c, 1, 0x100000000, 1, 0x8, false, 0xffff00, 0, 0, 0, .priv⟩  -- R431
  | .GRV_CAPCNT => ⟨0x400060010, 1, 0x100000000, 1, 0x8, false, 0, 0, 0, 0xffffffff, .priv⟩  -- R431
  | .GRV_FLOOR => ⟨0x400060100, 1, 0x100000000, 32, 0x10, true, 0x80fcf000ffffffff, 0, 0, 0, .priv⟩  -- R431
  | .GRV_FSTAT => ⟨0x400060108, 1, 0x100000000, 32, 0x10, true, 0, 0, 0, 0, .priv⟩  -- R431
  | .KLN_CTL => ⟨0x400070000, 1, 0x100000000, 1, 0x8, false, 0xe00000ff, 0, 0, 0, .priv⟩  -- R432
  | .KLN_FLOOR => ⟨0x400070100, 1, 0x100000000, 32, 0x8, true, 0, 0, 0, 0xffff00000000, .priv⟩  -- R432
  | .TRN_CTL => ⟨0x400080000, 1, 0x100000000, 1, 0x8, false, 0xe000ffff, 0, 0, 0, .priv⟩  -- R433
  | .TRN_MARGIN => ⟨0x400080004, 1, 0x100000000, 1, 0x8, false, 0xffffffff, 0, 0, 0, .priv⟩  -- R433
  | .TRN_DEFMAX => ⟨0x400080008, 1, 0x100000000, 1, 0x8, false, 0xffffffff, 0, 0, 0, .priv⟩  -- R433
  | .TRN_MOVES => ⟨0x40008000c, 1, 0x100000000, 1, 0x8, false, 0, 0, 0, 0xffffffff, .priv⟩  -- R433
  | .TRN_DEFERS => ⟨0x400080010, 1, 0x100000000, 1, 0x8, false, 0, 0, 0, 0xffffffff, .priv⟩  -- R433
  | .TRN_FLOOR => ⟨0x400080100, 1, 0x100000000, 32, 0x8, true, 0, 0, 0, 0, .priv⟩  -- R433
  | .TRN_LAST => ⟨0x400080200, 1, 0x100000000, 32, 0x8, true, 0, 0, 0, 0, .priv⟩  -- R433
  | .ECC_CFG => ⟨0x400090000, 1, 0x100000000, 1, 0x8, false, 0x1ffff, 0, 0, 0, .priv⟩  -- R287
  | .ECC_SCRUB => ⟨0x400090004, 1, 0x100000000, 1, 0x8, false, 0x8000ffff, 0, 0, 0, .priv⟩  -- R287
  | .ECC_SCRUB_PASS => ⟨0x400090008, 1, 0x100000000, 1, 0x8, false, 0, 0, 0, 0, .priv⟩  -- R287
  | .ECC_FLIP_D => ⟨0x400090010, 1, 0x100000000, 1, 0x8, true, 0xffffffffffffffff, 0, 0, 0, .priv⟩  -- R287
  | .ECC_FLIP_C => ⟨0x400090018, 1, 0x100000000, 1, 0x8, true, 0xffffffffff, 0, 0, 0, .priv⟩  -- R287
  | .ECC_FLIP_CTL => ⟨0x400090020, 1, 0x100000000, 1, 0x8, false, 0x1ff, 0, 0x80000000, 0xff0000, .priv⟩  -- R287
  | .ECC_CE_TOTAL => ⟨0x400090030, 1, 0x100000000, 1, 0x8, false, 0, 0, 0, 0xffffffff, .priv⟩  -- R287
  | .ECC_UE_TOTAL => ⟨0x400090034, 1, 0x100000000, 1, 0x8, false, 0, 0, 0, 0xffffffff, .priv⟩  -- R287
  | .ECC_LOGSUPP => ⟨0x400090038, 1, 0x100000000, 1, 0x8, false, 0, 0, 0, 0xffffffff, .priv⟩  -- R287
  | .LOG_HEAD => ⟨0x400091000, 1, 0x100000000, 3, 0x10, false, 0, 0, 0, 0, .priv⟩  -- R287
  | .LOG_TAIL => ⟨0x400091004, 1, 0x100000000, 3, 0x10, false, 0x3f, 0, 0, 0, .priv⟩  -- R287
  | .LOG_STATUS => ⟨0x400091008, 1, 0x100000000, 3, 0x10, false, 0, 0x100, 0, 0, .priv⟩  -- R287
  | .LOG_DROP => ⟨0x40009100c, 1, 0x100000000, 3, 0x10, false, 0, 0, 0, 0xffffffff, .priv⟩  -- R287
  | .LOG_REC => ⟨0x400092000, 3, 0x800, 256, 0x8, true, 0, 0, 0, 0, .priv⟩  -- R287
  | .NOC_ROUTE_CTL => ⟨0x4000a0000, 1, 0x100000000, 1, 0x8, false, 0, 0x40000000, 0, 0, .priv⟩  -- R319
  | .NOC_DRAIN_TO => ⟨0x4000a0004, 1, 0x100000000, 1, 0x8, false, 0xffff, 0, 0, 0, .priv⟩  -- R319
  | .NOC_FENCE_DROP => ⟨0x4000a0008, 1, 0x100000000, 1, 0x8, false, 0, 0, 0, 0xffffffff, .priv⟩  -- R319
  | .NOC_NOROUTE_DROP => ⟨0x4000a000c, 1, 0x100000000, 1, 0x8, false, 0, 0, 0, 0xffffffff, .priv⟩  -- R319
  | .NOC_ABORTED => ⟨0x4000a0010, 1, 0x100000000, 1, 0x8, false, 0, 0, 0, 0xffffffff, .priv⟩  -- R319
  | .NOC_LATE_DROP => ⟨0x4000a0014, 1, 0x100000000, 1, 0x8, false, 0, 0, 0, 0xffffffff, .priv⟩  -- R319
  | .NOC_HDR_CE => ⟨0x4000a0018, 1, 0x100000000, 1, 0x8, false, 0, 0, 0, 0xffffffff, .priv⟩  -- R319
  | .NOC_HDR_UE => ⟨0x4000a001c, 1, 0x100000000, 1, 0x8, false, 0, 0, 0, 0xffffffff, .priv⟩  -- R319
  | .NOC_DAT_PAR => ⟨0x4000a0020, 1, 0x100000000, 1, 0x8, false, 0, 0, 0, 0xffffffff, .priv⟩  -- R319
  | .NOC_RT_REJ => ⟨0x4000a0024, 1, 0x100000000, 1, 0x8, false, 0, 0, 0, 0xffffffff, .priv⟩  -- R319
  | .NOC_STAT_CTL => ⟨0x4000a0028, 1, 0x100000000, 1, 0x8, false, 0x40000000, 0, 0, 0, .priv⟩  -- R319
  | .NOC_GRT_CTL => ⟨0x4000a002c, 1, 0x100000000, 1, 0x8, false, 0x3f00, 0, 0, 0, .priv⟩  -- R535
  | .NOC_FLOOR => ⟨0x4000a0080, 1, 0x100000000, 32, 0x4, false, 0, 0, 0, 0, .priv⟩  -- R319
  | .NOC_ISTAT_BYTES => ⟨0x4000b0000, 1, 0x100000000, 560, 0x40, true, 0, 0, 0, 0, .priv⟩  -- R313
  | .NOC_ISTAT_PKTS => ⟨0x4000b0008, 1, 0x100000000, 560, 0x40, false, 0, 0, 0, 0, .priv⟩  -- R313
  | .NOC_ISTAT_NPDONE => ⟨0x4000b000c, 1, 0x100000000, 560, 0x40, false, 0, 0, 0, 0, .priv⟩  -- R313
  | .NOC_ISTAT_HIST => ⟨0x4000b0010, 560, 0x40, 8, 0x4, false, 0, 0, 0, 0, .priv⟩  -- R313
  | .NOC_ISTAT_MAXLAT => ⟨0x4000b0030, 1, 0x100000000, 560, 0x40, false, 0, 0, 0, 0, .priv⟩  -- R313
  | .NOC_RT => ⟨0x4000c0000, 1, 0x100000000, 6784, 0x4, false, 0x8ffff000, 0, 0, 0, .priv⟩  -- R306
  | .NOC_GRT => ⟨0x4000d0000, 1, 0x100000000, 8192, 0x4, false, 0xe0ff0000, 0, 0, 0, .priv⟩  -- R535
  | .FIO_BANK => ⟨0x400100100, 1, 0x100000000, 22, 0x4, false, 0xf, 0, 0, 0, .priv⟩  -- R357
  | .FIO_MCLK => ⟨0x400100200, 1, 0x100000000, 32, 0x4, false, 0x8000ffff, 0, 0, 0, .priv⟩  -- R363
  | .FIO_FCMAP => ⟨0x400100800, 1, 0x100000000, 32, 0x4, false, 0xc0003fff, 0, 0, 0, .priv⟩  -- R253
  | .FIO_FCOD => ⟨0x400100880, 1, 0x100000000, 1, 0x8, false, 0xffffffff, 0, 0, 0, .priv⟩  -- R386
  | .FIO_GPIO_IN => ⟨0x400100900, 1, 0x100000000, 1, 0x8, false, 0, 0, 0, 0, .priv⟩  -- R385
  | .FIO_GPIO => ⟨0x400100a00, 1, 0x100000000, 32, 0x4, false, 0x7ff, 0, 0, 0, .priv⟩  -- R385
  | .FIO_STRM => ⟨0x400101000, 1, 0x100000000, 496, 0x8, true, 0xfcfffffff0000000, 0, 0, 0, .priv⟩  -- R358
  | .FIO_SLOST => ⟨0x400102000, 1, 0x100000000, 496, 0x4, false, 0, 0, 0, 0xffffffff, .priv⟩  -- R389
  | .FIO_SD => ⟨0x400103000, 1, 0x100000000, 256, 0x10, true, 0xffffe1ff00ff0000, 0, 0, 0, .priv⟩  -- R367
  | .FIO_SDTH => ⟨0x400103008, 1, 0x100000000, 256, 0x10, true, 0xffe00000ffffffff, 0, 0, 0, .priv⟩  -- R367
  | .FIO_ADCCFG => ⟨0x400104000, 1, 0x100000000, 16, 0x20, true, 0xfffcffffffffff00, 0, 0, 0, .priv⟩  -- R370
  | .FIO_ADCCNV => ⟨0x400104008, 1, 0x100000000, 16, 0x20, true, 0xff800fffffffffff, 0, 0, 0, .priv⟩  -- R370
  | .FIO_ADCSTAT => ⟨0x400104010, 1, 0x100000000, 16, 0x20, false, 0, 0, 0, 0xffff, .priv⟩  -- R370
  | .FIO_ENCCFG => ⟨0x400105000, 1, 0x100000000, 32, 0x20, true, 0xffffffffc0000000, 0, 0, 0, .priv⟩  -- R371
  | .FIO_ENCTIM => ⟨0x400105008, 1, 0x100000000, 32, 0x20, true, 0xffffffffffffffff, 0, 0, 0, .priv⟩  -- R371
  | .FIO_ENCST => ⟨0x400105010, 1, 0x100000000, 32, 0x20, false, 0, 0, 0, 0xffff, .priv⟩  -- R371
  | .FIO_ENCPOS => ⟨0x400105014, 1, 0x100000000, 32, 0x20, false, 0, 0, 0, 0, .priv⟩  -- R371
  | .FIO_GOUT => ⟨0x400106000, 1, 0x100000000, 512, 0x8, true, 0xffe0ffff0000ffff, 0, 0, 0, .priv⟩  -- R376
  | .FIO_CAR => ⟨0x400107000, 1, 0x100000000, 32, 0x8, true, 0xc03fffffffffffff, 0, 0, 0, .priv⟩  -- R376
  | .FIO_GIN => ⟨0x400107800, 1, 0x100000000, 16, 0x4, false, 0, 0, 0, 0, .priv⟩  -- R376
  | .FIO_GILK => ⟨0x400107840, 1, 0x100000000, 16, 0x4, false, 0, 0, 0, 0xffffffff, .priv⟩  -- R376
  | .FIO_VLCFG => ⟨0x400108000, 1, 0x100000000, 48, 0x40, true, 0xffffffffffffffff, 0, 0, 0, .priv⟩  -- R384
  | .FIO_VLBLK => ⟨0x400108008, 1, 0x100000000, 48, 0x40, false, 0xffffffff, 0, 0, 0, .priv⟩  -- R384
  | .FIO_VLSTAT => ⟨0x40010800c, 1, 0x100000000, 48, 0x40, false, 0, 0, 0, 0, .priv⟩  -- R384
  | .FIO_VLCRC => ⟨0x400108010, 1, 0x100000000, 48, 0x40, false, 0, 0, 0, 0xffffffff, .priv⟩  -- R384
  | .FIO_VLCODE => ⟨0x400108014, 1, 0x100000000, 48, 0x40, false, 0, 0, 0, 0xffffffff, .priv⟩  -- R384
  | .FIO_VLDLYD => ⟨0x400108018, 1, 0x100000000, 48, 0x40, false, 0, 0, 0, 0xffffffff, .priv⟩  -- R384
  | .FIO_VLABORT => ⟨0x40010801c, 1, 0x100000000, 48, 0x40, false, 0, 0, 0, 0xffffffff, .priv⟩  -- R384
  | .FIO_VLSP => ⟨0x400108020, 48, 0x40, 4, 0x4, false, 0, 0, 0, 0, .priv⟩  -- R384
  | .ALK_CTL => ⟨0x400200000, 1, 0x100000000, 12, 0x10000, false, 0xc0000000, 0, 0, 0, .priv⟩  -- R534
  | .ALK_STATUS => ⟨0x400200004, 1, 0x100000000, 12, 0x10000, false, 0, 0, 0, 0, .priv⟩  -- R534
  | .ALK_MASH => ⟨0x400200008, 1, 0x100000000, 12, 0x10000, true, 0, 0, 0, 0, .priv⟩  -- R534
  | .ALK_PEER => ⟨0x400200010, 1, 0x100000000, 12, 0x10000, true, 0, 0, 0, 0, .priv⟩  -- R534
  | .ALK_ASYM => ⟨0x400200018, 1, 0x100000000, 12, 0x10000, false, 0xffff, 0, 0, 0, .priv⟩  -- R534
  | .ALK_DELAY => ⟨0x40020001c, 1, 0x100000000, 12, 0x10000, false, 0, 0, 0, 0, .priv⟩  -- R534
  | .ALK_FEC_CW => ⟨0x400200020, 1, 0x100000000, 12, 0x10000, false, 0, 0, 0, 0xffffffff, .priv⟩  -- R534
  | .ALK_FEC_UNC => ⟨0x400200024, 1, 0x100000000, 12, 0x10000, false, 0, 0, 0, 0xffffffff, .priv⟩  -- R534
  | .ALK_REPLAY => ⟨0x400200028, 1, 0x100000000, 12, 0x10000, false, 0, 0, 0, 0xffffffff, .priv⟩  -- R534
  | .ALK_SLOT_ERR => ⟨0x40020002c, 1, 0x100000000, 12, 0x10000, false, 0, 0, 0, 0xffffffff, .priv⟩  -- R534
  | .ALK_RETRAIN => ⟨0x400200030, 1, 0x100000000, 12, 0x10000, false, 0, 0, 0, 0xffffffff, .priv⟩  -- R534
  | .ALK_RSPTO => ⟨0x400200034, 1, 0x100000000, 12, 0x10000, false, 0, 0, 0, 0xffffffff, .priv⟩  -- R534
  | .ALK_XCH => ⟨0x400200100, 12, 0x10000, 16, 0x8, true, 0x8fff3fff3fff0000, 0x4000000000000000, 0, 0, .priv⟩  -- R516
  | .QUE_CFG => ⟨0x410000000, 32, 0x100000, 512, 0x20, true, 0x8bffffffff000000, 0, 0x400000000000000, 0, .queue⟩  -- R229
  | .QUE_WM_HIGH => ⟨0x410000008, 32, 0x100000, 512, 0x20, false, 0xffff, 0, 0, 0, .queue⟩  -- R229
  | .QUE_WM_LOW => ⟨0x41000000c, 32, 0x100000, 512, 0x20, false, 0xffff, 0, 0, 0, .queue⟩  -- R229
  | .QUE_STATUS => ⟨0x410000010, 32, 0x100000, 512, 0x20, false, 0, 0, 0, 0, .queue⟩  -- R229
  | .QUE_WMEV => ⟨0x410000014, 32, 0x100000, 512, 0x20, false, 0, 0x2, 0, 0xff00, .queue⟩  -- R229
  | .QUE_ITEMS => ⟨0x410000018, 32, 0x100000, 512, 0x20, false, 0, 0, 0, 0, .queue⟩  -- R229
  | .QUE_FLUSH_SKIP => ⟨0x410004000, 1, 0x100000000, 32, 0x100000, false, 0, 0, 0, 0xffffffff, .priv⟩  -- R260
  | .QUE_PAR_ERR => ⟨0x410004004, 1, 0x100000000, 32, 0x100000, false, 0, 0, 0, 0xffffffff, .priv⟩  -- R260
  | .QUE_FRAME_ERR => ⟨0x410004008, 1, 0x100000000, 32, 0x100000, false, 0, 0, 0, 0xffffffff, .priv⟩  -- R260
  | .QUE_DROP_WORDS => ⟨0x41000400c, 1, 0x100000000, 32, 0x100000, false, 0, 0, 0, 0xffffffff, .priv⟩  -- R260
  | .QUE_CFG_REJ => ⟨0x410004010, 1, 0x100000000, 32, 0x100000, false, 0, 0, 0, 0xffffffff, .priv⟩  -- R260
  | .QUE_POOL_USED => ⟨0x410004014, 1, 0x100000000, 32, 0x100000, false, 0, 0, 0, 0, .priv⟩  -- R260
  | .SCH_CFG => ⟨0x410040000, 1, 0x100000000, 32, 0x100000, false, 0x1f, 0, 0, 0, .priv⟩  -- R223
  | .SCH_STATUS => ⟨0x410040004, 1, 0x100000000, 32, 0x100000, false, 0, 0, 0, 0, .priv⟩  -- R223
  | .SCH_DISPATCH => ⟨0x410040010, 1, 0x100000000, 32, 0x100000, false, 0, 0, 0, 0xffffffff, .priv⟩  -- R223
  | .SCH_PREEMPT => ⟨0x410040014, 1, 0x100000000, 32, 0x100000, false, 0, 0, 0, 0xffffffff, .priv⟩  -- R223
  | .SCH_ROAM_OUT => ⟨0x410040018, 1, 0x100000000, 32, 0x100000, false, 0, 0, 0, 0xffffffff, .priv⟩  -- R223
  | .SCH_ROAM_IN => ⟨0x41004001c, 1, 0x100000000, 32, 0x100000, false, 0, 0, 0, 0xffffffff, .priv⟩  -- R223
  | .SCH_READY_LOST => ⟨0x410040020, 1, 0x100000000, 32, 0x100000, false, 0, 0, 0, 0xffffffff, .priv⟩  -- R223
  | .SCH_ACT_SAT => ⟨0x410040024, 1, 0x100000000, 32, 0x100000, false, 0, 0, 0, 0xffffffff, .priv⟩  -- R223
  | .SCH_CRED_HELD => ⟨0x410040028, 1, 0x100000000, 32, 0x100000, false, 0, 0, 0, 0, .priv⟩  -- R223
  | .SCH_DLY_FULL => ⟨0x41004002c, 1, 0x100000000, 32, 0x100000, false, 0, 0, 0, 0xffffffff, .priv⟩  -- R223
  | .SCH_SEQ_FULL => ⟨0x410040030, 1, 0x100000000, 32, 0x100000, false, 0, 0, 0, 0xffffffff, .priv⟩  -- R223
  | .SCH_DESC_REJ => ⟨0x410040034, 1, 0x100000000, 32, 0x100000, false, 0, 0, 0, 0xffffffff, .priv⟩  -- R223
  | .SCH_FLOW => ⟨0x410040100, 32, 0x100000, 64, 0x8, true, 0xfffff00000000000, 0, 0, 0, .priv⟩  -- R215
  | .GRD_JOB => ⟨0x410080000, 32, 0x100000, 4, 0x8, true, 0xfe3ff80007fffe00, 0, 0, 0, .priv⟩  -- R81
  | .GRD_STATUS => ⟨0x410080040, 1, 0x100000000, 32, 0x100000, false, 0, 0x30, 0, 0, .priv⟩  -- R81
  | .GRD_DONE => ⟨0x410080044, 1, 0x100000000, 32, 0x100000, false, 0, 0, 0, 0xffffffff, .priv⟩  -- R81
  | .GRD_LAST_BEATS => ⟨0x410080048, 1, 0x100000000, 32, 0x100000, false, 0, 0, 0, 0, .priv⟩  -- R81
  | .TIL_CTX => ⟨0x440000000, 1, 0x100000000, 512, 0x10000, false, 0, 0, 0, 0, .tile⟩  -- R144
  | .TIL_GCFG => ⟨0x440000004, 1, 0x100000000, 512, 0x10000, false, 0, 0, 0, 0, .priv⟩  -- R144
  | .TIL_GEN => ⟨0x440000008, 512, 0x10000, 2, 0x4, false, 0x7fff, 0, 0, 0, .priv⟩  -- R144
  | .TIL_GCAUSE => ⟨0x440000010, 512, 0x10000, 2, 0x4, false, 0, 0xffff, 0, 0, .priv⟩  -- R144
  | .TIL_GOVR => ⟨0x440000018, 512, 0x10000, 2, 0x4, false, 0, 0, 0, 0xffffffff, .priv⟩  -- R144
  | .TIL_SLOT => ⟨0x440000020, 512, 0x10000, 8, 0x4, false, 0x1, 0, 0, 0, .tile⟩  -- R144
  | .TIL_LEES => ⟨0x440000040, 512, 0x10000, 8, 0x8, true, 0, 0, 0, 0, .tile⟩  -- R144
  | .TIL_FAULT => ⟨0x440000080, 512, 0x10000, 8, 0x8, true, 0, 0, 0, 0, .tile⟩  -- R144
  | .TIL_SWITCHES => ⟨0x4400000c0, 1, 0x100000000, 512, 0x10000, false, 0, 0, 0, 0xffffffff, .tile⟩  -- R144
  | .TIL_GENTRIES => ⟨0x4400000c4, 1, 0x100000000, 512, 0x10000, false, 0, 0, 0, 0xffffffff, .tile⟩  -- R144
  | .TIL_FPX => ⟨0x440000100, 512, 0x10000, 8, 0x4, false, 0x100, 0x1f, 0, 0, .tile⟩  -- R61
  | .TIL_SLN => ⟨0x440000120, 512, 0x10000, 8, 0x4, false, 0, 0, 0, 0, .tile⟩  -- R71
  | .TIL_XSTALL => ⟨0x440000140, 512, 0x10000, 8, 0x4, false, 0, 0, 0, 0xffffffff, .tile⟩  -- R100
  | .TIL_RAISE => ⟨0x440000160, 1, 0x100000000, 512, 0x10000, true, 0xffffffffffffffff, 0, 0, 0, .priv⟩  -- R185
  | .TIL_ICMISS => ⟨0x440000168, 1, 0x100000000, 512, 0x10000, false, 0, 0, 0, 0xffffffff, .tile⟩  -- R185
  | .TIL_DCMISS => ⟨0x44000016c, 1, 0x100000000, 512, 0x10000, false, 0, 0, 0, 0xffffffff, .tile⟩  -- R185
  | .TIL_LUT => ⟨0x440000200, 512, 0x10000, 64, 0x8, true, 0x3000ffff0001ffff, 0, 0, 0, .tile⟩  -- R74
  | .TIL_K0 => ⟨0x440000400, 512, 0x10000, 128, 0x4, false, 0xffffffff, 0, 0, 0, .tile⟩  -- R53
  | .TIL_K1 => ⟨0x440000600, 512, 0x10000, 128, 0x4, false, 0xffffffff, 0, 0, 0, .tile⟩  -- R53
  | .TIL_KPAIR => ⟨0x440000800, 512, 0x10000, 128, 0x8, true, 0xffffffffffffffff, 0, 0, 0, .tile⟩  -- R53
  | .TIL_WIN => ⟨0x440000c00, 512, 0x10000, 32, 0x8, true, 0xc00000ffff000000, 0, 0, 0, .priv⟩  -- R185
  | .TIL_REMAP => ⟨0x440000e00, 512, 0x10000, 4, 0x4, false, 0, 0, 0, 0, .priv⟩  -- R288
  | .TIL_ECC_CE => ⟨0x440000e10, 1, 0x100000000, 512, 0x10000, false, 0, 0, 0, 0xffffffff, .priv⟩  -- R288
  | .TIL_ECC_UE => ⟨0x440000e14, 1, 0x100000000, 512, 0x10000, false, 0, 0, 0, 0xffffffff, .priv⟩  -- R288
  | .TIL_ECC_LASTUE => ⟨0x440000e18, 1, 0x100000000, 512, 0x10000, false, 0, 0, 0, 0, .priv⟩  -- R288

/-- Row order of the ring of a fabric die (R292), as hub numbers within the die. -/
def ringOrder : List Nat := [0, 1, 2, 3, 7, 6, 5, 4, 8, 9, 10, 11, 15, 14, 13, 12]

/-- Output port of the default plan (R307) at router `r` for node `e`: every network takes the same port
(open points: log 51). -/
def defaultPort (r e : Nat) : Nat :=
  let die := fun (f : Nat) => f / 16
  let row := fun (f : Nat) => f % 16 / 4
  let col := fun (f : Nat) => f % 4
  let side := fun (f : Nat) => col f / 2
  if r < 32 then
    if e = r then 0
    else if e < 32 ∧ die e = die r then
      let pos := ringOrder.idxOf (r % 16)
      if ringOrder.getD ((pos + 1) % 16) 0 = e % 16 then 3
      else if ringOrder.getD ((pos + 15) % 16) 0 = e % 16 then 2
      else 1
    else 1
  else if r < 52 then
    let d := (r - 32) / 10
    let k := (r - 32) % 10
    if k < 8 then
      let sd := k / 4
      let rw := k % 4
      if e < 32 ∧ die e = d then
        if row e = rw then
          if side e = sd then (if col e % 2 = 0 then 3 else 4) else 2
        else if row e < rw then 0 else 1
      else 0
    else
      if e < 32 ∧ die e = d then 1 else 0
  else
    if e < 32 then 2 * die e + side e else 4

/-- One entry of the default plan: valid, the four networks on one port (R306, R307) (open points: log 51). -/
def defaultRoute (r e : Nat) : Nat :=
  let p := defaultPort r e
  0x8000_0000 + p * 0x1111_000

/-- The reset value of element `i` of a register: the Reset column of its table, or a value that log 4 names. -/
def Reg.resetVal (r : Reg) (i : Nat) : Nat :=
  match r with
  | .DEV_ID => 0x8192_1100
  | .DEV_SYSCFG => 0x3e81000
  | .CMD_COAL => 0x1
  | .TMB_FENCE_NS => 0x32
  | .TMB_BPER => 0x186a0
  | .TMB_BDL => 0x186a0
  | .RAK_LANE => 0x21800014000000
  | .TRP_PINCTL => 0xc80000
  | .TRP_HOSTWD => 0x3e8
  | .GRV_CTL => 0x80001a08
  | .GRV_PCAP => 0x4b0
  | .GRV_THERM => 0x6c6400
  | .GRV_FLOOR => 0xa00000000003e8
  | .KLN_CTL => 0xe0000005
  | .TRN_CTL => 0xe0005f55
  | .TRN_MARGIN => 0x3e8
  | .TRN_DEFMAX => 0x2710
  | .TRN_FLOOR => 0x43c0000040000000
  | .ECC_CFG => 0x10040
  | .ECC_SCRUB => 0x80001f40
  | .NOC_DRAIN_TO => 0xa
  | .NOC_GRT_CTL => 0x1000
  | .FIO_BANK => 0x5
  | .FIO_MCLK => 0x32
  | .FIO_SD => 0x0360_0040_0000_0000 + i / 8 * 0x0400_0000_0000_0000
  | .FIO_SDTH => 0x102000007fff8000
  | .FIO_ADCCFG => 0xf0c000000000000
  | .FIO_ADCCNV => 0xa000000fa000000
  | .FIO_ENCCFG => 0x600028000000000
  | .FIO_ENCTIM => 0x186a000000000
  | .FIO_CAR => 0x186a000000000
  | .FIO_VLCFG => 0x400000003f800000
  | .FIO_VLBLK => 0xffffffff
  | .SCH_CFG => 0x7
  | _ => 0

/-- Register names, part 1. -/
def Reg.part1 : List Reg :=
  [.DEV_ID, .DEV_STATUS, .DEV_FWVER, .DEV_BOOT, .DEV_EFUSE_ID, .DEV_FUSE, .DEV_FAULT, .DEV_KEYHASH, .DEV_SYSCFG, .DEV_MEMBER, .DEV_TEPOCH, .DEV_TWIN, .DEV_TWSTAT, .DEV_TWCNT, .CMD_CBASE, .CMD_RBASE, .CMD_CFG, .CMD_DB, .CMD_CHEAD, .CMD_RTAIL, .CMD_RHEAD, .CMD_COAL, .CMD_INFLT, .CMD_HMW, .CMD_HQ, .CMD_FETCHED, .CMD_REJECTED, .CMD_HQ_ERR, .CFG_STATUS, .CFG_MANIFEST, .CFG_JTAG, .CFG_LOADS, .CFG_FLOOR, .CFG_LTIME, .CFG_GUARD, .TMB_CTL, .TMB_STATUS, .TMB_NOW, .TMB_FENCE_NS, .TMB_PPS_OFS]

/-- Register names, part 2. -/
def Reg.part2 : List Reg :=
  [.TMB_PPS_LAST, .TMB_PHERR, .TMB_FENCE_CNT, .TMB_BPER, .TMB_BPHS, .TMB_BDL, .TMB_BCTL, .TMB_BCP, .TMB_BOVR, .TMB_BNEXT, .RAK_LANE, .RAK_LSTAT, .RAK_SAFEW, .RAK_PORT, .RAK_MISS_TOTAL, .RAK_LATE, .RAK_FULL, .RAK_BADLANE, .RAK_PORTERR, .RAK_PSN, .RAK_MSRC, .TRP_STATUS, .TRP_PINCTL, .TRP_HOSTWD, .TRP_HOSTKICK, .TRP_LINE_CFG, .TRP_LINE_CNT, .TRP_GBANK, .TRP_VLINK, .TRP_LINKOUT, .TRP_LINE_ACT, .TRP_MASK, .TRP_CAPT, .TRP_CAPS, .TRP_SNAP, .TRP_SRCLIVE, .TRP_SRCSEEN, .GRV_CTL, .GRV_PCAP, .GRV_PEST]

/-- Register names, part 3. -/
def Reg.part3 : List Reg :=
  [.GRV_THERM, .GRV_CAPCNT, .GRV_FLOOR, .GRV_FSTAT, .KLN_CTL, .KLN_FLOOR, .TRN_CTL, .TRN_MARGIN, .TRN_DEFMAX, .TRN_MOVES, .TRN_DEFERS, .TRN_FLOOR, .TRN_LAST, .ECC_CFG, .ECC_SCRUB, .ECC_SCRUB_PASS, .ECC_FLIP_D, .ECC_FLIP_C, .ECC_FLIP_CTL, .ECC_CE_TOTAL, .ECC_UE_TOTAL, .ECC_LOGSUPP, .LOG_HEAD, .LOG_TAIL, .LOG_STATUS, .LOG_DROP, .LOG_REC, .NOC_ROUTE_CTL, .NOC_DRAIN_TO, .NOC_FENCE_DROP, .NOC_NOROUTE_DROP, .NOC_ABORTED, .NOC_LATE_DROP, .NOC_HDR_CE, .NOC_HDR_UE, .NOC_DAT_PAR, .NOC_RT_REJ, .NOC_STAT_CTL, .NOC_GRT_CTL, .NOC_FLOOR]

/-- Register names, part 4. -/
def Reg.part4 : List Reg :=
  [.NOC_ISTAT_BYTES, .NOC_ISTAT_PKTS, .NOC_ISTAT_NPDONE, .NOC_ISTAT_HIST, .NOC_ISTAT_MAXLAT, .NOC_RT, .NOC_GRT, .FIO_BANK, .FIO_MCLK, .FIO_FCMAP, .FIO_FCOD, .FIO_GPIO_IN, .FIO_GPIO, .FIO_STRM, .FIO_SLOST, .FIO_SD, .FIO_SDTH, .FIO_ADCCFG, .FIO_ADCCNV, .FIO_ADCSTAT, .FIO_ENCCFG, .FIO_ENCTIM, .FIO_ENCST, .FIO_ENCPOS, .FIO_GOUT, .FIO_CAR, .FIO_GIN, .FIO_GILK, .FIO_VLCFG, .FIO_VLBLK, .FIO_VLSTAT, .FIO_VLCRC, .FIO_VLCODE, .FIO_VLDLYD, .FIO_VLABORT, .FIO_VLSP, .ALK_CTL, .ALK_STATUS, .ALK_MASH, .ALK_PEER]

/-- Register names, part 5. -/
def Reg.part5 : List Reg :=
  [.ALK_ASYM, .ALK_DELAY, .ALK_FEC_CW, .ALK_FEC_UNC, .ALK_REPLAY, .ALK_SLOT_ERR, .ALK_RETRAIN, .ALK_RSPTO, .ALK_XCH, .QUE_CFG, .QUE_WM_HIGH, .QUE_WM_LOW, .QUE_STATUS, .QUE_WMEV, .QUE_ITEMS, .QUE_FLUSH_SKIP, .QUE_PAR_ERR, .QUE_FRAME_ERR, .QUE_DROP_WORDS, .QUE_CFG_REJ, .QUE_POOL_USED, .SCH_CFG, .SCH_STATUS, .SCH_DISPATCH, .SCH_PREEMPT, .SCH_ROAM_OUT, .SCH_ROAM_IN, .SCH_READY_LOST, .SCH_ACT_SAT, .SCH_CRED_HELD, .SCH_DLY_FULL, .SCH_SEQ_FULL, .SCH_DESC_REJ, .SCH_FLOW, .GRD_JOB, .GRD_STATUS, .GRD_DONE, .GRD_LAST_BEATS, .TIL_CTX, .TIL_GCFG]

/-- Register names, part 6. -/
def Reg.part6 : List Reg :=
  [.TIL_GEN, .TIL_GCAUSE, .TIL_GOVR, .TIL_SLOT, .TIL_LEES, .TIL_FAULT, .TIL_SWITCHES, .TIL_GENTRIES, .TIL_FPX, .TIL_SLN, .TIL_XSTALL, .TIL_RAISE, .TIL_ICMISS, .TIL_DCMISS, .TIL_LUT, .TIL_K0, .TIL_K1, .TIL_KPAIR, .TIL_WIN, .TIL_REMAP, .TIL_ECC_CE, .TIL_ECC_UE, .TIL_ECC_LASTUE]

/-- Every register name, in table order. -/
def Reg.all : List Reg :=
  Reg.part1 ++ Reg.part2 ++ Reg.part3 ++ Reg.part4 ++ Reg.part5 ++ Reg.part6

/-- Number of elements of a register name. -/
def Reg.count (r : Reg) : Nat := r.info.n1 * r.info.n2

/-- Local address of element `i` (R37, R42). -/
def Reg.addr (r : Reg) (i : Nat) : Nat :=
  r.info.base + i / r.info.n2 * r.info.s1 + i % r.info.n2 * r.info.s2

/-- The element of `r` that the aligned 4-byte unit at `a` belongs to, and whether it is the high half (R18). -/
def Reg.elemAt (r : Reg) (a : Nat) : Option (Nat × Bool) :=
  let d := r.info
  if a < d.base then none
  else
    let off := a - d.base
    let i1 := off / d.s1
    let r1 := off % d.s1
    let i2 := r1 / d.s2
    let r2 := r1 % d.s2
    if i1 < d.n1 ∧ i2 < d.n2 then
      if r2 = 0 then some (i1 * d.n2 + i2, false)
      else if r2 = 4 ∧ d.wide = true then some (i1 * d.n2 + i2, true)
      else none
    else none

/-- The register that the aligned 4-byte unit at local address `a` belongs to: name, element, high half. -/
def regAt (a : Nat) : Option (Reg × Nat × Bool) :=
  Reg.all.findSome? fun r => (r.elemAt a).map fun p => (r, p.1, p.2)

end Sys2Proof.Machine
end

