-- ==== Sys2Proof/Machine/State.lean ====
section
/-! DEFINITION. The state of the block: plain data, holding every register, memory, queue, counter, mode and pin the spec
names, the queue of waiting commands, and the state right after reset. Repeated parts are sparse tables (`Tbl`); the part
that is not listed is the default of its structure. -/

namespace Sys2Proof.Machine

open Sys2Proof

/-- Why the block stops. No rule of the spec stops the block, and no meaning raises this: context faults and device faults
are state (R143, R546). Safe: it is never answered. -/
inductive Fault where
  /-- Raised by nothing. -/
  | stopped
  deriving DecidableEq, Repr

/-- Why a command has no meaning. -/
inductive Refusal where
  /-- The command's meaning is not written; raised only by an arm of `exec`. Safe: the block stops. -/
  | notModelled (mnemonic : String)
  deriving DecidableEq, Repr

/-- Producer or consumer of a queue (R233). -/
inductive Agent where
  | slot (t s : Nat)
  | pushPort (f k : Nat)
  | popPort (f k : Nat)
  | grader (f j : Nat)
  | hostPort (p : Nat)
  | cmdPath (v : Nat)
  | field (k : Nat)
  | gateway (l : Nat)
  | channel (l k : Nat)
  deriving DecidableEq, Repr

/-- One stored word of a queue: its pool word, its producer, and whether its item's consumer credit was taken (R191). -/
structure Ent where
  pos : Nat
  prod : Agent
  credited : Bool
  deriving DecidableEq, Repr

/-- A queue beside its registers (R231 to R246). `staged` holds the words of open flow entries with the entry's id (R214),
`rel` released words that the filling bank has no room for yet, `late` released words that wait for the end of another
producer's item (R234, R241), `fl` the flow entry that the open item is staged for. `drainFull` says that the draining bank
was swapped full (R239).
`itemLen` counts the words of the open item. `skips` are producers skipped without the lock (R228). -/
structure Queue where
  bank0 : List Ent
  bank1 : List Ent
  fill1 : Bool
  rel : List Ent
  late : List Ent
  drainFull : Bool
  staged : List (Nat × Ent)
  ilock : Option Agent
  fl : Option Nat
  itemLen : Nat
  skip : Bool
  skips : List Agent
  truncWait : Bool
  olock : Option Agent
  dropping : Bool
  lastAcc : Nat
  deriving DecidableEq, Repr

def Queue.empty : Queue :=
  { bank0 := [], bank1 := [], fill1 := false, rel := [], late := [], drainFull := false, staged := [], ilock := none,
    fl := none, itemLen := 0, skip := false, skips := [],
    truncWait := false, olock := none, dropping := false, lastAcc := 0 }

/-- The line buffer of a tile (R138, R163): a spilled frame on its way to the lees, or merged stores to one line. -/
structure LineBuf where
  spill : Bool
  slot : Nat
  base : Nat
  window : Bool
  view : Nat
  pc : Nat
  bytes : List (Nat × Byte)
  deriving DecidableEq, Repr

/-- What an outstanding sequencer request is (R161, R168, R179). -/
inductive ReqKind where
  | load | store | qpush | qpop | qlvl | qdrop
  deriving DecidableEq, Repr

/-- A request of a slot that has not returned (R152, R305). `bits` is the result once `done`; `ue`, `fresh` are the errors
met by a load; `tag` is the packet tag of a request sent over the network; the result of one with `drop` set is discarded
(R221). -/
structure Outst where
  tag : Nat
  slot : Nat
  kind : ReqKind
  rd : Nat
  size : Nat
  sext : Bool
  pc : Nat
  addr : Nat
  queue : Nat
  cacheLine : Bool
  window : Bool
  done : Bool
  ue : Bool
  fresh : Bool
  status : Nat
  bits : Word
  sop : Bool
  eop : Bool
  nb : Bool
  resend : Bool
  drop : Bool
  deriving DecidableEq, Repr

/-- A line held by a cache: its local address (of byte 0) and its 64 bytes (R164, R165). -/
structure CLine where
  addr : Nat
  bytes : List Byte
  deriving DecidableEq, Repr

/-- A queued correction write-back (R269): the physical byte address of the line, the corrected bytes by offset, and
whether another write has reached the line since. -/
structure WriteBack where
  line : Nat
  bytes : List (Nat × Byte)
  stale : Bool
  deriving DecidableEq, Repr

/-- A page copy in progress (R279): entry, page, next line, bytes copied as uncorrectable, the command that waits. -/
structure PageCopy where
  entry : Nat
  page : Nat
  deriving DecidableEq, Repr

/-- A ready-list entry (R193). -/
inductive Ready where
  | new (k : Nat)
  | resume (t s : Nat)
  deriving DecidableEq, Repr

/-- A switch the scheduler has sent to a tile (R120, R199); `rec4` and `rec6` are W4 and W6 of the task before the
dispatch, and `ahead` the entries that stood before its own on the ready list, for a switch that a guard entry wins over
(R122) (open points: log 25). -/
structure SwitchReq where
  slot : Nat
  task : Nat
  new_ : Bool
  rec4 : DWord
  rec6 : DWord
  ahead : List Ready
  deriving DecidableEq, Repr

/-- A tile beside its registers. `loading` lists the slot loads under way: command, slot, image (R145 to R148); `invHold` the
invalidations that wait for a free SEQ: number, line, sharer (R301). -/
structure TileSt where
  lineBuf : Option LineBuf
  icache : List CLine
  dcache : List CLine
  outst : List Outst
  nextTag : Nat
  lastTime : Nat
  invs : List (Nat × Nat)
  nextSeq : Nat
  wrWait : List (List Nat × Pkt)
  invHold : List (Nat × Nat × Nat)
  switchReq : Option SwitchReq
  fillWait : Option Nat
  loading : List (Cmd × Nat × List Byte)
  scrubAt : Nat
  scrubCnt : Nat
  scrubPages : Tbl Nat
  scrubRaised : Bool
  scrubPasses : Nat
  writeBacks : List WriteBack
  copy : Option PageCopy
  lastCeLog : Option Nat
  lastUeWord : Option Nat
  deriving DecidableEq, Repr

def TileSt.init : TileSt :=
  { lineBuf := none, icache := [], dcache := [], outst := [], nextTag := 0, lastTime := 0, invs := [], nextSeq := 0, wrWait := [],
    invHold := [], switchReq := none, fillWait := none, loading := [], scrubAt := 0, scrubCnt := 0, scrubPages := [],
    scrubRaised := false, scrubPasses := 0, writeBacks := [], copy := none, lastCeLog := none, lastUeWord := none }

/-- The condition of a suspended WAIT (R175). -/
inductive WaitCond where
  | qne (q : Nat) | qspc (q : Nat) | time (n : Nat) | ticks | fpinv
  deriving DecidableEq, Repr

/-- Why a slot is SUSPENDED (R118, R193). -/
inductive Susp where
  | none | preempted | yielded | waiting (w : WaitCond) | met
  deriving DecidableEq, Repr

/-- The register bank of a slot and what else its context owns beside registers (R117, R153). `frames` lists the six
hardware frames, newest first. -/
structure SlotSt where
  globals : List Word
  frames : List (List Word)
  pc : Nat
  flags : Word
  entry : Nat
  pf : Bool
  task : Option Nat
  susp : Susp
  flow : Option Nat
  moving : Bool
  retPending : Option Nat
  deriving DecidableEq, Repr

def SlotSt.init : SlotSt :=
  { globals := List.replicate 16 0#32, frames := List.replicate 6 (List.replicate 16 0#32), pc := 0, flags := 0#32,
    entry := 0, pf := false, task := none, susp := .none, flow := none, moving := false, retPending := none }

/-- The operands of one accepted operand set (R47, R53): 64 bits so that a .D pair fits. -/
structure OpSet where
  a : DWord
  b : DWord
  c : DWord
  d : DWord
  e : Bool
  sel : Word
  k0 : DWord
  k1 : DWord
  lut : DWord
  psn : Bool
  psnA : Bool
  psnB : Bool
  psnC : Bool
  psnD : Bool
  deriving DecidableEq, Repr

/-- A cell's latch, history words and accepted operand sets in one slot (R45, R48, R67). -/
structure CellSt where
  latch : Tok
  hist : List (DWord × Bool)
  ops : List OpSet
  deriving DecidableEq, Repr

def CellSt.init : CellSt := { latch := ⟨0#32, false⟩, hist := [], ops := [] }

/-- Who has taken a token of a fork (R95): a routing stage in a slot, a cell port (0 to 3 A to D, 4 E, 5 select lane) in a
slot, a bridge send port, a queue push port. -/
inductive Reader where
  | wire (w : Wire) (k : Nat)
  | port (t c k p : Nat)
  | bs (f k : Nat)
  | qi (f k : Nat)
  deriving DecidableEq, Repr

/-- A token held at a driver, with the readers that have taken it (open points: log 34). -/
structure Held where
  tok : Tok
  served : List Reader
  deriving DecidableEq, Repr

/-- User of a delay-list entry (R209). -/
inductive DlyUser where
  | task (k : Nat)
  | slot (t s : Nat)
  deriving DecidableEq, Repr

/-- A sequence-table entry of an ordered flow (R211 to R215). -/
structure SeqEnt where
  id : Nat
  flow : Nat
  num : Option Nat
  closed : Bool
  hole : Bool
  deriving DecidableEq, Repr

/-- A running grader job (R77): its number, its output queue, the output words not yet written, the keys it sorted. -/
structure GraderRun where
  job : Nat
  oq : Nat
  out : List QWord
  keys : Nat
  deriving DecidableEq, Repr

/-- A DISPATCH request under way (R199): its tag, the task, the tile and slot chosen, the flow entry taken; `lost` when a
cancel has cleared the pending activation that it stands for (R218, R219). -/
structure Dispatch where
  tag : Nat
  task : Nat
  tile : Nat
  slot : Nat
  flow : Option Nat
  lost : Bool
  deriving DecidableEq, Repr

/-- A floor beside its registers. -/
structure FloorSt where
  bsCredit : Tbl Nat
  qiCount : Tbl Nat
  ready : List (Nat × Ready)
  delay : List (Nat × DlyUser)
  dlyWait : List (DlyUser × Nat)
  dlyRaised : Bool
  seq : List SeqEnt
  nextSeqId : Nat
  grader : Option GraderRun
  park : List Pkt
  nextTag : Nat
  dispatches : List Dispatch
  fencedAt : Nat
  drainTo0 : Bool
  offCmd : Option Cmd
  offWhy : Nat
  fenceRaised : Bool
  deriving DecidableEq, Repr

def FloorSt.init : FloorSt :=
  { bsCredit := [], qiCount := [], ready := [], delay := [], dlyWait := [], dlyRaised := false, seq := [], nextSeqId := 0,
    grader := none, park := [], nextTag := 0, dispatches := [], fencedAt := 0,
    drainTo0 := false, offCmd := none, offWhy := 0, fenceRaised := false }

/-- A task's words W0 to W7 (R189), whether NO_RESIDENT (R198) and ACT_SATURATED (R217) have been raised, and roamed
activations that ended before the answer to their DISPATCH arrived (R199). -/
structure TaskSt where
  w : List DWord
  noRes : Bool
  satRaised : Bool
  early : Nat
  deriving DecidableEq, Repr

def TaskSt.init : TaskSt := { w := List.replicate 8 0#64, noRes := false, satRaised := false, early := 0 }

/-- A batch beside its registers (R204, R206, R338): the start of the step whose deadline check is due, and the latest step
start since the batch was enabled. -/
structure BatchSt where
  step : Option Nat
  last : Option Nat
  overran : Bool
  deriving DecidableEq, Repr

def BatchSt.init : BatchSt := { step := none, last := none, overran := false }

/-- An event raised and not yet written to its log (R282, R538): the log, and the record's fields. -/
structure LogRec where
  log : Nat
  time : Nat
  code : Nat
  sclass : Nat
  loc : Nat
  sev : Nat
  data : Nat
  deriving DecidableEq, Repr

/-- A command in progress, with what it waits for (R447). -/
inductive CmdWait where
  | running
  | taskDrain (k : Nat) | batchDrain (b : Nat) | queueDrain (q : Nat)
  | floorOff (f : Nat) | floorOn (f : Nat) | routeCommit | routePlan (step : Nat)
  | laneDrain (first n : Nat) | streamDrain (first n : Nat) | portDrain (p : Nat) | linkDrain (l : Nat)
  | pageCopy (t : Nat) | tripClear (lines : Nat) | timeSet | adcTrain (k : Nat)
  | turnMove (t slots : Nat) | turnReturn (t : Nat) | recal (f : Nat)
  | slotLoad (t s : Nat) | imageQueue | imageLoad (f : Nat) | freeze (f : Nat) | viewRevoke (kind first n : Nat)
  | forwarded (sdn : Nat) | join (links : Nat)
  deriving DecidableEq, Repr

structure InProg where
  cmd : Cmd
  op : Nat
  wait : CmdWait
  deadline : Option Nat
  deriving DecidableEq, Repr

/-- A packet fetched and not yet started (R441, R447): its header, opcode and parameter bytes. -/
structure Fetched where
  cmd : Cmd
  op : Nat
  params : List Byte
  deriving DecidableEq, Repr

/-- A reply completed and not yet written to its ring (R445, R446); `interim` marks the PENDING reply of R448. -/
structure Reply where
  cmd : Cmd
  op : Nat
  status : Nat
  interim : Bool
  data : List Byte
  deriving DecidableEq, Repr

/-- The eFuses (R498): device ID, key hash, KHSET, JLOCK, MSIGREQ, ALTDIS. -/
structure Fuses where
  id : BitVec 64
  key : BitVec 384
  khset : Bool
  jlock : Bool
  msigreq : Bool
  altdis : Bool
  deriving DecidableEq, Repr

def Fuses.init : Fuses := { id := 0, key := 0, khset := false, jlock := false, msigreq := false, altdis := false }

/-- The device as a whole, beside registers: pins, straps, fuses, boot, JTAG (R469 to R479, R496 to R499). `copyA` says that
copy A has been tried, `halted` that no copy passed, `memDone` and `calDone` (bit per floor) what power-up has finished;
`jaddr` is CFGADDR, `jdata` what the last capture of CFGDATA read, `pins` the levels EXTEST drives, `supply` how often
the supervisor of each bank has seen VDDIO leave or meet its window, `handed` the rim clock in which the field I/O engine last
handed over a word, plus 1 (R359), `clkFrom` the device time from which the edges of MCLK`c` (index c) and the serial encoder
clocks (index 32) show at the pins (R363, R531). -/
structure DevSt where
  resetN : Bool
  safePol : Nat
  guardIn : Bool
  fuses : Fuses
  copyA : Bool
  halted : Bool
  memDone : Bool
  calDone : Nat
  jaddr : Nat
  jdata : Nat
  pins : Option (List (Nat × Bool))
  supply : Tbl Nat
  handed : Nat
  clkFrom : Tbl Nat
  deriving DecidableEq, Repr

def DevSt.init : DevSt :=
  { resetN := false, safePol := 0, guardIn := false, fuses := .init, copyA := false, halted := false, memDone := false,
    calDone := 0, jaddr := 0, jdata := 0, pins := none, supply := [], handed := 0, clkFrom := [] }

/-- A floor load under way (R486, R488): the command, or none for the autonomous load; its floor and flash entry, 0xFF for a host
image; whether pass 1 has passed; the length, before pass 1 that of the command for a host image and 0 for flash; the digest
that pass 1 found; when the fence began. -/
structure LoadSt where
  cmd : Option Cmd
  floor : Nat
  entry : Nat
  pass2 : Bool
  len : Nat
  digest : BitVec 384
  fenceAt : Nat
  deriving DecidableEq, Repr

/-- The configuration engine beside its registers (R481 to R491): the manifest in force, the digests of the guard image and
of each floor's image, the floor load that runs, the next step of the autonomous load (0 none, 1 manifest, 2 guard, 3 + f
floors from f on). -/
structure CfgSt where
  manifest : List Byte
  guard : BitVec 384
  floors : Tbl (BitVec 384)
  load : Option LoadSt
  auto : Nat
  deriving DecidableEq, Repr

def CfgSt.init : CfgSt := { manifest := [], guard := 0, floors := [], load := none, auto := 0 }

/-- A floor's freeze (R492, R495): the batch whose step a pending freeze waits for, since when, the CFG_FLOOR STATE that a
thaw or a refused load gives back. -/
structure FrzSt where
  batch : Option Nat
  since : Nat
  prev : Nat
  deriving DecidableEq, Repr

def FrzSt.init : FrzSt := { batch := none, since := 0, prev := 0 }

/-- A step of the kiln sequence of a floor (R417): none; confirmation of a code asked for; taps still to lengthen before the
code is confirmed; confirmed and not yet ordered; the watch window after a downward step. -/
inductive KilnPhase where
  | idle
  | asked (c : Nat)
  | taps (c n : Nat)
  | ready
  | watch
  deriving DecidableEq, Repr

/-- A turning move under way (R428): tile, slot, spare, start, payload words. -/
structure Move where
  tile : Nat
  slot : Nat
  spare : Nat
  start : Nat
  words : Nat
  deriving DecidableEq, Repr

/-- A floor's adaptive control beside its registers (R411 to R430): the kiln sequence; the code not to be tried again, until
when and the temperature at which it failed; the temperature at the last confirmation; since when the cap holds the floor above its
target; the last 0x8201; a hub channel without margin; the move under way; added beats of committed moves by batch. -/
structure GravSt where
  phase : KilnPhase
  backoff : Option (Nat × Nat × Int)
  conf : Int
  capSince : Option Nat
  capRaised : Bool
  nearAt : Option Nat
  hubLost : Bool
  move : Option Move
  addb : Tbl Nat
  deriving DecidableEq, Repr

def GravSt.init : GravSt :=
  { phase := .idle, backoff := none, conf := 0, capSince := none, capRaised := false, nearAt := none, hubLost := false,
    move := none, addb := [] }

/-- The evacuation of a tile (R426, R427): spare, cause (0 thermal, 1 fault, 2 command), when triggered, slots still to move,
slots counted as deferred, slots whose 0x8302 has been raised. -/
structure Evac where
  spare : Nat
  cause : Nat
  since : Nat
  left : List Nat
  defd : List Nat
  late : List Nat
  deriving DecidableEq, Repr

/-- A tile's turning state: its evacuation, since when its sensor has read TTURN or more, a trigger that found no spare and
when it was last tried. -/
structure TurnSt where
  evac : Option Evac
  hot : Option Nat
  retry : Option (Nat × Nat)
  deriving DecidableEq, Repr

def TurnSt.init : TurnSt := { evac := none, hot := none, retry := none }

/-- Supervision of the package (R414, R423, R555): junction temperatures (tile 0 to 511, hub 512 to 543, die 544 to 546),
THERM_N low, the critical state, since when PEST is above 1.1 times the cap with every floor at CLO, or the 0x8102
after that, the modulator clock edge of each SD input's last phase step plus 1 (R422), SD inputs whose eye is narrow, the last answers of the regulators. -/
structure SupSt where
  temps : Tbl Int
  thermN : Bool
  crit : Bool
  overAt : Option Nat
  phAt : Tbl Nat
  eyes : Tbl Bool
  core : Option Word
  sram : Option Word
  lastTrim : Nat
  deriving DecidableEq, Repr

def SupSt.init : SupSt :=
  { temps := [], thermN := false, crit := false, overAt := none, phAt := [], eyes := [], core := none, sram := none,
    lastTrim := 0 }

/-- A command ring beside its registers (R440 to R451): TAIL, whether LOG2N has been set,
replies written and unsignalled, when the oldest of them was written. -/
structure RingSt where
  tail : Nat
  sized : Bool
  unsig : Nat
  unsigAt : Nat
  deriving DecidableEq, Repr

def RingSt.init : RingSt := { tail := 0, sized := false, unsig := 0, unsigAt := 0 }

/-- A host queue port beside CMD_HQ (R461 to R463): its FIFO, HQ_NOTE, HQ_ERR, a DRAIN pending, whether a push port is inside
an item at its intake. -/
structure HPort where
  fifo : List QWord
  note : Nat
  err : Nat
  drain : Bool
  mid : Bool
  deriving DecidableEq, Repr

def HPort.init : HPort := { fifo := [], note := 0, err := 0, drain := false, mid := false }

/-- A system request in flight (R515, R516): id, TAG, the link it left by, target, when it was sent, the channel whose push
it is, as 16 × gateway + channel. -/
structure SysReq where
  id : Nat
  tag : Nat
  link : Nat
  dsdn : Nat
  sent : Nat
  chan : Nat
  deriving DecidableEq, Repr

/-- A proxied request of another device at the entering gateway (R515): tag here, source SDN, tag there, the request as it
runs here, and whether a full park has refused it (R304). -/
structure Proxy where
  tag : Nat
  sdn : Nat
  orig : Nat
  pkt : Pkt
  resend : Bool
  deriving DecidableEq, Repr

/-- A system packet that has left by a link (R515): the link, its source SDN, the links it has crossed. -/
structure LinkPkt where
  link : Nat
  ssdn : Nat
  hops : Nat
  pkt : Pkt
  deriving DecidableEq, Repr

/-- A link beside its registers (R510 to R525): when it entered its state; the state a retrain must give back and the peer's
SDN then; the peer's record; a re-run owed to a JOIN; a DRAIN pending; the TWIN field of the peer's last side slot; the last
time-service exchange (time, hops of the peer, offset); the proxy table; equaliser coefficients by lane with the time of the last
step. -/
structure LinkSt where
  since : Nat
  from_ : Option (Nat × Nat)
  peer : Option MashRec
  rerun : Bool
  drain : Bool
  twin : Nat
  exch : Option (Nat × Nat × Word)
  proxies : List Proxy
  eq : Tbl (Int × Nat)
  deriving DecidableEq, Repr

def LinkSt.init : LinkSt :=
  { since := 0, from_ := none, peer := none, rerun := false, drain := false, twin := 0, exch := none, proxies := [], eq := [] }

/-- Twin mode beside its registers (R526 to R530): own heartbeats omitted in a row, the step whose check was made last plus
1, a takeover due, the level of TWIN_ACT_IN, the last heartbeat driven (its step start plus 1). -/
structure TwinSt where
  own : Nat
  checked : Nat
  take : Option Nat
  actIn : Bool
  hbOut : Nat
  deriving DecidableEq, Repr

def TwinSt.init : TwinSt := { own := 0, checked := 0, take := none, actIn := false, hbOut := 0 }

/-- The timebase beside its registers (R321 to R327): device time, the device time passed with no jump counted, rim clocks
(1 ns each), the advance of device time in the last rim clock, whether device time runs, the PLL, the last PPS_IN edge since
the source was chosen and whether it kept its distance from the one before (R322), since when LOCK is 0, rim clocks since the
last slew, the rate correction (`slewDir` its sign, a slew every `slewEvery` rim clocks; R323), the TIME_SETs that wait for
an edge with their times, PPS_OUT, the second at which it rose plus 1 and the device time passed then, the master that this
device pins (R521). -/
structure TimeSt where
  now : Nat
  dev : Nat
  clk : Nat
  adv : Nat
  running : Bool
  pll : Bool
  lastEdge : Option Int
  edgeOk : Bool
  lockLow : Option Nat
  slew : Nat
  slewDir : Int
  slewEvery : Nat
  setTo : List (Cmd × Nat)
  ppsOut : Bool
  ppsRose : Nat
  ppsUp : Nat
  pin : Option Nat
  deriving DecidableEq, Repr

def TimeSt.init : TimeSt :=
  { now := 0, dev := 0, clk := 0, adv := 1, running := false, pll := false, lastEdge := none, edgeOk := false,
    lockLow := none, slew := 0, slewDir := 0, slewEvery := 0, setTo := [], ppsOut := false, ppsRose := 0, ppsUp := 0,
    pin := none }

/-- A rack entry (R332), with the rack port that its value came from (0xFF for RACK_PUT) and the rim clock in which it was
accepted (R340). -/
structure Entry where
  r : Nat
  fine : Nat
  val : Word
  psn : Bool
  setT : Bool
  port : Nat
  clk : Nat
  deriving DecidableEq, Repr

/-- A lane beside its registers (R331 to R347): its rack in release order, the value last released since EN last went to 1,
the safe state after a SAFE miss and the STICKY hold, miss actions that wait for their release time (SAFE or not), a DRAIN
in progress, and for each batch the last step whose check was made, plus 1. -/
structure LaneSt where
  rack : List Entry
  last : Option Word
  safe : Bool
  sticky : Bool
  misses : List (Nat × Bool)
  drain : Bool
  checked : Tbl Nat
  deriving DecidableEq, Repr

def LaneSt.init : LaneSt :=
  { rack := [], last := none, safe := false, sticky := false, misses := [], drain := false, checked := [] }

/-- The entry that an HDR port is reading (R336): next lane, values left, FINE, whether explicitly timed, the time word. -/
structure HdrRun where
  lane : Nat
  left : Nat
  fine : Nat
  te : Bool
  time : Option Tok
  deriving DecidableEq, Repr

/-- A rack port beside its register (R335, R336): a PAIRED port's waiting time word or value word. -/
structure RPort where
  hdr : Option HdrRun
  time : Option Tok
  value : Option Tok
  deriving DecidableEq, Repr

def RPort.init : RPort := { hdr := none, time := none, value := none }

/-- A buffered sample: the words for its two destinations, and the rim clock in which it became ready (R329, R359). -/
structure Sample where
  d1 : List Tok
  d2 : List Tok
  ready : Nat
  deriving DecidableEq, Repr

/-- A capture stream beside its registers (R359 to R361): samples made and not yet ready, samples ready and not delivered, words of the first one already
delivered, a DRAIN in progress. -/
structure StreamSt where
  made : List Sample
  buf : List Sample
  sent : Nat
  drain : Bool
  deriving DecidableEq, Repr

def StreamSt.init : StreamSt := { made := [], buf := [], sent := 0, drain := false }

/-- A sigma-delta input (R364 to R367): sampled bits, newest first, each marked when it belongs to a stuck run; the length
of the run of equal bits; consecutive updates beyond each threshold; the number of the last edge sampled, plus 1. -/
structure SdSt where
  hist : List (Bool × Bool)
  run : Nat
  hiN : Nat
  loN : Nat
  edge : Nat
  deriving DecidableEq, Repr

def SdSt.init : SdSt := { hist := [], run := 0, hiN := 0, loN := 0, edge := 0 }

/-- A serial ADC port (R370): CNV, the device time at which it last rose, plus 1, and whether the present absence of DCO has
been reported. -/
structure AdcSt where
  cnv : Bool
  rose : Nat
  lost : Bool
  deriving DecidableEq, Repr

def AdcSt.init : AdcSt := { cnv := false, rose := 0, lost := false }

/-- An encoder (R371): accepted levels of its pins, whether the next sample is poisoned, the last sampling instant plus 1,
the start of the serial transfer under way and whether A was low then. -/
structure EncSt where
  a : Bool
  b : Bool
  z : Bool
  bad : Bool
  last : Nat
  busy : Option Nat
  low : Bool
  deriving DecidableEq, Repr

def EncSt.init : EncSt := { a := false, b := false, z := false, bad := false, last := 0, busy := none, low := false }

/-- A gate output between its lane and its pin (R372 to R376): PWM parameters in effect and in the shadow (with
the time of their release), the carrier's
level, the levels after stages 3 and 4, the times in 0.125 ns of the last edge of stage 3 and of the last fall of stage 4,
whether the rising edge held now has been counted, and whether a higher row of R376 drove level 0 and the source has not been
at 0 since. -/
structure GateSt where
  cmp : Option Word
  shadow : Option Word
  shadowAt : Nat
  pwm : Bool
  mp : Bool
  mpAt : Nat
  lvl : Bool
  fellAt : Nat
  counted : Bool
  hold : Bool
  deriving DecidableEq, Repr

def GateSt.init : GateSt :=
  { cmp := none, shadow := none, shadowAt := 0, pwm := false, mp := false, mpAt := 0, lvl := false, fellAt := 0,
    counted := false, hold := false }

/-- A PWM carrier (R374): the period under way (start and length in ns) and the next period start. -/
structure CarSt where
  start : Option Nat
  per : Nat
  next : Option Nat
  deriving DecidableEq, Repr

def CarSt.init : CarSt := { start := none, per := 0, next := none }

/-- A valve link (R377 to R384): the frame last sent with its start and end, frames that wait for the 16 ns gap (safe,
INSERT), the start of the last safe frame of a hold, when the watchdog was last restarted. -/
structure VlSt where
  frame : List Byte
  startAt : Nat
  endAt : Nat
  waiting : List (Bool × Word)
  safeAt : Nat
  good : Nat
  deriving DecidableEq, Repr

def VlSt.init : VlSt := { frame := [], startAt := 0, endAt := 0, waiting := [], safeAt := 0, good := 0 }

/-- The trip matrix beside its registers (R390 to R407): TRIP pins that the board pulls low, TRIP_CLEARs that wait for
SETTLE (lines named, lines latched then, end of the wait), the last restart of the host watchdog, the trip frame last sent
on each link (bits, device time plus 1) and its SEQ; the sources that changed to asserted in the rim clock `upsAt` - 1; the rim
clock, plus 1, of each line's last latch and of the last accepted change of each filtered pin (TRIP`n` at n, TRIP_SAFE at 12,
GPIO`k` at 16 + k); the last service of the keeper watchdog. -/
structure TripSt where
  pinLow : Tbl Bool
  clears : List (Nat × Nat × Nat)
  kick : Nat
  frames : Tbl (Nat × Nat)
  seq : Tbl Nat
  ups : List Nat
  upsAt : Nat
  latchAt : Tbl Nat
  pinAt : Tbl Nat
  keeper : Nat
  deriving DecidableEq, Repr

def TripSt.init : TripSt :=
  { pinLow := [], clears := [], kick := 0, frames := [], seq := [], ups := [], upsAt := 0, latchAt := [], pinAt := [], keeper := 0 }

/-- The packet network beside its registers: a commit that waits for the network to empty and since when (R308); the commit
of a plan that runs, 1 or 2, and the entries (router, node, network, port) that its second commit removes (R310). -/
structure NocSt where
  draining : Bool
  since : Nat
  plan : List (Nat × Nat × Nat × Nat)
  planStep : Nat
  deriving DecidableEq, Repr

def NocSt.init : NocSt := { draining := false, since := 0, plan := [], planStep := 0 }

/-- The state of the block. `lastFetch` and `zeroLast` carry the round-robin of COMMAND_FETCH (R441); `hmw` holds host memory
window accesses that PCIe has not completed, `hmwAt` the last 0xB301 of each segment plus 1 (R464); `drains` are the objects that
still drain after their DISABLE has replied TIMEOUT, or that drain without a reply (R221); `orphans` are commands in
progress whose replies a PCIe reset discards (R452), `sysTo` is when 0xA301 was last raised
(R515), `linkOut` lists the packets that have left by a link, `mgmt` the replies sent back to other devices, `irqs` the MSI-X messages sent (function,
vector), oldest first. -/
structure State where
  pending : List Instr
  free : Nat
  regs : Tbl DWord
  once : Tbl Bool
  dev : DevSt
  cfg : CfgSt
  frzs : Tbl FrzSt
  sup : SupSt
  gravs : Tbl GravSt
  turns : Tbl TurnSt
  rings : Tbl RingSt
  lastFetch : Nat
  zeroLast : Bool
  hports : Tbl HPort
  hmw : List Pkt
  hmwAt : Tbl Nat
  links : Tbl LinkSt
  sysReqs : List SysReq
  nextSys : Nat
  sysTo : Option Nat
  linkOut : List LinkPkt
  mgmt : List Reply
  twin : TwinSt
  tim : TimeSt
  store : Tbl (BitVec 13)
  written : Tbl Bool
  sharers : Tbl (List Nat)
  tiles : Tbl TileSt
  slots : Tbl SlotSt
  cells : Tbl CellSt
  stages : Tbl (Option Held)
  floors : Tbl FloorSt
  tasks : Tbl TaskSt
  batches : Tbl BatchSt
  cfs : Tbl Byte
  moved : Tbl Nat
  pool : Tbl (BitVec 36)
  queues : Tbl Queue
  net : List Pkt
  noc : NocSt
  trip : TripSt
  lanes : Tbl LaneSt
  rports : Tbl RPort
  streams : Tbl StreamSt
  sds : Tbl SdSt
  adcs : Tbl AdcSt
  encs : Tbl EncSt
  gates : Tbl GateSt
  cars : Tbl CarSt
  vls : Tbl VlSt
  notices : List (Nat × Nat × Nat)
  logQ : List LogRec
  fetched : List Fetched
  cmds : List InProg
  drains : List CmdWait
  orphans : List Cmd
  replies : List Reply
  irqs : List (Nat × Nat)
  hostMem : List Host.Cell
  owners : Tbl Nat
  deriving DecidableEq, Repr

/-- The machine right after reset: no command waits, every register reads its Reset value (no entry listed). -/
def State.reset : State :=
  { pending := [], free := 0, regs := [], once := [], dev := .init, cfg := .init, frzs := [],
    sup := .init, gravs := [], turns := [], rings := [], lastFetch := 0, zeroLast := false, hports := [], hmw := [], hmwAt := [],
    links := [], sysReqs := [], nextSys := 0, sysTo := none, linkOut := [], mgmt := [], twin := .init, tim := .init, store := [], written := [],
    sharers := [], tiles := [], slots := [], cells := [], stages := [], floors := [], tasks := [], batches := [],
    cfs := [], moved := [], pool := [], queues := [], net := [], noc := .init, trip := .init, lanes := [], rports := [],
    streams := [], sds := [], adcs := [], encs := [], gates := [], cars := [], vls := [], notices := [], logQ := [], fetched := [], cmds := [], drains := [], orphans := [],
    replies := [], irqs := [], hostMem := [], owners := [] }

end Sys2Proof.Machine
end

