-- ==== Sys2Proof/Machine/Ops.lean ====
section
/-! DEFINITION. The named operations over tables, registers, counters, the event log and the tile store that every meaning
is written with. -/

namespace Sys2Proof.Machine

open Sys2Proof

/-- The outcome of a command. -/
abbrev Out := Host.Outcome State Fault Refusal

/-! ### Sparse tables -/

/-- The value of number `n`; `d` when it is not listed. -/
def tget {α : Type} (d : α) : Tbl α → Nat → α
  | [], _ => d
  | (k, v) :: t, n => if n = k then v else if n < k then d else tget d t n

/-- Number `n` set to `v`; a number set to the default is not listed. -/
def tput {α : Type} [DecidableEq α] (d : α) : Tbl α → Nat → α → Tbl α
  | [], n, v => if v = d then [] else [(n, v)]
  | (k, w) :: t, n, v =>
    if n < k then (if v = d then (k, w) :: t else (n, v) :: (k, w) :: t)
    else if n = k then (if v = d then t else (n, v) :: t)
    else (k, w) :: tput d t n v

/-- The canonical form of a table: numbers strictly rising, no entry equal to the default. -/
def twf {α : Type} [DecidableEq α] (d : α) : Tbl α → Bool
  | [] => true
  | [(_, v)] => !decide (v = d)
  | (k, v) :: (k', v') :: t => decide (k < k') && !decide (v = d) && twf d ((k', v') :: t)

/-- The numbers of a table strictly rise. -/
def rising {α : Type} : Tbl α → Bool
  | [] => true
  | [_] => true
  | (k, _) :: (k', v') :: t => decide (k < k') && rising ((k', v') :: t)

/-! ### Bits -/

/-- Bits [hi:lo] of `n`. -/
def bits (n hi lo : Nat) : Nat := n / 2 ^ lo % 2 ^ (hi + 1 - lo)

/-- `n` with bits [hi:lo] replaced by `v`. -/
def putBits (n hi lo v : Nat) : Nat :=
  n % 2 ^ lo + v % 2 ^ (hi + 1 - lo) * 2 ^ lo + n / 2 ^ (hi + 1) * 2 ^ (hi + 1)

/-- Bit `i` of `n`. -/
def bit (n i : Nat) : Bool := n / 2 ^ i % 2 = 1

/-- A bit as a number. -/
def b2n (b : Bool) : Nat := if b then 1 else 0

/-- Little-endian bytes of `n`, `k` of them (R13). -/
def leBytes : Nat → Nat → List Byte
  | 0, _ => []
  | k + 1, n => BitVec.ofNat 8 n :: leBytes k (n / 256)

/-- The number a little-endian byte string spells (R13). -/
def leNat : List Byte → Nat
  | [] => 0
  | b :: bs => b.toNat + 256 * leNat bs

/-! ### Components -/

def State.tile (s : State) (t : Nat) : TileSt := tget .init s.tiles t
def State.setTile (s : State) (t : Nat) (x : TileSt) : State := { s with tiles := tput .init s.tiles t x }
def State.modTile (s : State) (t : Nat) (f : TileSt → TileSt) : State := s.setTile t (f (s.tile t))

/-- Slots are numbered 8 × tile + slot. -/
def State.slot (s : State) (t k : Nat) : SlotSt := tget .init s.slots (8 * t + k)
def State.setSlot (s : State) (t k : Nat) (x : SlotSt) : State := { s with slots := tput .init s.slots (8 * t + k) x }
def State.modSlot (s : State) (t k : Nat) (f : SlotSt → SlotSt) : State := s.setSlot t k (f (s.slot t k))

/-- Cells are numbered 128 × tile + 16 × slot + cell. -/
def cellKey (t k c : Nat) : Nat := 128 * t + 16 * k + c
def State.cell (s : State) (t k c : Nat) : CellSt := tget .init s.cells (cellKey t k c)
def State.setCell (s : State) (t k c : Nat) (x : CellSt) : State :=
  { s with cells := tput .init s.cells (cellKey t k c) x }

def State.floor (s : State) (f : Nat) : FloorSt := tget .init s.floors f
def State.setFloor (s : State) (f : Nat) (x : FloorSt) : State := { s with floors := tput .init s.floors f x }
def State.modFloor (s : State) (f : Nat) (g : FloorSt → FloorSt) : State := s.setFloor f (g (s.floor f))

def State.queue (s : State) (q : Nat) : Queue := tget .empty s.queues q
def State.setQueue (s : State) (q : Nat) (x : Queue) : State := { s with queues := tput .empty s.queues q x }
def State.modQueue (s : State) (q : Nat) (g : Queue → Queue) : State := s.setQueue q (g (s.queue q))

def State.batch (s : State) (b : Nat) : BatchSt := tget .init s.batches b
def State.setBatch (s : State) (b : Nat) (x : BatchSt) : State := { s with batches := tput .init s.batches b x }

def State.frz (s : State) (f : Nat) : FrzSt := tget .init s.frzs f
def State.setFrz (s : State) (f : Nat) (x : FrzSt) : State := { s with frzs := tput .init s.frzs f x }

/-- The next value the spec leaves open; the counter advances (log 1). -/
def State.fresh64 (s : State) : DWord × State := (Config.freeValue s.free, { s with free := s.free + 1 })

/-! ### Registers -/

/-- The stored value of element `i` of a register; an unlisted element reads its Reset value (R14). -/
def State.reg (s : State) (r : Reg) (i : Nat) : Nat :=
  (tget (BitVec.ofNat 64 (r.resetVal i)) s.regs (r.addr i)).toNat

/-- Element `i` of a register set to `v`. -/
def State.setReg (s : State) (r : Reg) (i v : Nat) : State :=
  { s with regs := tput (BitVec.ofNat 64 (r.resetVal i)) s.regs (r.addr i) (BitVec.ofNat 64 v) }

/-- A named field of a register: bits [hi:lo]. -/
structure Fld where
  r : Reg
  hi : Nat
  lo : Nat
  deriving DecidableEq, Repr

/-- The field of element `i`. -/
def State.fld (s : State) (f : Fld) (i : Nat) : Nat := bits (s.reg f.r i) f.hi f.lo

/-- A one-bit field of element `i`. -/
def State.flag (s : State) (f : Fld) (i : Nat) : Bool := s.fld f i = 1

/-- The field of element `i` set to `v`; the other bits stay. -/
def State.setFld (s : State) (f : Fld) (i v : Nat) : State := s.setReg f.r i (putBits (s.reg f.r i) f.hi f.lo v)

/-- A counter register raised by `n`, saturating at 0xFFFF_FFFF. -/
def State.bumpBy (s : State) (r : Reg) (i n : Nat) : State :=
  s.setReg r i (min 0xFFFF_FFFF (s.reg r i + n))

def State.bump (s : State) (r : Reg) (i : Nat) : State := s.bumpBy r i 1

/-- A counter field raised by 1, saturating at its width. -/
def State.bumpFld (s : State) (f : Fld) (i : Nat) : State :=
  s.setFld f i (min (2 ^ (f.hi + 1 - f.lo) - 1) (s.fld f i + 1))

/-! ### Events (R538 to R548) -/

/-- Severity of each event of R543. -/
def sevOf (code : Nat) : Nat :=
  if code ∈ [0x1001, 0x1007, 0x2101, 0x3108, 0x4201, 0x5202, 0x7102, 0x8201, 0x8301] then 0
  else if code ∈ [0x1003, 0x1008, 0x1009, 0x2202, 0x2203, 0x2301, 0x3101, 0x3103, 0x3301, 0x3401, 0x3501, 0x4202,
    0x5102, 0x5203, 0x6101, 0x6105, 0x6301, 0x6304, 0x8101, 0x8203, 0x8302, 0x8401, 0x9101, 0xA104, 0xA401, 0xA503] then 1
  else if code ∈ [0x3203, 0x4301, 0x7202, 0x8102, 0x8402] then 3
  else 2

/-- The log of an event by its source (R541): a fabric die's, or log 2. -/
def logOf (sclass loc : Nat) : Nat :=
  if sclass = 1 then loc % 65536 / 256
  else if sclass = 2 then loc % 256 / 16
  else if sclass = 3 then loc % 65536 / 8192
  else if sclass = 4 then loc % 65536 / 16384
  else if sclass = 0xE then loc % 256 / 16
  else 2

/-- The W1C bit of DEV_FAULT that a CRITICAL event sets (R547). -/
def faultBit (code : Nat) : Nat :=
  if code = 0x4301 then 1 else if code = 0x7202 then 2 else if code = 0x8102 then 8 else 0

def ctxStop : Fld := ⟨.TIL_CTX, 7, 7⟩

/-- Tiles stopped by a guard fault (R129). -/
def State.stopped (s : State) : List Nat := (List.range 512).filter fun t => s.flag ctxStop t

/-- DEV_FAULT as it reads (R547). -/
def State.devFault (s : State) : Nat := s.reg .DEV_FAULT 0 + 16 * b2n (s.stopped ≠ [])

/-- A change of DEV_FAULT from zero asserts FAULT_N and raises PF vector 2 (R546, R449). -/
def State.faultEdge (s old : State) : State :=
  if old.devFault = 0 ∧ s.devFault ≠ 0 then { s with irqs := s.irqs ++ [(0, 2)] } else s

/-- Event `code` raised: its record waits for its log, and a CRITICAL event sets its bit of DEV_FAULT (R538, R548). -/
def State.raiseAt (s : State) (time code sclass loc data : Nat) : State :=
  let sev := sevOf code
  let r : LogRec := ⟨logOf sclass loc, time, code, sclass, loc, (if sev = 3 then 0x80 else 0) + sev, data⟩
  let s := { s with logQ := s.logQ ++ [r] }
  if faultBit code = 0 then s else (s.setReg .DEV_FAULT 0 (s.reg .DEV_FAULT 0 ||| faultBit code)).faultEdge s

def State.raise (s : State) (code sclass loc data : Nat) : State := s.raiseAt s.tim.now code sclass loc data

/-- LOC of a tile event: tile, slot, cell; 0xFF where one does not apply (R539) (open points: log 91). -/
def locTile (t slot cell : Nat) : Nat := t + slot * 0x10000 + cell * 0x1000000

/-- Raised at most once for sub-item `sub` until the counter register named is read (R541) (open points: log 28). -/
def State.raiseOnceK (s : State) (r : Reg) (i sub code sclass loc data : Nat) : State :=
  let k := r.addr i + sub * 2 ^ 40
  if tget false s.once k then s
  else (State.raise { s with once := tput false s.once k true } code sclass loc data)

def State.raiseOnce (s : State) (r : Reg) (i code sclass loc data : Nat) : State :=
  s.raiseOnceK r i 0 code sclass loc data

/-- The raise-once marks of a counter, cleared when the counter is read (open points: log 28). -/
def State.rearm (s : State) (r : Reg) (i : Nat) : State :=
  { s with once := s.once.filter fun p => p.1 % 2 ^ 40 ≠ r.addr i }

/-! ### Rights and floors -/

/-- Owner of a resource (R458): kinds 0 tile, 1 queue, 2 task, 3 batch, 4 lane, 5 host queue port. -/
def State.ownerOf (s : State) (kind i : Nat) : Nat := tget 0 s.owners (kind * 65536 + i)

/-- A view reaches a resource when it is privileged or owns it (R41, R458). -/
def State.owns (s : State) (view kind i : Nat) : Bool := view = 0 ∨ s.ownerOf kind i = view

def nocState : Fld := ⟨.NOC_FLOOR, 18, 16⟩

/-- The floor's network state is OPEN (R314). -/
def State.floorOpen (s : State) (f : Nat) : Bool := s.fld nocState f = 0

/-! ### Memory protection (R265, R266) -/

def xorBits (d : Byte) (l : List Nat) : Bool := l.foldl (fun a i => a ^^ d.getLsbD i) false

/-- Check bits c4 to c0 of a data byte (R265). -/
def eccCheck (d : Byte) : Nat :=
  let c0 := xorBits d [0, 1, 3, 4, 6]
  let c1 := xorBits d [0, 2, 3, 5, 6]
  let c2 := xorBits d [1, 2, 3, 7]
  let c3 := xorBits d [4, 5, 6, 7]
  let c4 := xorBits d [0, 1, 2, 3, 4, 5, 6, 7] ^^ c0 ^^ c1 ^^ c2 ^^ c3
  b2n c0 + 2 * b2n c1 + 4 * b2n c2 + 8 * b2n c3 + 16 * b2n c4

/-- A byte stored with valid check bits: data [7:0], check [12:8]. -/
def eccEncode (d : Byte) : BitVec 13 := BitVec.ofNat 13 (d.toNat + 256 * eccCheck d)

/-- A byte stored poisoned: check bits equal to the valid check XOR 0b0_0011 (R279, R299). -/
def eccPoison (d : Byte) : BitVec 13 := BitVec.ofNat 13 (d.toNat + 256 * (eccCheck d ^^^ 3))

/-- Code position of data bit `i` (R265). -/
def eccPos : List Nat := [3, 5, 6, 7, 9, 10, 11, 12]

/-- Outcome of decoding a stored byte: data, 0 no error / 1 correctable / 2 uncorrectable, syndrome, overall parity. -/
structure Decoded where
  data : Byte
  kind : Nat
  syn : Nat
  q : Bool
  deriving DecidableEq, Repr

/-- A stored byte decoded (R266). -/
def eccDecode (b : BitVec 13) : Decoded :=
  let d : Byte := b.setWidth 8
  let c := b.toNat / 256
  let syn := (eccCheck d % 16) ^^^ (c % 16)
  let q := (List.range 13).foldl (fun a i => a ^^ b.getLsbD i) false
  if syn = 0 then { data := d, kind := b2n q, syn := syn, q := q }
  else if q ∧ syn ≤ 12 then
    let d' := if eccPos.contains syn then d ^^^ (1#8 <<< eccPos.idxOf syn) else d
    { data := d', kind := 1, syn := syn, q := q }
  else { data := d, kind := 2, syn := syn, q := q }

/-! ### The tile store (R262 to R284) -/

def remapV : Fld := ⟨.TIL_REMAP, 31, 31⟩
def remapBad : Fld := ⟨.TIL_REMAP, 30, 30⟩
def remapCopy : Fld := ⟨.TIL_REMAP, 29, 29⟩
def remapPage : Fld := ⟨.TIL_REMAP, 6, 0⟩

/-- The physical page that page `p` of tile `t` lives in: 128 + k for spare page SPk (R278). -/
def State.physPage (s : State) (t p : Nat) : Nat :=
  match (List.range 4).find? fun k => s.flag remapV (4 * t + k) && s.fld remapPage (4 * t + k) == p with
  | some k => 128 + k
  | none => p

/-- Number of a stored byte: 132 pages of 4 KiB a tile. -/
def physByte (t page off : Nat) : Nat := (132 * t + page) * 4096 + off % 4096

/-- The stored byte behind offset `off` of tile `t`. -/
def State.phys (s : State) (t off : Nat) : Nat := physByte t (s.physPage t (off / 4096 % 128)) off

/-- The line of a stored byte has not been written since its initialisation (R271) (open points: log 3). -/
def State.fresh (s : State) (ph : Nat) : Bool := !tget false s.written (ph / 64)

/-- One byte as a reader sees it (R268, R271), with its decoding (open points: log 3). -/
def State.peek (s : State) (t off : Nat) : Decoded × Bool :=
  let ph := s.phys t off
  if s.fresh ph then ({ data := 0#8, kind := 0, syn := 0, q := false }, true)
  else (eccDecode (tget 0#13 s.store ph), false)

/-- The bytes from offset `off`, with a mark on each uncorrectable byte. -/
def State.peekN (s : State) (t off n : Nat) : List (Byte × Bool) :=
  (List.range n).map fun i => let d := (s.peek t (off + i)).1; (d.data, d.kind == 2)

/-- Byte 4 of a memory event record: the uncorrectable bytes of the 8-byte word of offset `o`, of bytes read from `base`
(R284). -/
def ueMask (l : List (Byte × Bool)) (base o : Nat) : Nat :=
  (List.range 8).foldl (fun m i =>
    let a := o / 8 * 8 + i
    m + b2n (decide (base ≤ a) && (l.getD (a - base) (0#8, false)).2) * 2 ^ i) 0

/-- DATA of a memory event record (R284). -/
def memData (off req mask b5 slot page : Nat) : Nat :=
  off + req * 2 ^ 24 + mask * 2 ^ 32 + b5 * 2 ^ 40 + slot * 2 ^ 48 + page * 2 ^ 56

/-- Byte 5 of a memory event record: [4] q, [3:0] s, [7] fresh (R284). -/
def memByte5 (d : Decoded) (fresh : Bool) : Nat := 128 * b2n fresh + 16 * b2n d.q + d.syn

/-- The page with the most corrected bytes of the pass (R276). -/
def worstPage (l : Tbl Nat) : Nat :=
  (l.foldl (fun (b : Nat × Nat) p => if b.2 < p.2 then p else b) (0, 0)).1

/-- Corrected bytes counted within the scrubber pass; event 0x1009 once per pass at CETHR (R276). -/
def State.countPass (s : State) (t page n : Nat) (data : Nat → Nat) : State :=
  let s := s.modTile t fun x => { x with
    scrubCnt := x.scrubCnt + n, scrubPages := tput 0 x.scrubPages page (tget 0 x.scrubPages page + n) }
  let x := s.tile t
  let thr := s.reg .ECC_CFG 0 % 65536
  if thr ≠ 0 ∧ thr ≤ x.scrubCnt ∧ !x.scrubRaised then
    (s.modTile t fun x => { x with scrubRaised := true }).raise 0x1009 1 (locTile t 0xFF 0xFF) (data (worstPage x.scrubPages))
  else s

/-- What reading bytes `offs` of one aligned 8-byte word counts and logs (R268, R283) (open points: log 28). -/
def State.wordErrors (s : State) (t : Nat) (offs : List Nat) (req slot : Nat) (fresh : Bool)
    (dec : Nat → Decoded) : State :=
  let ce := offs.filter fun o => (dec o).kind == 1
  let ue := offs.filter fun o => (dec o).kind == 2
  let page := s.physPage t (offs.headD 0 / 4096)
  let mask := fun (l : List Nat) => l.foldl (fun a o => a + 2 ^ (o % 8)) 0
  let s := match ce with
    | [] => s
    | o :: _ =>
      let s := (s.bumpBy .TIL_ECC_CE t ce.length).bumpBy .ECC_CE_TOTAL 0 ce.length
      let s := s.countPass t page ce.length (memData o req (mask ce) (memByte5 (dec o) fresh) slot)
      if bit (s.reg .ECC_CFG 0) 16 then
        match (s.tile t).lastCeLog with
        | some n => if s.tim.dev < n + 1000000 then s.bump .ECC_LOGSUPP 0
          else (s.modTile t fun x => { x with lastCeLog := some s.tim.dev }).raise 0x1001 1 (locTile t slot 0xFF)
            (memData o req (mask ce) (memByte5 (dec o) fresh) slot page)
        | none => (s.modTile t fun x => { x with lastCeLog := some s.tim.dev }).raise 0x1001 1 (locTile t slot 0xFF)
            (memData o req (mask ce) (memByte5 (dec o) fresh) slot page)
      else s
  match ue with
  | [] => s
  | o :: _ =>
    let s := (s.bumpBy .TIL_ECC_UE t ue.length).bumpBy .ECC_UE_TOTAL 0 ue.length
    let s := s.setReg .TIL_ECC_LASTUE t (ue.getLastD o)
    let data := memData o req (mask ue) (memByte5 (dec o) fresh) slot page
    if req = 6 then s.raise 0x1004 1 (locTile t slot 0xFF) data
    else if (s.tile t).lastUeWord = some (o / 8) then s
    else (s.modTile t fun x => { x with lastUeWord := some (o / 8) }).raise 0x1002 1 (locTile t slot 0xFF) data

/-- A read that corrected bytes of a line queues one write-back, if fewer than 4 wait (R269). -/
def State.queueWriteBack (s : State) (t off : Nat) (l : List (Nat × Byte)) : State :=
  if l = [] ∨ 4 ≤ (s.tile t).writeBacks.length then s
  else
    let w : WriteBack := { line := s.phys t off / 64 * 64, bytes := l, stale := false }
    s.modTile t fun x => { x with writeBacks := x.writeBacks ++ [w] }

/-- The effects of reading `n` bytes from offset `off` (R268, R269): counters, logs and write-backs, line by line.
Requester codes as R284. A fresh line is not decoded and has no effect. -/
def State.noteRead (s : State) (t off n req slot : Nat) : State :=
  let offs := (List.range n).map (off + ·)
  let words := (offs.map (· / 8)).dedup
  let s0 := s
  let dec := fun o => (s0.peek t o).1
  let s := words.foldl (fun s w => s.wordErrors t (offs.filter fun o => o / 8 == w) req slot false dec) s
  let lines := (offs.map (· / 64)).dedup
  lines.foldl (fun s l =>
    let ce := offs.filter fun o => o / 64 == l && (dec o).kind == 1
    s.queueWriteBack t (l * 64) (ce.map fun o => (o % 64, (dec o).data))) s

/-- A line's bytes all set to zero with valid check bits, and its fresh bit cleared (R272). -/
def State.openLine (s : State) (ph : Nat) : State :=
  if s.fresh ph then
    { s with
      store := (List.range 64).foldl (fun m i => tput 0#13 m (ph / 64 * 64 + i) 0#13) s.store
      written := tput false s.written (ph / 64) true }
  else s

/-- One byte written at a stored place (R270, R272). -/
def State.pokePhys (s : State) (ph : Nat) (v : BitVec 13) : State :=
  let s := s.openLine ph
  { s with store := tput 0#13 s.store ph v }

def flipArm : Fld := ⟨.ECC_FLIP_CTL, 31, 31⟩
def flipDone : Fld := ⟨.ECC_FLIP_CTL, 23, 16⟩
def flipTile : Fld := ⟨.ECC_FLIP_CTL, 8, 0⟩

/-- A number put into a rising list, once. -/
def insertNat (n : Nat) : List Nat → List Nat
  | [] => [n]
  | m :: l => if n < m then n :: m :: l else if n = m then m :: l else m :: insertNat n l

/-- The aligned 8-byte words wholly covered by the offsets, rising. -/
def wholeWords (offs : List Nat) : List Nat :=
  ((offs.map (· / 8)).dedup.filter fun w => (List.range 8).all fun i => offs.contains (8 * w + i)).foldr insertNat []

/-- The armed flip applied to the lowest whole word of a write, after the word is stored (R277). -/
def State.applyFlip (s : State) (t : Nat) (offs : List Nat) : State :=
  match wholeWords offs with
  | [] => s
  | w :: _ =>
    if s.flag flipArm 0 ∧ s.fld flipTile 0 = t then
      let md := s.reg .ECC_FLIP_D 0
      let mc := s.reg .ECC_FLIP_C 0
      let s := (List.range 8).foldl (fun s k =>
        let ph := s.phys t (8 * w + k)
        let m := md / 2 ^ (8 * k) % 256 + 256 * (mc / 2 ^ (5 * k) % 32)
        { s with store := tput 0#13 s.store ph (tget 0#13 s.store ph ^^^ BitVec.ofNat 13 m) }) s
      (s.setFld flipArm 0 0).bumpFld flipDone 0
    else s

/-- A write has reached the lines of these offsets: their queued write-backs are skipped (R269), and the tile's own data
cache loses its copies (R166). -/
def State.touchLines (s : State) (t : Nat) (offs : List Nat) : State :=
  let phs := offs.map fun o => s.phys t o / 64 * 64
  let las := offs.map fun o => (t * 0x80000 + o) / 64 * 64
  s.modTile t fun x => { x with
    writeBacks := x.writeBacks.map fun w => if phs.contains w.line then { w with stale := true } else w
    dcache := x.dcache.filter fun c => !las.contains c.addr
    lastUeWord := match x.lastUeWord with
      | some w => if offs.any fun o => o / 8 == w then none else some w
      | none => none }

/-- Bytes written to a tile store: (offset, byte, poisoned) (R270, R272, R277, R299). -/
def State.storeBytes (s : State) (t : Nat) (l : List (Nat × Byte × Bool)) : State :=
  let offs := l.map (·.1)
  let s := l.foldl (fun s (o, b, p) => s.pokePhys (s.phys t o) (if p then eccPoison b else eccEncode b)) s
  (s.applyFlip t offs).touchLines t offs

def leesSpilled : Fld := ⟨.TIL_LEES, 42, 32⟩
def leesHwm : Fld := ⟨.TIL_LEES, 58, 48⟩
def leesHdepth : Fld := ⟨.TIL_LEES, 26, 24⟩
def leesLsz : Fld := ⟨.TIL_LEES, 19, 16⟩
def leesBase : Fld := ⟨.TIL_LEES, 12, 0⟩
def slotState : Fld := ⟨.TIL_SLOT, 11, 8⟩
def slotImg : Fld := ⟨.TIL_SLOT, 31, 16⟩
def slotFtrap : Fld := ⟨.TIL_SLOT, 0, 0⟩

/-- The lees range of slot `k` of tile `t`, first byte and length; a slot that holds no image has none (R136). -/
def State.leesRange (s : State) (t k : Nat) : Nat × Nat :=
  if s.fld slotState (8 * t + k) = 0 then (0, 0)
  else (s.fld leesBase (8 * t + k) * 64, 256 * 2 ^ s.fld leesLsz (8 * t + k))

/-- Some byte of the range lies in a lees of the tile (R140). -/
def State.inLees (s : State) (t off n : Nat) : Bool :=
  (List.range 8).any fun k => let (b, l) := s.leesRange t k; decide (off < b + l ∧ b < off + n)

end Sys2Proof.Machine
end

