-- ==== Sys2Proof/Machine/CmdOps.lean ====
section
/-! DEFINITION. Running a command packet (chapter "Command packets and register views"): the checks of R444 that every command
shares, replies, commands in progress, host memory. Opcodes are those of R455; `params` are the parameter bytes in the
layout of R443. -/

namespace Sys2Proof.Machine

open Sys2Proof

def sysSdn : Fld := ⟨.DEV_SYSCFG, 11, 0⟩
def ringEn : Fld := ⟨.CMD_CFG, 31, 31⟩
def ringErr : Fld := ⟨.CMD_CFG, 30, 30⟩
def ringLog2n : Fld := ⟨.CMD_CFG, 19, 16⟩

/-! ### Status codes (R454) -/

def stOk : Nat := 0x00
def stPending : Nat := 0x01
def stEmptyRd : Nat := 0x02
def stBadOpcode : Nat := 0x10
def stBadParam : Nat := 0x11
def stNoPriv : Nat := 0x12
def stBusy : Nat := 0x20
def stTimeout : Nat := 0x21
def stDoubleAssign : Nat := 0x30
def stDomainOff : Nat := 0x31
def stNoRoute : Nat := 0x32
def stAborted : Nat := 0x33
def stMismatch : Nat := 0x40
def stHeld : Nat := 0x41
def stFault : Nat := 0x50

/-! ### Host memory -/

/-- One byte of host memory; a byte that nothing has written reads as 0 (log 3). -/
def State.hostByte (s : State) (a : Nat) : Byte := tget 0#8 s.hostMem a
def State.hostBytes (s : State) (a n : Nat) : List Byte := (List.range n).map fun i => s.hostByte (a + i)
def State.putHost (s : State) (a : Nat) (l : List Byte) : State :=
  { s with hostMem := (l.zipIdx).foldl (fun m (b, i) => tput 0#8 m (a + i) b) s.hostMem }

/-! ### TARGET (R453) -/

def tgtSys (c : Cmd) : Bool := c.target.getLsbD 31
def tgtSdn (c : Cmd) : Nat := c.target.toNat % 4096

/-- TARGET breaks R453. -/
def tgtBad (c : Cmd) : Bool :=
  if tgtSys c then decide (bits c.target.toNat 30 12 ≠ 0) else decide (bits c.target.toNat 30 0 ≠ 0)

/-- The command names another device. -/
def State.tgtOther (s : State) (c : Cmd) : Bool := tgtSys c && decide (tgtSdn c ≠ s.fld sysSdn 0)

/-! ### Replies (R445, R448) -/

/-- A final reply: it waits for its ring, or is sent back to the device that forwarded the command (R445, R453); a PCIe reset
has discarded it (R452) (open points: log 44). -/
def State.reply (s : State) (c : Cmd) (op status : Nat) (data : List Byte) : State :=
  let r : Reply := { cmd := c, op := op, status := status, interim := false, data := data }
  if s.orphans.contains c then { s with orphans := s.orphans.erase c }
  else if c.remote = 0 then { s with replies := s.replies ++ [r] } else { s with mgmt := s.mgmt ++ [r] }

/-- A BAD_PARAM reply: the offset of the first parameter byte found wrong (R445). -/
def State.badParam (s : State) (c : Cmd) (op off : Nat) : State := s.reply c op stBadParam (leBytes 2 off)

/-- The PENDING reply of a long command with PACK set (R448). -/
def State.interim (s : State) (c : Cmd) (op : Nat) : State :=
  if c.pack ∧ c.remote = 0 ∧ !s.orphans.contains c then
    { s with replies := s.replies ++ [{ cmd := c, op := op, status := stPending, interim := true, data := [] }] }
  else s

/-! ### Commands in progress (R441, R447) -/

def devReady : Fld := ⟨.DEV_STATUS, 31, 31⟩
def devFwrun : Fld := ⟨.DEV_STATUS, 30, 30⟩

/-- Commands that run as defined before READY: DEV_INFO, NOP, LOG_READ, MANIFEST_READ (R478). -/
def earlyOps : List Nat := [0x0001, 0x0002, 0x9006, 0x1005]

/-- It is the command's turn: Drefel runs (R478); when its ring's packet has been fetched it is that packet, at the front of
its ring; with ORDER no earlier command of the ring is in progress or unanswered (R442, R447). A command that no ring
brought starts at once (log 16) (open points: log 45). -/
def State.isTurn (s : State) (c : Cmd) (op : Nat) (params : List Byte) : Bool :=
  s.flag devFwrun 0 &&
  (match s.fetched.find? (fun f => f.cmd.ring = c.ring ∧ f.cmd.remote = c.remote) with
   | none => true
   | some f => decide (f.cmd = c ∧ f.op = op ∧ f.params = params)) &&
  (!c.order || !(s.cmds.any (fun w => w.cmd.ring = c.ring ∧ w.cmd.remote = c.remote) ||
    (c.remote == 0 && s.replies.any (fun r => r.cmd.ring = c.ring))))

/-- The command may start on this device (open points: log 16). -/
def State.mayStart (s : State) (c : Cmd) (op : Nat) (params : List Byte) : Bool := !s.tgtOther c && s.isTurn c op params

/-- The packet leaves the list of fetched ones as its command starts (open points: log 16). -/
def State.unfetch (s : State) (c : Cmd) : State := { s with fetched := s.fetched.filter fun f => f.cmd ≠ c }

/-- A command run: the checks of R444 that precede the command's own, the check of R478, then its effect. `tenant` is the Tenant column of
R455 (open points: log 7). -/
def State.runCmd (s : State) (c : Cmd) (op : Nat) (params : List Byte) (tenant : Bool) (body : State → State) : State :=
  if !s.mayStart c op params then s
  else
    let s := s.unfetch c
    if tgtBad c then s.badParam c op 0xFFFF
    else if c.ring ≠ 0 ∧ c.view ≠ c.ring then s.reply c op stNoPriv []
    else if !tenant ∧ c.view ≠ 0 then s.reply c op stNoPriv []
    else if !s.flag devReady 0 ∧ !earlyOps.contains op then s.reply c op stBusy []
    else body s

/-- A command that waits, with its deadline in µs, 0 for none (open points: log 45, log 46). -/
def State.waitCmd (s : State) (c : Cmd) (op : Nat) (w : CmdWait) (timeout : Nat) : State :=
  { s with cmds := s.cmds ++ [{ cmd := c, op := op, wait := w,
                                deadline := if timeout = 0 then none else some (s.tim.clk + timeout * 1000) }] }

/-- A long command that waits: its PENDING reply comes first (R448) (open points: log 46). -/
def State.await (s : State) (c : Cmd) (op : Nat) (w : CmdWait) (timeout : Nat) : State :=
  (s.interim c op).waitCmd c op w timeout

/-- Every command that waits for `w` replies, and a drain without one ends. -/
def State.finish (s : State) (w : CmdWait) (status : Nat) (data : List Byte) : State :=
  let done := s.cmds.filter fun x => x.wait = w
  let s := { s with cmds := s.cmds.filter fun x => x.wait ≠ w, drains := s.drains.filter (· ≠ w) }
  done.foldl (fun s x => s.reply x.cmd x.op status data) s

/-- The first of the commands that wait for `w` replies. -/
def State.finishFirst (s : State) (w : CmdWait) (status : Nat) (data : List Byte) : State :=
  match s.cmds.find? fun x => x.wait = w with
  | none => s
  | some x => ({ s with cmds := s.cmds.erase x }).reply x.cmd x.op status data

/-- Every command whose wait meets `p` replies with no result. -/
def State.finishWhere (s : State) (p : CmdWait → Bool) (status : Nat) : State :=
  let done := s.cmds.filter fun x => p x.wait
  let s := { s with cmds := s.cmds.filter fun x => !p x.wait, drains := s.drains.filter fun w => !p w }
  done.foldl (fun s x => s.reply x.cmd x.op status []) s

/-- Some command waits for `w`, or its object drains without one. -/
def State.waitsFor (s : State) (w : CmdWait) : Bool := (s.cmds.any fun x => x.wait = w) || s.drains.contains w

/-- The object drains on with no command that waits for it (R221). -/
def State.drainOn (s : State) (w : CmdWait) : State := { s with drains := s.drains.filter (· ≠ w) ++ [w] }

/-- The floor is fenced, loading or powered down (R314, R454). -/
def State.domainOff (s : State) (f : Nat) : Bool := !s.floorOpen f

/-- A VIEW_REVOKE of the resource has started: its owner counts as 0 for commands that start from now on (R459). -/
def State.revoked (s : State) (kind i : Nat) : Bool :=
  s.cmds.any fun x => match x.wait with
    | .viewRevoke k first n => decide (k = kind ∧ first ≤ i ∧ i < first + n)
    | _ => false

/-- The acting view of a command reaches a resource (R437, R458): kinds 0 tile, 1 queue, 2 task, 3 batch, 4 lane, 5 host
queue port. -/
def State.cmdOwns (s : State) (c : Cmd) (kind i : Nat) : Bool :=
  s.owns c.view.val kind i && (decide (c.view.val = 0) || !s.revoked kind i)

end Sys2Proof.Machine
end

