-- ==== Sys2Proof/Machine/Operands.lean ====
section
/-! DEFINITION. Operand forms: the configuration word of a cell (R51, R88), the wire network's geometry (R83 to R94, R101 to
R106), and where each port and each multiplexer takes its word from. -/

namespace Sys2Proof.Machine

open Sys2Proof

/-! ### Configuration frame space (R37, R51, R94, R102) -/

def tileFrame (t : Nat) : Nat := 0x03_0000_0000 + t * 0x1_0000
def floorFrame (f : Nat) : Nat := 0x03_0200_0000 + f * 0x1_0000
def guardFrame : Nat := 0x03_0300_0000

def State.cfsByte (s : State) (a : Nat) : Nat := (tget 0#8 s.cfs a).toNat

/-- `n` bytes of configuration frame space as a little-endian number. -/
def State.cfsNum (s : State) (a : Nat) : Nat → Nat
  | 0 => 0
  | n + 1 => s.cfsByte a + 256 * s.cfsNum (a + 1) n

/-- The configuration word of cell `c` in slot `k` of tile `t` (R51). -/
def State.cellCfg (s : State) (t k c : Nat) : Nat := s.cfsNum (tileFrame t + k * 0x800 + c * 0x20) 16

/-- The fields of R51. -/
structure CellCfg where
  opc : Nat
  fmt : Nat
  sat : Bool
  rnd : Bool
  qpt : Nat
  imm5 : Nat
  asrc : Nat
  bsrc : Nat
  csrc : Nat
  emode : Nat
  pen : Bool
  pinv : Bool
  sela : Nat
  selb : Nat
  selc : Nat
  dcas : Bool
  seld : Nat
  sele : Nat
  used : Bool
  deriving DecidableEq, Repr

/-- The operation half of a configuration word. A word whose bits [127:64] are zero belongs to an unused cell (log 13). -/
def decodeCfg (w : Nat) : CellCfg :=
  { opc := bits w 127 120, fmt := bits w 119 118, sat := bit w 117, rnd := bit w 116, qpt := bits w 115 111,
    imm5 := bits w 110 106, asrc := bits w 105 104, bsrc := bits w 103 102, csrc := bits w 101 100,
    emode := bits w 99 98, pen := bit w 97, pinv := bit w 96, sela := bits w 95 90, selb := bits w 89 84,
    selc := bits w 83 78, dcas := bit w 77, seld := bits w 76 71, sele := bits w 70 66,
    used := decide (bits w 127 64 ≠ 0) }

/-- Formats of R51. -/
def fmtI : Nat := 0
def fmtQ : Nat := 1
def fmtF : Nat := 2
def fmtD : Nat := 3

/-- Operation codes of R64 to R73. -/
def opAdd : Nat := 0x00
def opSub : Nat := 0x01
def opMul : Nat := 0x02
def opFma : Nat := 0x03
def opFms : Nat := 0x04
def opNeg : Nat := 0x05
def opAbs : Nat := 0x06
def opMin : Nat := 0x07
def opMax : Nat := 0x08
def opClamp : Nat := 0x09
def opQadd : Nat := 0x10
def opQsub : Nat := 0x11
def opQmul : Nat := 0x12
def opQshl : Nat := 0x13
def opQshr : Nat := 0x14
def opAnd : Nat := 0x20
def opOr : Nat := 0x21
def opXor : Nat := 0x22
def opNot : Nat := 0x23
def opShl : Nat := 0x24
def opShr : Nat := 0x25
def opSar : Nat := 0x26
def opRot : Nat := 0x27
def opCmplt : Nat := 0x30
def opCmple : Nat := 0x31
def opCmpeq : Nat := 0x32
def opSel2 : Nat := 0x40
def opSel4 : Nat := 0x41
def opMux2 : Nat := 0x42
def opI2f : Nat := 0x50
def opF2i : Nat := 0x51
def opQ2f : Nat := 0x52
def opF2q : Nat := 0x53
def opF2d : Nat := 0x54
def opD2f : Nat := 0x55
def opRcps : Nat := 0x58
def opRsqs : Nat := 0x59
def opAcc : Nat := 0x60
def opDiff : Nat := 0x61
def opIntg : Nat := 0x62
def opDelay : Nat := 0x63
def opCount : Nat := 0x64
def opPass : Nat := 0x65
def opLut : Nat := 0x70

/-- The OPC and FMT combinations of the operation tables (R49, R64 to R73). -/
def opFormats (opc : Nat) : List Nat :=
  if opc ∈ [opAdd, opSub, opMul] then [0, 2, 3]
  else if opc ∈ [opFma, opFms, opNeg, opAbs, opMin, opMax, opClamp, opCmplt, opCmple, opCmpeq] then [0, 1, 2, 3]
  else if opc ∈ [opQadd, opQsub, opQmul, opQshl, opQshr, opF2q] then [1]
  else if opc ∈ [opAnd, opOr, opXor, opNot, opShl, opShr, opSar, opRot, opSel4, opMux2, opF2i, opCount] then [0]
  else if opc ∈ [opSel2, opDelay, opPass] then [0, 3]
  else if opc ∈ [opI2f, opQ2f, opRcps, opRsqs] then [2]
  else if opc ∈ [opF2d, opD2f] then [3]
  else if opc ∈ [opAcc, opDiff, opIntg] then [0, 1, 2]
  else if opc = opLut then [1, 2]
  else []

def opListed (opc fmt : Nat) : Bool := (opFormats opc).contains fmt

/-- A shift whose count is B[4:0] unless BSRC = 0b11 (R65). -/
def isShift (opc : Nat) : Bool := opc ∈ [opShl, opShr, opSar, opRot, opQshl, opQshr]

/-- The word ports an operation reads, as numbers 0 A, 1 B, 2 C, 3 D (R64 to R73). -/
def opPorts (opc csrc : Nat) : List Nat :=
  if opc ∈ [opFma, opFms, opClamp] then [0, 1, 2]
  else if opc = opSel4 then [0, 1, 2, 3]
  else if opc ∈ [opNeg, opAbs, opNot, opI2f, opF2i, opQ2f, opF2q, opF2d, opD2f, opRcps, opRsqs, opLut] then [0]
  else if opc ∈ [opAcc, opDiff, opIntg, opDelay, opCount, opPass] then (if csrc = 0 then [0, 2] else [0])
  else [0, 1]

/-- Feedback operations accept a set only when the one before has left (R48, R67). -/
def issueTwo (opc fmt : Nat) : Bool := opc = opIntg ∨ (opc = opAcc ∧ fmt = fmtF)

/-- The cell reads E (R47, R52) (open points: log 13). -/
def CellCfg.readsE (c : CellCfg) : Bool := c.opc = opSel2 ∨ c.emode ≠ 0
/-- The cell reads the select lane (R71) (open points: log 13). -/
def CellCfg.readsSel (c : CellCfg) : Bool := c.opc = opSel4 ∨ c.opc = opMux2

/-! ### Geometry (R26, R83) -/

/-- Die, x and y of a cell (R83). -/
def cellXY (t c : Nat) : Nat × Nat × Nat :=
  let f := t / 16
  let fl := f % 16
  let i := t % 16
  (f / 16, 16 * (fl % 4) + 4 * (i % 4) + c % 4, 16 * (fl / 4) + 4 * (i / 4) + c / 4)

/-- The tile and cell at die coordinates; none outside the die. -/
def cellAt (die : Nat) (x y : Int) : Option (Nat × Nat) :=
  if 0 ≤ x ∧ x < 64 ∧ 0 ≤ y ∧ y < 64 then
    let x := x.toNat
    let y := y.toNat
    let f := 16 * die + 4 * (y / 16) + x / 16
    some (16 * f + 4 * (y % 16 / 4) + x % 16 / 4, 4 * (y % 4) + x % 4)
  else none

/-- Steps east and south of a direction: north 0, east 1, south 2, west 3. -/
def dirDx (d : Nat) : Int := if d = 1 then 1 else if d = 3 then -1 else 0
def dirDy (d : Nat) : Int := if d = 0 then -1 else if d = 2 then 1 else 0

/-- The cell `n` places away in a direction. -/
def cellTo (t c d n : Nat) : Option (Nat × Nat) :=
  let (die, x, y) := cellXY t c
  cellAt die (x + dirDx d * n) (y + dirDy d * n)

/-- The physical tile that holds slot `k` of the tile the network knows as `t`: the spare after a move (R113, R429). -/
def State.phys1 (s : State) (t k : Nat) : Nat :=
  let m := tget 0 s.moved (8 * t + k)
  if m = 0 then t else m - 1

/-- The tile the network knows the slot of physical tile `t` as. -/
def State.logi (s : State) (t k : Nat) : Nat :=
  match s.moved.find? fun p => p.2 = t + 1 ∧ p.1 % 8 = k with
  | some p => p.1 / 8
  | none => t

/-- A neighbour in slot `k`, through the corridor of a moved slot. -/
def State.nbr (s : State) (k t c d n : Nat) : Option (Nat × Nat) :=
  (cellTo (s.logi t k) c d n).map fun p => (s.phys1 p.1 k, p.2)

/-! ### Keys of drivers -/

def wireKey : Wire → Nat → Nat
  | .y t c, k => ((t.val * 16 + c.val) * 8 + k) * 32
  | .p t c, k => ((t.val * 16 + c.val) * 8 + k) * 32 + 1
  | .loc t c d tr, k => ((t.val * 16 + c.val) * 8 + k) * 32 + 2 + d.val * 2 + tr.val
  | .seg t c v, k => ((t.val * 16 + c.val) * 8 + k) * 32 + 10 + b2n v
  | .pred t c d, k => ((t.val * 16 + c.val) * 8 + k) * 32 + 12 + d.val
  | .bline t i, k => (t.val * 16 * 8 + k) * 32 + 16 + i.val
  | .pline t i, k => (t.val * 16 * 8 + k) * 32 + 24 + i.val
  | .lane f e l p, _ => 2 ^ 21 + ((f.val * 4 + e.val) * 16 + l.val) * 4 + p.val
  | .brecv f n, _ => 2 ^ 21 + 2 ^ 13 + f.val * 16 + n.val

def tN (t : Nat) : TileNo := Fin.ofNat 512 t
def cN (c : Nat) : CellNo := Fin.ofNat 16 c
def fN (f : Nat) : FloorNo := Fin.ofNat 32 f

/-- The tile of a driver; none for a floor's lanes and ports. -/
def wireTile : Wire → Option Nat
  | .y t _ | .p t _ | .loc t _ _ _ | .seg t _ _ | .pred t _ _ | .bline t _ | .pline t _ => some t.val
  | .lane _ _ _ _ | .brecv _ _ => none

/-- The floor of a driver. -/
def wireFloor : Wire → Nat
  | .y t _ | .p t _ | .loc t _ _ _ | .seg t _ _ | .pred t _ _ | .bline t _ | .pline t _ => t.val / 16
  | .lane f _ _ _ | .brecv f _ => f.val

/-! ### Express lanes (R101 to R105) -/

/-- The lane runs toward rising positions (R101). -/
def laneUp (l : Nat) : Bool := l < 8

/-- Position before `p` in flow order, on the same floor. -/
def prevPos (l p : Nat) : Option Nat :=
  if laneUp l then (if p = 0 then none else some (p - 1)) else (if 3 ≤ p then none else some (p + 1))

def firstPos (l : Nat) : Nat := if laneUp l then 0 else 3
def lastPos (l : Nat) : Nat := if laneUp l then 3 else 0

/-- The floor a lane of edge `e` comes from (`up` true) or goes to, on the same die (R101). -/
def laneFloor (f e l : Nat) (back : Bool) : Option Nat :=
  let fl := f % 16
  let horiz := e = 0 ∨ e = 2
  let plus := laneUp l != back
  if horiz then
    if plus then (if fl % 4 = 3 then none else some (f + 1)) else (if fl % 4 = 0 then none else some (f - 1))
  else
    if plus then (if fl / 4 = 3 then none else some (f + 4)) else (if fl / 4 = 0 then none else some (f - 4))

def laneW (f e l p : Nat) : Wire := .lane (fN f) (Fin.ofNat 4 e) (Fin.ofNat 16 l) (Fin.ofNat 4 p)

/-- The wire that arrives at a lane position (R103) (open points: log 35). -/
def laneArrive (f e l p : Nat) : Option Wire :=
  match prevPos l p with
  | some p' => some (laneW f e l p')
  | none => (laneFloor f e l true).map fun f' => laneW f' e l (lastPos l)

/-- The tile at position `p` of edge `e` (R101). -/
def edgeTile (f e p : Nat) : Nat :=
  16 * f + (if e = 0 then p else if e = 2 then 12 + p else if e = 3 then 4 * p else 4 * p + 3)

/-- Cell `n` along an edge (R102). -/
def edgeCell (e n : Nat) : Nat := if e = 0 then n else if e = 2 then 12 + n else if e = 3 then 4 * n else 4 * n + 3

/-- The injection byte of a lane position (R102). -/
def State.injByte (s : State) (f e l p : Nat) : Nat := s.cfsByte (floorFrame f + 0x100 * e + 4 * l + p)
/-- Tap byte `n` of a position (R102). -/
def State.tapByte (s : State) (f e p n : Nat) : Nat := s.cfsByte (floorFrame f + 0x100 * e + 0x40 + 4 * p + n)
/-- A bridge send port record (R106), push port record and pop record (R257). -/
def State.bsRec (s : State) (f k : Nat) : Nat := s.cfsNum (floorFrame f + 0x800 + 8 * k) 8
def State.qiRec (s : State) (f k : Nat) : Nat := s.cfsNum (floorFrame f + 0x8000 + 8 * k) 8
def State.popRec (s : State) (f k : Nat) : Nat := s.cfsNum (floorFrame f + 0x8080 + 8 * k) 8

/-- Lanes reserved for turning on floor `f` (R112). -/
def State.turnRes (s : State) (f : Nat) : Nat := s.cfsByte (floorFrame f + 0x400) % 8
def State.laneReserved (s : State) (f l : Nat) : Bool :=
  let r := s.turnRes f
  if l < 8 then decide (8 - r ≤ l) else decide (16 - r ≤ l)

/-- The lane that a send or push port reads: where it leaves the floor (R105, R258). -/
def portLane (f r : Nat) : Option Wire :=
  if bit r 63 then let l := bits r 60 57; some (laneW f (bits r 62 61) l (lastPos l)) else none

/-! ### Sources (R86, R89 to R92, R94, R103) -/

/-- A segment wire that drives the matching input: the cell `n` places back, when its SH or SV is set so. -/
def State.segFrom (s : State) (k t c back n : Nat) (vert : Bool) (len dir : Nat) : Option Wire :=
  match s.nbr k t c back n with
  | none => none
  | some (t', c') =>
    let w := s.cellCfg t' k c'
    let (l, d, src) := if vert then (bits w 51 51, bits w 50 50, bits w 49 46) else (bits w 45 45, bits w 44 44, bits w 43 40)
    if l = len ∧ d = dir ∧ src ≠ 0 then some (.seg (tN t') (cN c') vert) else none

/-- The driver of wire input `n` of a cell in slot `k` (R86). -/
def State.inputWire (s : State) (k t c n : Nat) : Option Wire :=
  if n < 8 then
    let d := n / 2
    (s.nbr k t c d 1).map fun p => .loc (tN p.1) (cN p.2) (Fin.ofNat 4 ((d + 2) % 4)) (Fin.ofNat 2 (n % 2))
  else if n = 8 then s.segFrom k t c 3 8 false 0 0
  else if n = 9 then s.segFrom k t c 3 16 false 1 0
  else if n = 10 then s.segFrom k t c 1 8 false 0 1
  else if n = 11 then s.segFrom k t c 1 16 false 1 1
  else if n = 12 then s.segFrom k t c 0 8 true 0 0
  else if n = 13 then s.segFrom k t c 0 16 true 1 0
  else if n = 14 then s.segFrom k t c 2 8 true 0 1
  else if n = 15 then s.segFrom k t c 2 16 true 1 1
  else if n < 24 then
    let t := s.logi t k
    let f := t / 16
    let (_, x, y) := cellXY t c
    let tap := (n - 16) % 4
    let ep : Option (Nat × Nat) :=
      if n < 20 then
        (if y % 16 = 0 then some (0, x % 16 / 4) else if y % 16 = 15 then some (2, x % 16 / 4) else none)
      else (if x % 16 = 0 then some (3, y % 16 / 4) else if x % 16 = 15 then some (1, y % 16 / 4) else none)
    match ep with
    | none => none
    | some (e, p) =>
      let b := s.tapByte f e p tap
      if bit b 7 ∧ bits b 6 4 = k then laneArrive f e (bits b 3 0) p else none
  else if n = 24 then some (.y (tN t) (cN c))
  else if 32 ≤ n ∧ n < 40 then some (.bline (tN t) (Fin.ofNat 8 (n - 32)))
  else none

/-- The driver of predicate input `n` of SELE (R92). -/
def State.predWire (s : State) (k t c n : Nat) : Option Wire :=
  if n < 4 then (s.nbr k t c n 1).map fun p => .pred (tN p.1) (cN p.2) (Fin.ofNat 4 ((n + 2) % 4))
  else if n = 4 then some (.p (tN t) (cN c))
  else if n < 7 then some (.pline (tN t) (Fin.ofNat 2 (n - 5)))
  else none

/-- The tile routing record byte of a broadcast line (R94). -/
def State.lineByte (s : State) (k t i : Nat) : Nat := s.cfsByte (tileFrame t + k * 0x800 + 0x200 + i)

/-- The code of a local word output, and of a predicate output, of a cell (R88). -/
def State.outCode (s : State) (t k c d track : Nat) : Nat :=
  let lo := 10 * d + 5 * track
  bits (s.cellCfg t k c) (lo + 4) lo

def State.predCode (s : State) (t k c d : Nat) : Nat := bits (s.cellCfg t k c) (3 * d + 54) (3 * d + 52)

/-- The code of SH or SV of a cell (R88). -/
def State.segCode (s : State) (t k c : Nat) (vert : Bool) : Nat :=
  if vert then bits (s.cellCfg t k c) 49 46 else bits (s.cellCfg t k c) 43 40

/-- The driver whose fork a wire belongs to: a wire or broadcast line that a cell's own Y or P drives is a branch of that
output and holds no token of its own (R95). -/
def State.driver (s : State) (k : Nat) (w : Wire) : Wire :=
  match w with
  | .loc t c d tr => if s.outCode t k c d tr = 25 then .y t c else w
  | .seg t c v => if s.segCode t k c v = 1 then .y t c else w
  | .pred t c d => if s.predCode t k c d = 1 then .p t c else w
  | .bline t i => let b := s.lineByte k t i.val; if bit b 7 then .y t (cN (bits b 3 0)) else w
  | .pline t i => let b := s.lineByte k t (8 + i.val); if bit b 7 then .p t (cN (bits b 3 0)) else w
  | _ => w

/-- The driver behind wire input `n`, and behind predicate input `n`. -/
def State.inputDriver (s : State) (k t c n : Nat) : Option Wire := (s.inputWire k t c n).map (s.driver k)
def State.predDriver (s : State) (k t c n : Nat) : Option Wire := (s.predWire k t c n).map (s.driver k)

/-- What a routing stage takes its token from, in slot `k` (R89 to R91, R103); none for an undriven multiplexer, for a branch
of a cell's own output, and for a lane reserved for turning (R113). A lane position that injects a cell answers the cell's Y
and the injection's slot is checked by `stageSlot`. -/
def State.stageSource (s : State) (k : Nat) : Wire → Option Wire
  | .y _ _ => none
  | .p _ _ => none
  | .loc t c d tr =>
    let code := s.outCode t k c d tr
    if code = 0 ∨ 24 < code then none else s.inputDriver k t c (code - 1)
  | .seg t c v =>
    let code := s.segCode t k c v
    if code < 2 then none
    else if code < 10 then s.inputDriver k t c (code - 2)
    else if code < 14 then s.inputDriver k t c (code - 10 + (if v then 12 else 8))
    else none
  | .pred t c d =>
    let code := s.predCode t k c d
    if code < 2 then none
    else if code < 6 then s.predDriver k t c (code - 2)
    else some (s.driver k (.pline t (Fin.ofNat 2 (code - 6))))
  | .bline _ _ => none
  | .pline _ _ => none
  | .lane f e l p =>
    let b := s.injByte f e l p
    if s.laneReserved f l then none
    else if bits b 7 6 = 0 then laneArrive f e l p
    else if bits b 7 6 = 1 then
      let sl := bits b 3 1
      some (.y (tN (s.phys1 (edgeTile f e p) sl)) (cN (edgeCell e (bits b 5 4))))
    else if bits b 7 6 = 2 then some (.brecv f (Fin.ofNat 16 (bits b 5 2)))
    else none
  | .brecv _ _ => none

/-- The slot in which a stage takes its source: the injection byte's for a lane that a cell drives (R104). -/
def State.stageSlot (s : State) (k : Nat) : Wire → Nat
  | .lane f e l p => let b := s.injByte f e l p; if bits b 7 6 = 1 then bits b 3 1 else 0
  | _ => k

/-- The driver that port `p` of a cell reads (0 to 3 A to D, 4 E, 5 select lane), in slot `k`; none for a constant or an
undriven input. A port that the operation does not read still has its wire routed into it, and so holds that driver stalled
(R47, R51, R71; log 13). -/
def State.portWire (s : State) (k t c p : Nat) : Option Wire :=
  let g := decodeCfg (s.cellCfg t k c)
  if !g.used then none
  else if p = 0 then (if g.asrc = 0 then s.inputDriver k t c g.sela else none)
  else if p = 1 then (if g.bsrc = 0 then s.inputDriver k t c g.selb else none)
  else if p = 2 then (if g.csrc = 0 then s.inputDriver k t c g.selc else none)
  else if p = 3 then
    (if g.dcas then (if c % 4 = 0 then none else some (.y (tN t) (cN (c - 1)))) else s.inputDriver k t c g.seld)
  else if p = 4 then s.predDriver k t c g.sele
  else if g.readsSel ∧ bit (s.reg .TIL_SLN (8 * t + k)) 4 then
    some (.y (tN t) (cN (bits (s.reg .TIL_SLN (8 * t + k)) 3 0)))
  else none

end Sys2Proof.Machine
end

