-- ==== Sys2Proof/Machine/NetOps.lean ====
section
/-! DEFINITION. Sending packets (chapter "Packet network"): nodes, routers, initiator limits and statistics. -/

namespace Sys2Proof.Machine

open Sys2Proof

/-- The router a node hangs on (R291). -/
def nodeRouter (n : Nat) : Nat := if n < 32 then n else 52

/-- The node of an initiator (R312). -/
def initNode (i : Nat) : Nat := if i < 512 then i / 16 else if i < 544 then i - 512 else 32

/-- The network a packet travels on: 0 REQ, 1 RSP, 2 SNP, 3 DAT (R289). -/
def pktNet (p : Pkt) : Nat :=
  match p.op with
  | .rsp => 1
  | .inv | .invAck => 2
  | .datShort | .datLine | .bridge | .popWord => 3
  | _ => 0

/-- The packet has the data flits of its operation (R297); the length of RD, WR and CFGWR goes by SIZE. -/
def lenOk (p : Pkt) : Bool :=
  match p.op with
  | .qpush => p.data.length == 4
  | .qpop | .qdrop | .qlvl | .signal | .cancel | .step | .dispatch => p.data.isEmpty
  | _ => true

/-- A posted packet receives no answer (R290). -/
def pktPosted (p : Pkt) : Bool :=
  match p.op with
  | .signal | .cancel | .step | .bridge | .reservedPosted => true
  | _ => false

/-- A packet with no field set. -/
def pkt0 : Pkt :=
  { op := .rd, dest := 0, src := 0, tag := 0, size := 0, nb := false, view := 0, sys := false, dsdn := 0, addr := 0,
    data := [], psn := 0, sop := false, eop := false, status := 0, result := 0, sent := 0, born := 0, vc := 0,
    router := 0, local_ := false }

/-- Bytes of a size code: 0 to 3 for 1, 2, 4, 8 bytes, 4 for a line (R297). -/
def reqBytes (code : Nat) : Nat := if code < 4 then 2 ^ code else 64

/-- The floor of an initiator (R312); none for the rim's. -/
def initFloor (i : Nat) : Option Nat := if i < 512 then some (i / 16) else if i < 544 then some (i - 512) else none

/-- The packet meets the fence of its floor: the floor is not OPEN, unless the packet travels wholly within a FENCED floor
(R314). -/
def State.fenced (s : State) (p : Pkt) : Bool :=
  decide (p.dest < 32) && !(s.floorOpen p.dest || (s.fld nocState p.dest == 1 && initFloor p.src == some p.dest))

def statFreeze : Fld := ⟨.NOC_STAT_CTL, 30, 30⟩
def istatBytes : Fld := ⟨.NOC_ISTAT_BYTES, 63, 0⟩

/-- An answer may overtake another (R303). -/
def pktAnswer (p : Pkt) : Bool :=
  match p.op with
  | .rsp | .datShort | .datLine | .popWord => true
  | _ => false

/-- Packets that R303 keeps in order: of one initiator, to one node, on one network. -/
def sameFlow (p q : Pkt) : Bool :=
  decide (p.src = q.src ∧ p.dest = q.dest ∧ pktNet p = pktNet q) && pktAnswer p == pktAnswer q

/-- The packet lies where it says, and no earlier packet of its flow lies there (R303) (open points: log 17). -/
def State.isNext (s : State) (p : Pkt) : Bool :=
  if pktAnswer p then s.net.contains p
  else match s.net.find? fun q => q.router == p.router && q.local_ == p.local_ && sameFlow p q with
    | some q => decide (q = p)
    | none => false

/-- The packet has reached its node and is the next of its flow there (open points: log 17). -/
def State.arrived (s : State) (p : Pkt) : Bool := p.local_ && s.isNext p

/-- The packet taken from the network. -/
def State.takePkt (s : State) (p : Pkt) : State := { s with net := s.net.erase p }

/-- Statistics of an injected packet (R313). -/
def State.countInject (s : State) (p : Pkt) : State :=
  if s.flag statFreeze 0 ∨ 560 ≤ p.src then s
  else
    let s := s.bump .NOC_ISTAT_PKTS p.src
    s.setReg .NOC_ISTAT_BYTES p.src (s.reg .NOC_ISTAT_BYTES p.src + (p.data.filter Option.isSome).length)

/-- A packet injected by its initiator: it lies at the router of its source's node, or waits at its source while an ordered
commit empties the network (R308). -/
def State.inject (s : State) (node : Nat) (p : Pkt) : State :=
  let r := nodeRouter node
  let p := { p with sent := s.tim.clk, born := s.tim.dev, router := if s.noc.draining then 100 + r else r, local_ := false }
  let s := s.countInject p
  { s with net := s.net ++ [p] }

/-- The answer of a node to a request: it keeps the request's tag, initiator and injection time. -/
def answer (p : Pkt) : Pkt :=
  { pkt0 with dest := initNode p.src, src := p.src, tag := p.tag, sent := p.sent, born := p.born, sys := p.sys, dsdn := p.dsdn,
              addr := p.addr, size := p.size }

/-- An answer sent from a node; it is not counted as an injection of the requester. -/
def State.sendAnswer (s : State) (node : Nat) (p : Pkt) : State :=
  let r := nodeRouter node
  { s with net := s.net ++ [{ p with router := if s.noc.draining then 100 + r else r, local_ := false }] }

/-- An RSP answer with a status (R300). -/
def State.rsp (s : State) (node : Nat) (p : Pkt) (status result : Nat) : State :=
  s.sendAnswer node { answer p with op := .rsp, status := status, result := result }

/-- A DAT answer: short data right-aligned, or a line (R302). `psn` marks poisoned 4-byte words. -/
def State.dat (s : State) (node : Nat) (p : Pkt) (data : List Byte) (psn : Nat) : State :=
  s.sendAnswer node { answer p with op := if data.length = 64 then .datLine else .datShort, data := data.map some,
                                    psn := psn }

/-- Poison bits of a run of bytes, one per 4-byte word (R268, R302). -/
def psnMask (l : List (Byte × Bool)) (first : Nat) : Nat :=
  (List.range ((l.length + 3) / 4 + 1)).foldl (fun m i =>
    if ((List.range l.length).any fun j => decide ((first % 4 + j) / 4 = i) && (l.getD j (0#8, false)).2) then m + 2 ^ i
    else m) 0

/-- The invalidation of line `line` for tile `sh` sent by tile `t` with SEQ `q` (R166, R301). -/
def State.sendInv (s : State) (t q line sh : Nat) : State :=
  s.inject (t / 16) { pkt0 with op := .inv, dest := sh / 16, src := t, tag := q, addr := 8192 * t + line, result := sh % 16 }

/-- The next SEQ that no invalidation in flight of the tile has (R301). -/
def TileSt.freeSeq (x : TileSt) : Option Nat :=
  ((List.range 64).map fun i => (x.nextSeq + i) % 64).find? fun q => !(x.invs.any fun i => i.1 == q)

/-- Invalidations sent to every tile that the sharer filter records for the line, and the filter cleared (R166). Answers the
numbers that wait for an acknowledgement: the SEQ of one in flight, a number from 64 of one that waits for a free SEQ. -/
def State.invalidate (s : State) (t line : Nat) : List Nat × State :=
  let shs := (tget [] s.sharers (8192 * t + line)).filter (· ≠ t)
  let s := { s with sharers := tput [] s.sharers (8192 * t + line) [] }
  shs.foldl (fun (acc : List Nat × State) sh =>
    let (l, s) := acc
    match (s.tile t).freeSeq with
    | some q =>
      let s := s.modTile t fun x => { x with nextSeq := (q + 1) % 64, invs := x.invs ++ [(q, line)] }
      (l ++ [q], s.sendInv t q line sh)
    | none =>
      let n := (s.tile t).invHold.foldl (fun m h => max m h.1) 63 + 1
      (l ++ [n], s.modTile t fun x => { x with invs := x.invs ++ [(n, line)], invHold := x.invHold ++ [(n, line, sh)] }))
    ([], s)

/-- A write to a tile store: its bytes, the flip, and the invalidations it causes (R166, R270). -/
def State.writeStore (s : State) (t : Nat) (l : List (Nat × Byte × Bool)) : List Nat × State :=
  let s := s.storeBytes t l
  ((l.map fun x => x.1 / 64).dedup).foldl (fun (acc : List Nat × State) line =>
    let (q, s) := acc.2.invalidate t line
    (acc.1 ++ q, s)) ([], s)

end Sys2Proof.Machine
end

