-- ==== Sys2Proof/Machine/QueueOps.lean ====
section
/-! DEFINITION. The queue engine (chapter "Hardware queues"): framing, banks, locks, drop, flush, watermarks. Every producer
and consumer goes through `pushWord` and `popWord`. -/

namespace Sys2Proof.Machine

open Sys2Proof

def queErr : Fld := ⟨.QUE_CFG, 60, 60⟩
def queWmev : Fld := ⟨.QUE_CFG, 59, 59⟩
def quePinj : Fld := ⟨.QUE_CFG, 58, 58⟩
def queBsz : Fld := ⟨.QUE_CFG, 57, 54⟩
def queBase : Fld := ⟨.QUE_CFG, 53, 36⟩
def queCut : Fld := ⟨.QUE_CFG, 35, 24⟩
def queState : Fld := ⟨.QUE_STATUS, 31, 30⟩
def queAbove : Fld := ⟨.QUE_STATUS, 29, 29⟩
def queCnt : Fld := ⟨.QUE_WMEV, 15, 8⟩
def queCrossed : Fld := ⟨.QUE_WMEV, 1, 1⟩
def queHigh : Fld := ⟨.QUE_WM_HIGH, 15, 0⟩
def queLow : Fld := ⟨.QUE_WM_LOW, 15, 0⟩

/-- STATE is OPEN, or DRAINING (R229). -/
def State.qOpen (s : State) (q : Nat) : Bool := s.fld queState q = 1
def State.qDraining (s : State) (q : Nat) : Bool := s.fld queState q = 2

/-- Words in one bank (R229). -/
def State.bankSize (s : State) (q : Nat) : Nat := 2 ^ (s.fld queBsz q + 4)

def Queue.fill (x : Queue) : List Ent := if x.fill1 then x.bank1 else x.bank0
def Queue.drain (x : Queue) : List Ent := if x.fill1 then x.bank0 else x.bank1
def Queue.setFill (x : Queue) (l : List Ent) : Queue := if x.fill1 then { x with bank1 := l } else { x with bank0 := l }
def Queue.setDrain (x : Queue) (l : List Ent) : Queue := if x.fill1 then { x with bank0 := l } else { x with bank1 := l }

/-- The words behind the draining bank: the filling bank, then released words it has no room for. -/
def Queue.tail (x : Queue) : List Ent := x.fill ++ x.rel

/-- The words behind the draining bank replaced: the first `n` lie in the filling bank, the others wait for it. -/
def Queue.setTail (n : Nat) (x : Queue) (l : List Ent) : Queue := { x.setFill (l.take n) with rel := l.drop n }

/-- The queue's words in the order in which they leave it. -/
def Queue.words (x : Queue) : List Ent := x.drain ++ x.tail

/-- Every word that occupies bank space (R240, R241, R250). -/
def Queue.all (x : Queue) : List Ent := x.bank0 ++ x.bank1 ++ x.rel ++ x.late ++ x.staged.map (·.2)

/-- The level: the words in the two banks, staged words and a waiting truncation word (R250). -/
def Queue.level (x : Queue) : Nat := x.all.length + b2n x.truncWait

/-- The open item of the lock's holder has its words among the visible ones: it is neither staged, nor skipped, nor being
dropped. -/
def Queue.openItem (x : Queue) : Bool :=
  x.ilock.isSome && x.fl.isNone && !x.dropping && (!x.skip || x.truncWait)

/-! ### Pool words (R226) -/

def wordBits (w : QWord) : Nat := w.data.toNat + 2 ^ 32 * b2n w.sop + 2 ^ 33 * b2n w.eop + 2 ^ 34 * b2n w.psn

/-- Odd number of ones in the low `n` bits. -/
def oddOnes : Nat → Nat → Bool
  | 0, _ => false
  | n + 1, v => (v % 2 == 1) ^^ oddOnes n (v / 2)

/-- A word with its parity bit set so that the 36 bits hold an even number of ones (R226). -/
def mkWord (data : Word) (sop eop psn : Bool) : QWord :=
  let w : QWord := { data := data, sop := sop, eop := eop, psn := psn, par := false }
  { w with par := oddOnes 35 (wordBits w) }

def parityBad (w : QWord) : Bool := oddOnes 35 (wordBits w) != w.par
def encodeWord (w : QWord) : BitVec 36 := BitVec.ofNat 36 ((wordBits w) + 2 ^ 35 * b2n w.par)
def decodeWord (b : BitVec 36) : QWord :=
  { data := b.setWidth 32, sop := b.getLsbD 32, eop := b.getLsbD 33, psn := b.getLsbD 34, par := b.getLsbD 35 }

/-- The truncation word (R227). -/
def truncWord : QWord := mkWord 0#32 false true true

def poolKey (f i : Nat) : Nat := f * 262144 + i % 262144
def State.poolWord (s : State) (f i : Nat) : QWord := decodeWord (tget 0#36 s.pool (poolKey f i))
def State.setPool (s : State) (f i : Nat) (w : QWord) : State :=
  { s with pool := tput 0#36 s.pool (poolKey f i) (encodeWord w) }

/-- The stored word of an entry of queue `q`. -/
def State.entWord (s : State) (q : Nat) (e : Ent) : QWord := s.poolWord (q / 512) e.pos
def State.entEop (s : State) (q : Nat) (e : Ent) : Bool := (s.entWord q e).eop

/-! ### Watermarks (R251, R252) -/

/-- ABOVE after an operation, with CROSSED, CNT and event 0x2101 (R251, R252). -/
def State.qEval (s : State) (q : Nat) : State :=
  let lvl := (s.queue q).level
  let h := s.fld queHigh q
  let l := s.fld queLow q
  let old := s.flag queAbove q
  let new := if h = 0 ∨ h ≤ l then false else if h ≤ lvl then true else if lvl ≤ l then false else old
  if new = old then s
  else
    let s := ((s.setFld queAbove q (b2n new)).setFld queCrossed q 1).bumpFld queCnt q
    if new ∧ s.flag queWmev q then s.raise 0x2101 3 q 0 else s

/-! ### Room and banks (R238 to R241) -/

/-- The filling bank is full of words: a swap and a pop do not treat staged words as present (R238, R239, R241). -/
def State.bankFull (s : State) (q : Nat) : Bool := decide (s.bankSize q ≤ (s.queue q).fill.length)

/-- The filling bank takes no further word: it is full, or staged words take the space (R241). -/
def State.fillFull (s : State) (q : Nat) : Bool :=
  s.bankFull q || decide (2 * s.bankSize q ≤ (s.queue q).all.length)

/-- The queue is full for a producer (R240). -/
def State.qFull (s : State) (q : Nat) : Bool :=
  let x := s.queue q
  s.fillFull q && (x.drain ≠ [] || x.fill = [] || decide (2 * s.bankSize q ≤ x.all.length))

/-- Words of the item whose first word is in the list and whose end is not, counted from that first word. -/
def State.openCount (s : State) (q : Nat) (l : List Ent) : Nat :=
  l.foldl (fun n e => let w := s.entWord q e; if w.sop then 1 else if n = 0 then 0 else n + 1) 0

/-- The conditions of a bank swap (R238). -/
def State.swapReady (s : State) (q : Nat) : Bool :=
  let x := s.queue q
  x.drain = [] && x.fill ≠ [] &&
    (x.fill.any (s.entEop q) || x.olock.isSome ||
     (decide (s.fld queCut q ≠ 0) && decide (s.fld queCut q ≤ s.openCount q x.fill)) || s.bankFull q)

/-- The banks swapped: producers write into the other bank. Whether the swapped bank was full is kept for R239. -/
def State.swap (s : State) (q : Nat) : State :=
  let full := s.bankFull q
  s.modQueue q fun x =>
    let y := { x with fill1 := !x.fill1, drainFull := full }
    y.setTail (s.bankSize q) y.tail

/-- The pool word a new entry takes: the first free one of the filling bank, then of the other (open points: log 37). -/
def State.freePos (s : State) (q : Nat) : Nat :=
  let x := s.queue q
  let n := s.bankSize q
  let base := s.fld queBase q
  let used := x.all.map (·.pos)
  let b0 := if x.fill1 then base + n else base
  let b1 := if x.fill1 then base else base + n
  match (List.range n).find? fun i => !used.contains (b0 + i) with
  | some i => b0 + i
  | none => match (List.range n).find? fun i => !used.contains (b1 + i) with
    | some i => b1 + i
    | none => b0

/-- A word stored at the end of the filling bank, or staged for flow entry `fl` (R214, R241). A word of an item that is
being dropped is discarded and counted (R243). -/
def State.storeWord (s : State) (q : Nat) (a : Agent) (fl : Option Nat) (w : QWord) : State :=
  let x := s.queue q
  if x.dropping ∧ fl = none then
    let s := s.bump .QUE_DROP_WORDS (q / 512)
    if w.eop then s.modQueue q fun x => { x with dropping := false, olock := none } else s
  else
    let s := if s.fillFull q ∧ x.drain = [] ∧ x.fill ≠ [] then s.swap q else s
    let pos := s.freePos q
    let s := s.setPool (q / 512) pos w
    let e : Ent := { pos := pos, prod := a, credited := false }
    s.modQueue q fun x => match fl with
      | some i => { x with staged := x.staged ++ [(i, e)] }
      | none => x.setTail (s.bankSize q) (x.tail ++ [e])

/-- Released items that waited for the end of another producer's item take their place behind it (R234, R241). -/
def State.settleLate (s : State) (q : Nat) : State :=
  if (s.queue q).openItem then s
  else s.modQueue q fun x => { x.setTail (s.bankSize q) (x.tail ++ x.late) with late := [] }

/-- A truncation word ends the open item of the lock's holder, in the flow entry that the item is staged for; it waits while
the queue is full (R227). -/
def State.truncate (s : State) (q : Nat) : State :=
  let x := s.queue q
  match x.ilock with
  | none => s
  | some a =>
    if s.qFull q ∧ (!x.dropping ∨ x.fl.isSome) then s.modQueue q fun x => { x with truncWait := true }
    else
      ((s.storeWord q a x.fl truncWord).modQueue q fun x =>
        { x with truncWait := false, itemLen := 0, fl := none, ilock := if x.skip then x.ilock else none }).settleLate q

/-- A framing correction counted, and event 0x2202 at most once per queue until QUE_FRAME_ERR is read (R228). -/
def State.frameErr (s : State) (q : Nat) : State :=
  (s.bump .QUE_FRAME_ERR (q / 512)).raiseOnceK .QUE_FRAME_ERR (q / 512) (q + 1) 0x2202 3 q 0

/-- One word of producer `a` offered to queue `q` (R228, R234, R240, R246, R255); `fl` names the open flow entry whose
words are staged; an item stays in the entry that it was opened for. Answers whether the queue took the word (open points: log 22). -/
def State.pushWord (s : State) (q : Nat) (a : Agent) (fl : Option Nat) (data : Word) (sop eop psn : Bool) :
    Bool × State :=
  let x := s.queue q
  if x.skips.contains a then
    let s := s.bump .QUE_FLUSH_SKIP (q / 512)
    (true, if eop then s.modQueue q fun x => { x with skips := x.skips.filter (· ≠ a) } else s)
  else if x.skip ∧ x.ilock = some a then
    let s := s.bump .QUE_FLUSH_SKIP (q / 512)
    (true, if eop then s.modQueue q fun x => { x with skip := false, ilock := none } else s)
  else if !(s.qOpen q ∨ (s.qDraining q ∧ x.ilock = some a)) then (false, s)
  else if x.ilock.isSome ∧ x.ilock ≠ some a then (false, s)
  else if x.truncWait then (false, s)
  else
    let mid := x.ilock = some a
    let s := if sop ∧ mid then (s.frameErr q).truncate q else s
    let x := s.queue q
    let mid := x.ilock = some a
    if x.truncWait ∨ (s.qFull q ∧ !x.dropping) ∨ !(s.qOpen q ∨ mid) then (false, s.qEval q)
    else
      let s := if !sop ∧ !mid then s.frameErr q else s
      let n := (if mid then x.itemLen else 0) + 1
      let fl := if mid then x.fl else fl
      let long := decide (n = 4096) && !eop
      let s := if long then s.frameErr q else s
      let w := mkWord data (sop || !mid) (eop || long) (psn || long)
      let w := if s.flag quePinj q then { w with par := !w.par } else w
      let s := s.setFld quePinj q 0
      let s := s.storeWord q a fl w
      let s := s.modQueue q fun x =>
        if eop ∨ long then
          { x with ilock := none, fl := none, itemLen := 0, skips := if long then x.skips ++ [a] else x.skips }
        else { x with ilock := some a, fl := fl, itemLen := n }
      (true, (s.settleLate q).qEval q)

/-- A truncation word that waited is stored (R227). -/
def State.storeTrunc (s : State) (q : Nat) : State :=
  ((s.modQueue q fun x => { x with truncWait := false }).truncate q).qEval q

/-! ### Consumers (R235, R239, R242, R244) -/

/-- The head item may be started: its end is stored, or CUT of its words are, or a bank has filled since (R239) (open points:
log 22). -/
def State.startable (s : State) (q : Nat) : Bool :=
  let l := (s.queue q).words
  let item := l.takeWhile fun e => !s.entEop q e
  decide (item.length < l.length) || s.bankFull q || (s.queue q).drainFull ||
    (decide (s.fld queCut q ≠ 0) && decide (s.fld queCut q ≤ item.length))

/-- A word is poppable for consumer `a` (R235, R238, R239, R242). -/
def State.poppable (s : State) (q : Nat) (a : Agent) : Bool :=
  let x := s.queue q
  x.drain ≠ [] && !x.dropping &&
    (match x.olock with
     | some b => decide (b = a)
     | none => s.startable q)

/-- A stored word read, with its parity checked (R244): the word as delivered. -/
def State.readPool (s : State) (q pos : Nat) : QWord × State :=
  let w := s.poolWord (q / 512) pos
  if parityBad w then ({ w with psn := true }, (s.bump .QUE_PAR_ERR (q / 512)).raise 0x2201 3 q pos) else (w, s)

/-- The next word taken by consumer `a`; none when none is poppable for it. -/
def State.popWord (s : State) (q : Nat) (a : Agent) : Option (QWord × State) :=
  if s.poppable q a then
    match (s.queue q).drain with
    | [] => none
    | e :: rest =>
      let (w, s) := s.readPool q e.pos
      let s := s.modQueue q fun x => { x.setDrain rest with olock := if w.eop then none else some a }
      some (w, s.qEval q)
  else none

/-- The rest of the item at the head discarded and counted; later words too until its end is stored (R243). -/
def State.dropItem (s : State) (q : Nat) : State :=
  let x := s.queue q
  let l := x.words
  let item := l.takeWhile fun e => !s.entEop q e
  let ended := decide (item.length < l.length)
  let n := if ended then item.length + 1 else item.length
  let s := s.bumpBy .QUE_DROP_WORDS (q / 512) n
  let s := s.modQueue q fun x =>
    let d := x.drain
    let x := (x.setDrain (d.drop n)).setTail (s.bankSize q) (x.tail.drop (n - d.length))
    if ended then { x with olock := none } else { x with dropping := true }
  (s.settleLate q).qEval q

/-- A drop by consumer `a`: no effect unless it holds the output lock (R243). -/
def State.dropBy (s : State) (q : Nat) (a : Agent) : State :=
  if (s.queue q).olock = some a ∧ !(s.queue q).dropping then s.dropItem q else s

/-! ### Flush, disable, and agents that stop (R246 to R249, R255) -/

/-- A flush: words discarded, and the queue after it (R246) (open points: log 37). -/
def State.flush (s : State) (q : Nat) : Nat × State :=
  let x := s.queue q
  let n := x.level
  let s := s.bumpBy .QUE_DROP_WORDS (q / 512) n
  let needTrunc := x.olock.isSome && !x.dropping
  let skip := x.ilock.isSome && (!x.truncWait || x.skip)
  let s := s.modQueue q fun x => { x with
    bank0 := [], bank1 := [], rel := [], late := [], staged := [], drainFull := false, fl := none, itemLen := 0
    truncWait := false, skip := skip, ilock := if skip then x.ilock else none
    dropping := false, olock := if needTrunc then x.olock else none }
  let s := match needTrunc, x.olock with
    | true, some a =>
      let base := s.fld queBase q + (if x.fill1 then 0 else s.bankSize q)
      let s := s.setPool (q / 512) base truncWord
      s.modQueue q fun x => x.setDrain [{ pos := base, prod := a, credited := true }]
    | _, _ => s
  (n, s.qEval q)

/-- Every word of the queue poisoned, parity kept valid or invalid as it was (R255 ABORT). -/
def State.poisonAll (s : State) (q : Nat) : State :=
  let x := s.queue q
  x.all.foldl (fun s e =>
    let w := s.poolWord (q / 512) e.pos
    s.setPool (q / 512) e.pos { w with psn := true, par := if w.psn then w.par else !w.par }) s

/-- The ABORT of a queue: poison, the locked producer truncated and skipped (R255). -/
def State.abortQueue (s : State) (q : Nat) : State :=
  let s := (s.poisonAll q).setFld queState q 2
  let x := s.queue q
  if x.ilock.isSome ∧ !x.skip then
    (((s.modQueue q fun x => { x with skip := true }).truncate q)).qEval q
  else s.qEval q

/-- A DRAINING queue is empty and no lock is held (R255). -/
def State.drainReady (s : State) (q : Nat) : Bool :=
  let x := s.queue q
  s.qDraining q && x.level = 0 && x.ilock.isNone && x.olock.isNone

/-- A producer has stopped mid-item: truncation word, event 0x2203, lock released (R247, R249) (open points: log 37). -/
def State.endProducer (s : State) (q : Nat) (a : Agent) : State :=
  let x := s.queue q
  let s := s.modQueue q fun x => { x with skips := x.skips.filter (· ≠ a) }
  if x.ilock = some a then
    if x.skip then
      s.modQueue q fun x => { x with skip := false, ilock := if x.truncWait then x.ilock else none }
    else if x.truncWait then s
    else ((s.truncate q).qEval q).raise 0x2203 3 q 0
  else s

/-- A consumer has stopped mid-item: the rest of its item is dropped (R248). -/
def State.endConsumer (s : State) (q : Nat) (a : Agent) : State := s.dropBy q a

/-- Every lock of an agent given up, queue by queue in number order (R247, R248). -/
def State.endAgent (s : State) (a : Agent) : State :=
  (s.queues.map (·.1)).foldl (fun s q => (s.endProducer q a).endConsumer q a) s

/-- The staged words of a flow entry discarded from its output queue, with a truncation word that waits to end them (R215)
(open points: log 37). -/
def State.dropStaged (s : State) (q i : Nat) : State :=
  (s.modQueue q fun x =>
    let x := { x with staged := x.staged.filter (·.1 ≠ i) }
    if x.fl = some i then { x with fl := none, ilock := none, itemLen := 0, truncWait := false } else x).qEval q

/-- Released words placed among the visible ones: behind every poppable item and never inside an item that another producer
has open. They go before an open item that begins behind the draining bank, and wait for the end of any other
(R234, R241). -/
def State.placeReleased (s : State) (q : Nat) (l : List Ent) (x : Queue) : Queue :=
  let n := s.bankSize q
  let own := (x.tail.reverse.takeWhile fun e => !s.entEop q e).reverse
  if !x.openItem then x.setTail n (x.tail ++ l)
  else if own.head?.any fun e => (s.entWord q e).sop then
    x.setTail n (x.tail.take (x.tail.length - own.length) ++ l ++ own)
  else { x with late := x.late ++ l }

/-- The staged words of a flow entry made visible, in push order (R214, R241); an item of it whose truncation word still
waits stays open (open points: log 37). -/
def State.releaseStaged (s : State) (q i : Nat) : State :=
  let l := ((s.queue q).staged.filter (·.1 = i)).map (·.2)
  (s.modQueue q fun x =>
    let y := s.placeReleased q l { x with staged := x.staged.filter (·.1 ≠ i) }
    { y with fl := if y.fl = some i then none else y.fl }).qEval q

/-! ### Items (R191, R229) -/

/-- Complete items present: their end words (R229). -/
def State.itemEnds (s : State) (q : Nat) : List Ent := (s.queue q).words.filter (s.entEop q)

/-- Complete items not yet credited to a task (R216). -/
def State.uncredited (s : State) (q : Nat) : Nat := ((s.itemEnds q).filter fun e => !e.credited).length

/-- The oldest `n` uncredited items marked credited, over a bank's entries: the rest of `n` and the entries. -/
def creditList (eop : Ent → Bool) : Nat → List Ent → Nat × List Ent
  | n, [] => (n, [])
  | 0, l => (0, l)
  | n + 1, e :: l =>
    if eop e && !e.credited then
      let (m, l') := creditList eop n l
      (m, { e with credited := true } :: l')
    else
      let (m, l') := creditList eop (n + 1) l
      (m, e :: l')

def State.credit (s : State) (q n : Nat) : State :=
  let x := s.queue q
  let (m, d) := creditList (s.entEop q) n x.drain
  let (_, f) := creditList (s.entEop q) m x.tail
  s.setQueue q ((x.setDrain d).setTail (s.bankSize q) f)

/-- The newest credited item of a bank uncredited again; none when it has none. -/
def uncreditLast (eop : Ent → Bool) (l : List Ent) : Option (List Ent) :=
  (l.reverse.findIdx? fun e => eop e && e.credited).map fun i =>
    l.modify (l.length - 1 - i) fun e => { e with credited := false }

/-- One credit of the queue given back: its newest credited item waits for one again (R216). -/
def State.uncredit (s : State) (q : Nat) : State :=
  s.modQueue q fun x => match uncreditLast (s.entEop q) x.tail, uncreditLast (s.entEop q) x.drain with
    | some f, _ => x.setTail (s.bankSize q) f
    | none, some d => x.setDrain d
    | none, none => x

/-- Every item of the queue counts as uncredited again, the oldest `n` as credited (TASK_ARM, R222). -/
def State.recredit (s : State) (q n : Nat) : State :=
  let clear := fun (l : List Ent) => l.map fun (e : Ent) => { e with credited := false }
  (s.modQueue q fun x => { x with bank0 := clear x.bank0, bank1 := clear x.bank1, rel := clear x.rel }).credit q n

/-! ### Enabling (R230, R231) -/

/-- The pool range of a queue, first word and words. -/
def State.qRange (s : State) (q : Nat) : Nat × Nat := (s.fld queBase q, 2 * s.bankSize q)

/-- The queue of floor `f` that holds pool word `i`; local queue 0 where none does (open points: log 95). -/
def State.poolOwner (s : State) (f i : Nat) : Nat :=
  512 * f + ((List.range 512).find? fun n =>
    let (b, m) := s.qRange (512 * f + n)
    decide (s.fld queState (512 * f + n) ≠ 0 ∧ b ≤ i ∧ i < b + m)).getD 0

/-- A write of EN = 1 is refused: BSZ, alignment, or an overlap with a queue that is not DISABLED (R230). -/
def State.enableRefused (s : State) (q : Nat) : Bool :=
  let (b, n) := s.qRange q
  decide (10 < s.fld queBsz q) || decide (b % n ≠ 0) ||
    ((List.range 512).any fun i =>
      let o := q / 512 * 512 + i
      decide (o ≠ q) && decide (s.fld queState o ≠ 0) &&
        (let (b', n') := s.qRange o; decide (b < b' + n' ∧ b' < b + n)))

/-- A write of EN = 1 to a queue (R230, R231). -/
def State.enableQueue (s : State) (q : Nat) : State :=
  if s.fld queState q = 1 then s
  else if s.fld queState q = 2 ∨ s.enableRefused q then s.setFld queErr q 1
  else
    let s := (((s.setFld queErr q 0).setFld queState q 1).setFld queAbove q 0).setQueue q .empty
    s.qEval q

/-- DRAINING queue becomes DISABLED (R255). -/
def State.closeQueue (s : State) (q : Nat) : State :=
  ((s.setFld queState q 0).setFld queAbove q 0).setQueue q .empty

end Sys2Proof.Machine
end

