-- ==== Sys2Proof/Machine/SchedOps.lean ====
section
/-! DEFINITION. Tasks, ready lists, delay lists, flows and the end of an activation (chapter "Tasks, batches and the hardware
scheduler"); slot states, guard entry and exit, and context faults (chapter "Contexts, banks and the frame stack"). -/

namespace Sys2Proof.Machine

open Sys2Proof

/-! ### Task words (R189) -/

/-- A field of a task word. -/
structure TFld where
  w : Nat
  hi : Nat
  lo : Nat
  deriving DecidableEq, Repr

def tkImg : TFld := ⟨0, 63, 48⟩
def tkPri : TFld := ⟨0, 47, 44⟩
def tkRoam : TFld := ⟨0, 43, 43⟩
def tkNopre : TFld := ⟨0, 42, 42⟩
def tkMaxpar : TFld := ⟨0, 41, 38⟩
def tkTqne : TFld := ⟨0, 37, 37⟩
def tkTdly : TFld := ⟨0, 36, 36⟩
def tkTstep : TFld := ⟨0, 35, 35⟩
def tkTsig : TFld := ⟨0, 34, 34⟩
def tkRearm : TFld := ⟨0, 33, 33⟩
def tkFlowen : TFld := ⟨0, 32, 32⟩
def tkPool : TFld := ⟨0, 31, 16⟩
def tkRoamf : TFld := ⟨1, 63, 32⟩
def tkTq : TFld := ⟨1, 31, 23⟩
def tkFlow : TFld := ⟨1, 22, 17⟩
def tkBatch : TFld := ⟨1, 16, 9⟩
def tkDly : TFld := ⟨2, 63, 48⟩
def tkState : TFld := ⟨4, 63, 60⟩
def tkPend : TFld := ⟨4, 59, 52⟩
def tkRun : TFld := ⟨4, 51, 48⟩
def tkLtv : TFld := ⟨4, 47, 47⟩
def tkLfloor : TFld := ⟨4, 46, 42⟩
def tkLtile : TFld := ⟨4, 41, 38⟩
def tkDlyw : TFld := ⟨4, 37, 37⟩
def tkDone : TFld := ⟨5, 63, 32⟩
def tkDisp : TFld := ⟨5, 31, 0⟩

def State.task (s : State) (k : Nat) : TaskSt := tget .init s.tasks k
def State.setTask (s : State) (k : Nat) (x : TaskSt) : State := { s with tasks := tput .init s.tasks k x }
def State.tf (s : State) (f : TFld) (k : Nat) : Nat := bits ((s.task k).w.getD f.w 0#64).toNat f.hi f.lo
def State.setTf (s : State) (f : TFld) (k v : Nat) : State :=
  let x := s.task k
  s.setTask k { x with w := x.w.set f.w (BitVec.ofNat 64 (putBits (x.w.getD f.w 0#64).toNat f.hi f.lo v)) }
def State.setTaskWord (s : State) (k i v : Nat) : State :=
  let x := s.task k
  s.setTask k { x with w := x.w.set i (BitVec.ofNat 64 v) }

/-- Home floor of a task (R186). -/
def homeFloor (k : Nat) : Nat := k / 1024
/-- The task's trigger queue as a queue number (R189). -/
def State.tqOf (s : State) (k : Nat) : Nat := homeFloor k * 512 + s.tf tkTq k
/-- MAXPAR, where 0 counts as 1 (R188). -/
def State.maxpar (s : State) (k : Nat) : Nat := if s.tf tkMaxpar k = 0 then 1 else s.tf tkMaxpar k

/-! ### Ready list (R193) -/

/-- An entry put behind every entry of its priority or a higher one. -/
def readyTail (p : Nat) (r : Ready) : List (Nat × Ready) → List (Nat × Ready)
  | [] => [(p, r)]
  | (p', r') :: l => if p' ≤ p then (p', r') :: readyTail p r l else (p, r) :: (p', r') :: l

/-- An entry put before every entry of its priority. -/
def readyHead (p : Nat) (r : Ready) : List (Nat × Ready) → List (Nat × Ready)
  | [] => [(p, r)]
  | (p', r') :: l => if p' < p then (p', r') :: readyHead p r l else (p, r) :: (p', r') :: l

def State.dropReady (s : State) (f : Nat) (r : Ready) : State :=
  s.modFloor f fun x => { x with ready := x.ready.filter (·.2 ≠ r) }

/-- The task's new entry present exactly while STATE is ARMED or DRAINING, PEND > 0 and RUN < MAXPAR (R193). -/
def State.fixNew (s : State) (k : Nat) : State :=
  let f := homeFloor k
  let want := (s.tf tkState k = 1 || s.tf tkState k = 2) && s.tf tkPend k > 0 && s.tf tkRun k < s.maxpar k
  let have_ := (s.floor f).ready.any (·.2 = .new k)
  if want ∧ !have_ then s.modFloor f fun x => { x with ready := readyTail (s.tf tkPri k) (.new k) x.ready }
  else if !want ∧ have_ then s.dropReady f (.new k)
  else s

/-- PEND set; the ACT_SATURATED mark clears below 255 (R217). -/
def State.setPend (s : State) (k n : Nat) : State :=
  let s := s.setTf tkPend k n
  let x := s.task k
  (if n < 255 then s.setTask k { x with satRaised := false } else s).fixNew k

/-- One activation from TDLY, TSTEP or TSIG (R190, R191, R217, R219). -/
def State.addOne (s : State) (k : Nat) : State :=
  let st := s.tf tkState k
  let f := homeFloor k
  if st = 1 ∨ st = 4 then
    if s.tf tkPend k < 255 then s.setPend k (s.tf tkPend k + 1)
    else
      let s := s.bump .SCH_ACT_SAT f
      let x := s.task k
      if x.satRaised then s else (s.setTask k { x with satRaised := true }).raise 0x3101 4 k 0
  else if st = 3 then s.bump .SCH_READY_LOST f
  else s

def State.addN (s : State) (k : Nat) : Nat → State
  | 0 => s
  | n + 1 => (s.addOne k).addN k n

/-- Consumer credits taken for the oldest uncredited items while PEND is below 255 (R191, R216). -/
def State.takeCredits (s : State) (k n : Nat) : State :=
  let st := s.tf tkState k
  if (st = 1 ∨ st = 4) ∧ s.tf tkTqne k = 1 then
    let m := min n (min (255 - s.tf tkPend k) (s.uncredited (s.tqOf k)))
    if m = 0 then s else (s.credit (s.tqOf k) m).setPend k (s.tf tkPend k + m)
  else s

/-! ### Delay list (R208 to R210) -/

/-- The tick of a floor in ns (R208). -/
def State.tickLen (s : State) (f : Nat) : Nat := 2 ^ bits (s.reg .SCH_CFG f) 4 0 * 8

/-- Insertion by expiry, behind equal ones. -/
def delayIns (e : Nat) (u : DlyUser) : List (Nat × DlyUser) → List (Nat × DlyUser)
  | [] => [(e, u)]
  | (e', u') :: l => if e' ≤ e then (e', u') :: delayIns e u l else (e, u) :: (e', u') :: l

/-- An entry of `n` ticks taken now (R209). -/
def State.takeDelay (s : State) (f : Nat) (u : DlyUser) (n : Nat) : State :=
  let l := s.tickLen f
  s.modFloor f fun x => { x with delay := delayIns ((s.tim.now / l + n) * l) u x.delay }

/-- A wait on a full list: counted, and event 0x3501 at the first since the list had a free entry (R210). -/
def State.waitDelay (s : State) (f : Nat) (u : DlyUser) (n : Nat) : State :=
  let s := s.bump .SCH_DLY_FULL f
  let s := if (s.floor f).dlyRaised then s
    else (s.modFloor f fun x => { x with dlyRaised := true }).raise 0x3501 2 f 0
  s.modFloor f fun x => { x with dlyWait := x.dlyWait ++ [(u, n)] }

/-- A TDLY arming (R191, R210); it waits behind an older waiter. -/
def State.armDelay (s : State) (k : Nat) : State :=
  let f := homeFloor k
  if s.tf tkTdly k = 0 then s
  else if (s.floor f).delay.length < 256 ∧ (s.floor f).dlyWait = [] then s.takeDelay f (.task k) (s.tf tkDly k)
  else (s.waitDelay f (.task k) (s.tf tkDly k)).setTf tkDlyw k 1

/-! ### Slots and tiles (R118 to R127, R144) -/

def ctxPendB : Fld := ⟨.TIL_CTX, 17, 17⟩
def ctxPendA : Fld := ⟨.TIL_CTX, 16, 16⟩
def ctxRetBV : Fld := ⟨.TIL_CTX, 15, 15⟩
def ctxRetB : Fld := ⟨.TIL_CTX, 14, 12⟩
def ctxRetAV : Fld := ⟨.TIL_CTX, 11, 11⟩
def ctxRetA : Fld := ⟨.TIL_CTX, 10, 8⟩
def ctxGB : Fld := ⟨.TIL_CTX, 6, 6⟩
def ctxGA : Fld := ⟨.TIL_CTX, 5, 5⟩
def ctxActV : Fld := ⟨.TIL_CTX, 4, 4⟩
def ctxAct : Fld := ⟨.TIL_CTX, 2, 0⟩
def gcfgBen : Fld := ⟨.TIL_GCFG, 7, 7⟩
def gcfgB : Fld := ⟨.TIL_GCFG, 6, 4⟩
def gcfgAen : Fld := ⟨.TIL_GCFG, 3, 3⟩
def gcfgA : Fld := ⟨.TIL_GCFG, 2, 0⟩
def gcauseFslot : Fld := ⟨.TIL_GCAUSE, 18, 16⟩

/-- Slot states of R118. -/
def stEmpty : Nat := 0
def stLoading : Nat := 1
def stIdle : Nat := 2
def stActive : Nat := 3
def stSuspended : Nat := 4
def stFaulted : Nat := 5
def stStopped : Nat := 6

def State.sstate (s : State) (t k : Nat) : Nat := s.fld slotState (8 * t + k)
def State.setSstate (s : State) (t k v : Nat) : State := s.setFld slotState (8 * t + k) v

/-- The slot the tile runs (R144). -/
def State.active (s : State) (t : Nat) : Option Nat := if s.flag ctxActV t then some (s.fld ctxAct t) else none

/-- The slot of guard `g` (0 A, 1 B), when enabled (R114). -/
def State.guardSlot (s : State) (t g : Nat) : Option Nat :=
  if g = 0 then (if s.flag gcfgAen t then some (s.fld gcfgA t) else none)
  else (if s.flag gcfgBen t then some (s.fld gcfgB t) else none)

/-- Which guard slot `k` is: 0 A, 1 B. -/
def State.guardOf (s : State) (t k : Nat) : Option Nat :=
  if s.guardSlot t 0 = some k then some 0 else if s.guardSlot t 1 = some k then some 1 else none

def State.pendOf (s : State) (t g : Nat) : Bool := s.flag (if g = 0 then ctxPendA else ctxPendB) t
def State.setPendOf (s : State) (t g : Nat) (b : Bool) : State :=
  s.setFld (if g = 0 then ctxPendA else ctxPendB) t (b2n b)
def State.retOf (s : State) (t g : Nat) : Option Nat :=
  if g = 0 then (if s.flag ctxRetAV t then some (s.fld ctxRetA t) else none)
  else (if s.flag ctxRetBV t then some (s.fld ctxRetB t) else none)
def State.setRet (s : State) (t g : Nat) (r : Option Nat) : State :=
  let (v, n) := if g = 0 then (ctxRetAV, ctxRetA) else (ctxRetBV, ctxRetB)
  match r with
  | some k => (s.setFld v t 1).setFld n t k
  | none => (s.setFld v t 0).setFld n t 0

def trnNsp : Fld := ⟨.TRN_FLOOR, 63, 62⟩
def trnSp1 : Fld := ⟨.TRN_FLOOR, 61, 58⟩
def trnSp0 : Fld := ⟨.TRN_FLOOR, 57, 54⟩

/-- State of a local tile under R424: 0 WORK, 1 SPARE, 2 EVAC, 3 RETIRED. -/
def State.tstate (s : State) (t : Nat) : Nat := bits (s.reg .TRN_FLOOR (t / 16)) (2 * (t % 16) + 1) (2 * (t % 16))

/-- The tile runs slot `k` (R118). -/
def State.runSlot (s : State) (t k : Nat) : State :=
  let s := ((s.setFld ctxActV t 1).setFld ctxAct t k).setSstate t k stActive
  let s := (s.setFld ctxGA t (b2n (s.guardOf t k == some 0))).setFld ctxGB t (b2n (s.guardOf t k == some 1))
  s.modSlot t k fun x => { x with susp := .none }

/-- The tile has no active slot and is free for dispatch. -/
def State.idleTile (s : State) (t : Nat) : State :=
  (((s.setFld ctxActV t 0).setFld ctxAct t 0).setFld ctxGA t 0).setFld ctxGB t 0

/-- A slot displaced by a switch or a guard entry; its stalled wait for a delay entry is discarded (R121, R210). -/
def State.suspend (s : State) (t k : Nat) (w : Susp) : State :=
  let s := (s.setSstate t k stSuspended).modSlot t k fun x => { x with susp := w }
  let s := s.modTile t fun x => { x with fillWait := if x.fillWait = some k then none else x.fillWait }
  s.modFloor (t / 16) fun x => { x with dlyWait := x.dlyWait.filter (·.1 ≠ .slot t k) }

/-! ### Guard causes (R123 to R127) -/

/-- A cause delivered to guard `g` (R124, R126, R129); none is delivered or recorded while the floor is fenced, loading or
powered down (R123). -/
def State.deliverCause (s0 : State) (t g cause : Nat) : State :=
  let i := 2 * t + g
  let s := if bit (s0.reg .TIL_GCAUSE i) cause then s0.bump .TIL_GOVR i
    else s0.setReg .TIL_GCAUSE i (s0.reg .TIL_GCAUSE i + 2 ^ cause)
  if !s.floorOpen (t / 16) then s0
  else if s.flag ctxStop t then s
  else match s.guardSlot t g with
    | none => s
    | some k => if s.sstate t k = stFaulted then s else s.setPendOf t g true

/-- The guard that takes a cause by the enables of TIL_GEN: A before B (R124). -/
def State.causeGuard (s : State) (t cause : Nat) : Option Nat :=
  if (s.guardSlot t 0).isSome ∧ bit (s.reg .TIL_GEN (2 * t)) cause then some 0
  else if (s.guardSlot t 1).isSome ∧ bit (s.reg .TIL_GEN (2 * t + 1)) cause then some 1
  else none

/-- A slot resumed at a guard exit or a restart (R127, R129). -/
def State.resumeOrIdle (s : State) (t : Nat) (r : Option Nat) : State :=
  match r with
  | some k => if s.sstate t k = stSuspended then (s.idleTile t).runSlot t k else s.idleTile t
  | none => s.idleTile t

/-- The guard slot entered: an IDLE slot at its image's entry point, a SUSPENDED one where it stood (R125). The switch of
R50 is the change of TIL_CTX.ACT. -/
def State.enterGuard (s : State) (t g k : Nat) : State :=
  let s := if s.sstate t k = stIdle then s.modSlot t k fun x => { x with pc := x.entry } else s
  let s := s.modFloor (t / 16) fun x => { x with delay := x.delay.filter (·.2 ≠ .slot t k) }
  ((s.setPendOf t g false).runSlot t k).bump .TIL_GENTRIES t

/-- Guard `g` leaves its slot (R127). -/
def State.guardExit (s : State) (t g : Nat) : State :=
  let ret := s.retOf t g
  match s.guardSlot t g with
  | none => s
  | some k =>
    if s.pendOf t g then s.enterGuard t g k
    else if g = 0 ∧ (s.guardSlot t 1).isSome ∧ ret = s.guardSlot t 1 then
      (s.setRet t 0 none).resumeOrIdle t ret
    else if g = 0 ∧ s.pendOf t 1 then
      match s.guardSlot t 1 with
      | some kb => ((s.setRet t 1 ret).setRet t 0 none).enterGuard t 1 kb
      | none => s.resumeOrIdle t ret
    else (s.setRet t g none).resumeOrIdle t ret

/-! ### The end of an activation (R187, R215, R247, R248) -/

inductive EndKind where
  | done | cancelled | faulted
  deriving DecidableEq, Repr

def flowOq : Fld := ⟨.SCH_FLOW, 62, 54⟩
def flowEn : Fld := ⟨.SCH_FLOW, 63, 63⟩
def flowMax : Fld := ⟨.SCH_FLOW, 53, 44⟩
def flowInuse : Fld := ⟨.SCH_FLOW, 43, 34⟩
def flowRel : Fld := ⟨.SCH_FLOW, 31, 16⟩
def flowSeq : Fld := ⟨.SCH_FLOW, 15, 0⟩

/-- The flow entry of an ended activation: freed when it took no number, with what it had staged, closed, or closed as a hole
(R213 to R215) (open points: log 101). -/
def State.closeFlow (s : State) (f id : Nat) (kind : EndKind) : State :=
  match (s.floor f).seq.find? (·.id = id) with
  | none => s
  | some e =>
    let i := 64 * f + e.flow
    let oq := f * 512 + s.fld flowOq i
    match e.num with
    | none =>
      let s := s.modFloor f fun x => { x with seq := x.seq.filter (·.id ≠ id) }
      (s.setFld flowInuse i (s.fld flowInuse i - 1)).dropStaged oq id
    | some n =>
      let hole := decide (kind ≠ .done)
      let s := s.modFloor f fun x => { x with
        seq := x.seq.map fun y => if y.id = id then { y with closed := true, hole := hole } else y }
      if hole then (s.dropStaged oq id).raise 0x3401 2 f (e.flow + 256 * n) else s

/-- The oldest waiter of the delay list takes an entry that is free (R210). A slot that waited becomes SUSPENDED in its
WAIT; one that has been told to cancel takes none, since its WAIT will end it (R178). -/
def State.grantOne (s0 : State) (f : Nat) : State :=
  let cx := fun (u : DlyUser) => match u with
    | .slot t k => (s0.slot t k).flags.getLsbD 7
    | .task _ => false
  let s := s0.modFloor f fun x => { x with dlyWait := x.dlyWait.filter fun w => !cx w.1 }
  match (s.floor f).dlyWait with
  | [] => if (s.floor f).delay.length < 256 then s.modFloor f fun x => { x with dlyRaised := false } else s
  | (u, n) :: rest =>
    if 256 ≤ (s.floor f).delay.length then s
    else
      let s := (s.modFloor f fun x => { x with dlyWait := rest, dlyRaised := false }).takeDelay f u n
      match u with
      | .task k => s.setTf tkDlyw k 0
      | .slot t k =>
        let s := s.modSlot t k fun x => { x with pc := (x.pc + 4) % 0x80000 }
        let s := s.suspend t k (.waiting .ticks)
        match s.guardOf t k with
        | some g => s.guardExit t g
        | none => s.idleTile t

/-- Free entries of the delay list granted to its waiters, the oldest first (R210). -/
def State.grantUpTo (s : State) (f : Nat) : Nat → State
  | 0 => s
  | n + 1 => (s.grantOne f).grantUpTo f n

def State.grantDelay (s : State) (f : Nat) : State := s.grantUpTo f ((s.floor f).dlyWait.length + 1)

/-- Guard `g` leaves its slot (R127), and a delay entry that its tile gives up goes to the oldest waiter (R210). -/
def State.leaveGuard (s : State) (t g : Nat) : State := (s.guardExit t g).grantDelay (t / 16)

/-- Parked requests of a slot withdrawn from every hub, with the slot's record of them (log 18). -/
def State.dropParked (s : State) (t k : Nat) : State :=
  let mine := fun (p : Pkt) => decide (p.src = t ∧ p.result = k)
  let gone := fun (o : Outst) => s.floors.any fun x => x.2.park.any fun p => mine p && p.tag == o.tag && o.slot == k
  let s' := s.modTile t fun x => { x with outst := x.outst.filter fun o => !gone o }
  (s.floors.map (·.1)).foldl (fun s f => s.modFloor f fun x => { x with park := x.park.filter fun p => !mine p }) s'

/-- What a slot holds of its activation given up: locks (R247, R248), flow entry (R215), resume entry, delay entry
(open points: log 18). -/
def State.leaveSlot (s : State) (t k n : Nat) (kind : EndKind) : State :=
  let fl := (s.slot t k).flow
  let s := s.endAgent (.slot t k)
  let s := match fl with
    | some id => s.closeFlow (homeFloor n) id kind
    | none => s
  let s := s.modTile t fun x => { x with fillWait := if x.fillWait = some k then none else x.fillWait }
  let s := s.dropReady (t / 16) (.resume t k)
  let s := s.dropParked t k
  s.modFloor (t / 16) fun y => { y with
    delay := y.delay.filter (·.2 ≠ .slot t k), dlyWait := y.dlyWait.filter (·.1 ≠ .slot t k) }

/-- RUN falls by 1 (R187). An activation that ends before the answer to its DISPATCH has arrived was never counted: the
answer finds it in `early` (R199). -/
def State.decRun (s : State) (n : Nat) : State :=
  if s.tf tkRun n = 0 then s.setTask n { s.task n with early := (s.task n).early + 1 }
  else s.setTf tkRun n (s.tf tkRun n - 1)

/-- RUN rises by 1 as a dispatch is made or answered (R196, R199). -/
def State.incRun (s : State) (n : Nat) : State :=
  if (s.task n).early = 0 then s.setTf tkRun n (s.tf tkRun n + 1)
  else s.setTask n { s.task n with early := (s.task n).early - 1 }

/-- The task's counts at the end of an activation: RUN, DONE, W7 (R187, R189). -/
def State.countEnd (s : State) (n : Nat) (kind : EndKind) : State :=
  let s := s.decRun n
  let s := if kind = .done then s.setTf tkDone n (s.tf tkDone n + 1) else s
  (s.setTaskWord n 7 s.tim.now).fixNew n

/-- The delay of a REARM task placed again at an activation's end, while STATE is ARMED or FAULTED (R191). -/
def State.rearmDelay (s : State) (n : Nat) : State :=
  if s.tf tkRearm n = 1 ∧ (s.tf tkState n = 1 ∨ s.tf tkState n = 4) then s.armDelay n else s

/-- An activation of slot `k` of tile `t` ends (R187): its locks, flow entry and resume entry go, its delay entry frees,
RUN falls, and the delay of a REARM task is placed again (R191). The slot's own state is the caller's. -/
def State.endActivation (s : State) (t k : Nat) (kind : EndKind) : State :=
  match (s.slot t k).task with
  | none => s
  | some n =>
    let s := (s.leaveSlot t k n kind).modSlot t k fun y => { y with
      flags := if kind = .faulted then y.flags else y.flags &&& ~~~0x80#32, task := none, flow := none, susp := .none, retPending := none }
    ((s.countEnd n kind).grantDelay (t / 16)).rearmDelay n

/-- A running activation of a data slot ends cancelled and the slot becomes IDLE (R178); a switch on its way to the slot is
withdrawn. -/
def State.cancelSlot (s : State) (t k : Nat) : State :=
  let act := s.active t
  let s := s.modTile t fun x => { x with
    switchReq := x.switchReq.filter (·.slot ≠ k) }
  let s := (s.endActivation t k .cancelled).setSstate t k stIdle
  if act = some k then s.idleTile t else s

/-! ### Context faults (R143, R129) -/

/-- DATA of a context fault record: PC, task, imm16 of TRAP (R542). -/
def faultData (pc task imm : Nat) : Nat := pc + task * 2 ^ 24 + imm * 2 ^ 40

def faultV (pc code : Nat) : Nat := 1 + code * 2 ^ 16 + pc * 2 ^ 32

/-- Guard A entered on a fault of guard B, its return slot already set (R129). -/
def State.enterFaulted (s : State) (t : Nat) : State :=
  match s.guardSlot t 0 with
  | some ka =>
    if s.pendOf t 0 ∧ (s.sstate t ka = stIdle ∨ s.sstate t ka = stSuspended) then
      (s.enterGuard t 0 ka).grantDelay (t / 16)
    else s
  | none => s

/-- A context fault of slot `k` at `pc` (R143): the record, the event, the FAULTED slot and task, the Fault cause; a guard
slot follows R129: a fault of guard B that guard A takes enters guard A at once, with the slot that B had displaced as its
return slot. A switch on its way to the slot is withdrawn. `data` is the event's DATA (open points: log 23). -/
def State.contextFaultD (s : State) (t k code pc data : Nat) : State :=
  let s := s.setReg .TIL_FAULT (8 * t + k) (faultV pc code)
  let s := s.raise code 1 (locTile t k 0xFF) data
  let wasActive := s.active t == some k
  let s := s.modTile t fun x => { x with
    switchReq := x.switchReq.filter (·.slot ≠ k), fillWait := if x.fillWait = some k then none else x.fillWait }
  match s.guardOf t k with
  | none =>
    let task := (s.slot t k).task
    let s := s.endActivation t k .faulted
    let s := s.setSstate t k stFaulted
    let s := match task with
      | some n =>
        let s := if s.tf tkState n = 1 then s.setTf tkState n 4 else s
        s.fixNew n
      | none => s
    let s := if wasActive then s.idleTile t else s
    match s.causeGuard t 13 with
    | some g => (s.setFld gcauseFslot (2 * t + g) k).deliverCause t g 13
    | none => s
  | some g =>
    if g = 1 ∧ (s.guardSlot t 0).isSome ∧ bit (s.reg .TIL_GEN (2 * t)) 13 ∧ s.floorOpen (t / 16) then
      let s := s.setSstate t k stFaulted
      let ret := s.retOf t 1
      let s := if wasActive then s.idleTile t else s
      let s := if wasActive ∨ s.retOf t 0 = some k then s.setRet t 0 ret else s
      let s := ((s.setRet t 1 none).setPendOf t 1 false).setFld gcauseFslot (2 * t) k
      let s := s.deliverCause t 0 13
      if wasActive then s.enterFaulted t else s
    else
      let s := (s.setSstate t k stStopped).raise 0x3203 1 (locTile t k 0xFF) 0
      ((s.idleTile t).setFld ctxStop t 1).faultEdge s

/-- A context fault of class 0x3 with the task and PC in its record (open points: log 23). -/
def State.contextFault (s : State) (t k code pc imm : Nat) : State :=
  s.contextFaultD t k code pc (faultData pc (((s.slot t k).task).getD 0xFFFF) imm)

/-! ### Cancel (R218) -/

/-- The data slots that run an activation of task `n`. -/
def State.slotsOf (s : State) (n : Nat) : List (Nat × Nat) :=
  (s.slots.filter fun p => p.2.task = some n).map fun p => (p.1 / 8, p.1 % 8)

/-- A running activation told to cancel: CX; at once when SUSPENDED in WAIT or YIELD (R178), but for a slot that a dispatch is
on its way to, which starts with CX = 1 (R219), and for one that is being moved, whose cancel acts at the commit (R430). -/
def State.tellCancel (s : State) (p : Nat × Nat) : State :=
  let (t, k) := p
  if (s.slot t k).moving ∨ (s.tile t).switchReq.any (·.slot = k) then s.modSlot t k fun x => { x with flags := x.flags ||| 0x80#32 }
  else match (s.slot t k).susp with
  | .waiting _ | .yielded | .met => if s.sstate t k = stSuspended then s.cancelSlot t k
      else s.modSlot t k fun x => { x with flags := x.flags ||| 0x80#32 }
  | _ => s.modSlot t k fun x => { x with flags := x.flags ||| 0x80#32 }

/-- The task's delay-list entry and its wait for one removed. -/
def State.dropDelay (s : State) (k : Nat) : State :=
  let f := homeFloor k
  let s := s.modFloor f fun x => { x with
    delay := x.delay.filter (·.2 ≠ .task k), dlyWait := x.dlyWait.filter (·.1 ≠ .task k) }
  (s.setTf tkDlyw k 0).grantDelay f

/-- The DISPATCH requests of task `k` at a cancel (R218, R219): one that has placed its activation stands for a pending
activation that the cancel cleared; another places nothing any more, and its flow entry is freed. -/
def State.loseDispatches (s : State) (k : Nat) : State :=
  let f := homeFloor k
  let placed := fun (d : Dispatch) => decide ((s.slot d.tile d.slot).task = some k)
  let gone := (s.floor f).dispatches.filter fun d => d.task = k && !placed d
  let s' := s.modFloor f fun x => { x with
    dispatches := (x.dispatches.filter fun d => !(d.task = k && !placed d)).map fun d =>
      if d.task = k then { d with lost := true } else d }
  gone.foldl (fun s d => match d.flow with
    | some id => s.closeFlow f id .cancelled
    | none => s) s'

/-- A cancel of task `k` (R218). -/
def State.cancelTask (s : State) (k : Nat) : State :=
  let st := s.tf tkState k
  if st = 1 ∨ st = 4 ∨ st = 2 then
    let s := s.bumpBy .SCH_READY_LOST (homeFloor k) (s.tf tkPend k)
    let s := (if st = 2 then s else s.setTf tkState k 3).setPend k 0
    let s := (s.dropDelay k).loseDispatches k
    (s.slotsOf k).foldl State.tellCancel s
  else s

end Sys2Proof.Machine
end

