-- ==== Sys2Proof/Machine/WireOps.lean ====
section
/-! DEFINITION. Tokens on wires: readers, forks, and the move of a token from a driver to a routing stage (R84 to R100). -/

namespace Sys2Proof.Machine

open Sys2Proof

def cfgFloorState : Fld := ⟨.CFG_FLOOR, 63, 60⟩

/-- Sequencers and cells of the floor run: it is not frozen (R493) and not drained or off (R314). -/
def State.floorRuns (s : State) (f : Nat) : Bool := s.fld cfgFloorState f ≠ 3 ∧ s.fld nocState f ≤ 1

/-- The tile runs slot `k`, and its floor runs. -/
def State.runs (s : State) (t k : Nat) : Bool := s.floorRuns (t / 16) && s.active t == some k

/-- Wires and cells of the floor run: no load of it has begun, for from its fence no channel of the floor completes a beat
(R111, R489). -/
def State.wiresRun (s : State) (f : Nat) : Bool := s.floorRuns f && (s.floor f).offWhy != 2

/-- The cells of the tile run slot `k`. -/
def State.cellsRun (s : State) (t k : Nat) : Bool := s.wiresRun (t / 16) && s.active t == some k

/-- The token a driver holds in slot `k`. -/
def State.held (s : State) (w : Wire) (k : Nat) : Option Held := tget none s.stages (wireKey w k)
def State.setHeld (s : State) (w : Wire) (k : Nat) (h : Option Held) : State :=
  { s with stages := tput none s.stages (wireKey w k) h }

/-- The multiplexers of a cell. -/
def cellStages (t c : Nat) : List Wire :=
  let t := tN t
  let c := cN c
  (List.finRange 4).flatMap (fun d => [Wire.loc t c d 0, .loc t c d 1, .pred t c d]) ++ [.seg t c false, .seg t c true]

/-- Lane positions of a floor at which the tile lies. -/
def tileLanes (t : Nat) : List Wire :=
  let f := t / 16
  (List.range 4).flatMap fun e => (List.range 4).flatMap fun p =>
    if edgeTile f e p = t then (List.range 16).map fun l => laneW f e l p else []

def allCells : List Nat := List.range 16

/-- Direction and length of the segment that SH, or SV, of a cell drives (R90). -/
def State.segEnd (s : State) (t k c : Nat) (v : Bool) : Nat × Nat :=
  let g := s.cellCfg t k c
  let (len, dir) := if v then (bits g 51 51, bits g 50 50) else (bits g 45 45, bits g 44 44)
  (if v then (if dir = 0 then 2 else 0) else (if dir = 0 then 1 else 3), if len = 0 then 8 else 16)

/-- The cell at the far end of a wire between cells. -/
def State.farCell (s : State) (w : Wire) (k : Nat) : Option (Nat × Nat) :=
  match w with
  | .loc t c d _ | .pred t c d => s.nbr k t c d 1
  | .seg t c v => s.nbr k t c (s.segEnd t k c v).1 (s.segEnd t k c v).2
  | _ => none

/-- The wires between cells that driver `w` drives: its branches for a cell's own output, else itself (R95). -/
def State.branches (s : State) (w : Wire) (k : Nat) : List Wire :=
  match w with
  | .y t c => (cellStages t c).filter fun x => s.driver k x = w
  | .p t c => (cellStages t c).filter fun x => s.driver k x = w
  | _ => [w]

/-- The cells at the far ends of the wires of driver `w`, each once. -/
def State.farCells (s : State) (w : Wire) (k : Nat) : List (Nat × Nat) :=
  ((s.branches w k).filterMap fun x => s.farCell x k).dedup

/-- The lane position after `p` in flow order: its floor and position (R101). -/
def nextPos (f e l p : Nat) : Option (Nat × Nat) :=
  if p = lastPos l then (laneFloor f e l false).map fun f' => (f', firstPos l)
  else some (f, if laneUp l then p + 1 else p - 1)

/-- The cells that a lane reaches by its taps at position `p`, with the tap's slot (R102). -/
def State.tapCells (s : State) (f e l p : Nat) : List (Nat × Nat × Nat) :=
  (List.range 4).flatMap fun n =>
    let b := s.tapByte f e p n
    if bit b 7 ∧ bits b 3 0 = l then
      let kt := bits b 6 4
      (List.range 4).map fun j => (s.phys1 (edgeTile f e p) kt, edgeCell e j, kt)
    else []

/-- The stages that may read driver `w` in slot `k`, and the ports of cells that may: candidates that `stageSource` and
`portWire` then decide. -/
def State.candStages (s : State) (w : Wire) (k : Nat) : List (Wire × Nat) :=
  let far := (s.farCells w k).flatMap fun p => (cellStages p.1 p.2).map fun x => (x, k)
  match w with
  | .y t _ => far ++ (tileLanes (s.logi t k)).map fun x => (x, 0)
  | .p t _ => far ++ allCells.flatMap fun c => (cellStages t c).map fun x => (x, k)
  | .lane f e l p =>
    match nextPos f e l p with
    | none => []
    | some (f', p') => (laneW f' e l p', 0) ::
        (s.tapCells f' e l p').flatMap fun (t, c, kt) => (cellStages t c).map fun x => (x, kt)
  | .brecv f n => (List.range 4).flatMap fun e => (List.range 16).flatMap fun l => (List.range 4).filterMap fun p =>
      if s.injByte f e l p / 4 % 16 = n ∧ s.injByte f e l p / 64 = 2 then some (laneW f e l p, 0) else none
  | _ => far

def cellPorts (t c k : Nat) : List (Nat × Nat × Nat × Nat) := (List.range 6).map fun p => (t, c, k, p)

def State.candPorts (s : State) (w : Wire) (k : Nat) : List (Nat × Nat × Nat × Nat) :=
  match w with
  | .y t _ | .p t _ => (allCells.flatMap fun c => cellPorts t c k) ++
      ((s.farCells w k).filter fun p => p.1 ≠ t.val).flatMap fun p => cellPorts p.1 p.2 k
  | .lane f e l p =>
    match nextPos f e l p with
    | none => []
    | some (f', p') => (s.tapCells f' e l p').flatMap fun (t, c, kt) => cellPorts t c kt
  | _ => (s.farCells w k).flatMap fun p => cellPorts p.1 p.2 k

/-- The stages that take their token from driver `w` of slot `k` (R95). -/
def State.stageReaders (s : State) (w : Wire) (k : Nat) : List (Wire × Nat) :=
  ((s.candStages w k).filter fun x => s.stageSource x.2 x.1 = some w &&
    (match w with
     | .y _ _ => decide (s.stageSlot k x.1 = k)
     | _ => true)).dedup

/-- The cell ports, bridge send ports and push ports that read driver `w` of slot `k` (R95, R105, R258). -/
def State.sinks (s : State) (w : Wire) (k : Nat) : List Reader :=
  ((s.candPorts w k).filter fun (t, c, k', p) => s.portWire k' t c p = some w).map
      (fun (t, c, k', p) => Reader.port t c k' p) ++
  (match w with
   | .lane f _ _ _ =>
     ((List.range 16).filter fun n => portLane f (s.bsRec f n) = some w).map (Reader.bs f ·) ++
     ((List.range 16).filter fun n => portLane f (s.qiRec f n) = some w).map (Reader.qi f ·)
   | _ => [])

/-- Some port reads the driver, at once or through stages; a wire without a reader is undriven (R96). -/
def State.live (s : State) : Nat → Wire → Nat → Bool
  | 0, _, _ => false
  | n + 1, w, k => s.sinks w k ≠ [] || (s.stageReaders w k).any fun x => s.live n x.1 x.2

/-- More stages than a die holds. -/
def liveFuel : Nat := 70000

/-- Every reader that a fork waits for (R95, R96) (open points: log 34). -/
def State.readers (s : State) (w : Wire) (k : Nat) : List Reader :=
  s.sinks w k ++ ((s.stageReaders w k).filter fun x => s.live liveFuel x.1 x.2).map fun x => Reader.wire x.1 x.2

/-- A reader takes the token; the fork completes when every reader has (R95). -/
def State.serve (s : State) (w : Wire) (k : Nat) (r : Reader) : State :=
  match s.held w k with
  | none => s
  | some h =>
    let served := r :: h.served
    if (s.readers w k).all served.contains then s.setHeld w k none
    else s.setHeld w k (some { h with served := served })

/-- The token that reader `r` is offered by driver `w`: held, not yet taken, and the driver's tile runs the slot (R50, R99)
(open points: log 34). -/
def State.offered (s : State) (w : Wire) (k : Nat) (r : Reader) : Option Tok :=
  match s.held w k with
  | none => none
  | some h =>
    let on : Bool := match (wireTile w) with
      | some t => s.cellsRun t k
      | none => s.wiresRun (wireFloor w)
    if on && !h.served.contains r && (s.readers w k).contains r then some h.tok else none

/-- The driver and slot of a key. -/
def wireOf (n : Nat) : Wire × Nat :=
  if n < 2 ^ 21 then
    let t := tN (n / 4096)
    let c := cN (n / 256 % 16)
    let j := n % 32
    (if j = 0 then .y t c else if j = 1 then .p t c
     else if j < 10 then .loc t c (Fin.ofNat 4 ((j - 2) / 2)) (Fin.ofNat 2 j)
     else if j < 12 then .seg t c (j == 11)
     else if j < 16 then .pred t c (Fin.ofNat 4 (j - 12))
     else if j < 24 then .bline t (Fin.ofNat 8 (j - 16))
     else .pline t (Fin.ofNat 2 (j - 24)), n / 32 % 8)
  else if n < 2 ^ 21 + 2 ^ 13 then
    let m := n - 2 ^ 21
    (laneW (m / 256) (m / 64) (m / 4) m, 0)
  else (.brecv (fN ((n - 2 ^ 21 - 2 ^ 13) / 16)) (Fin.ofNat 16 n), 0)

/-- Forks that wait for nobody after a load are over: every reader that the configuration now gives has taken the token, or
none is left (R96) (open points: log 34). -/
def State.settleForks (s : State) : State :=
  s.stages.foldl (fun s p =>
    let (w, k) := wireOf p.1
    match p.2 with
    | some h => if (s.readers w k).all h.served.contains then s.setHeld w k none else s
    | none => s) s

/-- The floor of the driver with this key. -/
def keyFloor (k : Nat) : Nat :=
  if k < 2 ^ 21 then k / 65536 else if k < 2 ^ 21 + 8192 then (k - 2 ^ 21) / 256 else (k - 2 ^ 21 - 8192) / 16

/-- A token placed on a driver; a driver without a reader takes none (R96). -/
def State.offer (s : State) (w : Wire) (k : Nat) (tok : Tok) : State :=
  if (s.readers w k) = [] then s else s.setHeld w k (some { tok := tok, served := [] })

/-- The tile of a stage runs the slot, or the stage is a lane of a floor that runs (open points: log 34). -/
def State.stageOn (s : State) (w : Wire) (k : Nat) : Bool :=
  match (wireTile w) with
  | some t => s.cellsRun t k
  | none => s.wiresRun (wireFloor w)

/-- The token of driver `w` moved into stage `x` when the stage is free and runs (R95, R99). -/
def State.moveTo (s : State) (w : Wire) (k : Nat) (x : Wire × Nat) : State :=
  match s.offered w k (.wire x.1 x.2), s.held x.1 x.2 with
  | some tok, none => if s.stageOn x.1 x.2 then (s.offer x.1 x.2 tok).serve w k (.wire x.1 x.2) else s
  | _, _ => s

/-- A reader of the token lies in another tile that does not run the slot (R99, R100). -/
def State.waitsAtBoundary (s : State) (w : Wire) (k : Nat) : Bool :=
  match (wireTile w), s.held w k with
  | some t, some h => (s.readers w k).any fun r => !h.served.contains r &&
      (match r with
       | .wire x k' => (match (wireTile x) with
          | some t' => t' != t && !s.cellsRun t' k'
          | none => false)
       | .port t' _ k' _ => t' != t && !s.cellsRun t' k'
       | _ => false)
  | _, _ => false

/-- A bridge word's credit returns to its send port (R107, R108). -/
def State.returnCredit (s : State) (p : Pkt) : State :=
  if p.op = .bridge ∧ 512 ≤ p.src ∧ p.src < 544 then
    s.modFloor (p.src - 512) fun x => { x with bsCredit := tput 0 x.bsCredit p.result (tget 0 x.bsCredit p.result - 1) }
  else s

/-- A posted packet dropped by a fence: counted, and event 0x4201 at the first of the fence (R314)
(open points: log 33, log 52). -/
def State.fenceDrop (s : State) (f : Nat) : State :=
  let s := s.bump .NOC_FENCE_DROP 0
  if (s.floor f).fenceRaised then s
  else (s.modFloor f fun x => { x with fenceRaised := true }).raise 0x4201 2 f 0

end Sys2Proof.Machine
end

