-- ==== Sys2Proof/Machine/Routes.lean ====
section
/-! DEFINITION. Route tables and the routers (chapter "Packet network", R291 to R310): hops, forwarding, plans and commits. -/

namespace Sys2Proof.Machine

open Sys2Proof

/-! ### Topology (R291, R292) -/

/-- Where a port of a router leads. -/
inductive Hop where
  | none
  | here
  | router (n : Nat)
  deriving DecidableEq, Repr

/-- The spine router of die `d`, side `sd`, row `r`. -/
def spineOf (d sd r : Nat) : Nat := 32 + 10 * d + 4 * sd + r

/-- The ring neighbour of hub `f`: next or previous in the order of R292. -/
def ringHub (f : Nat) (next : Bool) : Nat :=
  let pos := ringOrder.idxOf (f % 16)
  16 * (f / 16) + ringOrder.getD ((pos + if next then 1 else 15) % 16) 0

/-- The far end of port `p` of router `r` (R291) (open points: log 51). -/
def portTo (r p : Nat) : Hop :=
  if r < 32 then
    if p = 0 then .here
    else if p = 1 then .router (spineOf (r / 16) (r % 4 / 2) (r % 16 / 4))
    else if p = 2 then .router (ringHub r false)
    else if p = 3 then .router (ringHub r true)
    else .none
  else if r < 52 then
    let d := (r - 32) / 10
    let k := (r - 32) % 10
    let sd := k / 4
    let row := k % 4
    if k < 8 then
      if p = 0 then .router (if row = 0 then 40 + 10 * d + sd else r - 1)
      else if p = 1 then (if row = 3 then .none else .router (r + 1))
      else if p = 2 then .router (spineOf d (1 - sd) row)
      else if p = 3 then .router (16 * d + 4 * row + 2 * sd)
      else if p = 4 then .router (16 * d + 4 * row + 2 * sd + 1)
      else .none
    else if p = 0 then .router 52
    else if p = 1 then .router (spineOf d (k - 8) 0)
    else .none
  else if p < 4 then .router (40 + 10 * (p / 2) + p % 2)
  else if p = 4 ∨ p = 5 then .here
  else .none

/-! ### Tables (R306) -/

def rtV : Fld := ⟨.NOC_RT, 31, 31⟩
def nocActive : Fld := ⟨.NOC_ROUTE_CTL, 0, 0⟩
def nocPend : Fld := ⟨.NOC_ROUTE_CTL, 31, 31⟩
def nocOoo : Fld := ⟨.NOC_ROUTE_CTL, 30, 30⟩

/-- A route table: the entry of router and node. -/
abbrev RTable := Nat → Nat → Nat

def State.bank (s : State) (b : Nat) : RTable := fun r e => s.reg .NOC_RT (128 * r + 64 * b + e)
def State.activeBank (s : State) : RTable := s.bank (s.fld nocActive 0)

/-- Output port of an entry for network `n`. -/
def entryPort (v n : Nat) : Nat := bits v (27 - 4 * n) (24 - 4 * n)

/-- The hop that a table gives at router `r` to node `e` on network `n`; none for no valid entry. -/
def hopOf (tb : RTable) (r e n : Nat) : Hop := if bit (tb r e) 31 then portTo r (entryPort (tb r e) n) else .none

/-- How a path ends: at its node; at a router without a valid entry; not within 12 hops, or at a wrong node. -/
inductive PathEnd where
  | reached | invalid | loop
  deriving DecidableEq, Repr

/-- The routers a path visits from `r` on, and its end (open points: log 50); with fuel 13 it makes at most 12 hops. -/
def pathOf (tb : RTable) (e n : Nat) : Nat → Nat → List Nat × PathEnd
  | 0, r => ([r], .loop)
  | fuel + 1, r =>
    match hopOf tb r e n with
    | .none => ([r], .invalid)
    | .here => ([r], if r = nodeRouter e then .reached else .loop)
    | .router r' =>
      let (l, x) := pathOf tb e n fuel r'
      (r :: l, x)

def isNodeRouter (r : Nat) : Bool := r < 32 || r == 52

/-- The path from router `r` to node `e` breaks R310; `off` names the floors powered down. -/
def pathBad (tb : RTable) (off : Nat → Bool) (r e n : Nat) : Bool :=
  let (l, x) := pathOf tb e n 13 r
  match x with
  | .loop => true
  | .invalid => n ≠ 0 && isNodeRouter r && !(decide (r < 32) && off r) && !(decide (e < 32) && off e)
  | .reached => isNodeRouter r && l.any fun m => decide (m < 32 ∧ m ≠ r ∧ m ≠ e) && off m

/-- The first fault of a table: router, node, network (R310) (open points: log 50). -/
def tableFault (tb : RTable) (off : Nat → Bool) : Option (Nat × Nat × Nat) :=
  (List.range 53).findSome? fun r => (List.range 33).findSome? fun e => (List.range 4).findSome? fun n =>
    if pathBad tb off r e n then some (r, e, n) else none

/-- The floor is powered down. -/
def State.floorDown (s : State) (f : Nat) : Bool := decide (3 ≤ s.fld nocState f)

/-- An entry changed for one network: port 0xFF takes the network's route away; an entry that was not valid gives no route
on the other networks. -/
def changeEntry (v n port : Nat) : Nat :=
  let v := if bit v 31 then v else 0x8FFF_F000
  putBits v (27 - 4 * n) (24 - 4 * n) (if port = 0xFF then 15 else port)

/-- A table with one change made. -/
def changeTable (tb : RTable) (c : Nat × Nat × Nat × Nat) : RTable :=
  fun r e => if r = c.1 ∧ e = c.2.1 then changeEntry (tb r e) c.2.2.1 c.2.2.2 else tb r e

def isRemoval (c : Nat × Nat × Nat × Nat) : Bool := c.2.2.2 == 0xFF

/-- Every entry of bank `b` written from a table. -/
def State.writeBank (s : State) (b : Nat) (tb : RTable) : State :=
  (List.range 53).foldl (fun s r => (List.range 64).foldl (fun s e => s.setReg .NOC_RT (128 * r + 64 * b + e) (tb r e)) s) s

/-- The inactive bank made a copy of the active one with some changes. -/
def State.prepareBank (s : State) (l : List (Nat × Nat × Nat × Nat)) : State :=
  s.writeBank (1 - s.fld nocActive 0) (l.foldl changeTable s.activeBank)

/-! ### Commits (R308, R310) -/

/-- No packet travels: each has reached its node, or waits at its source. -/
def State.netEmpty (s : State) : Bool := s.net.all fun p => p.local_ || decide (100 ≤ p.router)

/-- An ORDER = 1 commit starts: injection stops. -/
def State.startDrain (s : State) : State :=
  { s.setFld nocPend 0 1 with noc := { s.noc with draining := true, since := s.tim.clk } }

/-- The banks swapped and injection resumed. -/
def State.swapBanks (s : State) : State :=
  let s := (s.setFld nocActive 0 (1 - s.fld nocActive 0)).setFld nocPend 0 0
  { s with noc := { s.noc with draining := false },
           net := s.net.map fun p => if 100 ≤ p.router then { p with router := p.router - 100 } else p }

/-- A commit made: a plan goes on to its second commit, or its command replies. -/
def State.commitDone (s : State) : State :=
  let s := s.swapBanks
  if s.noc.planStep = 1 then
    (State.prepareBank { s with noc := { s.noc with planStep := 2 } } s.noc.plan).startDrain
  else if s.noc.planStep = 2 then
    State.finish { s with noc := { s.noc with planStep := 0, plan := [] } } (.routePlan 0) stOk []
  else s.finish .routeCommit stOk []

/-- A commit that waits completes once the network has emptied (R308) (open points: log 9, log 50). -/
def State.commitTick (s : State) : State := if s.noc.draining ∧ s.netEmpty then s.commitDone else s

/-- A plan or a commit runs (open points: log 50). -/
def State.routing (s : State) : Bool := s.noc.draining || s.noc.planStep ≠ 0

/-! ### Forwarding (R298, R309, R314) -/

/-- A drop under R309: counted, and event 0x4101 at the router's first after the counter has been read
(open points: log 52). -/
def State.noRouteDrop (s : State) (r e n : Nat) : State :=
  (s.bump .NOC_NOROUTE_DROP 0).raiseOnceK .NOC_NOROUTE_DROP 0 (r + 1) 0x4101 0xA r (e + 256 * n)

/-- A request is answered once; every other packet is posted or an answer. -/
def isRequest (p : Pkt) : Bool :=
  !pktPosted p && !pktAnswer p && p.op != .inv && p.op != .invAck

/-- An answer from router `r`. -/
def State.rspAt (s : State) (r : Nat) (p : Pkt) (status : Nat) : State :=
  { s with net := s.net ++ [{ answer p with op := .rsp, status := status, router := r }] }

/-- The packet finds no valid entry at router `r` (R309). -/
def State.unrouted (s : State) (r : Nat) (p : Pkt) : State :=
  if isRequest p then s.rspAt r p stNoRoute
  else
    (s.noRouteDrop r p.dest (pktNet p)).returnCredit p

/-- A packet that would leave floor `f` while the floor is not OPEN (R314) (open points: log 52). -/
def State.leaveFenced (s : State) (f : Nat) (p : Pkt) : State :=
  if isRequest p then s.rspAt f p stDomainOff
  else (s.fenceDrop f).returnCredit p

/-- A packet for floor `f` that is OFF or POWERING, at the router that would forward it (R301, R314, R315)
(open points: log 52). -/
def State.enterOff (s : State) (r f : Nat) (p : Pkt) : State :=
  match p.op with
  | .inv => { s with net := s.net ++ [{ p with op := .invAck, dest := p.src / 16, src := p.dest * 16 + p.result % 16, router := r, result := p.src % 16 }] }
  | .invAck => s
  | _ =>
    if isRequest p then s.rspAt r p stDomainOff
    else if pktAnswer p then s.bump .NOC_LATE_DROP 0
    else (s.fenceDrop f).returnCredit p

/-- 4-byte words of data that a packet carries. -/
def dataWords (p : Pkt) : Nat := (p.data.length + 3) / 4

/-- Words with bad parity are delivered poisoned and counted (R298). -/
def State.parityHits (s : State) (p : Pkt) (bad : Nat) : Pkt × State :=
  let hits := (List.range (dataWords p)).filter (bit bad)
  ({ p with psn := hits.foldl (fun m i => m ||| 2 ^ i) p.psn }, s.bumpBy .NOC_DAT_PAR 0 hits.length)

/-- The packet leaves the floor whose hub router it lies at, and is none of those that may leave a floor that is not OPEN:
responses, read data and INV_ACKs (R314). -/
def leaving (p : Pkt) (r : Nat) : Bool :=
  decide (r < 32 ∧ p.dest ≠ r) && !(pktAnswer p || p.op == .invAck) && initFloor p.src == some r

/-- The packet's next hop taken (R309). An INV waits at the hub of its floor while the floor is not OPEN (R314)
(open points: log 52). -/
def State.hopPkt (s : State) (p : Pkt) : State :=
  let r := p.router
  if leaving p r ∧ !s.floorOpen r then
    if p.op = .inv then { s with net := s.net ++ [p] } else s.leaveFenced r p
  else match hopOf s.activeBank r p.dest (pktNet p) with
    | .none => s.unrouted r p
    | .here => { s with net := s.net ++ [{ p with local_ := true }] }
    | .router r' =>
      if r' < 32 ∧ s.floorDown r' ∧ p.dest = r' then s.enterOff r r' p
      else { s with net := s.net ++ [{ p with router := r' }] }

/-- ROUTER_FORWARD (R298, R306 to R309, R314): the next packet of its flow at a router is forwarded; `err` is the head's
error, 0 none, 1 corrected, 2 uncorrectable; `bad` names the data words with bad parity.
The credit of a bridge word discarded here does not return (R107) (open points: log 101). -/
def execRouterForward (p : Pkt) (err : Fin 3) (bad : Nat) (s : State) : Out :=
  if p.local_ ∨ 100 ≤ p.router ∨ !s.isNext p then .next s
  else
    let s := s.takePkt p
    if err = 2 then
      .next ((s.bump .NOC_HDR_UE 0).raise 0x4301 0xA p.router (pktNet p))
    else
      let s := if err = 1 then s.bump .NOC_HDR_CE 0 else s
      let (p, s) := s.parityHits p bad
      .next (s.hopPkt p)

/-! ### Route commands (R308, R310, R318) -/

def changeBytes (l : List (Nat × Nat × Nat × Nat)) : List Byte :=
  l.flatMap fun c => leBytes 1 c.1 ++ leBytes 1 c.2.1 ++ leBytes 1 c.2.2.1 ++ leBytes 1 c.2.2.2

/-- The first parameter byte of a plan outside its range (open points: log 39). -/
def changeFault (l : List (Nat × Nat × Nat × Nat)) : Option Nat :=
  l.zipIdx.findSome? fun (c, i) =>
    if 52 < c.1 then some (4 * i) else if 32 < c.2.1 then some (4 * i + 1)
    else if 3 < c.2.2.1 then some (4 * i + 2) else if 15 < c.2.2.2 ∧ c.2.2.2 ≠ 0xFF then some (4 * i + 3) else none

def State.routePlanCmd (s : State) (c : Cmd) (l : List (Nat × Nat × Nat × Nat)) : State :=
  let op := 0x4001
  let adds := l.filter fun x => !isRemoval x
  let first := adds.foldl changeTable s.activeBank
  let second := (l.filter isRemoval).foldl changeTable first
  match (tableFault first s.floorDown).or (tableFault second s.floorDown) with
  | some (r, e, n) => s.reply c op stBadParam (leBytes 1 r ++ leBytes 1 e ++ leBytes 1 n)
  | none =>
    if s.routing then s.reply c op stBusy []
    else
      let s := (s.prepareBank adds).await c op (.routePlan 0) 0
      (State.startDrain { s with noc := { s.noc with plan := l.filter isRemoval, planStep := 1 } })

/-- ROUTE_PLAN (R310, R318). -/
def execRoutePlan (c : Cmd) (changes : List (Nat × Nat × Nat × Nat)) (s : State) : Out :=
  .next (s.runCmd c 0x4001 (changeBytes changes) false fun s =>
    if 250 < changes.length then s.badParam c 0x4001 1000
    else match changeFault changes with
      | some o => s.badParam c 0x4001 o
      | none => s.routePlanCmd c changes)

def State.routeCommitCmd (s : State) (c : Cmd) (order timeout : Nat) : State :=
  let op := 0x4002
  match tableFault (s.bank (1 - s.fld nocActive 0)) s.floorDown with
  | some (r, e, n) => s.reply c op stBadParam (leBytes 1 r ++ leBytes 1 e ++ leBytes 1 n)
  | none =>
    if s.routing then s.reply c op stBusy []
    else if order = 0 then ((s.interim c op).swapBanks).reply c op stOk []
    else (s.await c op .routeCommit timeout).startDrain

/-- ROUTE_COMMIT (R308, R318). -/
def execRouteCommit (c : Cmd) (order timeout : Nat) (s : State) : Out :=
  .next (s.runCmd c 0x4002 (leBytes 1 order ++ leBytes 2 timeout) false fun s =>
    if 1 < order then s.badParam c 0x4002 0 else s.routeCommitCmd c order timeout)

/-- COMMIT_DRAIN_TIMEOUT (R308): after 2 µs the swap is made all the same, with OOO. -/
def execCommitDrainTimeout (s : State) : Out :=
  if s.noc.draining ∧ !s.netEmpty ∧ s.noc.since + 2000 ≤ s.tim.clk then .next ((s.setFld nocOoo 0 1).commitDone)
  else .next s

/-- ROUTE_COMMIT_TIMEOUT (R318): the command replies TIMEOUT and the commit goes on. -/
def execRouteCommitTimeout (s : State) : Out :=
  match s.cmds.find? fun x => x.wait = .routeCommit ∧ x.deadline.any (· ≤ s.tim.clk) with
  | none => .next s
  | some x => .next (State.reply { s with cmds := s.cmds.erase x } x.cmd x.op stTimeout [])

/-- ROUTE_READ (R318). -/
def execRouteRead (c : Cmd) (r bank : Nat) (s : State) : Out :=
  .next (s.runCmd c 0x4003 (leBytes 1 r ++ leBytes 1 bank) false fun s =>
    if 52 < r then s.badParam c 0x4003 0
    else if 1 < bank then s.badParam c 0x4003 1
    else s.reply c 0x4003 stOk ((List.range 64).flatMap fun e => leBytes 4 (s.bank bank r e)))

/-! ### Statistics (R313, R318) -/

/-- The 64-byte record of an initiator. -/
def State.statRec (s : State) (i : Nat) : List Byte :=
  leBytes 8 (s.reg .NOC_ISTAT_BYTES i) ++ leBytes 4 (s.reg .NOC_ISTAT_PKTS i) ++ leBytes 4 (s.reg .NOC_ISTAT_NPDONE i) ++
    (List.range 8).flatMap (fun k => leBytes 4 (s.reg .NOC_ISTAT_HIST (8 * i + k))) ++
    leBytes 4 (s.reg .NOC_ISTAT_MAXLAT i) ++ leBytes 12 0

/-- NOC_STATS (R318). -/
def execNocStats (c : Cmd) (first n : Nat) (s : State) : Out :=
  .next (s.runCmd c 0x4006 (leBytes 2 first ++ leBytes 1 n) false fun s =>
    if n = 0 ∨ 15 < n then s.badParam c 0x4006 2
    else if 560 < first + n then s.badParam c 0x4006 0
    else s.reply c 0x4006 stOk ((List.range n).flatMap fun i => s.statRec (first + i)))

/-- Every statistics record zeroed. -/
def State.clearStats (s : State) : State :=
  let lo := Reg.NOC_ISTAT_BYTES.addr 0
  { s with regs := s.regs.filter fun p => !(decide (lo ≤ p.1) && decide (p.1 < lo + 64 * 560)) }

/-- A write of NOC_STAT_CTL (R319). -/
def State.statCtlWrite (s : State) (v : Nat) : State :=
  let s := s.setFld statFreeze 0 (bits v 30 30)
  if bit v 31 then s.clearStats else s

/-- NOC_STAT_CLEAR (R313): the write of CLR = 1. -/
def execNocStatClear (view : ViewNo) (v : Word) (s : State) : Out :=
  if view = 0 ∧ v.getLsbD 31 then .next (s.statCtlWrite v.toNat) else .next s

/-- The histogram bin of a latency in ns (R313). -/
def histBin (l : Nat) : Nat := if l < 32 then 0 else min 7 (Nat.log2 l - 4)

/-- An answer counted at its requester (R313). -/
def State.countAnswer (s : State) (p : Pkt) : State :=
  if s.flag statFreeze 0 ∨ 560 ≤ p.src then s
  else
    let l := s.tim.dev - p.born
    let s := s.bump .NOC_ISTAT_NPDONE p.src
    let s := s.setReg .NOC_ISTAT_BYTES p.src (s.reg .NOC_ISTAT_BYTES p.src + p.data.length)
    let s := s.bump .NOC_ISTAT_HIST (8 * p.src + histBin l)
    s.setReg .NOC_ISTAT_MAXLAT p.src (max (s.reg .NOC_ISTAT_MAXLAT p.src) l)

end Sys2Proof.Machine
end

