-- ==== Sys2Proof/Machine/Wires.lean ====
section
/-! DEFINITION. The wire network's commands (chapter "Wire network and handshake channels"). -/

namespace Sys2Proof.Machine

open Sys2Proof

/-- WIRE_TOKEN_TRANSFER (R84, R95, R99, R100): every routing stage of the driver's fork that is free takes the token; a
token that waits at the boundary of the tile counts one wait beat. A wire that a cell's own output drives stands for that
output. Lanes take theirs by EXPRESS_INJECT
(open points: log 34). -/
def execWireTokenTransfer (w : Wire) (k : SlotNo) (s : State) : Out :=
  let kk := if (wireTile w).isSome then k.val else 0
  let w := s.driver kk w
  match w with
  | .lane _ _ _ _ | .brecv _ _ =>
    .next (((s.stageReaders w 0).filter fun x => (wireTile x.1).isSome).foldl (fun s x => s.moveTo w 0 x) s)
  | _ =>
    let s' := ((s.stageReaders w kk).filter fun x => (wireTile x.1).isSome).foldl (fun s x => s.moveTo w kk x) s
    let t := (wireTile w).getD 0
    .next (if s'.waitsAtBoundary w kk && s'.cellsRun t kk then s'.bump .TIL_XSTALL (8 * t + kk) else s')

/-- BOUNDARY_TOKEN_RELEASE (R99): the token moves on to the routing stages of the far tile, which runs the slot again. -/
def execBoundaryTokenRelease (w : Wire) (k : SlotNo) (far : TileNo) (s : State) : Out :=
  let w := s.driver k w
  .next (((s.stageReaders w k).filter fun x => (wireTile x.1) = some far.val).foldl (fun s x => s.moveTo w k x) s)

/-- EXPRESS_INJECT (R101, R103, R104): the lane position takes the arriving token, or the word of the cell or receive port
that its injection byte names, and sends it onward. -/
def execExpressInject (f : FloorNo) (e : Fin 4) (l : Fin 16) (p : Fin 4) (s : State) : Out :=
  let w := Wire.lane f e l p
  match s.stageSource 0 w with
  | none => .next s
  | some src => .next (s.moveTo src (s.stageSlot 0 w) (w, 0))

/-- BRIDGE_SEND (R105 to R107): the port takes the word from its lane against credit and sends it as a posted DAT packet. -/
def execBridgeSend (f : FloorNo) (k : Fin 16) (s : State) : Out :=
  let r := s.bsRec f k
  match portLane f r with
  | none => .next s
  | some w =>
    let used := tget 0 (s.floor f).bsCredit k
    match s.offered w 0 (.bs f k) with
    | none => .next s
    | some tok =>
      if 4 ≤ used then .next s
      else
        let s := (s.serve w 0 (.bs f k)).modFloor f fun x => { x with bsCredit := tput 0 x.bsCredit k (used + 1) }
        .next (s.inject f { pkt0 with
          op := .bridge, dest := bits r 54 49, src := 512 + f, addr := bits r 48 41, data := (leBytes 4 tok.v.toNat).map some,
          psn := b2n tok.psn, result := k.val })

/-- BRIDGE_RECEIVE (R108): a bridge word at its floor is driven onto the lanes that name the receive port, or dropped when
the floor is fenced for it, the port pops from a queue, or no injection byte names it (open points: log 33). -/
def execBridgeReceive (p : Pkt) (s : State) : Out :=
  if s.arrived p ∧ p.op = .bridge ∧ p.dest < 32 then
    let f := p.dest
    let s' := (s.takePkt p).returnCredit p
    let w := Wire.brecv (fN f) (Fin.ofNat 16 p.addr)
    if s.fenced p ∨ (s.floor f).offWhy = 2 then .next (s'.fenceDrop f)
    else if 16 ≤ p.addr ∨ bit (s.popRec f p.addr) 63 ∨ s.stageReaders w 0 = [] then .next s'
    else if (s.held w 0).isSome then .next s
    else .next (s'.setHeld w 0 (some { tok := ⟨BitVec.ofNat 32 (leNat (p.data.map (·.getD 0#8))), p.psn % 2 = 1⟩,
                                       served := [] }))
  else .next s

end Sys2Proof.Machine
end

