-- ==== Sys2Proof/Machine/Contexts.lean ====
section
/-! DEFINITION. Switches, guard causes and entries, spills and fills, and SLOT_RESET (chapter "Contexts, banks and the frame
stack"). -/

namespace Sys2Proof.Machine

open Sys2Proof

/-! ### Scheduler switches (R120 to R122) -/

/-- A guard slot of the tile is ACTIVE or a guard entry is pending (R122). -/
def State.guardBusy (s : State) (t : Nat) : Bool :=
  s.flag ctxGA t || s.flag ctxGB t || s.flag ctxPendA t || s.flag ctxPendB t

/-- An entry put at the head of its priority of the floor's ready list (R193). -/
def State.readyHeadAt (s : State) (f n : Nat) (r : Ready) : State :=
  s.modFloor f fun x => { x with ready := readyHead (s.tf tkPri n) r x.ready }

/-- An entry put at the tail of its priority (R193). -/
def State.readyTailAt (s : State) (f n : Nat) (r : Ready) : State :=
  s.modFloor f fun x => { x with ready := readyTail (s.tf tkPri n) r x.ready }

/-- An entry back at its place on a ready list: behind the entries that stood ahead of it. -/
def readyBack (p : Nat) (r : Ready) (ahead : List Ready) : List (Nat × Ready) → List (Nat × Ready)
  | [] => [(p, r)]
  | (p', r') :: l =>
    if p' < p ∨ (p' = p ∧ (ahead.contains r' ∨ l.any fun x => x.1 = p && ahead.contains x.2)) then
      (p', r') :: readyBack p r ahead l
    else (p, r) :: (p', r') :: l

/-- Entry `e` of task `n` stands on the ready list of floor `f` at its former place. -/
def State.readyAgain (s : State) (f n : Nat) (e : Ready) (ahead : List Ready) : State :=
  s.modFloor f fun x => { x with ready := readyBack (s.tf tkPri n) e ahead (x.ready.filter (·.2 ≠ e)) }

/-- The activation of a dispatch that was not made is pending again (R122, R216, R219): lost once a cancel has reached it, and
at PEND = 255 a credited item of the trigger queue is held instead. -/
def State.pendAgain (s : State) (k : Nat) (cx : Bool) : State :=
  if cx ∨ s.tf tkState k = 3 then s.bump .SCH_READY_LOST (homeFloor k)
  else if s.tf tkPend k < 255 then s.setPend k (s.tf tkPend k + 1)
  else if s.tf tkTqne k = 1 then s.uncredit (s.tqOf k)
  else s.addOne k

/-- A switch not made (R122): the task stays on the ready list at its place, and a new activation is pending again as it was
before its dispatch. One that a cancel has reached meanwhile ends (R178, R218) (open points: log 25). -/
def State.undoSwitch (s : State) (t : Nat) (r : SwitchReq) : State :=
  let cx := (s.slot t r.slot).flags.getLsbD 7
  if r.new_ then
    let s := match (s.slot t r.slot).flow with
      | some id => s.closeFlow (homeFloor r.task) id .cancelled
      | none => s
    let s := s.modSlot t r.slot fun x => { x with task := none, flow := none, flags := x.flags &&& ~~~0x80#32 }
    let s := s.setTaskWord r.task 6 r.rec6.toNat
    let s := s.setTf tkDisp r.task (s.tf tkDisp r.task - 1)
    let s := s.setTaskWord r.task 4 (putBits (s.task r.task |>.w.getD 4 0#64).toNat 47 38 (bits r.rec4.toNat 47 38))
    let f := homeFloor r.task
    let listed := (s.floor f).ready.any (·.2 = .new r.task)
    let s := (s.decRun r.task).pendAgain r.task cx
    if !listed && (s.floor f).ready.any (·.2 = .new r.task) then s.readyAgain f r.task (.new r.task) r.ahead else s
  else if cx ∧ ((s.slot t r.slot).susp = .yielded ∨ (s.slot t r.slot).susp = .met) then s.cancelSlot t r.slot
  else s.readyAgain (t / 16) r.task (.resume t r.slot) r.ahead

/-- The slot displaced by a scheduler switch: preempted, with a resume entry at the head of its priority (R193, R197). -/
def State.preempt (s : State) (t a : Nat) : State :=
  let s := (s.suspend t a .preempted).bump .SCH_PREEMPT (t / 16)
  match (s.slot t a).task with
  | some n => s.readyHeadAt (t / 16) n (.resume t a)
  | none => s

/-- A new activation begins in slot `k` at its image's entry point (R174, R187); CX is already 1 when a cancel
reached it on its way (R219). -/
def State.startSlot (s : State) (t : Nat) (r : SwitchReq) : State :=
  s.modSlot t r.slot fun x => { x with
    pc := x.entry, task := some r.task, susp := .none }

/-- The switch made: the active slot is preempted and the incoming slot runs (R120, R197). -/
def State.doSwitch (s : State) (t : Nat) (r : SwitchReq) : State :=
  let s := match s.active t with
    | some a => s.preempt t a
    | none => s
  let s := if r.new_ then s.startSlot t r else s
  (s.runSlot t r.slot).bump .TIL_SWITCHES t

/-- The switch on its way to a tile. -/
def State.clearSwitch (s : State) (t : Nat) : State := s.modTile t fun x => { x with switchReq := none }

/-- SCHED_SWITCH (R120 to R122): the switch takes effect at the instruction boundary, unless a guard entry wins or the tile
has stopped. -/
def execSchedSwitch (t : TileNo) (s : State) : Out :=
  match (s.tile t).switchReq with
  | none => .next s
  | some r =>
    if !s.floorRuns (t / 16) then .next s
    else if s.guardBusy t || s.flag ctxStop t then .next ((s.clearSwitch t).undoSwitch t r)
    else .next ((s.clearSwitch t).doSwitch t r)

/-! ### Guard causes and entries (R123 to R127) -/

/-- The guard that notice `n` (tile, cause, selector) goes to: a Doorbell to the guard it names, another cause by the
enables (R124). -/
def State.noticeGuard (s : State) (n : Nat × Nat × Nat) : Option Nat :=
  if n.2.2 = 2 then s.causeGuard n.1 n.2.1
  else if (s.guardSlot n.1 n.2.2).isSome then some n.2.2 else none

/-- GUARD_CAUSE_DELIVER (R123, R124, R126): a notice under way reaches the tile and the guard it goes to
(open points: log 90). -/
def execGuardCauseDeliver (t : TileNo) (cause : Fin 16) (g : Fin 2) (s : State) : Out :=
  match s.notices.find? fun n => n.1 = t.val ∧ n.2.1 = cause.val ∧ s.noticeGuard n = some g.val with
  | none => .next s
  | some n => .next ({ s with notices := s.notices.erase n }.deliverCause t g cause)

/-- Guard `g` may enter now (R122, R126, R129, R424): the tile is not RETIRED, it is pending, its slot takes an entry, and no guard it may not preempt
runs. -/
def State.mayEnter (s : State) (t g k : Nat) : Bool :=
  s.floorRuns (t / 16) && s.pendOf t g && !s.flag ctxStop t &&
  (s.sstate t k == stIdle || s.sstate t k == stSuspended) &&
  s.tstate t != 3 && !s.flag ctxGA t && (g == 0 || (!s.flag ctxGB t && !s.pendOf t 0))

/-- The active slot displaced and recorded as the guard's return slot (R125, R126). -/
def State.displace (s : State) (t g : Nat) : State :=
  match s.active t with
  | some a => (s.suspend t a .preempted).setRet t g (some a)
  | none => s.setRet t g none

/-- GUARD_ENTRY (R125, R126). -/
def execGuardEntry (t : TileNo) (g : Fin 2) (s : State) : Out :=
  match s.guardSlot t g with
  | none => .next s
  | some k => if s.mayEnter t g k then .next (((s.displace t g).enterGuard t g k).grantDelay (t / 16)) else .next s

/-! ### Spills and fills (R133 to R141) -/

/-- Byte offset of spill entry `i` of slot `k` (R137). -/
def State.spillAt (s : State) (t k i : Nat) : Nat := s.fld leesBase (8 * t + k) * 64 + 64 * i

/-- SPILL_WRITE_COMPLETE (R138, R139): the spilled frame is written to the lees and the buffer is free. -/
def execSpillWriteComplete (t : TileNo) (s : State) : Out :=
  match (s.tile t).lineBuf with
  | none => .next s
  | some b =>
    if b.spill then
      let s := s.modTile t fun x => { x with lineBuf := none }
      .next (s.writeStore t (b.bytes.map fun p => (b.base + p.1, p.2, false))).2
    else .next s

/-- The frames after a RET to a caller whose frame is `c`: its f8 to f15 receive the returning frame's f0 to f7 (R134). -/
def returnTo (ret c : List Word) : List Word := c.take 8 ++ ret.take 8

/-- A frame read from the lees. -/
def frameOf (l : List Byte) : List Word :=
  (List.range 16).map fun i => BitVec.ofNat 32 (leNat ((l.drop (4 * i)).take 4))

/-- The fill of slot `k` completed (R134, R141): the caller's frame is delivered and the RET ends, or the context faults. -/
def State.fillDone (s : State) (t k : Nat) : State :=
  let i := 8 * t + k
  let at_ := s.spillAt t k (s.fld leesSpilled i - 1)
  let bytes := s.peekN t at_ 64
  let s := (s.modTile t fun x => { x with fillWait := none }).noteRead t at_ 64 2 k
  let x := s.slot t k
  match bytes.findIdx? (·.2) with
  | some o =>
    let d := (s.peek t (at_ + o)).1
    s.contextFaultD t k 0x1005 x.pc
      (memData (at_ + o) 2 (ueMask bytes at_ (at_ + o)) (memByte5 d false) k (s.physPage t ((at_ + o) / 4096)))
  | none =>
    let f := returnTo (x.frames.headD []) (frameOf (bytes.map (·.1)))
    let s := s.modSlot t k fun x => { x with
      frames := f :: x.frames.drop 1, pc := x.retPending.getD x.pc, retPending := none }
    s.setFld leesSpilled i (s.fld leesSpilled i - 1)

/-- LEES_FILL_COMPLETE (R141); the fill waits while its frame is still in the line buffer. -/
def execLeesFillComplete (t : TileNo) (s : State) : Out :=
  match (s.tile t).fillWait with
  | none => .next s
  | some k =>
    if s.runs t k && !((s.tile t).lineBuf.any (·.spill)) then .next (s.fillDone t k) else .next s

/-! ### SLOT_RESET (R131, R150) -/

/-- The bank and fault record of a slot zeroed, its stack at one frame, its counter at the entry point, its flags zero but
PF (R131, R153). -/
def State.initSlot (s : State) (t k : Nat) : State :=
  let i := 8 * t + k
  let s := s.modSlot t k fun x => { SlotSt.init with
    entry := x.entry, pc := x.entry, pf := x.pf, flags := if x.pf then 0x100#32 else 0#32 }
  let s := s.modTile t fun x => { x with
    outst := x.outst.filter (·.slot ≠ k), fillWait := if x.fillWait = some k then none else x.fillWait }
  (((s.setFld leesHdepth i 1).setFld leesSpilled i 0).setFld leesHwm i 0).setReg .TIL_FAULT i 0

/-- A stopped tile restarted by the reset of guard `g`'s slot (R129). -/
def State.restartTile (s : State) (t g : Nat) : State :=
  let ret := s.retOf t g
  let s := (((s.setFld ctxStop t 0).setPendOf t 0 false).setPendOf t 1 false).setRet t g none
  s.resumeOrIdle t ret

/-- The slot returned to IDLE (R150). -/
def State.resetSlot (s : State) (t k : Nat) : State :=
  let stopped := s.sstate t k == stStopped
  let g := s.guardOf t k
  let s := (s.initSlot t k).setSstate t k stIdle
  match stopped, g with
  | true, some g => s.restartTile t g
  | _, _ => s

/-- SLOT_RESET takes a slot that is FAULTED, STOPPED or IDLE with no dispatch on its way and no move of it under way (R147, R150,
R430). -/
def State.slotResettable (s : State) (t k : Nat) : Bool :=
  let st := s.sstate t k
  (st == stFaulted || st == stStopped || st == stIdle) && (s.slot t k).task.isNone && !(s.slot t k).moving

def State.slotResetCmd (s : State) (c : Cmd) (t k : Nat) : State :=
  if 511 < t then s.badParam c 0x1004 0
  else if 7 < k then s.badParam c 0x1004 2
  else if s.slotResettable t k then (s.resetSlot t k).reply c 0x1004 stOk []
  else s.reply c 0x1004 stBusy []

/-- SLOT_RESET (R150). -/
def execSlotReset (c : Cmd) (t k : Nat) (s : State) : Out :=
  .next (s.runCmd c 0x1004 (leBytes 2 t ++ leBytes 1 k) false fun s => s.slotResetCmd c t k)

end Sys2Proof.Machine
end

