-- ==== Sys2Proof/Machine/SeqOps.lean ====
section
/-! DEFINITION. What every sequencer instruction shares (chapter "Tile sequencer instruction set"): fetch and issue, registers,
addresses, loads through the data cache, the line buffer, requests over the network, waits. -/

namespace Sys2Proof.Machine

open Sys2Proof

/-! ### Registers and the program counter (R117, R153) -/

/-- Register `r` of slot `k` (R117). -/
def State.gpr (s : State) (t k : Nat) (r : SReg) : Word :=
  let x := s.slot t k
  if r.val < 16 then x.globals.getD r 0#32 else (x.frames.headD []).getD (r - 16) 0#32

/-- Register `r` of slot `k` set. -/
def State.setGpr (s : State) (t k : Nat) (r : SReg) (v : Word) : State :=
  s.modSlot t k fun x =>
    if r.val < 16 then { x with globals := x.globals.set r v }
    else { x with frames := (x.frames.headD []).set (r - 16) v :: x.frames.drop 1 }

/-- Register number `n` of a pair's upper half. -/
def regUp (r : SReg) : SReg := Fin.ofNat 32 (r.val + 1)

def State.pc (s : State) (t k : Nat) : Nat := (s.slot t k).pc
def State.setPc (s : State) (t k n : Nat) : State := s.modSlot t k fun x => { x with pc := n % 0x80000 }
/-- The program counter at the next instruction. -/
def State.advance (s : State) (t k : Nat) : State := s.setPc t k (s.pc t k + 4)

/-- PC + 4 × offset, modulo 512 KiB (R154). -/
def relTarget (pc : Nat) (off : Int) : Nat := (((pc : Int) + 4 * off) % 0x80000).toNat

def State.setFlag (s : State) (t k i : Nat) (b : Bool) : State :=
  s.modSlot t k fun x => { x with flags := BitVec.ofNat 32 (putBits x.flags.toNat i i (b2n b)) }
def State.seqFlag (s : State) (t k i : Nat) : Bool := (s.slot t k).flags.getLsbD i

def flPF : Nat := 8
def flCX : Nat := 7
def flLP : Nat := 6
def flQP : Nat := 5
def flFR : Nat := 4
def flWP : Nat := 3
def flEOP : Nat := 2
def flSOP : Nat := 1
def flEM : Nat := 0

/-! ### Fetch and issue (R152, R164) -/

/-- The word of the instruction at the program counter, when its line is in the instruction cache. -/
def State.fetchWord (s : State) (t k : Nat) : Option Word :=
  let pc := s.pc t k
  ((s.tile t).icache.find? fun l => l.addr == pc / 64 * 64).map fun l =>
    BitVec.ofNat 32 (leNat ((l.bytes.drop (pc % 64)).take 4))

/-- No result of the slot is outstanding for one of the registers (R152). -/
def State.avail (s : State) (t k : Nat) (regs : List SReg) : Bool :=
  !((s.tile t).outst.any fun o =>
      o.slot == k && !o.drop && (o.kind == .load || o.kind == .qpop || o.kind == .qlvl) && regs.any fun r => r.val == o.rd)

/-- The slot of tile `t` in which instruction `i` issues now: the active slot, on a floor that runs, with `i` at its program
counter and the registers available (open points: log 7, log 97). -/
def State.issue (s : State) (t : TileNo) (i : Instr) (regs : List SReg) : Option Nat :=
  match s.active t with
  | none => none
  | some k =>
    if s.floorRuns (t / 16) && (s.tile t).fillWait.isNone &&
        decide ((s.fetchWord t k).bind (decodeSeq t) = some i) && s.avail t k regs then some k
    else none

/-- The fetched line becomes the most recently used one (R164). -/
def State.touchIc (s : State) (t k : Nat) : State :=
  let a := s.pc t k / 64 * 64
  s.modTile t fun x => { x with
    icache := x.icache.filter (fun l => l.addr == a) ++ x.icache.filter fun l => l.addr != a }

/-- An instruction issued in its slot, or no effect while it cannot issue. -/
def seqStep (t : TileNo) (i : Instr) (regs : List SReg) (s : State) (f : Nat → State → State) : Out :=
  match s.issue t i regs with
  | none => .next s
  | some k => .next (f k (s.touchIc t k))

/-- A result written and the program counter advanced. -/
def State.aluRes (s : State) (t k : Nat) (rd : SReg) (v : Word) : State := (s.setGpr t k rd v).advance t k

/-- An instruction fault at the program counter (R184). -/
def State.seqFault (s : State) (t k code : Nat) : State := s.contextFault t k code (s.pc t k) 0

/-- The view that sequencer code of the slot acts for (R116, R296, R460). -/
def State.slotView (s : State) (t k : Nat) : Nat := if (s.guardOf t k).isSome then 0 else s.ownerOf 0 t

/-- Code of the slot may use the resource: guard code any, data code those of its tile's owner (R116, R460). -/
def State.slotOwns (s : State) (t k kind i : Nat) : Bool := (s.guardOf t k).isSome || s.ownerOf kind i == s.ownerOf 0 t

/-! ### Requests over the network (R305) -/

/-- Requests of the tile that wait for an answer. -/
def State.netOut (s : State) (t : Nat) : Nat := ((s.tile t).outst.filter fun o => !o.done).length

/-- The tile may send one more non-posted request (R305). -/
def State.netFree (s : State) (t : Nat) : Bool := decide (s.netOut t < 8)

/-- An outstanding record with nothing set. -/
def outst0 : Outst :=
  { tag := 0, slot := 0, kind := .load, rd := 0, size := 0, sext := false, pc := 0, addr := 0, queue := 0,
    cacheLine := false, window := false, done := false, ue := false, fresh := false, status := 0, bits := 0#32,
    sop := false, eop := false, nb := false, resend := false, drop := false }

/-- An outstanding result recorded under the tile's next tag. -/
def State.addOutst (s : State) (t : Nat) (o : Outst) : State :=
  s.modTile t fun x => { x with
    outst := x.outst ++ [{ o with tag := x.nextTag }], nextTag := (x.nextTag + 1) % 256 }

/-- The node of a local address (R294); none for a hole. -/
def nodeOf (a : Nat) : Option Nat :=
  if a < 0x10000000 then some (a / 0x800000)
  else if 0x0100000000 ≤ a ∧ a < 0x0102000000 then some ((a - 0x0100000000) / 0x100000)
  else if 0x0200000000 ≤ a ∧ a < 0x0202000000 then some ((a - 0x0200000000) / 0x100000)
  else if 0x0300000000 ≤ a ∧ a < 0x0302000000 then some ((a - 0x0300000000) / 0x100000)
  else if 0x0302000000 ≤ a ∧ a < 0x0302200000 then some ((a - 0x0302000000) / 0x10000)
  else if 0x0303000000 ≤ a ∧ a < 0x0303100000 then some 32
  else if 0x0400000000 ≤ a ∧ a < 0x0442000000 then
    let o := a - 0x0400000000
    if 0x2C0000 ≤ o ∧ o < 0x10000000 then none
    else if 0x10000000 ≤ o ∧ o < 0x12000000 then some ((o - 0x10000000) / 0x100000)
    else if 0x12000000 ≤ o ∧ o < 0x40000000 then none
    else if 0x40000000 ≤ o then some ((o - 0x40000000) / 0x100000)
    else some 32
  else if 0x0800000000 ≤ a ∧ a < 0x1000000000 then some 32
  else none

def isRegSpace (a : Nat) : Bool := decide (0x0400000000 ≤ a ∧ a < 0x0442000000)
/-- Queue memory or configuration frame space, closed to data slots (R41, R460). -/
def isPrivSpace (a : Nat) : Bool :=
  decide (0x0100000000 ≤ a ∧ a < 0x0102000000) || decide (0x0300000000 ≤ a ∧ a < 0x0303100000)

/-- A request sent by the tile for slot `k`; `result` carries the slot number that its tag stands for. -/
def State.request (s : State) (t k node : Nat) (p : Pkt) (o : Outst) : State :=
  let tag := (s.tile t).nextTag
  let s := s.addOutst t { o with slot := k }
  s.inject (t / 16) { p with src := t, dest := node, tag := tag, view := s.slotView t k, result := k }

/-! ### Addresses (R158 to R160) -/

/-- Where an effective address leads: the own store, or a window and the local address. -/
inductive EaTarget where
  | own (off : Nat)
  | win (sh : Bool) (la : Nat)
  | fault (code : Nat)
  deriving DecidableEq, Repr

def winEn : Fld := ⟨.TIL_WIN, 63, 63⟩
def winSh : Fld := ⟨.TIL_WIN, 62, 62⟩
def winBase : Fld := ⟨.TIL_WIN, 39, 24⟩

/-- The window target of an effective address, with the checks of R159 and R140; a window to anything but tile stores is
uncached (R165). -/
def State.winTarget (s : State) (t k ea size : Nat) : EaTarget :=
  let w := ea / 0x1000000 - 0x10
  let i := 32 * t + 4 * k + w
  let la := s.fld winBase i * 0x1000000 + ea % 0x1000000
  let guard := (s.guardOf t k).isSome
  if !s.flag winEn i then .fault 0x3212
  else if isRegSpace la ∧ (!guard ∨ size ≠ 4) then .fault 0x3212
  else if isPrivSpace la ∧ !guard then .fault 0x3212
  else if (nodeOf la).isNone then .fault 0x3215
  else if la / 0x80000 = t ∧ s.inLees t (la % 0x80000) size then .fault 0x3202
  else .win (s.flag winSh i && decide (la < 0x10000000)) la

/-- An access of `size` bytes at EA = ra + sext(imm) (R158 to R160). -/
def State.eaTarget (s : State) (t k : Nat) (ra : SReg) (imm : BitVec 16) (size : Nat) : EaTarget :=
  let ea := (s.gpr t k ra + imm.signExtend 32).toNat
  if ea % size ≠ 0 then .fault 0x3211
  else if ea < 0x80000 then (if s.inLees t ea size then .fault 0x3202 else .own ea)
  else if 0x10000000 ≤ ea ∧ ea < 0x14000000 then s.winTarget t k ea size
  else .fault 0x3212

/-! ### The data cache (R165) -/

/-- A line moved to, or placed at, the most recently used place of its set of four. -/
def cachePut (l : List CLine) (c : CLine) : List CLine :=
  let same := fun (x : CLine) => decide (x.addr / 64 % 32 = c.addr / 64 % 32)
  c :: ((l.filter fun x => same x && x.addr != c.addr).take 3 ++ l.filter fun x => !same x)

def State.cached (s : State) (t la : Nat) : Option CLine :=
  (s.tile t).dcache.find? fun c => c.addr == la / 64 * 64

def State.cacheLine (s : State) (t : Nat) (c : CLine) : State :=
  s.modTile t fun x => { x with dcache := cachePut x.dcache c }

/-- The copy of a line dropped, and lines on their way to the cache not kept (R166). -/
def State.uncache (s : State) (t la : Nat) : State :=
  let a := la / 64 * 64
  s.modTile t fun x => { x with
    dcache := x.dcache.filter fun c => c.addr != a
    outst := x.outst.map fun o => if o.addr / 64 * 64 = a then { o with cacheLine := false } else o }

/-! ### Loads (R161, R162) -/

/-- A value of `size` bytes, extended to a register. -/
def extend (size : Nat) (sext : Bool) (n : Nat) : Word :=
  if sext then (BitVec.ofNat (8 * size) n).signExtend 32 else BitVec.ofNat 32 n

/-- The bytes the line buffer holds for the own store (R183). -/
def State.buffered (s : State) (t off : Nat) : Option Byte :=
  match (s.tile t).lineBuf with
  | some b => if !b.spill ∧ !b.window ∧ off / 64 * 64 = b.base then (b.bytes.find? (·.1 = off % 64)).map (·.2) else none
  | none => none

/-- A load from the own store waits for the slot's own stores to the line through a window (R183). -/
def State.ownLoadWaits (s : State) (t k la : Nat) : Bool :=
  ((s.tile t).lineBuf.any fun b => b.window && b.slot == k && b.base == la / 64 * 64) ||
    (s.tile t).outst.any fun o => o.slot == k && o.kind == .store && !o.done && o.addr / 64 == la / 64

/-- A load from the own store: its value is read now and returns later; a miss reads the whole line (R161, R162, R165, R268). -/
def State.loadOwn (s : State) (t k : Nat) (rd : SReg) (off size : Nat) (sext : Bool) : State :=
  let la := t * 0x80000 + off
  let buf := fun i => s.buffered t (off + i)
  let rec_ := { outst0 with slot := k, kind := .load, rd := rd.val, size := size, sext := sext, pc := s.pc t k,
                            addr := la, done := true }
  match s.cached t la with
  | some c =>
    let n := leNat ((List.range size).map fun i => (buf i).getD (c.bytes.getD ((off + i) % 64) 0#8))
    ((s.cacheLine t c).addOutst t { rec_ with bits := extend size sext n }).advance t k
  | none =>
    let raw := s.peekN t off size
    let need := (List.range size).filter fun i => (buf i).isNone
    let ue := need.any fun i => (raw.getD i (0#8, false)).2
    let fr := s.fresh (s.phys t off) && !need.isEmpty
    let n := leNat ((List.range size).map fun i => (buf i).getD (raw.getD i (0#8, false)).1)
    let line := s.peekN t (off / 64 * 64) 64
    let keep := !s.fresh (s.phys t off) && !line.any (·.2)
    let s := if fr then s else s.noteRead t (off / 64 * 64) 64 0 k
    let s := if keep then s.cacheLine t ⟨la / 64 * 64, line.map (·.1)⟩ else s
    let s := s.bump .TIL_DCMISS t
    (s.addOutst t { rec_ with bits := extend size sext n, ue := ue, fresh := fr }).advance t k

def szCode (n : Nat) : Nat := if n = 1 then 0 else if n = 2 then 1 else if n = 4 then 2 else if n = 8 then 3 else 4

/-- An access through a window waits while one of the slot through the same window is on its way to another node, where
nothing keeps the two in order (R183). -/
def State.orderWaits (s : State) (t k la : Nat) : Bool :=
  (s.tile t).outst.any fun o => o.slot == k && o.window && !o.done && o.addr / 2 ^ 24 == la / 2 ^ 24 && nodeOf o.addr != nodeOf la

/-- A load through a window waits for the slot's own stores in the line buffer and for a request buffer (R183, R305). -/
def State.winLoadWaits (s : State) (t k la : Nat) : Bool :=
  !s.netFree t || s.orderWaits t k la || ((s.tile t).lineBuf.any fun b => b.window && b.slot == k)

/-- The bytes wait in the line buffer as a store of the slot to its own store (R183). -/
def State.ownBuffered (s : State) (t k la : Nat) : Bool :=
  (s.tile t).lineBuf.any fun b => !b.spill && !b.window && b.slot == k && decide (t * 0x80000 + b.base = la / 64 * 64)

/-- A load through a window: from the data cache when SH = 1 and the line is there, else by a request (R158, R161). -/
def State.loadWin (s : State) (t k : Nat) (rd : SReg) (sh : Bool) (la size : Nat) (sext : Bool) : State :=
  let rec_ := { outst0 with slot := k, kind := .load, rd := rd.val, size := size, sext := sext, pc := s.pc t k,
                            addr := la, window := true }
  let hit := if sh then s.cached t la else none
  if s.ownBuffered t k la then s
  else match hit with
  | some c =>
    let n := leNat ((List.range size).map fun i => c.bytes.getD ((la + i) % 64) 0#8)
    ((s.cacheLine t c).addOutst t { rec_ with bits := extend size sext n, done := true }).advance t k
  | none =>
    if s.winLoadWaits t k la then s
    else
      let s := if sh then s.bump .TIL_DCMISS t else s
      let p := if sh then { pkt0 with op := .rd, addr := la / 64 * 64, size := 4 }
        else { pkt0 with op := .rd, addr := la, size := szCode size }
      (s.request t k ((nodeOf la).getD 32) p { rec_ with cacheLine := sh }).advance t k

/-- LDB to LDW: a load of `size` bytes (R158 to R162). -/
def State.load (s : State) (t k : Nat) (rd ra : SReg) (imm : BitVec 16) (size : Nat) (sext : Bool) : State :=
  match s.eaTarget t k ra imm size with
  | .fault code => s.seqFault t k code
  | .own off => if s.ownLoadWaits t k (t * 0x80000 + off) then s else s.loadOwn t k rd off size sext
  | .win sh la => s.loadWin t k rd sh la size sext

/-- The result of a load delivered, or discarded after an ABORT (R221), or the context faulted (R159, R162, R184). -/
def State.loadReturn (s : State) (t : Nat) (o : Outst) : State :=
  let s := s.modTile t fun x => { x with outst := x.outst.filter fun y => y.tag != o.tag }
  let k := o.slot
  if o.drop then s
  else if o.status = stNoPriv then s.contextFault t k 0x3212 o.pc 0
  else if o.status ≠ 0 then s.contextFault t k 0x3215 o.pc 0
  else
    let s := if o.ue then s.setFlag t k flLP true else s
    let s := if o.fresh then s.setFlag t k flFR true else s
    let off := o.addr % 0x80000
    let s := if o.fresh ∧ s.flag slotFtrap (8 * t + k) then
        s.raise 0x1003 1 (locTile t k 0xFF) (memData off 0 ((2 ^ o.size - 1) * 2 ^ (off % 8)) 0x80 k
          (s.physPage t (off / 4096)))
      else s
    if o.ue ∧ s.seqFlag t k flPF then s.contextFault t k 0x3214 o.pc 0
    else s.setGpr t k (Fin.ofNat 32 o.rd) o.bits

/-! ### Stores (R163) -/

/-- The line of the line buffer that a store goes to. -/
def lineOf (target : EaTarget) : Nat :=
  match target with
  | .own off => off / 64 * 64
  | .win _ la => la / 64 * 64
  | .fault _ => 0

/-- The store may enter the line buffer now: it is empty, or holds a merging line of the same slot (R163). A store to
register space takes the buffer alone. -/
def State.lineFree (s : State) (t k : Nat) (win : Bool) (base : Nat) : Bool :=
  match (s.tile t).lineBuf with
  | none => true
  | some b => !b.spill && b.slot == k && b.window == win && b.base == base && !(win && isRegSpace base)

/-- The bytes of a store put into the line buffer. -/
def State.bufferStore (s : State) (t k : Nat) (win : Bool) (base off size : Nat) (v : Word) : State :=
  let new := (List.range size).map fun i => ((off + i) % 64, BitVec.ofNat 8 (v.toNat / 2 ^ (8 * i)))
  let b0 : LineBuf := match (s.tile t).lineBuf with
    | some b => b
    | none => { spill := false, slot := k, base := base, window := win, view := s.slotView t k, pc := s.pc t k,
                bytes := [] }
  s.modTile t fun x => { x with
    lineBuf := some { b0 with bytes := b0.bytes.filter (fun p => !new.any fun q => q.1 == p.1) ++ new } }

/-- STB to STW: a store of `size` bytes (R158 to R160, R163); it waits before issue while the buffer is busy. -/
def State.storeSeq (s : State) (t k : Nat) (rs ra : SReg) (imm : BitVec 16) (size : Nat) : State :=
  match s.eaTarget t k ra imm size with
  | .fault code => s.seqFault t k code
  | .own off =>
    if s.lineFree t k false (off / 64 * 64) then
      (s.bufferStore t k false (off / 64 * 64) off size (s.gpr t k rs)).advance t k
    else s
  | .win _ la =>
    if s.lineFree t k true (la / 64 * 64) then
      ((s.uncache t la).bufferStore t k true (la / 64 * 64) la size (s.gpr t k rs)).advance t k
    else s

/-- A window line as one write request: its own size when its bytes are one aligned access, else a line write with byte
enables (R163, R299). -/
def lineWrite (b : LineBuf) : Pkt :=
  let offs := b.bytes.map (·.1)
  let lo := offs.foldl min 63
  let n := offs.length
  let val := fun i => (b.bytes.find? (·.1 = i)).map (·.2)
  if (n = 1 ∨ n = 2 ∨ n = 4 ∨ n = 8) ∧ lo % n = 0 ∧ offs.all (fun o => decide (o < lo + n)) then
    { pkt0 with op := .wr, addr := b.base + lo, size := szCode n, data := (List.range n).map fun i => val (lo + i) }
  else { pkt0 with op := .wr, addr := b.base, size := 4, data := (List.range 64).map val }

/-- The line buffer drained (R163, R166): written to the own store, or sent as one write request. -/
def State.drainLine (s : State) (t : Nat) (b : LineBuf) : State :=
  if b.window then
    if s.netFree t && !s.orderWaits t b.slot b.base then
      let s := s.modTile t fun x => { x with lineBuf := none }
      let p := lineWrite b
      s.request t b.slot ((nodeOf b.base).getD 32) p
        { outst0 with kind := .store, pc := b.pc, addr := b.base, window := true }
    else s
  else
    let s := s.modTile t fun x => { x with lineBuf := none }
    (s.writeStore t (b.bytes.map fun p => (b.base + p.1, p.2, false))).2

/-! ### Queue instructions (R168 to R172) -/

/-- The queue an instruction names (R154). -/
def State.seqQueue (s : State) (t k : Nat) (q : Fin 16384) (ind : Bool) : Nat :=
  if ind then (s.gpr t k (Fin.ofNat 32 q.val)).toNat % 16384 else q.val

/-- Registers an indirect queue instruction reads. -/
def indRegs (q : Fin 16384) (ind : Bool) : List SReg := if ind then [Fin.ofNat 32 q.val] else []

/-- The open flow entry whose output queue is `q`: a push there is staged (R214). -/
def State.stageOf (s : State) (t k q : Nat) : Option Nat :=
  match (s.slot t k).flow, (s.slot t k).task with
  | some id, some n =>
    let f := homeFloor n
    match (s.floor f).seq.find? (·.id = id) with
    | some e => if f * 512 + s.fld flowOq (64 * f + e.flow) = q then some id else none
    | none => none
  | _, _ => none

/-- The first SOP that a flow activation takes from its input queue numbers its entry (R213). -/
def State.numberFlow (s : State) (t k q : Nat) (sop : Bool) : State :=
  match (s.slot t k).flow, (s.slot t k).task with
  | some id, some n =>
    let f := homeFloor n
    match (s.floor f).seq.find? (·.id = id) with
    | some e =>
      let i := 64 * f + e.flow
      if sop ∧ e.num = none ∧ s.tqOf n = q then
        let num := s.fld flowSeq i
        (s.modFloor f fun x => { x with
          seq := x.seq.map fun y => if y.id = id then { y with num := some num } else y }).setFld flowSeq i (num + 1)
      else s
    | none => s
  | _, _ => s

/-- A popped word delivered: the register, its tags in the flags, poison (R168, R169). `nb` marks a non-blocking pop. -/
def State.popDeliver (s : State) (t k pc rd : Nat) (w : Word) (sop eop psn nb : Bool) : State :=
  let s := ((s.setFlag t k flSOP sop).setFlag t k flEOP eop).setFlag t k flWP psn
  let s := if psn then s.setFlag t k flQP true else s
  let s := if nb then s.setFlag t k flEM false else s
  if psn ∧ s.seqFlag t k flPF then s.contextFault t k 0x3214 pc 0
  else s.setGpr t k (Fin.ofNat 32 rd) w

/-- A remote request for a queue of another floor, when the tile may send one. -/
def State.queueReq (s : State) (t k q : Nat) (p : Pkt) (o : Outst) : State :=
  if s.netFree t then
    (s.request t k (q / 512) { p with addr := q } { o with slot := k, queue := q, pc := s.pc t k }).advance t k
  else s

/-- QPUSH (R168, R169): on the tile's own floor at once, else by a request; it waits before issue while it must. -/
def State.seqPush (s : State) (t k : Nat) (r : SReg) (q : Nat) (nb sop eop psn : Bool) : State :=
  let w := s.gpr t k r
  if !s.slotOwns t k 1 q then s.seqFault t k 0x3212
  else if q / 512 = t / 16 then
    let (ok, s') := s.pushWord q (.slot t k) (s.stageOf t k q) w sop eop psn
    if ok then ((if nb then s'.setFlag t k flEM false else s')).advance t k
    else if nb then (s.setFlag t k flEM true).advance t k
    else s'
  else if (s.tile t).outst.any fun o => o.slot == k && o.kind == .qpush && o.queue == q then s
  else s.queueReq t k q
    { pkt0 with op := .qpush, nb := nb, data := (leBytes 4 w.toNat).map some, psn := b2n psn, sop := sop, eop := eop }
    { outst0 with kind := .qpush, nb := nb, bits := w, sop := sop, eop := eop, ue := psn }

/-- QPOP (R168, R169). -/
def State.seqPop (s : State) (t k : Nat) (r : SReg) (q : Nat) (nb : Bool) : State :=
  if !s.slotOwns t k 1 q then s.seqFault t k 0x3212
  else if q / 512 = t / 16 then
    match s.popWord q (.slot t k) with
    | some (w, s) =>
      let pc := s.pc t k
      ((s.numberFlow t k q w.sop).advance t k).popDeliver t k pc r.val w.data w.sop w.eop w.psn nb
    | none => if nb then (s.setFlag t k flEM true).advance t k else s
  else s.queueReq t k q { pkt0 with op := .qpop, nb := nb } { outst0 with kind := .qpop, rd := r.val, nb := nb }

/-- QDROP (R170, R243). -/
def State.seqDrop (s : State) (t k q : Nat) : State :=
  if !s.slotOwns t k 1 q then s.seqFault t k 0x3212
  else if q / 512 = t / 16 then (s.dropBy q (.slot t k)).advance t k
  else s.queueReq t k q { pkt0 with op := .qdrop } { outst0 with kind := .qdrop }

/-- QLVL (R170, R250). -/
def State.seqLvl (s : State) (t k : Nat) (r : SReg) (q : Nat) : State :=
  if !s.slotOwns t k 1 q then s.seqFault t k 0x3212
  else if q / 512 = t / 16 then s.aluRes t k r (BitVec.ofNat 32 (s.queue q).level)
  else s.queueReq t k q { pkt0 with op := .qlvl } { outst0 with kind := .qlvl, rd := r.val }

/-! ### Frames (R133, R134, R142) -/

/-- Frames that the lees of the slot holds at most (R136). -/
def State.leesCap (s : State) (t k : Nat) : Nat := 4 * 2 ^ s.fld leesLsz (8 * t + k)

/-- The frame of a callee: f0 to f7 are the caller's f8 to f15, f8 to f15 are zero (R133). -/
def calleeFrame (caller : List Word) : List Word := caller.drop 8 ++ List.replicate 8 0#32

/-- The six frames after a push. -/
def pushFrame (l : List (List Word)) : List (List Word) := calleeFrame (l.headD []) :: l.take 5

/-- The six frames after a pop to a caller in hardware (R134). -/
def popFrame (l : List (List Word)) : List (List Word) :=
  returnTo (l.headD []) ((l.drop 1).headD []) :: (l.drop 2 ++ [List.replicate 16 0#32])

/-- The oldest hardware frame captured into the line buffer (R133, R139). -/
def State.captureSpill (s : State) (t k : Nat) : State :=
  let i := 8 * t + k
  let n := s.fld leesSpilled i
  let bytes := (((s.slot t k).frames.getD 5 []).flatMap fun (w : Word) => leBytes 4 w.toNat).zipIdx.map fun p => (p.2, p.1)
  let s := s.modTile t fun x => { x with
    lineBuf := some { spill := true, slot := k, base := s.spillAt t k n, window := false, view := 0, pc := 0,
                      bytes := bytes } }
  (s.setFld leesSpilled i (n + 1)).setFld leesHwm i (max (s.fld leesHwm i) (n + 1))

/-- CALL (R133, R139, R142). -/
def State.callTo (s : State) (t k target : Nat) : State :=
  let i := 8 * t + k
  let h := s.fld leesHdepth i
  let push := fun (s : State) => (s.modSlot t k fun x => { x with frames := pushFrame x.frames }).setPc t k target
  if h = 6 then
    if s.leesCap t k ≤ s.fld leesSpilled i then s.seqFault t k 0x3201
    else if (s.tile t).lineBuf.isSome then s
    else push (s.captureSpill t k)
  else push (s.setFld leesHdepth i (h + 1))

/-- An activation that reaches RET at depth 1 is done; a guard slot leaves as by YIELD (R174). -/
def State.endOrExit (s : State) (t k : Nat) : State :=
  match s.guardOf t k with
  | none => ((s.endActivation t k .done).setSstate t k stIdle).idleTile t
  | some g => (s.setSstate t k stIdle).leaveGuard t g

/-- The current frame is the root frame: depth 1 (R135). -/
def State.atRoot (s : State) (t k : Nat) : Bool :=
  decide (s.fld leesHdepth (8 * t + k) ≤ 1) && s.fld leesSpilled (8 * t + k) == 0

/-- RET (R134, R135, R173, R174). -/
def State.ret (s : State) (t k : Nat) (ra : SReg) : State :=
  let i := 8 * t + k
  let h := s.fld leesHdepth i
  let target := (s.gpr t k ra).toNat
  if s.atRoot t k then s.endOrExit t k
  else if target % 4 ≠ 0 then s.seqFault t k 0x3211
  else if 1 < h then
    ((s.modSlot t k fun x => { x with frames := popFrame x.frames }).setFld leesHdepth i (h - 1)).setPc t k target
  else
    (s.modTile t fun x => { x with fillWait := some k }).modSlot t k fun x => { x with
      retPending := some (target % 0x80000) }

/-! ### Waiting (R175 to R178) -/

/-- The queue would take one word from agent `a` (R175 QSPC, R240). -/
def State.roomFor (s : State) (q : Nat) (a : Agent) : Bool :=
  let x := s.queue q
  let skipped := x.skips.contains a || (x.skip && x.ilock == some a)
  (s.qOpen q || (s.qDraining q && x.ilock == some a)) && !s.qFull q &&
    (skipped || ((x.ilock.isNone || x.ilock == some a) && !x.truncWait))

/-- The condition of a WAIT holds for slot `k` (R175, R242). -/
def State.condHolds (s : State) (t k : Nat) (w : WaitCond) : Bool :=
  match w with
  | .qne q => s.poppable q (.slot t k)
  | .qspc q => s.roomFor q (.slot t k)
  | .time n => decide (n ≤ s.tim.now)
  | .ticks => false
  | .fpinv => bit (s.reg .TIL_FPX (8 * t + k)) 0

/-- The slot gives up the tile in a WAIT: the program counter is past it (R127, R176). -/
def State.waitIn (s : State) (t k : Nat) (w : WaitCond) : State :=
  let s := (s.advance t k).suspend t k (.waiting w)
  match s.guardOf t k with
  | none => s.idleTile t
  | some g => s.leaveGuard t g

/-- CX is set in a data slot (R178). -/
def State.cancelled (s : State) (t k : Nat) : Bool := (s.guardOf t k).isNone && s.seqFlag t k flCX

/-- WAIT on a condition (R176, R178). -/
def State.waitFor (s : State) (t k : Nat) (w : WaitCond) : State :=
  if s.cancelled t k then s.cancelSlot t k
  else if s.condHolds t k w then s.advance t k
  else s.waitIn t k w

/-- WAIT on a queue, with the checks of R172. -/
def State.waitQueue (s : State) (t k q : Nat) (w : WaitCond) : State :=
  if !s.slotOwns t k 1 q then s.seqFault t k 0x3212
  else if q / 512 ≠ t / 16 ∧ s.domainOff (q / 512) then s.seqFault t k 0x3215
  else s.waitFor t k w

/-- WAIT TICKS (R175, R209, R210): it takes an entry of the floor's delay list, or waits before issue for one. -/
def State.waitTicksN (s : State) (t k n : Nat) : State :=
  let f := t / 16
  if s.cancelled t k then s.cancelSlot t k
  else if n = 0 then s.advance t k
  else if (s.floor f).dlyWait.any (·.1 = .slot t k) then s
  else if (s.floor f).delay.length < 256 ∧ (s.floor f).dlyWait = [] then (s.takeDelay f (.slot t k) n).waitIn t k .ticks
  else s.waitDelay f (.slot t k) n

end Sys2Proof.Machine
end

