-- ==== Sys2Proof/Machine/Sequencer.lean ====
section
/-! DEFINITION. The tile sequencer's instructions (R156): each issues when it is the word at the program counter of the active
slot, and otherwise has no effect (log 7). -/

namespace Sys2Proof.Machine

open Sys2Proof

/-! ### Arithmetic (R156) -/

/-- ADD: rd := ra + rb (R156). -/
def execAdd (t : TileNo) (rd ra rb : SReg) (s : State) : Out :=
  seqStep t (.add t rd ra rb) [rd, ra, rb] s fun k s =>
    let a := s.gpr t k ra
    let b := s.gpr t k rb
    s.aluRes t k rd (a + b)

/-- SUB: rd := ra − rb (R156). -/
def execSub (t : TileNo) (rd ra rb : SReg) (s : State) : Out :=
  seqStep t (.sub t rd ra rb) [rd, ra, rb] s fun k s =>
    let a := s.gpr t k ra
    let b := s.gpr t k rb
    s.aluRes t k rd (a - b)

/-- MUL: rd := low 32 bits of ra × rb (R156). -/
def execMul (t : TileNo) (rd ra rb : SReg) (s : State) : Out :=
  seqStep t (.mul t rd ra rb) [rd, ra, rb] s fun k s =>
    let a := s.gpr t k ra
    let b := s.gpr t k rb
    s.aluRes t k rd (a * b)

/-- AND: rd := ra AND rb (R156). -/
def execAnd (t : TileNo) (rd ra rb : SReg) (s : State) : Out :=
  seqStep t (.and_ t rd ra rb) [rd, ra, rb] s fun k s =>
    let a := s.gpr t k ra
    let b := s.gpr t k rb
    s.aluRes t k rd (a &&& b)

/-- OR: rd := ra OR rb (R156). -/
def execOr (t : TileNo) (rd ra rb : SReg) (s : State) : Out :=
  seqStep t (.or_ t rd ra rb) [rd, ra, rb] s fun k s =>
    let a := s.gpr t k ra
    let b := s.gpr t k rb
    s.aluRes t k rd (a ||| b)

/-- XOR: rd := ra XOR rb (R156). -/
def execXor (t : TileNo) (rd ra rb : SReg) (s : State) : Out :=
  seqStep t (.xor_ t rd ra rb) [rd, ra, rb] s fun k s =>
    let a := s.gpr t k ra
    let b := s.gpr t k rb
    s.aluRes t k rd (a ^^^ b)

/-- SHL: rd := ra shifted left by rb[4:0], zero fill (R156). -/
def execShl (t : TileNo) (rd ra rb : SReg) (s : State) : Out :=
  seqStep t (.shl t rd ra rb) [rd, ra, rb] s fun k s =>
    let a := s.gpr t k ra
    let b := s.gpr t k rb
    s.aluRes t k rd (a <<< (b.toNat % 32))

/-- SHR: rd := ra shifted right by rb[4:0], zero fill (R156). -/
def execShr (t : TileNo) (rd ra rb : SReg) (s : State) : Out :=
  seqStep t (.shr t rd ra rb) [rd, ra, rb] s fun k s =>
    let a := s.gpr t k ra
    let b := s.gpr t k rb
    s.aluRes t k rd (a >>> (b.toNat % 32))

/-- SAR: rd := ra shifted right by rb[4:0], sign fill (R156). -/
def execSar (t : TileNo) (rd ra rb : SReg) (s : State) : Out :=
  seqStep t (.sar t rd ra rb) [rd, ra, rb] s fun k s =>
    let a := s.gpr t k ra
    let b := s.gpr t k rb
    s.aluRes t k rd (a.sshiftRight (b.toNat % 32))

/-- SLT: rd := 1 if ra < rb as signed, else 0 (R156). -/
def execSlt (t : TileNo) (rd ra rb : SReg) (s : State) : Out :=
  seqStep t (.slt t rd ra rb) [rd, ra, rb] s fun k s =>
    let a := s.gpr t k ra
    let b := s.gpr t k rb
    s.aluRes t k rd (if a.slt b then 1#32 else 0#32)

/-- SLTU: rd := 1 if ra < rb as unsigned, else 0 (R156). -/
def execSltu (t : TileNo) (rd ra rb : SReg) (s : State) : Out :=
  seqStep t (.sltu t rd ra rb) [rd, ra, rb] s fun k s =>
    let a := s.gpr t k ra
    let b := s.gpr t k rb
    s.aluRes t k rd (if a.ult b then 1#32 else 0#32)

/-- ADDI: rd := ra + sext(imm16) (R156). -/
def execAddi (t : TileNo) (rd ra : SReg) (imm : BitVec 16) (s : State) : Out :=
  seqStep t (.addi t rd ra imm) [rd, ra] s fun k s => s.aluRes t k rd (s.gpr t k ra + imm.signExtend 32)

/-- ANDI: rd := ra AND zext(imm16) (R156). -/
def execAndi (t : TileNo) (rd ra : SReg) (imm : BitVec 16) (s : State) : Out :=
  seqStep t (.andi t rd ra imm) [rd, ra] s fun k s => s.aluRes t k rd (s.gpr t k ra &&& imm.setWidth 32)

/-- ORI: rd := ra OR zext(imm16) (R156). -/
def execOri (t : TileNo) (rd ra : SReg) (imm : BitVec 16) (s : State) : Out :=
  seqStep t (.ori t rd ra imm) [rd, ra] s fun k s => s.aluRes t k rd (s.gpr t k ra ||| imm.setWidth 32)

/-- A shift or rotation of SHI: kind 0 left, 1 right, 2 right with sign fill, 3 rotate left. -/
def shiKind (kind : Fin 4) (n : Nat) (a : Word) : Word :=
  if kind = 0 then a <<< n
  else if kind = 1 then a >>> n
  else if kind = 2 then a.sshiftRight n
  else a.rotateLeft n

/-- SHI: ra shifted or rotated by an immediate count (R156). -/
def execShi (t : TileNo) (rd ra : SReg) (kind : Fin 4) (n : Fin 32) (s : State) : Out :=
  seqStep t (.shi t rd ra kind n) [rd, ra] s fun k s => s.aluRes t k rd (shiKind kind n (s.gpr t k ra))

/-- LUI: rd := imm16 × 65,536 (R156). -/
def execLui (t : TileNo) (rd : SReg) (imm : BitVec 16) (s : State) : Out :=
  seqStep t (.lui t rd imm) [rd] s fun k s => s.aluRes t k rd (imm ++ 0#16)

/-- ADR: rd := PC + 4 × sext(imm16) (R156). -/
def execAdr (t : TileNo) (rd : SReg) (imm : BitVec 16) (s : State) : Out :=
  seqStep t (.adr t rd imm) [rd] s fun k s =>
    s.aluRes t k rd (BitVec.ofNat 32 (s.pc t k) + BitVec.ofInt 32 (4 * imm.toInt))

/-! ### Loads and stores (R158 to R164) -/

/-- LDB: a sign-extended byte loaded from EA (R158 to R162). -/
def execLdb (t : TileNo) (rd ra : SReg) (imm : BitVec 16) (s : State) : Out :=
  seqStep t (.ldb t rd ra imm) [rd, ra] s fun k s => s.load t k rd ra imm 1 true

/-- LDBU: a zero-extended byte loaded from EA (R158 to R162). -/
def execLdbu (t : TileNo) (rd ra : SReg) (imm : BitVec 16) (s : State) : Out :=
  seqStep t (.ldbu t rd ra imm) [rd, ra] s fun k s => s.load t k rd ra imm 1 false

/-- LDH: a sign-extended halfword loaded from EA (R158 to R162). -/
def execLdh (t : TileNo) (rd ra : SReg) (imm : BitVec 16) (s : State) : Out :=
  seqStep t (.ldh t rd ra imm) [rd, ra] s fun k s => s.load t k rd ra imm 2 true

/-- LDHU: a zero-extended halfword loaded from EA (R158 to R162). -/
def execLdhu (t : TileNo) (rd ra : SReg) (imm : BitVec 16) (s : State) : Out :=
  seqStep t (.ldhu t rd ra imm) [rd, ra] s fun k s => s.load t k rd ra imm 2 false

/-- LDW: a word loaded from EA (R158 to R162). -/
def execLdw (t : TileNo) (rd ra : SReg) (imm : BitVec 16) (s : State) : Out :=
  seqStep t (.ldw t rd ra imm) [rd, ra] s fun k s => s.load t k rd ra imm 4 false

/-- STB: byte rs[7:0] stored at EA (R158 to R160, R163). -/
def execStb (t : TileNo) (rs ra : SReg) (imm : BitVec 16) (s : State) : Out :=
  seqStep t (.stb t rs ra imm) [rs, ra] s fun k s => s.storeSeq t k rs ra imm 1

/-- STH: halfword rs[15:0] stored at EA (R158 to R160, R163). -/
def execSth (t : TileNo) (rs ra : SReg) (imm : BitVec 16) (s : State) : Out :=
  seqStep t (.sth t rs ra imm) [rs, ra] s fun k s => s.storeSeq t k rs ra imm 2

/-- STW: word rs stored at EA (R158 to R160, R163). -/
def execStw (t : TileNo) (rs ra : SReg) (imm : BitVec 16) (s : State) : Out :=
  seqStep t (.stw t rs ra imm) [rs, ra] s fun k s => s.storeSeq t k rs ra imm 4

/-- LOAD_RESULT_RETURN (R162): the result of the load with this tag returns to its register. -/
def execLoadResultReturn (t : TileNo) (tag : Nat) (s : State) : Out :=
  match (s.tile t).outst.find? fun o => o.tag == tag && o.kind == .load && o.done with
  | none => .next s
  | some o => if s.floorRuns (t / 16) then .next (s.loadReturn t o) else .next s

/-- LINE_BUFFER_DRAIN (R163). -/
def execLineBufferDrain (t : TileNo) (s : State) : Out :=
  match (s.tile t).lineBuf with
  | none => .next s
  | some b => if b.spill then .next s else .next (s.drainLine t b)

/-- The line of the program counter fetched into the instruction cache, or the context faulted (R164). -/
def State.fetchFill (s : State) (t k : Nat) : State :=
  let pc := s.pc t k
  let base := pc / 64 * 64
  if s.inLees t base 64 then s.seqFault t k 0x3202
  else if s.fresh (s.phys t base) then s.seqFault t k 0x3210
  else
    let l := s.peekN t base 64
    let bad := l.findIdx? (·.2)
    let d := (s.peek t (base + bad.getD 0)).1
    let page := s.physPage t (base / 4096)
    let s := s.noteRead t base 64 1 k
    match bad with
    | some o => s.contextFaultD t k 0x1006 pc (memData (base + o) 1 (ueMask l base (base + o)) (memByte5 d false) k page)
    | none =>
      let s := s.modTile t fun x => { x with icache := ⟨base, l.map (·.1)⟩ :: x.icache.take 63 }
      s.bump .TIL_ICMISS t

/-- ICACHE_FILL (R164): the line at the program counter is missing and is filled from the own store. -/
def execIcacheFill (t : TileNo) (s : State) : Out :=
  match s.active t with
  | none => .next s
  | some k =>
    if s.floorRuns (t / 16) && (s.fetchWord t k).isNone then .next (s.fetchFill t k) else .next s

/-- ILLEGAL_INSTRUCTION (R155): the fetched word is no instruction (open points: log 36). -/
def execIllegalInstruction (t : TileNo) (w : Word) (s : State) : Out :=
  match s.active t with
  | none => .next s
  | some k =>
    if s.floorRuns (t / 16) && decide (s.fetchWord t k = some w) && (decodeSeq t w).isNone then
      .next (s.seqFault t k 0x3210)
    else .next s

/-! ### Queue instructions (R168 to R172) -/

/-- QPUSH (R168, R169). -/
def execQpush (t : TileNo) (r : SReg) (q : Fin 16384) (ind nb sop eop psn : Bool) (s : State) : Out :=
  seqStep t (.qpush t r q ind nb sop eop psn) (r :: indRegs q ind) s fun k s =>
    s.seqPush t k r (s.seqQueue t k q ind) nb sop eop psn

/-- QPOP (R168, R169). -/
def execQpop (t : TileNo) (r : SReg) (q : Fin 16384) (ind nb : Bool) (s : State) : Out :=
  seqStep t (.qpop t r q ind nb) (r :: indRegs q ind) s fun k s => s.seqPop t k r (s.seqQueue t k q ind) nb

/-- QDROP (R170). -/
def execQdrop (t : TileNo) (q : Fin 16384) (ind : Bool) (s : State) : Out :=
  seqStep t (.qdrop t q ind) (indRegs q ind) s fun k s => s.seqDrop t k (s.seqQueue t k q ind)

/-- QLVL (R170). -/
def execQlvl (t : TileNo) (r : SReg) (q : Fin 16384) (ind : Bool) (s : State) : Out :=
  seqStep t (.qlvl t r q ind) (r :: indRegs q ind) s fun k s => s.seqLvl t k r (s.seqQueue t k q ind)

/-! ### Control transfer (R156, R157, R173, R174) -/

/-- The registers of the current frame, which CALL and RET copy. -/
def frameRegs : List SReg := (List.finRange 32).drop 16

/-- JMP (R154, R156). -/
def execJmp (t : TileNo) (off : BitVec 26) (s : State) : Out :=
  seqStep t (.jmp t off) [] s fun k s => s.setPc t k (relTarget (s.pc t k) off.toInt)

/-- CALL (R133, R142). -/
def execCall (t : TileNo) (off : BitVec 26) (s : State) : Out :=
  seqStep t (.call t off) frameRegs s fun k s => s.callTo t k (relTarget (s.pc t k) off.toInt)

/-- JR (R173). -/
def execJr (t : TileNo) (ra : SReg) (s : State) : Out :=
  seqStep t (.jr t ra) [ra] s fun k s =>
    let target := (s.gpr t k ra).toNat
    if target % 4 ≠ 0 then s.seqFault t k 0x3211 else s.setPc t k target

/-- RET (R134, R135, R173, R174); at depth 1 it reads no register. -/
def execRet (t : TileNo) (ra : SReg) (s : State) : Out :=
  let regs := match s.active t with
    | some k => if s.atRoot t k then [] else ra :: frameRegs
    | none => []
  seqStep t (.ret t ra) regs s fun k s => s.ret t k ra

/-- The conditions of BR (R157). -/
def brHolds (cond : Fin 6) (a b : Word) : Bool :=
  if cond = 0 then a == b
  else if cond = 1 then a != b
  else if cond = 2 then a.slt b
  else if cond = 3 then !a.slt b
  else if cond = 4 then a.ult b
  else !a.ult b

/-- BR (R156, R157). -/
def execBr (t : TileNo) (ra rb : SReg) (cond : Fin 6) (off : BitVec 13) (s : State) : Out :=
  seqStep t (.br t ra rb cond off) [ra, rb] s fun k s =>
    if brHolds cond (s.gpr t k ra) (s.gpr t k rb) then s.setPc t k (relTarget (s.pc t k) off.toInt)
    else s.advance t k

/-- LOOP (R156, R174): the counter falls by 1 whether or not the branch is taken. -/
def execLoop (t : TileNo) (rd : SReg) (imm : BitVec 16) (s : State) : Out :=
  seqStep t (.loop t rd imm) [rd] s fun k s =>
    let c := s.gpr t k rd - 1#32
    let s := s.setGpr t k rd c
    if c ≠ 0#32 then s.setPc t k (relTarget (s.pc t k) imm.toInt) else s.advance t k

/-! ### Waiting, yielding, tasks (R175 to R179) -/

/-- The queue of a WAIT: imm16[13:0], or ra[13:0] (R175). -/
def State.waitQ (s : State) (t k : Nat) (ra : SReg) (ind : Bool) (q : Fin 16384) : Nat :=
  if ind then (s.gpr t k ra).toNat % 16384 else q.val

/-- WAIT QNE (R175). -/
def execWaitQne (t : TileNo) (ra : SReg) (ind : Bool) (q : Fin 16384) (s : State) : Out :=
  seqStep t (.waitQne t ra ind q) (if ind then [ra] else []) s fun k s =>
    let n := s.waitQ t k ra ind q
    s.waitQueue t k n (.qne n)

/-- WAIT QSPC (R175). -/
def execWaitQspc (t : TileNo) (ra : SReg) (ind : Bool) (q : Fin 16384) (s : State) : Out :=
  seqStep t (.waitQspc t ra ind q) (if ind then [ra] else []) s fun k s =>
    let n := s.waitQ t k ra ind q
    s.waitQueue t k n (.qspc n)

/-- WAIT TIME (R175): until device time reaches {ra+1, ra}. -/
def execWaitTime (t : TileNo) (ra : SReg) (s : State) : Out :=
  seqStep t (.waitTime t ra) [ra, regUp ra] s fun k s =>
    s.waitFor t k (.time ((s.gpr t k ra).toNat + 2 ^ 32 * (s.gpr t k (regUp ra)).toNat))

/-- WAIT TICKS (R175). -/
def execWaitTicks (t : TileNo) (ra : SReg) (imm : BitVec 16) (s : State) : Out :=
  seqStep t (.waitTicks t ra imm) (if imm = 0#16 then [ra] else []) s fun k s =>
    s.waitTicksN t k (if imm = 0#16 then (s.gpr t k ra).toNat else imm.toNat)

/-- WAIT FPINV (R175). -/
def execWaitFpinv (t : TileNo) (s : State) : Out :=
  seqStep t (.waitFpinv t) [] s fun k s => s.waitFor t k .fpinv

/-- The suspended WAIT of a slot ends: the task is ready to resume, or the guard gets the Wake cause (R127, R176). -/
def State.waitMet (s : State) (t k : Nat) : State :=
  match s.guardOf t k with
  | some g => if s.floorOpen (t / 16) then (s.modSlot t k fun x => { x with susp := .met }).deliverCause t g 15 else s
  | none =>
    let s := s.modSlot t k fun x => { x with susp := .met }
    match (s.slot t k).task with
    | some n => s.readyTailAt (t / 16) n (.resume t k)
    | none => s

/-- WAIT_CONDITION_MET (R176). -/
def execWaitConditionMet (t : TileNo) (k : SlotNo) (s : State) : Out :=
  match (s.slot t k).susp with
  | .waiting w =>
    if s.sstate t k = stSuspended ∧ s.condHolds t k w then .next (s.waitMet t k) else .next s
  | _ => .next s

/-- YIELD (R127, R177, R178). -/
def State.yieldSlot (s : State) (t k : Nat) : State :=
  match s.guardOf t k with
  | some g => (s.setSstate t k stIdle).leaveGuard t g
  | none =>
    if s.cancelled t k then s.cancelSlot t k
    else
      let s := ((s.advance t k).suspend t k .yielded).idleTile t
      match (s.slot t k).task with
      | some n => s.readyTailAt (t / 16) n (.resume t k)
      | none => s

/-- YIELD (R177). -/
def execYield (t : TileNo) (s : State) : Out := seqStep t (.yield t) [] s fun k s => s.yieldSlot t k

/-- A SIGNAL or CANCEL packet sent to the hub of the task's home floor (R179). -/
def State.sendTask (s : State) (t k : Nat) (op : POp) (ra : SReg) : State :=
  let n := (s.gpr t k ra).toNat % 32768
  if !s.slotOwns t k 2 n then s.seqFault t k 0x3212
  else
    (s.inject (t / 16) { pkt0 with op := op, src := t, dest := homeFloor n, addr := n,
                                   view := s.slotView t k }).advance t k

/-- SIGNAL (R179). -/
def execSignal (t : TileNo) (ra : SReg) (s : State) : Out :=
  seqStep t (.signal t ra) [ra] s fun k s => s.sendTask t k .signal ra

/-- CANCEL (R179). -/
def execCancel (t : TileNo) (ra : SReg) (s : State) : Out :=
  seqStep t (.cancel t ra) [ra] s fun k s => s.sendTask t k .cancel ra

/-! ### Time, fences, traps and flags (R180 to R182) -/

/-- The hub's replica read now: within 4 ns of device time, and not below what the tile has read before (R180, log 19). -/
def State.replicaTime (s : State) (t : Nat) : Nat × State :=
  let (x, s) := s.fresh64
  let v := max (s.tile t).lastTime (s.tim.now - 4 + x.toNat % (min s.tim.now 4 + 5))
  (v, s.modTile t fun y => { y with lastTime := v })

/-- RDTIME (R180) (open points: log 19). -/
def execRdtime (t : TileNo) (rd : SReg) (s : State) : Out :=
  seqStep t (.rdtime t rd) [rd, regUp rd] s fun k s =>
    let (v, s) := s.replicaTime t
    ((s.setGpr t k rd (BitVec.ofNat 32 v)).setGpr t k (regUp rd) (BitVec.ofNat 32 (v / 2 ^ 32))).advance t k

/-- Earlier loads have returned and earlier stores are globally visible (R166, R182). -/
def State.memDone (s : State) (t k : Nat) : Bool :=
  let x := s.tile t
  !x.outst.any (fun o => o.slot == k && (o.kind == .load || o.kind == .store)) && x.invs.isEmpty &&
    !x.lineBuf.any fun b => !b.spill && b.slot == k

/-- Earlier pushes have been accepted by their queues (R182). -/
def State.pushDone (s : State) (t k : Nat) : Bool := !(s.tile t).outst.any fun o => o.slot == k && o.kind == .qpush

/-- FENCE (R182): it waits before issue for the work it selects (open points: log 36). -/
def execFence (t : TileNo) (m q i : Bool) (s : State) : Out :=
  seqStep t (.fence t m q i) [] s fun k s' =>
    if (m ∧ !s'.memDone t k) ∨ (q ∧ !s'.pushDone t k) then s
    else
      let s' := if i then s'.modTile t fun x => { x with icache := [] } else s'
      s'.advance t k

/-- TRAP (R156, R184). -/
def execTrap (t : TileNo) (imm : BitVec 16) (s : State) : Out :=
  seqStep t (.trap t imm) [] s fun k s => s.contextFault t k 0x3213 (s.pc t k) imm.toNat

/-- RDFL (R153, R156) (open points: log 97). -/
def execRdfl (t : TileNo) (rd : SReg) (s : State) : Out :=
  seqStep t (.rdfl t rd) [rd] s fun k s => s.aluRes t k rd (s.slot t k).flags

/-- CLRFL (R153, R156). -/
def execClrfl (t : TileNo) (lp qp fr : Bool) (s : State) : Out :=
  seqStep t (.clrfl t lp qp fr) [] s fun k s =>
    let s := if lp then s.setFlag t k flLP false else s
    let s := if qp then s.setFlag t k flQP false else s
    let s := if fr then s.setFlag t k flFR false else s
    s.advance t k

end Sys2Proof.Machine
end

