-- ==== Sys2Proof/Machine/Scheduler.lean ====
section
/-! DEFINITION. Triggers, dispatch, flows, task descriptors and the task commands (chapter "Tasks, batches and the hardware
scheduler"). -/

namespace Sys2Proof.Machine

open Sys2Proof

/-! ### Triggers (R191, R208 to R210) -/

/-- TRIGGER_TQNE (R191, R216): one complete item of the trigger queue is credited to the task. -/
def execTriggerTqne (k : TaskNo) (s : State) : Out := .next (s.takeCredits k 1)

/-- What an expired delay-list entry does (R191, R209). -/
def State.expire (s : State) (u : DlyUser) : State :=
  match u with
  | .task k => s.addOne k
  | .slot t k => if (s.slot t k).susp = .waiting .ticks then s.waitMet t k else s

/-- DELAY_EXPIRY (R209, R210): the first entry of the floor's list, when it has expired. -/
def execDelayExpiry (f : FloorNo) (s : State) : Out :=
  match (s.floor f).delay with
  | [] => .next s
  | (e, u) :: rest =>
    if e ≤ s.tim.now then
      .next (((s.modFloor f fun x => { x with delay := rest }).expire u).grantDelay f)
    else .next s

/-- PKT_SIGNAL (R179, R191, R220): one activation when TSIG is set. -/
def execPktSignal (p : Pkt) (s : State) : Out :=
  if s.arrived p ∧ p.op = .signal ∧ p.dest < 32 then
    let k := p.addr % 32768
    let s := s.takePkt p
    if s.fenced p then .next (s.fenceDrop p.dest)
    else if !lenOk p then .next (s.bump .NOC_NOROUTE_DROP 0)
    else if homeFloor k = p.dest ∧ s.tf tkTsig k = 1 then .next (s.addOne k)
    else .next s
  else .next s

/-- PKT_CANCEL (R218, R220). -/
def execPktCancel (p : Pkt) (s : State) : Out :=
  if s.arrived p ∧ p.op = .cancel ∧ p.dest < 32 then
    let k := p.addr % 32768
    let s := s.takePkt p
    if s.fenced p then .next (s.fenceDrop p.dest)
    else if !lenOk p then .next (s.bump .NOC_NOROUTE_DROP 0)
    else if homeFloor k = p.dest then .next (s.cancelTask k)
    else .next s
  else .next s

/-! ### Dispatch (R193 to R200, R212) -/


/-- The tile runs nothing and can take any entry (R195). -/
def State.tileIdle (s : State) (t : Nat) : Bool := (s.active t).isNone

/-- The tile takes no switch at all: a guard runs or is pending, it is stopped, a spare or retired, its floor does not run, or
a switch is on its way to it (R36, R122, R129, R195, R196). -/
def State.tileShut (s : State) (t : Nat) : Bool :=
  !s.floorRuns (t / 16) || s.guardBusy t || s.flag ctxStop t || s.tstate t == 1 || s.tstate t == 3 || (s.tile t).switchReq.isSome

/-- The priority of the activation that the tile runs; none for an idle tile or one that may not be preempted. -/
def State.runPri (s : State) (t : Nat) : Option Nat :=
  match s.active t with
  | none => none
  | some a => match (s.slot t a).task with
    | some n => if s.tf tkNopre n = 0 then some (s.tf tkPri n) else none
    | none => none

/-- The tile is available to an entry of priority `p` (R195). -/
def State.available (s : State) (t p : Nat) : Bool :=
  !s.tileShut t && (s.tileIdle t || (s.runPri t).any fun q => decide (p < q))

/-- Slot `k` of tile `t` is free for dispatch with image `img` resident (R119). -/
def State.slotFree (s : State) (t img k : Nat) : Bool :=
  s.sstate t k == stIdle && (s.guardOf t k).isNone && s.fld slotImg (8 * t + k) == img &&
    (s.slot t k).task.isNone && !(s.slot t k).moving

/-- The lowest slot of the tile that is free for dispatch with the image (R196). -/
def State.freeSlot (s : State) (t img : Nat) : Option Nat := (List.range 8).find? (s.slotFree t img)

/-- The image is resident on the tile (R119, R198). -/
def State.resident (s : State) (t img : Nat) : Bool :=
  (List.range 8).any fun k =>
    s.fld slotImg (8 * t + k) == img &&
      (s.sstate t k == stIdle || s.sstate t k == stActive || s.sstate t k == stSuspended)

/-- The tiles of floor `g` that step 2 of R196 searches: those of POOL and the reserved spares. -/
def State.poolTiles (s : State) (g pool : Nat) : List Nat :=
  let nsp := s.fld trnNsp g
  ((List.range 16).filter fun i =>
    bit pool i || (decide (1 ≤ nsp) && i == s.fld trnSp0 g) || (nsp == 2 && i == s.fld trnSp1 g)).map (16 * g + ·)

/-- The floors that roaming tries, in the order of R196. -/
def roamOrder (home roamf : Nat) : List Nat :=
  let die := home / 16
  let own := (List.range 16).map fun i => die * 16 + (home + i) % 16
  let other := (List.range 16).map fun i => (1 - die) * 16 + i
  (own ++ other).filter fun f => f != home && bit roamf f

/-- The tiles of steps 1 to 3 of R196, group by group: the last tile, the home floor, each roaming floor. -/
def State.searchGroups (s : State) (k : Nat) : List (List Nat) :=
  let home := homeFloor k
  let pool := s.tf tkPool k
  let last := if s.tf tkLtv k = 1 then [[16 * s.tf tkLfloor k + s.tf tkLtile k]] else []
  let roam := if s.tf tkRoam k = 1 then
      (roamOrder home (s.tf tkRoamf k)).map fun f => s.poolTiles f pool
    else []
  last ++ [s.poolTiles home pool] ++ roam

/-- A tile of the group with no active slot: the lowest (R196, first pass). -/
def State.pickIdle (s : State) (img : Nat) (g : List Nat) : Option Nat :=
  g.find? fun t => !s.tileShut t && s.tileIdle t && (s.freeSlot t img).isSome

/-- A tile of the group to preempt: the one that runs the lowest priority, then the lowest index (R196, second pass). -/
def State.pickBusy (s : State) (img p : Nat) (g : List Nat) : Option Nat :=
  let c := g.filter fun t => s.available t p && !s.tileIdle t && (s.freeSlot t img).isSome
  c.find? fun t => c.all fun u => decide ((s.runPri u).getD 0 ≤ (s.runPri t).getD 0)

/-- Where a new activation of task `k` goes: tile and slot (R196); a floor that a request cannot enter gives none (R314). -/
def State.place (s : State) (k : Nat) : Option (Nat × Nat) :=
  let img := s.tf tkImg k
  let groups := (s.searchGroups k).map fun g => g.filter fun t => t / 16 = homeFloor k || s.floorOpen (t / 16)
  let tile := match groups.findSome? (s.pickIdle img) with
    | some t => some t
    | none => groups.findSome? (s.pickBusy img (s.tf tkPri k))
  match tile with
  | some t => (s.freeSlot t img).map fun i => (t, i)
  | none => none

/-- The flow of task `k` can give one more sequence entry (R212) (open points: log 20). -/
def State.seqFree (s : State) (k : Nat) : Bool :=
  let f := homeFloor k
  let i := 64 * f + s.tf tkFlow k
  let m := if s.fld flowMax i = 0 then 1 else s.fld flowMax i
  decide (s.fld flowInuse i < m) && decide ((s.floor f).seq.length < 512)

/-- A sequence entry taken for a flow activation (R212). -/
def State.takeSeq (s : State) (k : Nat) : Option Nat × State :=
  if s.tf tkFlowen k = 0 then (none, s)
  else
    let f := homeFloor k
    let i := 64 * f + s.tf tkFlow k
    let id := (s.floor f).nextSeqId
    let e : SeqEnt := { id := id, flow := s.tf tkFlow k, num := none, closed := false, hole := false }
    let s := s.modFloor f fun x => { x with seq := x.seq ++ [e], nextSeqId := x.nextSeqId + 1 }
    (some id, s.setFld flowInuse i (s.fld flowInuse i + 1))

/-- The counts and the affinity record of a new dispatch (R189, R196); PEND falls unless a cancel has cleared it (`lost`)
(open points: log 20). -/
def State.countDispatch (s : State) (k t : Nat) (lost : Bool) : State :=
  let home := homeFloor k
  let s := (((s.setTf tkLtv k 1).setTf tkLfloor k (t / 16)).setTf tkLtile k (t % 16)).setTaskWord k 6 s.tim.now
  let s := s.setTf tkDisp k (s.tf tkDisp k + 1)
  let s := s.setTask k { s.task k with noRes := false }
  let s := s.bump .SCH_DISPATCH home
  let s := if t / 16 = home then s else (s.bump .SCH_ROAM_OUT home).bump .SCH_ROAM_IN (t / 16)
  if lost then (s.incRun k).fixNew k else (s.incRun k).setPend k (s.tf tkPend k - 1)

/-- The switch that starts a new activation sent to tile `t`, slot `i`; `flow` is its sequence entry, `ahead` the entries
before it on the ready list (open points: log 25). -/
def State.sendNew (s : State) (k t i : Nat) (flow : Option Nat) (ahead : List Ready) : State :=
  let w := (s.task k).w
  let r : SwitchReq := { slot := i, task := k, new_ := true, rec4 := w.getD 4 0#64, rec6 := w.getD 6 0#64, ahead := ahead }
  let s := s.modSlot t i fun x => { x with task := some k, flow := flow }
  s.modTile t fun x => { x with switchReq := some r }

/-- A new activation dispatched: at once on the home floor, by a DISPATCH request elsewhere (R196, R199, R297). -/
def State.dispatchNew (s : State) (k t i : Nat) (ahead : List Ready) : State :=
  let home := homeFloor k
  let (fl, s) := s.takeSeq k
  if t / 16 = home then (s.sendNew k t i fl ahead).countDispatch k t false
  else
    let tag := (s.floor home).nextTag
    let s := s.modFloor home fun x => { x with
      nextTag := (x.nextTag + 1) % 256, dispatches := x.dispatches ++ [⟨tag, k, t, i, fl, false⟩] }
    s.inject home { pkt0 with op := .dispatch, src := 512 + home, dest := t / 16, tag := tag, addr := k }

/-- A resume entry dispatched to its own tile and slot (R196). -/
def State.dispatchResume (s : State) (t i : Nat) (ahead : List Ready) : State :=
  let n := ((s.slot t i).task).getD 0
  let s := (s.dropReady (t / 16) (.resume t i)).bump .SCH_DISPATCH (t / 16)
  s.modTile t fun x => { x with
    switchReq := some { slot := i, task := n, new_ := false, rec4 := 0#64, rec6 := 0#64, ahead := ahead } }

/-- NO_RESIDENT raised once for a task whose image no searched tile holds (R198). -/
def State.noResident (s : State) (k : Nat) : State :=
  if (s.searchGroups k).any (fun g => g.any fun t => s.resident t (s.tf tkImg k)) ∨ (s.task k).noRes then s
  else (s.setTask k { s.task k with noRes := true }).raise 0x3104 4 k 0

/-- What a decision does with one entry, behind the entries `ahead`: the state after a dispatch, or what the attempt left. A
task's new entry waits while a DISPATCH of it is unanswered (open points: log 20, log 101). -/
def State.tryEntry (s : State) (f : Nat) (ahead : List Ready) (e : Nat × Ready) : Bool × State :=
  match e.2 with
  | .resume t i =>
    if s.available t e.1 && !(s.slot t i).moving then (true, s.dispatchResume t i ahead) else (false, s)
  | .new k =>
    if (s.floor f).dispatches.any (·.task = k) then (false, s)
    else if s.tf tkFlowen k = 1 ∧ !s.seqFree k then (false, s.bump .SCH_SEQ_FULL f)
    else match s.place k with
      | some (t, i) =>
        if t / 16 ≠ f ∧ 32 ≤ (s.floor f).dispatches.length then (false, s) else (true, s.dispatchNew k t i ahead)
      | none => (false, s.noResident k)

/-- The entries taken in list order until one is dispatched (R194). -/
def State.runDecision (s : State) (f : Nat) (ahead : List Ready) : List (Nat × Ready) → State
  | [] => s
  | e :: l =>
    let (ok, s) := s.tryEntry f ahead e
    if ok then s else s.runDecision f (ahead ++ [e.2]) l

/-- DISPATCH_DECISION (R194 to R200, R212): a hub that is not drained or off takes its ready list in order; the tiles of a
frozen floor are not available, and its tasks may roam (R493). -/
def execDispatchDecision (f : FloorNo) (s : State) : Out :=
  if s.fld nocState f ≤ 1 then .next (s.runDecision f [] (s.floor f).ready) else .next s

/-- The record of a DISPATCH request at the floor that sent it. -/
def State.dispatchOf (s : State) (p : Pkt) : Option Dispatch :=
  (s.floor (p.src - 512)).dispatches.find? fun d => d.tag == p.tag && d.task == p.addr

/-- PKT_DISPATCH (R199): the target floor sends the switch and answers OK, or answers BUSY. -/
def execPktDispatch (p : Pkt) (s : State) : Out :=
  if s.arrived p ∧ p.op = .dispatch ∧ p.dest < 32 then
    let s := s.takePkt p
    if s.fenced p then .next (s.rsp p.dest p stDomainOff 0)
    else if !lenOk p then .next (s.rsp p.dest p stBadParam 0)
    else match s.dispatchOf p with
      | none => .next (s.rsp p.dest p stBusy 0)
      | some d =>
        if s.available d.tile (s.tf tkPri d.task) && s.slotFree d.tile (s.tf tkImg d.task) d.slot then
          .next ((s.sendNew d.task d.tile d.slot d.flow []).rsp p.dest p stOk 0)
        else .next (s.rsp p.dest p stBusy 0)
  else .next s

/-- The answer to a DISPATCH reaches the home floor (R199): counted when OK, else the entry keeps its place. -/
def State.dispatchAnswer (s : State) (f : Nat) (d : Dispatch) (status : Nat) : State :=
  let s := s.modFloor f fun x => { x with dispatches := x.dispatches.filter (· ≠ d) }
  if status = 0 then s.countDispatch d.task d.tile d.lost
  else match d.flow with
    | some id => (s.closeFlow f id .cancelled).fixNew d.task
    | none => s.fixNew d.task

/-! ### Flows (R214) -/

/-- FLOW_RELEASE (R214, R215): the closed entry with number NEXTREL is released and NEXTREL advances. -/
def execFlowRelease (f : FloorNo) (n : Fin 64) (s : State) : Out :=
  let i := 64 * f.val + n.val
  match (s.floor f).seq.find? fun e => e.flow == n.val && e.closed && e.num == some (s.fld flowRel i) with
  | none => .next s
  | some e =>
    let s := s.modFloor f fun x => { x with seq := x.seq.filter (· ≠ e) }
    let s := (s.setFld flowInuse i (s.fld flowInuse i - 1)).setFld flowRel i (s.fld flowRel i + 1)
    .next (if e.hole then s else s.releaseStaged (f * 512 + s.fld flowOq i) e.id)

/-! ### Task descriptors (R189) -/

/-- Writable bits of W0 to W3 (open points: log 96). -/
def descMask : Nat → Nat
  | 0 => 0xFFFFFFFFFFFF0000
  | 1 => 0xFFFFFFFFFFFFFE00
  | 2 => 0xFFFF000000000000
  | _ => 0

/-- One byte of a descriptor written; only W0 to W3 take it. -/
def State.descByte (s : State) (k : Nat) (x : Nat × Option Byte) : State :=
  match x.2 with
  | none => s
  | some b =>
    if 32 ≤ x.1 then s
    else
      let w := x.1 / 8
      let old := ((s.task k).w.getD w 0#64).toNat
      let i := 8 * (x.1 % 8)
      s.setTaskWord k w ((putBits old (i + 7) i b.toNat) &&& descMask w)

/-- A write of bytes to a descriptor from byte `off` on: applied to W0 to W3 of a DISABLED task, else discarded, counted and
raised; W4 to W7 discard silently (R189) (open points: log 96). -/
def State.descWrite (s : State) (k off : Nat) (data : List (Option Byte)) : State :=
  let l := data.zipIdx.map fun p => (off + p.2, p.1)
  let touches := l.any fun p => p.1 < 32 && p.2.isSome
  if touches ∧ s.tf tkState k ≠ 0 then (s.bump .SCH_DESC_REJ (homeFloor k)).raise 0x3103 4 k 0
  else l.foldl (fun s p => s.descByte k p) s

/-- TASK_DESC_WRITE (R41, R189): a write by a view that owns the task, while its floor is reached. -/
def execTaskDescWrite (view : ViewNo) (k : TaskNo) (off : Fin 64) (data : List Byte) (s : State) : Out :=
  if s.owns view 2 k ∧ s.floorOpen (homeFloor k) then .next (s.descWrite k off (data.map some)) else .next s

/-! ### Task commands (R192, R221, R222, R566) -/

/-- Another task of the same flow is ARMED or DRAINING (R192). -/
def State.flowTaken (s : State) (k : Nat) : Bool :=
  s.tasks.any fun p => p.1 != k && homeFloor p.1 == homeFloor k && s.tf tkFlowen p.1 == 1 &&
    s.tf tkFlow p.1 == s.tf tkFlow k && (s.tf tkState p.1 == 1 || s.tf tkState p.1 == 2)

/-- The descriptor is one that TASK_ARM rejects (R192). -/
def State.descBad (s : State) (k : Nat) : Bool :=
  s.tf tkImg k == 0 ||
  (s.tf tkTqne k == 0 && s.tf tkTdly k == 0 && s.tf tkTstep k == 0 && s.tf tkTsig k == 0) ||
  (s.tf tkTdly k == 1 && s.tf tkDly k == 0) ||
  (s.tf tkPool k == 0 && s.tf tkRoam k == 0) ||
  (s.tf tkFlowen k == 1 &&
    (s.tf tkTdly k == 1 || s.tf tkTstep k == 1 || s.tf tkTsig k == 1 ||
     !s.flag flowEn (64 * homeFloor k + s.tf tkFlow k) || s.flowTaken k))

/-- The view owns TQ, BATCH and every tile of POOL, on the home floor and on the floors the task may roam to (R192; log 21). -/
def State.descOwned (s : State) (view k : Nat) : Bool :=
  let floors := homeFloor k :: (if s.tf tkRoam k = 1 then (List.range 32).filter (bit (s.tf tkRoamf k) ·) else [])
  s.owns view 1 (s.tqOf k) && s.owns view 3 (s.tf tkBatch k) &&
    floors.all fun f => (List.range 16).all fun i => !bit (s.tf tkPool k) i || s.owns view 0 (16 * f + i)

/-- A task armed (R191, R211, R222) (open points: log 21). -/
def State.armTask (s : State) (k : Nat) (keep : Bool) : State :=
  let i := 64 * homeFloor k + s.tf tkFlow k
  let s := if s.tf tkFlowen k = 1 then (s.setFld flowSeq i 0).setFld flowRel i 0 else s
  let s := (s.dropDelay k).setTf tkState k 1
  let s := s.setPend k (if keep then s.tf tkPend k else 0)
  let s := if s.tf tkTqne k = 1 then
      let q := s.tqOf k
      (s.recredit q (if keep then s.tf tkPend k else 0)).takeCredits k 255
    else s
  s.armDelay k

/-- A task command's shared checks: the number, the owner and the floor (R444, R566). `own` runs after the owner check and
before the floor's. -/
def State.taskCmd (s : State) (c : Cmd) (op k : Nat) (body : State → State) : State :=
  if 32767 < k then s.badParam c op 0
  else if !s.cmdOwns c 2 k then s.reply c op stNoPriv []
  else body s

def State.taskArmCmd (s : State) (c : Cmd) (k keep : Nat) : State :=
  let op := 0x2001
  if 1 < keep then s.badParam c op 2
  else if s.descBad k then s.badParam c op 0
  else if !s.descOwned c.view k then s.reply c op stNoPriv []
  else if s.tf tkState k = 2 then s.reply c op stBusy []
  else if s.domainOff (homeFloor k) then s.reply c op stDomainOff []
  else if s.tf tkState k = 1 then s.reply c op stOk []
  else (s.armTask k (keep == 1)).reply c op stOk []

/-- TASK_ARM (R192, R222). -/
def execTaskArm (c : Cmd) (k keep : Nat) (s : State) : Out :=
  .next (s.runCmd c 0x2001 (leBytes 2 k ++ leBytes 1 keep) true fun s => s.taskCmd c 0x2001 k fun s => s.taskArmCmd c k keep)

def State.taskSignalCmd (s : State) (c : Cmd) (k n : Nat) : State :=
  let op := 0x2002
  if n = 0 ∨ 255 < n then s.badParam c op 2
  else if s.tf tkTsig k = 0 then s.badParam c op 0
  else if s.domainOff (homeFloor k) then s.reply c op stDomainOff []
  else (s.addN k n).reply c op stOk []

/-- TASK_SIGNAL (R222). -/
def execTaskSignal (c : Cmd) (k n : Nat) (s : State) : Out :=
  .next (s.runCmd c 0x2002 (leBytes 2 k ++ leBytes 1 n) true fun s => s.taskCmd c 0x2002 k fun s => s.taskSignalCmd c k n)

/-- TASK_CANCEL (R218, R222). -/
def execTaskCancel (c : Cmd) (k : Nat) (s : State) : Out :=
  .next (s.runCmd c 0x2003 (leBytes 2 k) true fun s => s.taskCmd c 0x2003 k fun s =>
    if s.domainOff (homeFloor k) then s.reply c 0x2003 stDomainOff []
    else (s.cancelTask k).reply c 0x2003 stOk [])

/-- Intake stops: no delay entry, no credit, and no pending activation of a FAULTED task (R221). -/
def State.stopIntake (s : State) (k : Nat) : State :=
  let faulted := s.tf tkState k == 4
  let s := (s.setTf tkState k 2).dropDelay k
  (if faulted then s.setPend k 0 else s).fixNew k

def State.taskDrainCmd (s : State) (c : Cmd) (k timeout : Nat) : State :=
  let op := 0x2004
  if s.domainOff (homeFloor k) then s.reply c op stDomainOff []
  else if s.tf tkState k = 0 then s.reply c op stOk []
  else (if s.tf tkState k = 2 then s else s.stopIntake k).await c op (.taskDrain k) timeout

/-- TASK_DISABLE in DRAIN mode (R221). -/
def execTaskDisableDrain (c : Cmd) (k timeout : Nat) (s : State) : Out :=
  .next (s.runCmd c 0x2004 (leBytes 2 k ++ leBytes 1 0 ++ leBytes 2 timeout) true fun s =>
    s.taskCmd c 0x2004 k fun s => s.taskDrainCmd c k timeout)

/-- The loads of a slot still in flight complete and are discarded (R221). -/
def State.dropLoads (s : State) (t k : Nat) : State :=
  s.modTile t fun x => { x with
    outst := x.outst.map fun o => if o.slot = k ∧ o.kind = .load then { o with drop := true } else o }

/-- A task disabled at once: nothing pending, its running activations ended cancelled (R221). -/
def State.abortTask (s : State) (k : Nat) : State :=
  let s := (((s.setTf tkState k 2).dropDelay k).setPend k 0).loseDispatches k
  let s := (s.slotsOf k).foldl (fun s p => (s.cancelSlot p.1 p.2).dropLoads p.1 p.2) s
  (s.setTf tkState k 0).fixNew k

def State.taskAbortCmd (s : State) (c : Cmd) (k : Nat) : State :=
  let op := 0x2004
  if s.domainOff (homeFloor k) then s.reply c op stDomainOff []
  else if s.tf tkState k = 0 then s.reply c op stOk []
  else (((s.interim c op).finish (.taskDrain k) stAborted []).abortTask k).reply c op stOk []

/-- TASK_DISABLE in ABORT mode (R221). -/
def execTaskDisableAbort (c : Cmd) (k timeout : Nat) (s : State) : Out :=
  .next (s.runCmd c 0x2004 (leBytes 2 k ++ leBytes 1 1 ++ leBytes 2 timeout) true fun s =>
    s.taskCmd c 0x2004 k fun s => s.taskAbortCmd c k)

/-- TASK_DRAIN_DONE (R190, R221): nothing pending and nothing running. -/
def execTaskDrainDone (k : TaskNo) (s : State) : Out :=
  if s.tf tkState k = 2 ∧ s.tf tkPend k = 0 ∧ s.tf tkRun k = 0 then
    .next (((s.setTf tkState k 0).fixNew k).finish (.taskDrain k) stOk [])
  else .next s

/-- W4 to W7 as bytes (R189). -/
def State.taskTail (s : State) (k : Nat) : List Byte :=
  ((s.task k).w.drop 4).flatMap fun (w : DWord) => leBytes 8 w.toNat

/-- TASK_STATUS (R222). -/
def execTaskStatus (c : Cmd) (k : Nat) (s : State) : Out :=
  .next (s.runCmd c 0x2005 (leBytes 2 k) true fun s => s.taskCmd c 0x2005 k fun s =>
    if s.domainOff (homeFloor k) then s.reply c 0x2005 stDomainOff []
    else s.reply c 0x2005 stOk (s.taskTail k))

/-- DISABLE_DRAIN_TIMEOUT (R221, R447): the pending command, and those that joined it, reply TIMEOUT; the object goes on
draining (open points: log 45). -/
def execDisableDrainTimeout (ring : ViewNo) (tag : Word) (s : State) : Out :=
  let due := fun (x : InProg) => decide (x.cmd.ring = ring ∧ x.cmd.tag = tag) &&
    (match x.wait with
     | .taskDrain _ | .batchDrain _ | .queueDrain _ | .floorOff _ | .laneDrain _ _ | .streamDrain _ _ | .portDrain _
     | .linkDrain _ => true
     | _ => false) && (x.deadline.any fun d => decide (d ≤ s.tim.clk)) &&
    (s.cmds.find? fun y => y.wait = x.wait) == some x
  match s.cmds.find? due with
  | none => .next s
  | some x => .next ((s.finish x.wait stTimeout []).drainOn x.wait)

end Sys2Proof.Machine
end

