-- ==== Sys2Proof/Machine/Network.lean ====
section
/-! DEFINITION. Queue requests at their hub, invalidations, and answers at the tile that waits for them (chapter "Packet
network", R297 to R305; R161 to R172). -/

namespace Sys2Proof.Machine

open Sys2Proof

/-- The producer or consumer that a queue request acts for (R233). -/
def pktAgent (p : Pkt) : Agent :=
  if p.src < 512 then .slot p.src p.result
  else if p.src < 544 then .grader (p.src - 512) p.result
  else if p.src < 556 then .gateway (p.src - 544 + 12 * p.result)
  else if p.src = 558 then .field p.result
  else .cmdPath p.view

/-- The word of a QPUSH packet. -/
def pktWord (p : Pkt) : Word := BitVec.ofNat 32 (leNat (p.data.map (·.getD 0#8)))

/-- The view of a request may use queue `q` (R295, R460). -/
def State.pktOwns (s : State) (p : Pkt) (q : Nat) : Bool := s.owns p.view 1 q

/-- What a queue request does when its queue allows: its answer sent, or none while it must wait (R297). -/
def State.tryQueue (s : State) (p : Pkt) : Option State :=
  let q := p.addr % 16384
  let a := pktAgent p
  match p.op with
  | .qpush =>
    let fl := if p.src < 512 then s.stageOf p.src p.result q else none
    let (ok, s) := s.pushWord q a fl (pktWord p) p.sop p.eop (p.psn % 2 == 1)
    if ok then some (s.rsp p.dest p stOk 0) else none
  | .qpop => match s.popWord q a with
    | none => none
    | some (w, s) =>
      let s := if p.src < 512 then s.numberFlow p.src p.result q w.sop else s
      some (s.sendAnswer p.dest { answer p with
        op := .popWord, data := (leBytes 4 w.data.toNat).map some, psn := b2n w.psn, sop := w.sop, eop := w.eop })
  | _ => none

/-- An earlier parked request of the same kind for the same queue can complete (R236). -/
def State.parkBefore (s : State) (l : List Pkt) (p : Pkt) : Bool :=
  l.any fun r => r.op == p.op && r.addr == p.addr && (s.tryQueue r).isSome

/-- A blocking request that cannot complete is parked, or answered BUSY when the park is full (R304). -/
def State.parkPkt (s : State) (p : Pkt) : State :=
  if (s.floor p.dest).park.length < 64 then s.modFloor p.dest fun x => { x with park := x.park ++ [p] }
  else s.rsp p.dest p stBusy 0

/-- A queue request that cannot complete at once (R297, R304). -/
def State.queueWait (s : State) (p : Pkt) : State :=
  if p.nb then s.rsp p.dest p (if p.op == .qpop then stEmptyRd else stBusy) 0 else s.parkPkt p

/-- The checks of a queue request at its hub: the fence, the length, the queue's place, the owner (R295, R297, R314). -/
def State.queuePkt (s : State) (p : Pkt) (body : State → State) : State :=
  let s := s.takePkt p
  if s.fenced p then s.rsp p.dest p stDomainOff 0
  else if !lenOk p ∨ p.addr / 512 ≠ p.dest then s.rsp p.dest p stBadParam 0
  else if !s.pktOwns p p.addr then s.rsp p.dest p stNoPriv 0
  else body s

/-- QPUSH and QPOP at their hub (R297, R304). -/
def State.queueServe (s : State) (p : Pkt) : State :=
  if s.parkBefore (s.floor p.dest).park p then s.queueWait p
  else match s.tryQueue p with
    | some s => s
    | none => s.queueWait p

/-- The packet is a queue request of this kind, arrived at its hub. -/
def State.queueArrived (s : State) (p : Pkt) (op : POp) : Bool := s.arrived p && p.op == op && decide (p.dest < 32)

/-- PKT_QPUSH (R297). -/
def execPktQpush (p : Pkt) (s : State) : Out :=
  if s.queueArrived p .qpush then .next (s.queuePkt p fun s => s.queueServe p) else .next s

/-- PKT_QPOP (R297). -/
def execPktQpop (p : Pkt) (s : State) : Out :=
  if s.queueArrived p .qpop then .next (s.queuePkt p fun s => s.queueServe p) else .next s

/-- PKT_QDROP (R243, R297). -/
def execPktQdrop (p : Pkt) (s : State) : Out :=
  if s.queueArrived p .qdrop then
    .next (s.queuePkt p fun s => (s.dropBy (p.addr % 16384) (pktAgent p)).rsp p.dest p stOk 0)
  else .next s

/-- PKT_QLVL (R250, R297, R300). -/
def execPktQlvl (p : Pkt) (s : State) : Out :=
  if s.queueArrived p .qlvl then
    .next (s.queuePkt p fun s => s.rsp p.dest p stOk (s.queue (p.addr % 16384)).level)
  else .next s

/-- PARKED_REQUEST_COMPLETE (R236, R304): the request parked longest among those that its queue allows. -/
def execParkedRequestComplete (f : FloorNo) (p : Pkt) (s : State) : Out :=
  let l := (s.floor f).park
  if l.contains p ∧ !s.parkBefore (l.takeWhile (· ≠ p)) p then
    match s.tryQueue p with
    | some s => .next (s.modFloor f fun x => { x with park := x.park.erase p })
    | none => .next s
  else .next s

/-! ### Invalidations (R166, R301) -/

/-- SNP_INV (R166): the tile's copy goes, and the owning store is told. -/
def execSnpInv (p : Pkt) (s : State) : Out :=
  if s.arrived p ∧ p.op = .inv ∧ p.dest < 32 then
    let t := p.dest * 16 + p.result % 16
    let la := p.addr / 8192 * 0x80000 + p.addr % 8192 * 64
    let s := (s.takePkt p).uncache t la
    .next (s.inject p.dest { p with op := .invAck, dest := p.src / 16, src := t, result := p.src % 16 })
  else .next s

/-- The oldest invalidation that waits for a SEQ takes `q` (R301). -/
def State.sendHeldInv (s : State) (t q : Nat) : State :=
  match (s.tile t).invHold with
  | [] => s
  | (n, line, sh) :: rest =>
    let g := fun (i : Nat) => if i = n then q else i
    (s.modTile t fun x => { x with
      invHold := rest, invs := x.invs.map fun i => (g i.1, i.2), wrWait := x.wrWait.map fun w => (w.1.map g, w.2) }).sendInv
        t q line sh

/-- An acknowledgement of SEQ `q` at tile `t`: writes that have no other to wait for are answered. -/
def State.ackInv (s : State) (t q : Nat) : State :=
  let x := s.tile t
  let left := x.wrWait.map fun w => (w.1.erase q, w.2)
  let s := (s.modTile t fun x => { x with
    invs := x.invs.filter (·.1 ≠ q), wrWait := left.filter (·.1 ≠ []) }).sendHeldInv t q
  (left.filter (·.1 = [])).foldl (fun s w => s.rsp (t / 16) w.2 stOk 0) s

/-- SNP_INV_ACK (R166). -/
def execSnpInvAck (p : Pkt) (s : State) : Out :=
  if s.arrived p ∧ p.op = .invAck ∧ p.dest < 32 then .next ((s.takePkt p).ackInv (p.dest * 16 + p.result % 16) p.tag)
  else .next s

/-! ### Answers at a tile (R161, R168 to R172, R184, R303) -/

/-- Poison of the 4-byte words that bytes `off` to `off + n` of an answer's data touch. -/
def dataPsn (p : Pkt) (off n : Nat) : Bool := (List.range n).any fun i => bit p.psn ((off + i) / 4)

/-- Bytes `off` to `off + n` of an answer's data as a number. -/
def dataNum (p : Pkt) (off n : Nat) : Nat := leNat ((List.range n).map fun i => (p.data.getD (off + i) none).getD 0#8)

/-- The answer of a load noted: its result returns with LOAD_RESULT_RETURN; a clean line is kept in the data cache. -/
def State.loadAnswer (s : State) (t : Nat) (o : Outst) (p : Pkt) : State :=
  let off := if p.data.length = 64 then o.addr % 64 else 0
  let o' := { o with done := true, status := p.status, ue := dataPsn p off o.size,
                     bits := extend o.size o.sext (dataNum p off o.size) }
  let s := s.modTile t fun x => { x with outst := x.outst.map fun y => if y.tag = o.tag then o' else y }
  if o.cacheLine ∧ p.op = .datLine ∧ p.psn = 0 then
    s.cacheLine t ⟨o.addr / 64 * 64, p.data.map (·.getD 0#8)⟩
  else s

def State.dropOutst (s : State) (t tag : Nat) : State :=
  s.modTile t fun x => { x with outst := x.outst.filter fun o => o.tag != tag }

/-- The fault of a refused request: NO_PRIV or another status (R159, R172, R184). -/
def State.refusedFault (s : State) (t : Nat) (o : Outst) (status : Nat) : State :=
  s.contextFault t o.slot (if status = stNoPriv then 0x3212 else 0x3215) o.pc 0

/-- An answer taken by its outstanding request. -/
def State.outstAnswer (s : State) (t : Nat) (o : Outst) (p : Pkt) : State :=
  match o.kind with
  | .load => s.loadAnswer t o p
  | k =>
    if p.status = stBusy ∧ !o.nb ∧ (k = .qpush ∨ k = .qpop) then
      s.modTile t fun x => { x with outst := x.outst.map fun y => if y.tag = o.tag then { y with resend := true } else y }
    else
      let s := s.dropOutst t o.tag
      if p.status = stBusy ∧ k = .qpush then s.setFlag t o.slot flEM true
      else if p.status = stEmptyRd ∧ k = .qpop then s.setFlag t o.slot flEM true
      else if p.status ≠ 0 then s.refusedFault t o p.status
      else match k with
        | .qpop => s.popDeliver t o.slot o.pc o.rd (BitVec.ofNat 32 (dataNum p 0 4)) p.sop p.eop (p.psn % 2 == 1) o.nb
        | .qpush => if o.nb then s.setFlag t o.slot flEM false else s
        | .qlvl => s.setGpr t o.slot (Fin.ofNat 32 o.rd) (BitVec.ofNat 32 p.result)
        | _ => s

/-- An answer at the tile that waits for it; one that nothing waits for is discarded (R315). -/
def State.tileAnswer (s : State) (t : Nat) (p : Pkt) : State :=
  match (s.tile t).outst.find? fun o => o.tag == p.tag && !o.done with
  | none => s.bump .NOC_LATE_DROP 0
  | some o => s.outstAnswer t o p

/-- An answer at a floor hub (R199). -/
def State.hubAnswer (s : State) (f : Nat) (p : Pkt) : State :=
  match (s.floor f).dispatches.find? fun d => d.tag == p.tag with
  | none => s.bump .NOC_LATE_DROP 0
  | some d => s.dispatchAnswer f d p.status

/-- The request of a tile that found a full park, made again (R304). -/
def State.resend (s : State) (t : Nat) (o : Outst) : State :=
  let s := s.modTile t fun x => { x with outst := x.outst.map fun y => if y.tag = o.tag then { y with resend := false } else y }
  let p := { pkt0 with
    op := if o.kind = .qpush then .qpush else .qpop, src := t, dest := o.queue / 512, tag := o.tag, addr := o.queue
    view := s.slotView t o.slot, result := o.slot, data := if o.kind = .qpush then (leBytes 4 o.bits.toNat).map some else []
    psn := b2n (o.ue && o.kind == .qpush), sop := o.sop, eop := o.eop }
  s.inject (t / 16) p

end Sys2Proof.Machine
end

