-- ==== Sys2Proof/Machine/Memory.lean ====
section
/-! DEFINITION. Correction write-backs, scrubbing, page retirement, the error logs and the memory commands (chapter "Tile
store and error logging"). -/

namespace Sys2Proof.Machine

open Sys2Proof

/-! ### Write-backs and scrubbing (R269, R273 to R276) -/

/-- CORRECTION_WRITEBACK (R269): the oldest write-back of the tile; it is skipped when another write has reached the line, and
when it is made it is such a write for the others of its line. -/
def execCorrectionWriteback (t : TileNo) (s : State) : Out :=
  match (s.tile t).writeBacks with
  | [] => .next s
  | w :: rest =>
    let s := s.modTile t fun x => { x with
      writeBacks := rest.map fun v => if !w.stale && v.line == w.line then { v with stale := true } else v }
    .next (if w.stale then s
      else { s with store := w.bytes.foldl (fun m p => tput 0#13 m (w.line + p.1) (eccEncode p.2)) s.store })

def scrubEn : Fld := ⟨.ECC_SCRUB, 31, 31⟩

/-- A line that is not fresh, scrubbed: counted and logged with requester 6, corrections queued (R274). -/
def State.scrubOld (s : State) (t off : Nat) : State := s.noteRead t off 64 6 0xFF

/-- A fresh line, scrubbed: every byte with an error becomes zero, counted and logged as corrected (R274). -/
def State.scrubFresh (s : State) (t off : Nat) : State :=
  let ph := s.phys t off
  let s0 := s
  let dec : Nat → Decoded := fun o => let d := eccDecode (tget 0#13 s0.store (ph + o % 64)); { d with kind := min d.kind 1 }
  let s := (List.range 8).foldl (fun s w =>
    s.wordErrors t ((List.range 8).map fun i => off + 8 * w + i) 6 0xFF true dec) s
  let s := s.modTile t fun x => { x with
    writeBacks := x.writeBacks.map fun v => if v.line = ph then { v with stale := true } else v }
  { s with store := (List.range 64).foldl (fun m i => if (dec (off + i)).kind = 0 then m else tput 0#13 m (ph + i) 0#13)
                      s.store }

/-- The scrubber moves to its next line; after the last one a pass has completed (R274, R276) (open points: log 53). -/
def State.scrubNext (s : State) (t : Nat) : State :=
  let at_ := (s.tile t).scrubAt + 1
  if at_ < 8192 then s.modTile t fun x => { x with scrubAt := at_ }
  else
    let s := s.modTile t fun x => { x with
      scrubAt := 0, scrubCnt := 0, scrubPages := [], scrubRaised := false, scrubPasses := x.scrubPasses + 1 }
    if t = 0 then s.setReg .ECC_SCRUB_PASS 0 ((s.reg .ECC_SCRUB_PASS 0 + 1) % 2 ^ 32) else s

/-- The scrubber of the tile reads its line, unless the page is being copied (R275) (open points: log 53). -/
def State.scrubLine (s : State) (t : Nat) : State :=
  let off := (s.tile t).scrubAt * 64
  let s := if (s.tile t).copy.any fun c => c.page == off / 4096 then s
    else if s.fresh (s.phys t off) then s.scrubFresh t off
    else s.scrubOld t off
  s.scrubNext t

/-- SCRUB_LINE (R274): in ascending address order, while EN = 1 and the tile has power (open points: log 53). -/
def execScrubLine (t : TileNo) (s : State) : Out :=
  if s.flag scrubEn 0 ∧ s.fld nocState (t / 16) < 3 then .next (s.scrubLine t) else .next s

/-! ### The flip mask (R277) -/

/-- A write of ECC_FLIP_CTL. -/
def State.flipCtlWrite (s : State) (v : Nat) : State :=
  let s := s.setFld flipTile 0 (v % 512)
  if bit v 31 then s.setFld flipArm 0 1 else s

/-- ECC_FLIP_ARM (R277): the write of ARM = 1. -/
def execEccFlipArm (view : ViewNo) (v : Word) (s : State) : Out :=
  if view = 0 ∧ v.getLsbD 31 then .next (s.flipCtlWrite v.toNat) else .next s

/-! ### Page retirement (R278 to R281) -/

/-- The lowest spare page that is free and not lost (R279). -/
def State.freeSpare (s : State) (t : Nat) : Option Nat :=
  (List.range 4).find? fun k => !s.flag remapV (4 * t + k) && !s.flag remapBad (4 * t + k)

/-- DATA of a page event: the page's offset, requester 7, its physical page (open points: log 54). -/
def pageData (page phys : Nat) : Nat := memData (page * 4096) 7 0 0 0xFF phys

def State.pageRetireCmd (s : State) (c : Cmd) (t page : Nat) : State :=
  let op := 0x9004
  if s.domainOff (t / 16) then s.reply c op stDomainOff []
  else if (s.tile t).copy.isSome then s.reply c op stBusy []
  else match s.freeSpare t with
    | none => s.reply c op stFault []
    | some k =>
      let s := (s.await c op (.pageCopy t) 0).setFld remapCopy (4 * t + k) 1
      s.modTile t fun x => { x with copy := some { entry := k, page := page } }

/-- PAGE_RETIRE (R279, R285). -/
def execPageRetire (c : Cmd) (t page : Nat) (s : State) : Out :=
  .next (s.runCmd c 0x9004 (leBytes 2 t ++ leBytes 1 page) false fun s =>
    if 511 < t then s.badParam c 0x9004 0
    else if 127 < page then s.badParam c 0x9004 2
    else s.pageRetireCmd c t page)

/-- A stored byte as a page copy writes it (R279). -/
def copyByte (b : BitVec 13) : BitVec 13 :=
  let d := eccDecode b
  if d.kind = 2 then eccPoison d.data else eccEncode d.data

/-- Offsets in a physical page of the bytes whose decoding is of a kind, on lines that are not fresh. -/
def State.pageErrors (s : State) (ph kind : Nat) : List Nat :=
  (List.range 4096).filter fun i => !s.fresh (ph + i) && (eccDecode (tget 0#13 s.store (ph + i))).kind == kind

/-- The errors that a page copy meets counted (R276, R279, R288): no event of their own, the rate event alone
(open points: log 54). -/
def State.countCopy (s : State) (t page old : Nat) (ce ue : List Nat) : State :=
  let s := (s.bumpBy .TIL_ECC_CE t ce.length).bumpBy .ECC_CE_TOTAL 0 ce.length
  let s := if ce = [] then s else s.countPass t old ce.length (memData (page * 4096 + ce.headD 0) 7 0 0 0xFF)
  let s := (s.bumpBy .TIL_ECC_UE t ue.length).bumpBy .ECC_UE_TOTAL 0 ue.length
  match ue.getLast? with
  | some o => s.setReg .TIL_ECC_LASTUE t (page * 4096 + o)
  | none => s

/-- The page copied from place `a` to place `b`, line by line with the fresh bits (R279) (open points: log 27). -/
def State.copyPage (s : State) (a b : Nat) : State :=
  { s with
    store := (List.range 4096).foldl (fun m i => tput 0#13 m (b + i) (copyByte (tget 0#13 s.store (a + i)))) s.store
    written := (List.range 64).foldl (fun m i => tput false m (b / 64 + i) (tget false s.written (a / 64 + i))) s.written }

/-- The copy's last line written: entry `k` becomes valid, an entry that named the page is lost (R279, R280). -/
def State.remapTo (s : State) (t k page : Nat) : State :=
  let s := (List.range 4).foldl (fun s j =>
    if j ≠ k ∧ s.flag remapV (4 * t + j) ∧ s.fld remapPage (4 * t + j) = page then
      (s.setFld remapV (4 * t + j) 0).setFld remapBad (4 * t + j) 1
    else s) s
  ((s.setFld remapCopy (4 * t + k) 0).setFld remapPage (4 * t + k) page).setFld remapV (4 * t + k) 1

/-- The page copy of a tile made and committed (R280) (open points: log 27, log 54). -/
def State.commitCopy (s : State) (t : Nat) (c : PageCopy) : State :=
  let old := s.physPage t c.page
  let src := physByte t old 0
  let ce := s.pageErrors src 1
  let ue := s.pageErrors src 2
  let s := s.countCopy t c.page old ce ue
  let s := (s.copyPage src (physByte t (128 + c.entry) 0)).remapTo t c.entry c.page
  let s := s.modTile t fun x => { x with copy := none, writeBacks := x.writeBacks.filter fun w => w.line / 4096 ≠ src / 4096 }
  let s := s.raise 0x1007 1 (locTile t 0xFF 0xFF) (pageData c.page old)
  let s := if (s.freeSpare t).isNone then s.raise 0x1008 1 (locTile t 0xFF 0xFF) (pageData c.page old) else s
  s.finish (.pageCopy t) stOk (leBytes 1 c.entry ++ leBytes 2 ue.length)

/-- PAGE_COPY_COMMIT (R280) (open points: log 27). -/
def execPageCopyCommit (t : TileNo) (s : State) : Out :=
  match (s.tile t).copy with
  | none => .next s
  | some c => .next (s.commitCopy t c)

/-! ### Memory commands (R285) -/

/-- Checks of MEM_READ and MEM_WRITE after the length's: the range lies in one tile store; the owner and the lees; the
floor. -/
def State.memCmd (s : State) (c : Cmd) (op a len : Nat) (body : Nat → Nat → State → State) : State :=
  let t := a / 0x80000
  let off := a % 0x80000
  if 0x10000000 ≤ a ∨ 0x80000 < off + len then s.badParam c op 0
  else if !s.cmdOwns c 0 t ∨ (c.view ≠ 0 ∧ s.inLees t off len) then s.reply c op stNoPriv []
  else if s.domainOff (t / 16) then s.reply c op stDomainOff []
  else body t off s

/-- The poison map of a reply: bit k mod 8 of byte k div 8 marks byte k. -/
def poisonMap (l : List Bool) : List Byte :=
  (List.range ((l.length + 7) / 8)).map fun j =>
    BitVec.ofNat 8 ((List.range 8).foldl (fun m i => m + b2n (l.getD (8 * j + i) false) * 2 ^ i) 0)

def State.memReadCmd (s : State) (c : Cmd) (len t off : Nat) : State :=
  let l := s.peekN t off len
  (s.noteRead t off len 5 0xFF).reply c 0x9001 stOk (l.map (·.1) ++ poisonMap (l.map (·.2)))

/-- MEM_READ (R285). -/
def execMemRead (c : Cmd) (a len : Nat) (s : State) : Out :=
  .next (s.runCmd c 0x9001 (leBytes 5 a ++ leBytes 2 len) true fun s =>
    if len = 0 ∨ 512 < len then s.badParam c 0x9001 5
    else s.memCmd c 0x9001 a len fun t off s => s.memReadCmd c len t off)

def State.memWriteCmd (s : State) (c : Cmd) (data : List Byte) (t off : Nat) : State :=
  (s.writeStore t (data.zipIdx.map fun p => (off + p.2, p.1, false))).2.reply c 0x9002 stOk []

/-- MEM_WRITE (R270, R285). -/
def execMemWrite (c : Cmd) (a : Nat) (data : List Byte) (s : State) : Out :=
  .next (s.runCmd c 0x9002 (leBytes 5 a ++ leBytes 2 data.length ++ data) true fun s =>
    if data.length = 0 ∨ 992 < data.length then s.badParam c 0x9002 5
    else s.memCmd c 0x9002 a data.length fun t off s => s.memWriteCmd c data t off)

/-- A slot of the tile is LOADING, ACTIVE or SUSPENDED. -/
def State.tileInUse (s : State) (t : Nat) : Bool :=
  (List.range 8).any fun k => s.sstate t k == stLoading || s.sstate t k == stActive || s.sstate t k == stSuspended

/-- The fresh bits of lines set (R273); every cached copy of a line goes (R166) (open points: log 54). -/
def State.initLines (s : State) (t first n : Nat) : State :=
  (List.range n).foldl (fun s i =>
    let off := (first + i) * 64
    let s := { s with written := tput false s.written (s.phys t off / 64) false }
    ((s.touchLines t [off]).invalidate t (first + i)).2) s

/-- MEM_INIT (R273, R285). -/
def execMemInit (c : Cmd) (t first n : Nat) (s : State) : Out :=
  .next (s.runCmd c 0x9003 (leBytes 2 t ++ leBytes 2 first ++ leBytes 2 n) false fun s =>
    if 511 < t then s.badParam c 0x9003 0
    else if n = 0 ∨ 8192 < n then s.badParam c 0x9003 4
    else if s.tileInUse t then s.reply c 0x9003 stBusy []
    else if 8192 < first + n then s.badParam c 0x9003 2
    else (s.initLines t first n).reply c 0x9003 stOk [])

/-- PAGE_STATUS (R285) (open points: log 54). -/
def execPageStatus (c : Cmd) (t : Nat) (s : State) : Out :=
  .next (s.runCmd c 0x9005 (leBytes 2 t) false fun s =>
    if 511 < t then s.badParam c 0x9005 0
    else s.reply c 0x9005 stOk ((List.range 4).flatMap (fun k => leBytes 4 (s.reg .TIL_REMAP (4 * t + k))) ++
      leBytes 4 (s.reg .TIL_ECC_CE t) ++ leBytes 4 (s.reg .TIL_ECC_UE t)))

/-! ### Error logs (R282, R538 to R541) -/

def logCount : Fld := ⟨.LOG_STATUS, 6, 0⟩
def logOvf : Fld := ⟨.LOG_STATUS, 8, 8⟩
def logHead : Fld := ⟨.LOG_HEAD, 5, 0⟩
def logTail : Fld := ⟨.LOG_TAIL, 5, 0⟩

/-- The 256 bits of a record (R538). -/
def recNum (r : LogRec) : Nat :=
  r.time % 2 ^ 64 + r.code * 2 ^ 64 + r.sclass * 2 ^ 80 + r.loc % 2 ^ 40 * 2 ^ 88 + r.sev * 2 ^ 128 +
    r.data % 2 ^ 120 * 2 ^ 136

/-- A record written at HEAD, or dropped while the log is full (R282); the host is told as COUNT rises from 0 (R449). -/
def State.writeRec (s : State) (d : Nat) (r : LogRec) : State :=
  if s.fld logCount d = 64 then (s.bump .LOG_DROP d).setFld logOvf d 1
  else
    let h := s.fld logHead d
    let s := (List.range 4).foldl (fun s w => s.setReg .LOG_REC (256 * d + 4 * h + w) (recNum r / 2 ^ (64 * w) % 2 ^ 64)) s
    let s := if s.fld logCount d = 0 then { s with irqs := s.irqs ++ [(0, 1)] } else s
    (s.setFld logHead d ((h + 1) % 64)).setFld logCount d (s.fld logCount d + 1)

/-- LOG_RECORD_WRITE (R282, R541): the record that reached the log first. -/
def execLogRecordWrite (log : Fin 3) (s : State) : Out :=
  match s.logQ.find? fun r => r.log = log.val with
  | none => .next s
  | some r => .next (State.writeRec { s with logQ := s.logQ.erase r } log r)

/-- TAIL moved forward by `n` records. -/
def State.advanceTail (s : State) (d n : Nat) : State :=
  (s.setFld logTail d ((s.fld logTail d + n) % 64)).setFld logCount d (s.fld logCount d - n)

/-- A write of TAIL; one that would pass HEAD stores HEAD (R282). -/
def State.tailWrite (s : State) (d v : Nat) : State :=
  s.advanceTail d (min ((v % 64 + 64 - s.fld logTail d) % 64) (s.fld logCount d))

/-- LOG_TAIL_WRITE (R282). -/
def execLogTailWrite (view : ViewNo) (log : Fin 3) (v : Word) (s : State) : Out :=
  if view = 0 then .next (s.tailWrite log v.toNat) else .next s

/-- The 32 bytes of the record `i` places behind TAIL. -/
def State.recBytes (s : State) (d i : Nat) : List Byte :=
  let p := (s.fld logTail d + i) % 64
  (List.range 4).flatMap fun w => leBytes 8 (s.reg .LOG_REC (256 * d + 4 * p + w))

def State.logReadCmd (s : State) (c : Cmd) (log n adv : Nat) : State :=
  let cnt := s.fld logCount log
  let m := min n cnt
  let data := leBytes 1 cnt ++ (List.range m).flatMap (s.recBytes log)
  (if adv = 1 then s.advanceTail log m else s).reply c 0x9006 stOk data

/-- LOG_READ (R285). -/
def execLogRead (c : Cmd) (log n adv : Nat) (s : State) : Out :=
  .next (s.runCmd c 0x9006 (leBytes 1 log ++ leBytes 1 n ++ leBytes 1 adv) false fun s =>
    if 2 < log then s.badParam c 0x9006 0
    else if n = 0 ∨ 31 < n then s.badParam c 0x9006 1
    else if 1 < adv then s.badParam c 0x9006 2
    else s.logReadCmd c log n adv)

end Sys2Proof.Machine
end

