-- ==== Sys2Proof/Machine/PinOps.lean ====
section
/-! DEFINITION. The output pins: what a gate pin, a valve link, a GPIO and a TRIP pin drive (chapters "Field inputs and
outputs", "Trip lines", and twin standby of R531). Times of gate edges are in units of 0.125 ns. -/

namespace Sys2Proof.Machine

open Sys2Proof

def State.lane (s : State) (l : Nat) : LaneSt := tget .init s.lanes l
def State.setLane (s : State) (l : Nat) (x : LaneSt) : State := { s with lanes := tput .init s.lanes l x }
def State.modLane (s : State) (l : Nat) (g : LaneSt → LaneSt) : State := s.setLane l (g (s.lane l))
def State.gate (s : State) (g : Nat) : GateSt := tget .init s.gates g
def State.setGate (s : State) (g : Nat) (x : GateSt) : State := { s with gates := tput .init s.gates g x }
def State.modGate (s : State) (g : Nat) (f : GateSt → GateSt) : State := s.setGate g (f (s.gate g))
def State.car (s : State) (c : Nat) : CarSt := tget .init s.cars c
def State.setCar (s : State) (c : Nat) (x : CarSt) : State := { s with cars := tput .init s.cars c x }
def State.vl (s : State) (l : Nat) : VlSt := tget .init s.vls l
def State.setVl (s : State) (l : Nat) (x : VlSt) : State := { s with vls := tput .init s.vls l x }
def State.modVl (s : State) (l : Nat) (f : VlSt → VlSt) : State := s.setVl l (f (s.vl l))

def devStby : Fld := ⟨.DEV_STATUS, 25, 25⟩
def laneEn : Fld := ⟨.RAK_LANE, 63, 63⟩
def bankVsel : Fld := ⟨.FIO_BANK, 5, 4⟩
def bankVok : Fld := ⟨.FIO_BANK, 31, 31⟩
def bankSafe : Fld := ⟨.FIO_BANK, 30, 30⟩

/-- The device drives no plant: it is the standby of a twin pair (R531). -/
def State.standby (s : State) : Bool := s.flag devStby 0

/-- A guard image claims bank `k` (R355, R356). -/
def State.claimed (s : State) (k : Nat) : Bool := s.fld bankVsel k != 0

/-- Trip line `n` is latched (R394). -/
def State.latched (s : State) (n : Nat) : Bool := bit (s.reg .TRP_STATUS 0) n

/-- Some line of the mask is latched. -/
def State.anyLatched (s : State) (mask : Nat) : Bool := (List.range 12).any fun n => bit mask n && s.latched n

/-- Gate bank `b` is held by a trip line (R396). -/
def State.bankHeld (s : State) (b : Nat) : Bool := s.anyLatched (s.reg .TRP_GBANK b % 4096)

/-- Valve link `l` is held by a trip line (R397). -/
def State.linkHeld (s : State) (l : Nat) : Bool := s.anyLatched (s.reg .TRP_VLINK l % 4096)

/-- Lane `l` drives its safe state: EN = 0, a SAFE miss, or a STICKY hold (R333, R343). -/
def State.laneSafe (s : State) (l : Nat) : Bool := !s.flag laneEn l || (s.lane l).safe || (s.lane l).sticky

/-! ### Gate pins (R372 to R376) -/

def carEn : Fld := ⟨.FIO_CAR, 63, 63⟩
def goutMode : Fld := ⟨.FIO_GOUT, 63, 62⟩
def goutCar : Fld := ⟨.FIO_GOUT, 61, 57⟩
def goutPol : Fld := ⟨.FIO_GOUT, 56, 56⟩
def goutUpd : Fld := ⟨.FIO_GOUT, 55, 55⟩
def goutPair : Fld := ⟨.FIO_GOUT, 54, 53⟩
def goutDt : Fld := ⟨.FIO_GOUT, 47, 32⟩
def goutMinp : Fld := ⟨.FIO_GOUT, 15, 0⟩

/-- PAIR of the pair that gate `g` belongs to, taken from the even output's record. -/
def State.pairOf (s : State) (g : Nat) : Nat := s.fld goutPair (g / 2 * 2)

def partner (g : Nat) : Nat := if g % 2 = 0 then g + 1 else g - 1

/-- A row of R376 above the last one: the level driven, `none` for high-impedance. -/
def State.gateForced (s : State) (g : Nat) : Option (Option Bool) :=
  let b := g / 32
  if !s.claimed b then some (some (bit s.dev.safePol b))
  else if s.standby then some none
  else if s.bankHeld b then
    if s.reg .TRP_GBANK b / 2 ^ 30 = 1 then some none else some (some (s.flag bankSafe b))
  else if s.laneSafe g then some (some (s.flag bankSafe b))
  else none

/-- Stage 1 of output `g` (R372); with its carrier off a PWM output has level 0 (R374) (open points: log 63). -/
def State.gateSource (s : State) (g : Nat) : Bool :=
  if s.fld goutMode g = 1 then s.flag carEn (s.fld goutCar g) && (s.gate g).pwm else ((s.lane g).last.getD 0#32).getLsbD 0

/-- Stages 1 and 2: the odd output of a complementary pair is the inverse of the even one (R372). -/
def State.gateLevel2 (s : State) (g : Nat) : Bool :=
  if g % 2 = 1 ∧ s.pairOf g = 2 then !s.gateSource (g - 1) else s.gateSource g

/-- The output whose stage 1 feeds output `g` (R372). -/
def State.gateFeed (s : State) (g : Nat) : Nat := if g % 2 = 1 ∧ s.pairOf g = 2 then g - 1 else g

/-- The source of output `g` rises and falls in every period of its carrier (R374, R375). -/
def State.gatePulsed (s : State) (g : Nat) : Bool :=
  let e := s.gateFeed g
  let c := s.fld goutCar e
  s.fld goutMode e == 1 && s.flag carEn c && (match (s.gate e).cmp with
    | some w => w.toNat / 2 ^ 30 % 3 == 0 && decide (0 < w.toNat % 2 ^ 25 ∧ w.toNat % 2 ^ 25 < (s.car c).per * 8)
    | none => false)

/-- The level that EXTEST drives on field pin `n`: gates 0 to 511, then GPIO 512, FC 544, MCLK 608, CNV 640 and the encoder
clocks from 656; `none` when EXTEST is not selected (R496) (open points: log 88). -/
def State.extPin (s : State) (n : Nat) : Option (Option Bool) :=
  s.dev.pins.map fun l => (l.find? fun x => x.1 == n).map (·.2)

/-- The level at the ball; `none` is high-impedance (R376, R496). -/
def State.gatePin (s : State) (g : Nat) : Option Bool :=
  match s.extPin g with
  | some p => p
  | none => match s.gateForced g with
    | some p => p
    | none => some ((s.gate g).lvl ^^ s.flag goutPol g)

/-- A pin taken by a higher row: stages 3 and 4 stand at the level driven, so that they restart from it (R376, R531). A
high-impedance pin counts as level 0. -/
def State.forceGate (s : State) (g t8 : Nat) (p : Option Bool) : State :=
  let lv := match p with
    | some b => b ^^ s.flag goutPol g
    | none => false
  s.modGate g fun x => { x with
    mpAt := if x.mp = lv then x.mpAt else t8
    mp := lv
    fellAt := if x.lvl ∧ !lv then t8 else x.fellAt
    lvl := lv
    counted := false
    hold := !lv }

/-- After a higher row that drove level 0, output `g` waits for its source to rise anew: a pulsed source that stands at 1 is
in the middle of a pulse (R376 and its example) (open points: log 63). -/
def State.midPulse (s : State) (g : Nat) : Bool := (s.gate g).hold && s.gatePulsed g && s.gateLevel2 g

/-- Stage 3: an edge of the source passes once MINP has run since the last edge (R372). -/
def State.gateStage3 (s : State) (g t8 : Nat) : State :=
  let lv := s.gateLevel2 g
  if s.midPulse g then s
  else
  let s := if (s.gate g).hold then s.modGate g fun x => { x with hold := false } else s
  let x := s.gate g
  if lv ≠ x.mp ∧ x.mpAt + s.fld goutMinp g ≤ t8 then s.setGate g { x with mp := lv, mpAt := t8 } else s

/-- Stage 4, falling edges pass at once. -/
def State.gateFall (s : State) (g t8 : Nat) : State :=
  let x := s.gate g
  if !x.mp then s.setGate g { x with lvl := false, fellAt := if x.lvl then t8 else x.fellAt, counted := false } else s

/-- Stage 4, a rising edge: it waits until the partner's level has been 0 for DT; one held by a partner at level 1 is counted
(R372, R373) (open points: log 63). -/
def State.gateRise (s : State) (g t8 : Nat) : State :=
  let x := s.gate g
  let y := s.gate (partner g)
  if !x.mp || x.lvl then s
  else if s.pairOf g = 0 ∨ (!y.lvl ∧ y.fellAt + s.fld goutDt (g / 2 * 2) ≤ t8) then s.setGate g { x with lvl := true }
  else if y.lvl ∧ !x.counted then
    ((s.setGate g { x with counted := true }).bump .FIO_GILK (g / 32)).raiseOnce .FIO_GILK (g / 32) 0x6201 7
      (4 + 256 * (g / 32)) 0
  else s

/-- A pair whose outputs have both come to level 1 outside stage 4, by a write of PAIR or from a level that a higher row drove:
both fall, and stage 4 lets them rise again (R373) (open points: log 63). -/
def State.gateClash (s : State) (e t8 : Nat) : State :=
  let free := fun g => (s.gate g).lvl && (s.gateForced g).isNone
  if s.pairOf e ≠ 0 ∧ free e ∧ free (e + 1) then
    let fall := fun (x : GateSt) => { x with lvl := false, fellAt := t8, counted := false }
    (s.modGate e fall).modGate (e + 1) fall
  else s

/-- Both outputs of the pair of `g` brought up to time `t8`. -/
def State.refreshPair (s : State) (g t8 : Nat) : State :=
  let e := g / 2 * 2
  let one := fun (f : State → Nat → Nat → State) (s : State) (g : Nat) =>
    match s.gateForced g with
    | some p => s.forceGate g t8 p
    | none => f s g t8
  let pass := fun f s => one f (one f s e) (e + 1)
  pass State.gateRise ((pass State.gateFall (pass State.gateStage3 s)).gateClash e t8)

/-- The device time now in units of 0.125 ns. -/
def State.now8 (s : State) : Nat := 8 * s.tim.clk

/-- All pins of bank `b` brought up to now. -/
def State.refreshBank (s : State) (b : Nat) : State :=
  (List.range 16).foldl (fun s i => s.refreshPair (32 * b + 2 * i) s.now8) s

def State.refreshGates (s : State) : State := (List.range 16).foldl State.refreshBank s

/-- FIO_GIN of bank `b`: the levels at the 32 balls, whoever drives them; that of a high-impedance ball is the board's (R376)
(open points: log 63). -/
def State.ginView (s : State) (b : Nat) : Nat :=
  (List.range 32).foldl (fun a i =>
    a + b2n ((s.gatePin (32 * b + i)).getD (Config.ballLevel (32 * b + i) s.tim.clk)) * 2 ^ i) 0

/-- When the first edge that stage 3 or stage 4 holds at output `g` may be applied (open points: log 63). -/
def State.gateHoldEnd (s : State) (g : Nat) : Option Nat :=
  let x := s.gate g
  let y := s.gate (partner g)
  let pulse := x.mpAt + s.fld goutMinp g
  let dead := y.fellAt + s.fld goutDt (g / 2 * 2)
  let held3 := s.gateLevel2 g ≠ x.mp ∧ !s.midPulse g
  let held4 := x.mp ∧ !x.lvl ∧ !y.lvl
  if (s.gateForced g).isSome then none
  else if held3 ∧ held4 then some (min pulse dead)
  else if held3 then some pulse
  else if held4 then some dead
  else none

/-! ### CRC-16 (R377) -/

def crcStep (c : Nat) (b : Bool) : Nat :=
  let top := bit c 15 ^^ b
  let c := c * 2 % 65536
  if top then c ^^^ 0x1021 else c

def crcByte (c : Nat) (b : Byte) : Nat := (List.range 8).foldl (fun c i => crcStep c (b.getLsbD (7 - i))) c

/-- The CRC of a byte string: polynomial x^16 + x^12 + x^5 + 1, initial value 0xFFFF. -/
def crc16 (l : List Byte) : Nat := l.foldl crcByte 0xFFFF

/-! ### Valve-link frames (R378 to R380) -/

def vlEn : Fld := ⟨.FIO_VLCFG, 63, 63⟩
def vlLinkid : Fld := ⟨.FIO_VLCFG, 55, 48⟩
def vlSeq : Fld := ⟨.FIO_VLSTAT, 13, 8⟩

/-- A downlink frame's 32 bytes (R378); byte 0 is the data value of K27.7. -/
def State.vlFrame (s : State) (l : Nat) (safe : Bool) (ins : Word) : List Byte :=
  let blk := if safe then 0xFFFFFFFF else s.reg .FIO_VLBLK l
  let body := leBytes 1 ((if safe then 64 else 0) + s.fld vlSeq l) ++ leBytes 1 (s.fld vlLinkid l) ++ leBytes 1 0 ++
    leBytes 4 (if safe then 0 else ins.toNat) ++ leBytes 4 blk ++
    ((List.range 4).map fun k => leBytes 4 (s.reg .FIO_VLSP (4 * l + k))).flatten ++ leBytes 2 0
  let c := crc16 body
  0xFB#8 :: body ++ leBytes 1 (c / 256) ++ leBytes 1 c

/-- The frame sent now (R378): SEQ counts, the frame occupies 256 ns (open points: log 64). -/
def State.vlSend (s : State) (l : Nat) (safe : Bool) (ins : Word) : State :=
  let s := s.setFld vlSeq l ((s.fld vlSeq l + 1) % 64)
  let f := s.vlFrame l safe ins
  s.modVl l fun x => { x with frame := f, startAt := s.tim.clk, endAt := s.tim.clk + 256 }

/-- The transmitter runs: the link is enabled and the device is no standby (R384, R531). -/
def State.vlTx (s : State) (l : Nat) : Bool := s.flag vlEn l && !s.standby

/-- A frame asked for by a lane: not while a trip holds the link, and 16 ns after the frame before (R379, R380)
(open points: log 64). -/
def State.vlRequest (s : State) (l : Nat) (safe : Bool) (ins : Word) : State :=
  let x := s.vl l
  if !s.vlTx l ∨ s.linkHeld l then s
  else if x.waiting ≠ [] ∨ (x.frame ≠ [] ∧ s.tim.clk < x.endAt + 16) then
    s.modVl l fun x => { x with waiting := x.waiting ++ [(safe, ins)] }
  else s.vlSend l safe ins

/-- A trip line takes the link: the frame in progress ends with K30.7 and is counted, and a safe frame is sent (R380)
(open points: log 64). -/
def State.vlHold (s : State) (l : Nat) : State :=
  if !s.vlTx l then s.modVl l fun x => { x with waiting := [] }
  else
    let s := if s.tim.clk < (s.vl l).endAt then s.bump .FIO_VLABORT l else s
    (s.modVl l fun x => { x with waiting := [], safeAt := s.tim.clk }).vlSend l true 0#32

/-! ### GPIO and flow-control outputs (R331, R385, R386, R253) -/

/-- What GPIO pin `k` drives: `none` is high-impedance. -/
def State.gpioOut (s : State) (k : Nat) : Option Bool :=
  let l := 560 + k
  let v := if s.laneSafe l then s.reg .RAK_SAFEW l else ((s.lane l).last.getD 0#32).toNat
  match s.extPin (512 + k) with
  | some p => p
  | none => if !s.claimed 21 ∨ s.standby ∨ v % 4 = 0 ∨ v % 4 = 3 then none else some (v % 4 == 2)

def fcEn : Fld := ⟨.FIO_FCMAP, 31, 31⟩
def fcPol : Fld := ⟨.FIO_FCMAP, 30, 30⟩
def fcQueue : Fld := ⟨.FIO_FCMAP, 13, 0⟩

/-- FC pin `k` is asserted: its queue is above its mark, or not OPEN, or its floor fenced, loading or powered down (R253). -/
def State.fcAsserted (s : State) (k : Nat) : Bool :=
  let q := s.fld fcQueue k
  s.flag fcEn k && (s.flag ⟨.QUE_STATUS, 29, 29⟩ q || s.fld ⟨.QUE_STATUS, 31, 30⟩ q != 1 || !s.floorOpen (q / 512))

/-- What FC pin `k` drives; its level is POL while asserted (R253, R386). -/
def State.fcOut (s : State) (k : Nat) : Option Bool :=
  let lv := s.fcAsserted k ^^ s.flag fcPol k
  if let some p := s.extPin (544 + k) then p
  else if !s.claimed 21 then none
  else if bit (s.reg .FIO_FCOD 0) k then (if lv then none else some false)
  else if s.standby then none
  else some lv

end Sys2Proof.Machine
end

