-- ==== Sys2Proof/Machine/TripOps.lean ====
section
/-! DEFINITION. The trip matrix: sources, latches, captures, drives, frames (chapter "Trip lines"), and the notices to guard
slots. -/

namespace Sys2Proof.Machine

open Sys2Proof

/-- A cause raised toward the guards of tile `t`; none is recorded while the floor is fenced, loading or powered down (R123).
`sel` names a guard, 2 leaves the choice to the enables (R124) (open points: log 90). -/
def State.notice (s : State) (t cause sel : Nat) : State :=
  if s.floorOpen (t / 16) then { s with notices := s.notices ++ [(t, cause, sel)] } else s

/-- Source `n` is asserted (R404). -/
def State.srcLive (s : State) (n : Nat) : Bool := bit (s.reg .TRP_SRCLIVE (n / 32)) (n % 32)

/-- Source `n` stands in the mask of line `l` (R393). -/
def State.inMask (s : State) (l n : Nat) : Bool := bit (s.reg .TRP_MASK (32 * l + n / 32)) (n % 32)

/-- A change of filtered pin `i` can be accepted now: its level has been stable for `filt` ns, so the change accepted before it
is at least that old (R385, R406). -/
def State.pinStable (s : State) (i filt : Nat) : Bool :=
  tget 0 s.trip.pinAt i == 0 || decide (tget 0 s.trip.pinAt i + filt ≤ s.tim.clk + 1)

/-- A change of filtered pin `i` accepted now. -/
def State.pinTaken (s : State) (i : Nat) : State :=
  { s with trip := { s.trip with pinAt := tput 0 s.trip.pinAt i (s.tim.clk + 1) } }

/-- Edge sources: TRIP pins, trip frame bits, the forced source (R390). -/
def edgeSource (n : Nat) : Bool := (544 ≤ n && n ≤ 555) || (704 ≤ n && n ≤ 847) || n == 1023

def lineEn : Fld := ⟨.TRP_LINE_CFG, 31, 31⟩
def linePinout : Fld := ⟨.TRP_LINE_CFG, 30, 30⟩
def lineFrameout : Fld := ⟨.TRP_LINE_CFG, 29, 29⟩
def lineTag : Fld := ⟨.TRP_LINE_CFG, 15, 0⟩
def trpSettle : Fld := ⟨.TRP_PINCTL, 23, 16⟩
def trpPinfilt : Fld := ⟨.TRP_PINCTL, 5, 0⟩
def hostWdEn : Fld := ⟨.TRP_HOSTWD, 31, 31⟩
def hostWdPeriod : Fld := ⟨.TRP_HOSTWD, 15, 0⟩
def alkState : Fld := ⟨.ALK_STATUS, 31, 28⟩

/-- Line `n` waits for the SETTLE of a TRIP_CLEAR, so it drives nothing (R399). -/
def State.settling (s : State) (n : Nat) : Bool := s.trip.clears.any fun c => bit c.2.1 n

/-- TRIP pin `n` is pulled low by this device (R400). -/
def State.tripDrive (s : State) (n : Nat) : Bool := s.latched n && s.flag linePinout n && !s.settling n

/-- The ball TRIP`n` is low, whoever pulls it (R400). -/
def State.tripBall (s : State) (n : Nat) : Bool := tget false s.trip.pinLow n || s.tripDrive n

/-- TRP_STATUS as it reads (R406). -/
def State.trpStatus (s : State) : Nat :=
  s.reg .TRP_STATUS 0 % 4096 + (List.range 12).foldl (fun a n => a + b2n (s.tripBall n) * 2 ^ (16 + n)) 0 +
    b2n (s.srcLive 556) * 2 ^ 31

/-- The 12 bits of the trip frames of link `m` (R401). -/
def State.frameBits (s : State) (m : Nat) : Nat :=
  (List.range 12).foldl (fun a n =>
    a + b2n (s.latched n && s.flag lineFrameout n && bit (s.reg .TRP_LINKOUT m) n && !s.settling n) * 2 ^ n) 0

/-- A trip frame sent on link `m` (R401, R509). -/
def State.sendFrame (s : State) (m : Nat) : State :=
  { s with trip := { s.trip with
      frames := tput (0, 0) s.trip.frames m (s.frameBits m, s.tim.clk + 1)
      seq := tput 0 s.trip.seq m ((tget 0 s.trip.seq m + 1) % 16) } }

/-- Links from MASHING onward carry trip frames (R525). -/
def State.carriesTrips (s : State) (m : Nat) : Bool := decide (2 ≤ s.fld alkState m ∧ s.fld alkState m ≤ 4)

/-- A frame on every link whose bits have changed (R401). -/
def State.sendFrames (s : State) : State :=
  (List.range 12).foldl (fun s m =>
    if s.carriesTrips m ∧ s.frameBits m ≠ (tget (0, 0) s.trip.frames m).1 then s.sendFrame m else s) s

/-- The action of line `n` at its gate banks and valve links: `old` is the state before it latched (R396, R397). -/
def State.takeHolds (s old : State) (n : Nat) : State :=
  let s := (List.range 16).foldl (fun s b => if bit (s.reg .TRP_GBANK b) n then s.refreshBank b else s) s
  (List.range 48).foldl (fun s l => if bit (s.reg .TRP_VLINK l) n ∧ !old.linkHeld l then s.vlHold l else s) s

/-- The sources that have changed to asserted in this rim clock. -/
def State.justUp (s : State) : List Nat := if s.trip.upsAt = s.tim.clk + 1 then s.trip.ups else []

/-- TRP_SNAP of line `n` takes the levels of all sources; `forced` marks source 1023, a pulse (R403). -/
def State.snapLine (s : State) (n : Nat) (forced : Bool) : State :=
  (List.range 32).foldl (fun s w =>
    let live := s.reg .TRP_SRCLIVE w
    s.setReg .TRP_SNAP (32 * n + w) (if w = 31 ∧ forced ∧ live / 2 ^ 31 = 0 then live + 2 ^ 31 else live)) s

/-- Data of TRIP_LATCHED: FIRST, MULTI and ARMTAG (R403). -/
def State.latchData (s : State) (n first multi : Nat) : Nat := first + multi * 2 ^ 16 + s.fld lineTag n * 2 ^ 24

/-- Line `n` latches for the sources `cands`: latch, captures, event, notices, actions (R393, R396 to R398, R403)
(open points: log 57, log 66). -/
def State.latchLine (s : State) (n : Nat) (cands : List Nat) : State :=
  match cands with
  | [] => s
  | c :: cs =>
    if !s.dev.guardIn ∨ !s.flag lineEn n ∨ s.latched n then s
    else
      let s0 := s
      let first := cs.foldl min c
      let multi := b2n (cs ≠ [])
      let s := s.setReg .TRP_STATUS 0 (s.reg .TRP_STATUS 0 + 2 ^ n)
      let s := s.setReg .TRP_CAPS n (2 ^ 31 + multi * 2 ^ 30 + first)
      let (x, s) := s.fresh64
      let s := s.setReg .TRP_CAPT n (s.tim.now - 2 + x.toNat % (min s.tim.now 2 + 3))
      let s := (s.snapLine n (first == 1023)).bump .TRP_LINE_CNT n
      let s := { s with trip := { s.trip with latchAt := tput 0 s.trip.latchAt n (s.tim.clk + 1) } }
      let s := s.raise 0x7101 9 n (s.latchData n first multi)
      let s := { s with irqs := s.irqs ++ [(0, 3)] }
      let s := ((List.range 512).filter fun t => (s.causeGuard t n).isSome).foldl (fun s t => s.notice t n 2) s
      s.takeHolds s0 n

/-- Sources that assert in the rim clock in which line `n` has latched stand in its capture records too: FIRST is the lowest of
all, MULTI is 1, and TRP_SNAP and the event not yet logged show it (R403, R405) (open points: log 66). -/
def State.joinLatch (s : State) (n : Nat) (cands : List Nat) : State :=
  let caps := s.reg .TRP_CAPS n
  if tget 0 s.trip.latchAt n ≠ s.tim.clk + 1 ∨ cands.all (· == caps % 1024) then s
  else
    let first := cands.foldl min (caps % 1024)
    let s := (s.setReg .TRP_CAPS n (2 ^ 31 + 2 ^ 30 + first)).snapLine n (bit (s.reg .TRP_SNAP (32 * n + 31)) 31)
    { s with logQ := s.logQ.map fun r =>
        if r.code = 0x7101 ∧ r.loc = n ∧ r.time = s.tim.now then { r with data := s.latchData n first 1 } else r }

/-- Each enabled line latches for those of the sources that stand in its mask (R393). -/
def State.latchLines (s : State) (srcs : List Nat) : State :=
  ((List.range 12).foldl (fun s n =>
    let l := srcs.filter (s.inMask n)
    if s.latched n then s.joinLatch n l else s.latchLine n l) s).sendFrames

/-- The live level of source `n` set. -/
def State.putSrc (s : State) (n : Nat) (on : Bool) : State :=
  s.setReg .TRP_SRCLIVE (n / 32) (putBits (s.reg .TRP_SRCLIVE (n / 32)) (n % 32) (n % 32) (b2n on))

def State.seeSrc (s : State) (n : Nat) : State :=
  s.setReg .TRP_SRCSEEN (n / 32) (putBits (s.reg .TRP_SRCSEEN (n / 32)) (n % 32) (n % 32) 1)

/-- The levels of sources set in one rim clock: those that change to asserted are seen and may latch lines (R393, R403,
R404). -/
def State.setSrcs (s : State) (l : List (Nat × Bool)) : State :=
  let up := (l.filter fun x => x.2 && !s.srcLive x.1).map (·.1)
  let s := l.foldl (fun s x => s.putSrc x.1 x.2) s
  let s := up.foldl State.seeSrc s
  let s := { s with trip := { s.trip with ups := s.justUp ++ up, upsAt := s.tim.clk + 1 } }
  if up = [] then s else s.latchLines up

def State.setSrc (s : State) (n : Nat) (on : Bool) : State := s.setSrcs [(n, on)]

/-- The level sources asserted now that stand in the mask of line `n`. -/
def State.liveLevels (s : State) (n : Nat) : List Nat :=
  (List.range 1024).filter fun k => s.srcLive k && !edgeSource k && s.inMask n k

/-- The level of source `n` shown without a latch: the lines are re-examined after it. -/
def State.showSrc (s : State) (n : Nat) (on : Bool) : State :=
  if s.srcLive n = on then s else if on then (s.putSrc n true).seeSrc n else s.putSrc n false

/-- The sources in the mask of line `n` that keep it from clearing, or that latch it when its mask is written: the level sources
asserted now, and every source that has asserted in this rim clock (R395, R399, R405). -/
def State.blockers (s : State) (n : Nat) : List Nat :=
  (List.range 1024).filter fun k => s.inMask n k && ((s.srcLive k && !edgeSource k) || s.justUp.contains k)

/-- Line `n` re-examined after its mask or its EN was written: asserted level sources latch it at once (R395). -/
def State.relatch (s : State) (n : Nat) : State := (s.latchLine n (s.liveLevels n)).sendFrames

end Sys2Proof.Machine
end

