-- ==== Sys2Proof/Machine/RackOps.lean ====
section
/-! DEFINITION. Lanes, racks and rack ports (chapter "Timebase, capture and racking"): accepting, releasing and checking
entries, miss actions, the racking miss sources. -/

namespace Sys2Proof.Machine

open Sys2Proof

def laneBound : Fld := ⟨.RAK_LANE, 62, 62⟩
def laneRset : Fld := ⟨.RAK_LANE, 61, 54⟩
def laneAct : Fld := ⟨.RAK_LANE, 53, 53⟩
def laneSticky : Fld := ⟨.RAK_LANE, 52, 52⟩
def laneSys : Fld := ⟨.RAK_LANE, 51, 51⟩
def laneMaxmiss : Fld := ⟨.RAK_LANE, 50, 47⟩
def laneMsrc : Fld := ⟨.RAK_LANE, 46, 43⟩
def laneNen : Fld := ⟨.RAK_LANE, 42, 42⟩
def laneNtile : Fld := ⟨.RAK_LANE, 41, 33⟩
def laneGuard : Fld := ⟨.RAK_LANE, 31, 24⟩
def laneOwnv : Fld := ⟨.RAK_LANE, 21, 21⟩
def laneOwnf : Fld := ⟨.RAK_LANE, 20, 16⟩
def lstatConsec : Fld := ⟨.RAK_LSTAT, 29, 26⟩
def lstatMisses : Fld := ⟨.RAK_LSTAT, 15, 0⟩
def portEn : Fld := ⟨.RAK_PORT, 63, 63⟩
def portMode : Fld := ⟨.RAK_PORT, 62, 61⟩
def portFine : Fld := ⟨.RAK_PORT, 60, 58⟩
def portHi : Fld := ⟨.RAK_PORT, 57, 48⟩
def portLo : Fld := ⟨.RAK_PORT, 47, 38⟩
def portNext : Fld := ⟨.RAK_PORT, 37, 28⟩
def bctlEn : Fld := ⟨.TMB_BCTL, 31, 31⟩
def bctlOvr : Fld := ⟨.TMB_BCTL, 30, 30⟩
def bctlRsen : Fld := ⟨.TMB_BCTL, 29, 29⟩
def bctlErr : Fld := ⟨.TMB_BCTL, 28, 28⟩
def bctlRset : Fld := ⟨.TMB_BCTL, 23, 16⟩
def tmbFenced : Fld := ⟨.TMB_STATUS, 3, 3⟩

def State.rport (s : State) (p : Nat) : RPort := tget .init s.rports p
def State.setRport (s : State) (p : Nat) (x : RPort) : State := { s with rports := tput .init s.rports p x }

/-- The device is time-fenced (R324). -/
def State.timeFenced (s : State) : Bool := s.flag tmbFenced 0

/-! ### Release times (R337, R338) -/

/-- The batches that feed rack set `rset`, with the start of their last step since EN went to 1 (R338). -/
def State.feeds (s : State) (rset : Nat) : List (Nat × Nat) :=
  (List.range 256).filterMap fun b =>
    if s.flag bctlEn b ∧ s.flag bctlRsen b ∧ s.fld bctlRset b = rset then (s.batch b).last.map fun t => (b, t) else none

/-- The release time of a set-timed entry of lane `l` (R338). -/
def State.setTime (s : State) (l : Nat) : Option Nat :=
  let fs := s.feeds (s.fld laneRset l)
  let t := fs.foldl (fun (a : Option Nat) f => some (max (a.getD 0) f.2)) none
  t.map fun t =>
    let ds := (fs.filter fun f => f.2 == t).map fun f => s.reg .TMB_BDL f.1
    t + ds.foldl min (ds.headD 0)

/-- The full release time whose low 32 bits are `w`, around the acceptance time `a` (R337); one before time 0 counts as 0. -/
def fullTime (a w : Nat) : Nat :=
  let top : Int := a + 2 ^ 31
  (top - (top - w) % 2 ^ 32).toNat

/-! ### Accepting entries (R339, R340) -/

/-- An entry put into a rack in release order (open points: log 58). -/
def rackIns (e : Entry) : List Entry → List Entry
  | [] => [e]
  | x :: l => if e.r < x.r then e :: x :: l else x :: rackIns e l

/-- The racked entry `y` with the release time of the new entry `e` takes its value and poison bit and keeps its origin. Of two
accepted in one rim clock the one from the higher-numbered port stands, RACK_PUT's above all (R339, R340)
(open points: log 58). -/
def replaceEntry (e y : Entry) : Entry :=
  if y.clk = e.clk ∧ e.port < y.port then y else { e with setT := y.setT }

/-- An entry offered to lane `l` from port `p` (0xFF for RACK_PUT): 0 written, 1 lane refused, 2 late, 3 full (R339). `r` is
none when a set-timed entry finds no step. `inRange` says that the port may address the lane (open points: log 58). -/
def State.accept (s : State) (p l : Nat) (inRange : Bool) (r : Option Nat) (fine : Nat) (val : Word) (psn setT : Bool) :
    Nat × State :=
  if !inRange ∨ 783 < l ∨ !s.flag laneEn l ∨ (setT ∧ !s.flag laneBound l) ∨ (s.lane l).drain then
    (1, (s.bump .RAK_BADLANE 0).raiseOnceK .RAK_BADLANE 0 (p + 1) 0x5104 0xC p (l * 2 ^ 32))
  else
    let late := match r with
      | none => true
      | some r => decide (r < s.tim.now + s.fld laneGuard l)
    if late then (2, (s.bump .RAK_LATE 0).raiseOnceK .RAK_LATE 0 (l + 1) 0x5102 6 l (r.getD 0 + p * 2 ^ 64))
    else
      let e : Entry := { r := r.getD 0, fine := fine, val := val, psn := psn, setT := setT, port := p, clk := s.tim.clk }
      let k := (s.lane l).rack
      if k.any fun x => x.r == e.r then
        (0, s.modLane l fun x => { x with rack := k.map fun y => if y.r == e.r then replaceEntry e y else y })
      else if 4 ≤ k.length then (3, (s.bump .RAK_FULL 0).raiseOnceK .RAK_FULL 0 (l + 1) 0x5103 6 l (e.r + p * 2 ^ 64))
      else (0, s.modLane l fun x => { x with rack := rackIns e k })

/-! ### The lane's output -/

/-- The miss action or another entry into the safe state has reached lane `l`: its pin or link follows (R343). -/
def State.laneToSafe (s : State) (l : Nat) : State :=
  if l < 512 then s.refreshPair l s.now8
  else if l < 560 then s.vlRequest (l - 512) true 0#32
  else if 592 ≤ l then s.setReg .FIO_VLSP (l - 592) (s.reg .RAK_SAFEW l)
  else s

/-- A PWM word released into the shadow; in the rim clock of a period start it takes effect at once (R375). -/
def State.loadPwm (s : State) (g : Nat) (v : Word) : State :=
  if s.fld goutMode g ≠ 1 then s
  else if (s.car (s.fld goutCar g)).start = some s.tim.clk then s.modGate g fun x => { x with cmp := some v, shadow := none }
  else s.modGate g fun x => { x with shadow := some v, shadowAt := s.now8 }

/-- The level of a PWM output at unit `u` of a period of `per` ns (R374, R375). -/
def pwmLevel (cntr : Bool) (per : Nat) (cmp : Option Word) (u : Nat) : Bool :=
  match cmp with
  | none => false
  | some w =>
    let force := w.toNat / 2 ^ 30
    let c := w.toNat % 2 ^ 25
    if force = 1 then false
    else if force = 2 then true
    else if per * 8 ≤ c then true
    else if cntr then decide (per * 4 - c / 2 ≤ u ∧ u < per * 4 + (c + 1) / 2)
    else decide (u < c)

def carCntr : Fld := ⟨.FIO_CAR, 62, 62⟩
def carPer : Fld := ⟨.FIO_CAR, 53, 32⟩
def carPhs : Fld := ⟨.FIO_CAR, 31, 0⟩

/-- The carrier level of output `g` at unit `u` of the period under way (open points: log 63). -/
def State.pwmAt (s : State) (g u : Nat) : Bool :=
  let c := s.fld goutCar g
  s.flag carEn c && (s.car c).start.isSome && pwmLevel (s.flag carCntr c) (s.car c).per (s.gate g).cmp u

/-- A value released on lane `l` (R333): it becomes the lane's value and, but for a STICKY hold, ends the safe state. -/
def State.releaseValue (s : State) (l fine : Nat) (v : Word) : State :=
  let s := s.modLane l fun x => { x with last := some v, safe := false }
  let x := s.lane l
  if l < 512 then
    let s := s.loadPwm l v
    let s := match (s.car (s.fld goutCar l)).start with
      | some t => s.modGate l fun y => { y with pwm := s.pwmAt l (8 * (s.tim.clk - t)) }
      | none => s
    s.refreshPair l (if s.fld goutMode l = 1 then s.now8 else s.now8 + fine)
  else if l < 560 then s.vlRequest (l - 512) x.sticky v
  else if 592 ≤ l then (if x.sticky then s else s.setReg .FIO_VLSP (l - 592) v.toNat)
  else s

/-! ### Misses (R341 to R346) -/

/-- Racking miss source `n` as its lanes make it (R344). -/
def State.missSource (s : State) (n : Nat) : Bool :=
  (List.range 784).any fun l =>
    s.fld laneMsrc l == n && s.fld laneMaxmiss l != 0 && decide (s.fld laneMaxmiss l ≤ s.fld lstatConsec l)

/-- RAK_MSRC as it reads. -/
def State.msrcView (s : State) : Nat := (List.range 16).foldl (fun a n => a + b2n (s.missSource n) * 2 ^ n) 0

/-- Source 640 + MSRC of lane `l` brought up to date (R344). -/
def State.refreshMsrc (s : State) (l : Nat) : State :=
  let n := s.fld laneMsrc l
  if s.fld laneMaxmiss l = 0 then s else s.setSrc (640 + n) (s.missSource n)

/-- Steps 2, 3, 5 and 6 of a miss of lane `l` for release time `r`, found at `time` (R342, R539). -/
def State.missCount (s : State) (l r time : Nat) (poison : Bool) : State :=
  let c := s.fld lstatConsec l
  let s := (s.bumpFld lstatMisses l).bump .RAK_MISS_TOTAL 0
  let s := s.setFld lstatConsec l (min 15 (c + 1))
  let s := if c = 0 then s.raiseAt time 0x5101 6 l (r + (16 + b2n poison) * 2 ^ 64) else s
  let s := if s.flag laneNen l then s.notice (s.fld laneNtile l) 14 2 else s
  s.refreshMsrc l

/-- Step 4, taken at the release time: SAFE drives the safe state, and holds it when STICKY; HOLD keeps the value, and a frame
lane sends its last frame again (R342, R343, R378). -/
def State.missAction (s : State) (l : Nat) (safe : Bool) : State :=
  if safe then
    (s.modLane l fun x => { x with safe := true, sticky := x.sticky || s.flag laneSticky l }).laneToSafe l
  else if 512 ≤ l ∧ l < 560 then s.vlRequest (l - 512) (s.lane l).sticky ((s.lane l).last.getD 0#32)
  else s

/-- An entry reaches its release time (R333, R342, R346): a poisoned one, and an explicitly timed one of a SYS lane while the
device is time-fenced, is removed as a miss. -/
def State.releaseEntry (s : State) (l : Nat) (e : Entry) : State :=
  let s := s.modLane l fun x => { x with rack := x.rack.erase e }
  if e.psn then ((s.bump .RAK_PSN 0).missCount l e.r s.tim.now true).missAction l (s.flag laneAct l)
  else if s.timeFenced ∧ s.flag laneSys l ∧ !e.setT then (s.missCount l e.r s.tim.now false).missAction l (s.flag laneAct l)
  else s.releaseValue l e.fine e.val

/-- The next thing due on lane `l`: the release time of its first entry or of its first waiting miss action. -/
def State.laneDue (s : State) (l : Nat) : Option Nat :=
  match (s.lane l).rack, (s.lane l).misses with
  | [], [] => none
  | e :: _, [] => some e.r
  | [], m :: _ => some m.1
  | e :: _, m :: _ => some (min e.r m.1)

/-- The first thing due on lane `l` carried out. -/
def State.laneRelease (s : State) (l : Nat) : State :=
  match (s.lane l).rack, (s.lane l).misses with
  | [], [] => s
  | e :: _, [] => s.releaseEntry l e
  | [], m :: ms => (s.modLane l fun x => { x with misses := ms }).missAction l m.2
  | e :: _, m :: ms =>
    if e.r < m.1 then s.releaseEntry l e else (s.modLane l fun x => { x with misses := ms }).missAction l m.2

/-- The batches whose step of lane `l` waits for its deadline check at release time `r`: batch, step start (R341). The check is
made once no further entry is in time, so that the entries accepted in the rim clock R - GUARD count (R340). -/
def State.checksDue (s : State) (l : Nat) : List (Nat × Nat × Nat) :=
  if !s.flag laneEn l ∨ !s.flag laneBound l ∨ (s.lane l).drain then []
  else (s.feeds (s.fld laneRset l)).filterMap fun f =>
    let r := f.2 + s.reg .TMB_BDL f.1
    if tget 0 (s.lane l).checked f.1 ≠ f.2 + 1 ∧ r < s.tim.now + s.fld laneGuard l then some (r, f.1, f.2) else none

/-- The deadline check of lane `l` for release time `r` (R341, R346); its moment is R - GUARD. -/
def State.laneCheck (s : State) (l r : Nat) : State :=
  let e := (s.lane l).rack.find? fun e => e.r == r
  let ok := e.any fun e => !e.psn
  if ok ∧ !(s.timeFenced ∧ s.flag laneSys l) then (s.setFld lstatConsec l 0).refreshMsrc l
  else
    let psn := e.any fun e => e.psn
    let s := s.modLane l fun x => { x with
      rack := x.rack.filter fun e => e.r != r, misses := x.misses ++ [(r, s.flag laneAct l)] }
    (if psn then s.bump .RAK_PSN 0 else s).missCount l r (r - s.fld laneGuard l) psn

/-- Deadline checks of lane `l` whose moment was before it was enabled and bound to its rack set are never made (R341); `p`
says for which batches. -/
def State.skipPast (s : State) (p : Nat → Bool) (l : Nat) : State :=
  ((s.checksDue l).filter fun x => p x.2.1).foldl (fun s x => s.modLane l fun y => { y with checked := tput 0 y.checked x.2.1 (x.2.2 + 1) }) s

/-- The earliest due check of lane `l` made, for every batch that gives its release time. -/
def State.checkNext (s : State) (l : Nat) : State :=
  match s.checksDue l with
  | [] => s
  | d :: ds =>
    let r := (ds.map (·.1)).foldl min d.1
    let s := (d :: ds).foldl (fun s x =>
      if x.1 = r then s.modLane l fun y => { y with checked := tput 0 y.checked x.2.1 (x.2.2 + 1) } else s) s
    s.laneCheck l r

/-! ### Enabling and disabling lanes (R333, R347, R351) -/

/-- Lane `l` goes off: EN = 0, nothing racked, its safe state driven (R347, R351) (open points: log 58). -/
def State.laneOff (s : State) (l : Nat) : State :=
  let s := s.setFld laneEn l 0
  (s.modLane l fun x => { x with rack := [], misses := [], drain := false, safe := true }).laneToSafe l

/-- Lane `l` goes on: nothing has been released on it yet (R372) (open points: log 59). -/
def State.laneOn (s : State) (l : Nat) : State :=
  let s := s.modLane l fun x => { x with last := none, safe := false }
  if l < 512 then
    (s.modGate l fun x => { x with cmp := none, shadow := none, pwm := false }).refreshPair l s.now8
  else s

/-- Every entry of a lane discarded and the lane in its safe state, CONSEC zero (R348). -/
def State.laneAbort (s : State) (l : Nat) : State :=
  let s := (s.modLane l fun x => { x with rack := [], misses := [], safe := true }).setFld lstatConsec l 0
  (s.refreshMsrc l).laneToSafe l

/-! ### Rack ports (R334 to R337) -/

/-- The port forms entries in this mode: EN = 1, and PAIRED only on an even port (R335). -/
def State.portModeOf (s : State) (p : Nat) : Option Nat :=
  let m := s.fld portMode p
  if !s.flag portEn p ∨ m = 3 ∨ (m = 2 ∧ p % 2 = 1) then none else some m

def State.portRange (s : State) (p l : Nat) : Bool := decide (s.fld portLo p ≤ l ∧ l ≤ s.fld portHi p)

/-- NEXT advances and wraps from LANE_HI to LANE_LO (R335). -/
def State.advanceNext (s : State) (p : Nat) : State :=
  let n := s.fld portNext p
  s.setFld portNext p (if n = s.fld portHi p then s.fld portLo p else (n + 1) % 1024)

/-- A header word that R336 discards. -/
def headerBad (w : Nat) : Bool := bit w 27 || bits w 21 10 != 0 || decide (783 < w % 1024 + bits w 26 22)

/-- A word taken by an HDR port (R336, R337). -/
def State.hdrWord (s : State) (p : Nat) (tok : Tok) : State :=
  match (s.rport p).hdr with
  | none =>
    let w := tok.v.toNat
    if tok.psn ∨ headerBad w then (s.bump .RAK_PORTERR 0).raiseOnceK .RAK_PORTERR 0 (p + 1) 0x5104 0xC p w
    else
      let h : HdrRun := { lane := w % 1024, left := bits w 26 22 + 1, fine := bits w 30 28, te := bit w 31, time := none }
      s.setRport p { s.rport p with hdr := some h }
  | some h =>
    if h.te ∧ h.time.isNone then s.setRport p { s.rport p with hdr := some { h with time := some tok } }
    else
      let r := match h.time with
        | some t => some (fullTime s.tim.now t.v.toNat)
        | none => s.setTime h.lane
      let psn := tok.psn || h.time.any (·.psn)
      let s' := (s.accept p h.lane (s.portRange p h.lane) r h.fine tok.v psn (!h.te)).2
      let h' := if h.left ≤ 1 then none else some { h with lane := h.lane + 1, left := h.left - 1 }
      s'.setRport p { s'.rport p with hdr := h' }

/-- A word taken by a FIXSET port (R335). -/
def State.fixWord (s : State) (p : Nat) (tok : Tok) : State :=
  let l := s.fld portNext p
  ((s.accept p l (s.portRange p l) (s.setTime l) (s.fld portFine p) tok.v tok.psn true).2).advanceNext p

/-- A PAIRED port whose time word and value word are both there forms its entry (R335, R337). -/
def State.pairWord (s : State) (p : Nat) : State :=
  match (s.rport p).time, (s.rport p).value with
  | some t, some v =>
    let l := s.fld portNext p
    let s := s.setRport p { s.rport p with time := none, value := none }
    ((s.accept p l (s.portRange p l) (some (fullTime s.tim.now t.v.toNat)) (s.fld portFine p) v.v (v.psn || t.psn)
      false).2).advanceNext p
  | _, _ => s

/-- A PAIRED port has taken a word that waits for its partner, on the side of the port that this word comes to. -/
def State.pairBusy (s : State) (p : Nat) : Bool :=
  if s.portModeOf (p / 2 * 2) = some 2 then
    (if p % 2 = 0 then (s.rport p).time.isSome else (s.rport (p - 1)).value.isSome)
  else false

/-- A word accepted at rack port `p`; a port that forms no entries drops it. -/
def State.rackWord (s : State) (p : Nat) (tok : Tok) : State :=
  let e := p / 2 * 2
  if s.portModeOf e = some 2 then
    let x := s.rport e
    (s.setRport e (if p % 2 = 0 then { x with time := some tok } else { x with value := some tok })).pairWord e
  else match s.portModeOf p with
    | some 0 => s.hdrWord p tok
    | some _ => s.fixWord p tok
    | none => s

end Sys2Proof.Machine
end

