-- ==== Sys2Proof/Machine/PowerOps.lean ====
section
/-! DEFINITION. Fencing, draining, holding and powering a floor (chapter "Packet network", R314 to R317; R220, R256, R489), and
the floor's voltage code and kiln records (chapter "Gravity, kiln and floor turning"). -/

namespace Sys2Proof.Machine

open Sys2Proof

def State.grav (s : State) (f : Nat) : GravSt := tget .init s.gravs f
def State.setGrav (s : State) (f : Nat) (x : GravSt) : State := { s with gravs := tput .init s.gravs f x }
def State.modGrav (s : State) (f : Nat) (g : GravSt → GravSt) : State := s.setGrav f (g (s.grav f))

def floorTiles (f : Nat) : List Nat := (List.range 16).map (16 * f + ·)

def grvVnow : Fld := ⟨.GRV_FSTAT, 63, 58⟩
def grvClo : Fld := ⟨.GRV_FSTAT, 57, 52⟩
def grvMove : Fld := ⟨.GRV_FSTAT, 36, 36⟩
def klnCalok : Fld := ⟨.KLN_FLOOR, 63, 63⟩
def klnClo : Fld := ⟨.KLN_FLOOR, 57, 52⟩
def klnMloss : Fld := ⟨.KLN_FLOOR, 15, 0⟩

/-! ### Codes (R409, R410, R416, R419) -/

/-- The floor's code and the lowest confirmed one. -/
def State.code (s : State) (f : Nat) : Nat := s.fld grvVnow f
def State.clo (s : State) (f : Nat) : Nat := s.fld klnClo f

/-- The LDO of the floor ordered to a code; codes 51 to 63 behave as 50 (R409). -/
def State.setCode (s : State) (f c : Nat) : State := s.setFld grvVnow f (min 50 c)

/-- CLO and its copy in GRV_FSTAT set. -/
def State.setClo (s : State) (f c : Nat) : State := (s.setFld klnClo f c).setFld grvClo f c

/-- The floor held at code 40, or at CLO when that is above (R410) (open points: log 69). -/
def State.holdCode (s : State) (f : Nat) : State := s.setCode f (max 40 (s.clo f))

/-- The hold of R410 follows a new CLO while the floor is FENCED or DRAINED, a load included. -/
def State.rehold (s : State) (f : Nat) : State :=
  if s.fld nocState f = 1 ∨ s.fld nocState f = 2 then s.holdCode f else s

/-- The temperature of a floor in °C: the highest reading of its tiles and hub (R423) (open points: log 6). -/
def State.temp (s : State) (n : Nat) : Int := tget 0 s.sup.temps n
def State.floorTemp (s : State) (f : Nat) : Int := ((floorTiles f).map s.temp).foldl max (s.temp (512 + f))

/-- A channel without margin at code 50 (R419): of local tile `i`, or of the hub for 16; the floor is held at code 50. -/
def State.marginLost (s : State) (f i : Nat) : State :=
  let s := if i < 16 then s.setFld klnMloss f (s.fld klnMloss f ||| 2 ^ i) else s.modGrav f fun x => { x with hubLost := true }
  let s := s.raise 0x8202 1 (locTile (16 * f + i % 16) 0xFF 0xFF) 0
  (s.setClo f 50).setCode f 50

/-- A full calibration of a floor (R317, R434, R479): CALOK and CLO, and the channels found without margin. -/
def State.calibrated (s : State) (f : Nat) (ok : Bool) (clo lost : Nat) : State :=
  let s := (s.setFld klnCalok f (b2n ok)).setFld klnMloss f 0
  let s := s.modGrav f fun x => { x with phase := .idle, backoff := none, hubLost := false, conf := s.floorTemp f }
  if ok then
    (((List.range 16).filter (bit lost)).foldl (fun s i => s.marginLost f i) (s.setClo f clo)).rehold f
  else s.raise 0x8202 1 (locTile (16 * f) 0xFF 0xFF) 0

/-! ### Turning moves given up (R430) -/

/-- A move on the floor is abandoned before its commit: the slot stays where it is. -/
def State.abandonMove (s : State) (f : Nat) : State :=
  match (s.grav f).move with
  | none => s
  | some m =>
    let s := (s.modSlot m.tile m.slot fun x => { x with moving := false }).modSlot m.spare m.slot fun x => { x with moving := false }
    (s.modGrav f fun x => { x with move := none }).setFld grvMove f 0

/-! ### The fence (R314, R315) -/

/-- Tokens in the floor's stages and the latches and sets of its cells go (R111, R489). -/
def State.clearWires (s : State) (f : Nat) : State :=
  { s with stages := s.stages.filter fun p => keyFloor p.1 ≠ f, cells := s.cells.filter fun p => p.1 / 2048 ≠ f }

/-- Lanes that the floor owns go off and to their safe state (R347, R489). -/
def State.ownedLanesOff (s : State) (f : Nat) : State :=
  ((List.range 784).filter fun l => s.flag laneOwnv l && s.fld laneOwnf l == f).foldl State.laneOff s

/-- The floor becomes FENCED: parked requests are answered, a move is given up, the code is held. `why` is 1 for power-off, 2
for a load, at whose start the tokens in its stages and cells go (R111, R489) and its lanes turn safe (R347); `now` treats NOC_DRAIN_TO
as 0. -/
def State.fence (s : State) (f why : Nat) (now : Bool) : State :=
  let s := (s.floor f).park.foldl (fun s p => s.rsp f p stDomainOff 0) s
  let s := (s.setFld nocState f 1).abandonMove f
  let s := s.modFloor f fun x => { x with
    park := [], fencedAt := s.tim.clk, drainTo0 := now, offWhy := why, fenceRaised := false }
  let s := s.holdCode f
  if why = 2 then (s.clearWires f).ownedLanesOff f else s

/-- A page copy runs on the floor (R281). -/
def State.copying (s : State) (f : Nat) : Bool := (floorTiles f).any fun t => (s.tile t).copy.isSome

/-- The drain of a fenced floor has ended: nothing accepted is unanswered, nothing of its initiators waits, its hub router is
empty, no page copy runs (R315). -/
def State.drained (s : State) (f : Nat) : Bool :=
  (s.floor f).park == [] && (s.floor f).dispatches == [] && !s.copying f &&
  ((floorTiles f).all fun t => (s.tile t).wrWait == [] && (s.tile t).outst.all (·.done)) &&
  s.net.all fun p => p.router != f

/-- Requests that the drain timeout answers ABORTED: parked ones, writes that wait for invalidations, and those at the hub. -/
def State.unanswered (s : State) (f : Nat) : List Pkt :=
  (s.floor f).park ++ ((floorTiles f).flatMap fun t => (s.tile t).wrWait.map (·.2)) ++
    s.net.filter fun p => p.local_ && p.router == f && isRequest p

/-- The requests of a floor given up: of its tiles and of its hub (R315). A DISPATCH given up frees its flow entry
(open points: log 101). -/
def State.giveUp (s : State) (f : Nat) : State :=
  let s := (floorTiles f).foldl (fun s t => s.modTile t fun x => { x with
    outst := x.outst.filter (·.done), wrWait := [], invs := [], invHold := [] }) s
  let s := (s.floor f).dispatches.foldl (fun s d => match d.flow with
    | some id => s.closeFlow f id .cancelled
    | none => s) s
  s.modFloor f fun x => { x with park := [], dispatches := [] }

/-- The drain timeout (R315). -/
def State.drainAbort (s : State) (f : Nat) : State :=
  let l := s.unanswered f
  let s := { s with net := s.net.filter fun p => !(p.router == f && p.local_ && isRequest p) }
  let s := l.foldl (fun s p => s.rsp f p stAborted 0) s
  ((s.bumpBy .NOC_ABORTED 0 l.length).giveUp f).raise 0x4202 2 f (l.length % 65536)

/-! ### The hold (R111, R220, R256, R489) -/

/-- Every word of a queue discarded without counting; a pending DRAIN completes with ABORTED (R256). -/
def State.wipeQueue (s : State) (q : Nat) : State := (s.closeQueue q).finish (.queueDrain q) stAborted []

/-- The floor's queues emptied, its ports and grader idle. -/
def State.wipeQueues (s : State) (f : Nat) : State :=
  let s := (List.range 512).foldl (fun s i => s.wipeQueue (512 * f + i)) s
  s.modFloor f fun x => { x with bsCredit := [], qiCount := [], grader := none }

/-- Slot loads of a tile that a fence overtakes end (R145) (open points: log 85). -/
def State.dropSlotLoads (s : State) (t : Nat) : State :=
  ((s.tile t).loading.foldl (fun s l => s.finish (.slotLoad t l.2.1) stDomainOff []) s).modTile t fun x => { x with loading := [] }

/-- Data slots of a tile end their activations cancelled (R220); its guards stop, and the tile runs nothing. -/
def State.endTile (s : State) (t : Nat) : State :=
  let s := (s.dropSlotLoads t).clearSwitch t
  let s := (List.range 8).foldl (fun s k =>
    if (s.slot t k).task.isSome then s.cancelSlot t k
    else if s.sstate t k = stActive ∨ s.sstate t k = stSuspended then s.setSstate t k stIdle
    else s) s
  let s := s.setReg .TIL_CTX t 0
  s.modTile t fun x => { x with lineBuf := none, fillWait := none, outst := [], icache := [], dcache := [] }

/-- The floor held for a load or a power-off. -/
def State.holdFloor (s : State) (f : Nat) : State :=
  (((floorTiles f).foldl State.endTile s).wipeQueues f |>.clearWires f).ownedLanesOff f

/-! ### Power (R315, R317) -/

/-- Registers of the floor's TIL, QUE, SCH and GRD blocks, which its supply keeps (R317). -/
def floorRegs : List Reg := [.QUE_CFG, .QUE_WM_HIGH, .QUE_WM_LOW, .QUE_STATUS, .QUE_WMEV, .QUE_ITEMS, .QUE_FLUSH_SKIP,
  .QUE_PAR_ERR, .QUE_FRAME_ERR, .QUE_DROP_WORDS, .QUE_CFG_REJ, .QUE_POOL_USED, .SCH_CFG, .SCH_STATUS, .SCH_DISPATCH,
  .SCH_PREEMPT, .SCH_ROAM_OUT, .SCH_ROAM_IN, .SCH_READY_LOST, .SCH_ACT_SAT, .SCH_CRED_HELD, .SCH_DLY_FULL, .SCH_SEQ_FULL,
  .SCH_DESC_REJ, .SCH_FLOW, .GRD_JOB, .GRD_STATUS, .GRD_DONE, .GRD_LAST_BEATS]

def tileRegs : List Reg := [.TIL_CTX, .TIL_GCFG, .TIL_GEN, .TIL_GCAUSE, .TIL_GOVR, .TIL_SLOT, .TIL_LEES, .TIL_FAULT,
  .TIL_SWITCHES, .TIL_GENTRIES, .TIL_FPX, .TIL_SLN, .TIL_XSTALL, .TIL_RAISE, .TIL_ICMISS, .TIL_DCMISS, .TIL_LUT, .TIL_K0,
  .TIL_K1, .TIL_KPAIR, .TIL_WIN, .TIL_ECC_CE, .TIL_ECC_UE, .TIL_ECC_LASTUE]

/-- Addresses of the elements of register `r` in share `i` of `n` equal shares. -/
def shareAddrs (r : Reg) (i n : Nat) : List Nat :=
  let c := r.count / n
  (List.range c).map fun j => r.addr (i * c + j)

/-- The registers of the floor and its tiles at their Reset values, TIL_REMAP kept (R278) (open points: log 49). -/
def State.resetFloorRegs (s : State) (f : Nat) : State :=
  let gone := floorRegs.flatMap (fun r => shareAddrs r f 32) ++
    (floorTiles f).flatMap fun t => tileRegs.flatMap fun r => shareAddrs r t 512
  { s with regs := s.regs.filter fun p => !gone.contains p.1 }

/-- The configuration frame bytes of the floor and its tiles gone (open points: log 49). -/
def State.wipeFrames (s : State) (f : Nat) : State :=
  { s with cfs := s.cfs.filter fun p =>
      !(decide (0x0300000000 + f * 0x100000 ≤ p.1 ∧ p.1 < 0x0300000000 + (f + 1) * 0x100000) ||
        decide (0x0302000000 + f * 0x10000 ≤ p.1 ∧ p.1 < 0x0302000000 + (f + 1) * 0x10000)) }

/-- Memory initialisation of a floor: tile stores with their spare pages, queue memory, task table (R271, R317, R476)
(open points: log 49). -/
def State.initFloorMem (s : State) (f : Nat) : State :=
  { s with
    store := s.store.filter fun p => p.1 / (132 * 4096 * 16) ≠ f
    written := s.written.filter fun p => p.1 / (132 * 64 * 16) ≠ f
    sharers := s.sharers.filter fun p => p.1 / (8192 * 16) ≠ f
    pool := s.pool.filter fun p => p.1 / 262144 ≠ f
    tasks := s.tasks.filter fun p => p.1 / 1024 ≠ f
    moved := s.moved.filter fun p => p.1 / 128 ≠ f }

def cfgDigest : Fld := ⟨.CFG_FLOOR, 47, 0⟩

/-- The floor holds no image (R484): NONE, no digest. -/
def State.noImage (s : State) (f : Nat) : State :=
  { (s.setFld ⟨.CFG_FLOOR, 63, 60⟩ f 0).setFld cfgDigest f 0 with
    cfg := { s.cfg with floors := tput 0 s.cfg.floors f 0 } }

/-- The supply of a held floor goes off: what its supply kept is gone; its fence goes on (R314, R315) (open points: log 49). -/
def State.powerOff (s : State) (f : Nat) : State :=
  let raised := (s.floor f).fenceRaised
  let s := ((s.holdFloor f).resetFloorRegs f).wipeFrames f
  let s := { s with
    slots := s.slots.filter fun p => p.1 / 128 ≠ f, tiles := s.tiles.filter fun p => p.1 / 16 ≠ f
    floors := s.floors.filter fun p => p.1 ≠ f, gravs := s.gravs.filter fun p => p.1 ≠ f
    turns := s.turns.filter fun p => p.1 / 16 ≠ f }
  let s := s.modFloor f fun x => { x with fenceRaised := raised }
  ((s.noImage f).setFld grvVnow f 0).setFld nocState f 3

end Sys2Proof.Machine
end

