-- ==== Sys2Proof/Machine/AdaptOps.lean ====
section
/-! DEFINITION. Gravity's targets and trims, kiln's sequence, thermal supervision, and the parts of a turning move (chapter
"Gravity, kiln and floor turning"). Beat times are in ps, power in 0.1 W. -/

namespace Sys2Proof.Machine

open Sys2Proof

def grvEn : Fld := ⟨.GRV_CTL, 31, 31⟩
def grvHead : Fld := ⟨.GRV_CTL, 15, 8⟩
def grvHyst : Fld := ⟨.GRV_CTL, 7, 0⟩
def grvCap : Fld := ⟨.GRV_PCAP, 15, 0⟩
def grvTcrit : Fld := ⟨.GRV_THERM, 23, 16⟩
def grvTherm : Fld := ⟨.GRV_THERM, 15, 8⟩
def grvMan : Fld := ⟨.GRV_FLOOR, 63, 63⟩
def grvVset : Fld := ⟨.GRV_FLOOR, 55, 50⟩
def grvPrio : Fld := ⟨.GRV_FLOOR, 47, 44⟩
def grvTbmax : Fld := ⟨.GRV_FLOOR, 31, 16⟩
def grvRsv : Fld := ⟨.GRV_FLOOR, 15, 0⟩
def grvTemp : Fld := ⟨.GRV_FSTAT, 47, 40⟩
def grvNotgt : Fld := ⟨.GRV_FSTAT, 39, 39⟩
def grvCapl : Fld := ⟨.GRV_FSTAT, 38, 38⟩
def grvMiss : Fld := ⟨.GRV_FSTAT, 37, 37⟩
def grvTbtgt : Fld := ⟨.GRV_FSTAT, 31, 16⟩
def grvTbmeas : Fld := ⟨.GRV_FSTAT, 15, 0⟩
def klnLive : Fld := ⟨.KLN_CTL, 31, 31⟩
def klnSden : Fld := ⟨.KLN_CTL, 30, 30⟩
def klnSeren : Fld := ⟨.KLN_CTL, 29, 29⟩
def klnTstep : Fld := ⟨.KLN_CTL, 7, 0⟩
def klnNear : Fld := ⟨.KLN_FLOOR, 47, 32⟩
def trnEn : Fld := ⟨.TRN_CTL, 31, 31⟩
def trnThen : Fld := ⟨.TRN_CTL, 30, 30⟩
def trnFten : Fld := ⟨.TRN_CTL, 29, 29⟩
def trnTturn : Fld := ⟨.TRN_CTL, 15, 8⟩
def trnTback : Fld := ⟨.TRN_CTL, 7, 0⟩

/-- A temperature or power field is stored saturated at 16 bits. -/
def sat16 (n : Nat) : Nat := min n 0xFFFF

/-! ### Targets (R411) -/

/-- Tasks that run an activation on floor `f`. -/
def State.runsOn (s : State) (f k : Nat) : Bool := (s.slotsOf k).any fun p => p.1 / 16 == f

/-- Batch `b` is placed on floor `f`. -/
def State.placed (s : State) (f b : Nat) : Bool :=
  s.flag ⟨.TMB_BCTL, 31, 31⟩ b && s.reg .TMB_BCP b != 0 &&
    (s.tasks.map (·.1)).any fun k => s.tf tkTstep k == 1 && s.tf tkBatch k == b && (homeFloor k == f || s.runsOn f k)

/-- tb of batch `b` on floor `f` in ps (R411). -/
def State.batchTarget (s : State) (f b : Nat) : Nat :=
  (s.reg .TMB_BDL b - s.fld grvRsv f) * 1000 * (256 - s.fld grvHead 0) /
    ((s.reg .TMB_BCP b + tget 0 (s.grav f).addb b) * 256)

/-- TBTGT of floor `f`; none when the floor has no target. -/
def State.target (s : State) (f : Nat) : Option Nat :=
  let l := ((List.range 256).filter (s.placed f)).map (s.batchTarget f)
  let l := if s.fld grvTbmax f = 0 then l else s.fld grvTbmax f :: l
  match l with
  | [] => none
  | x :: xs => some (xs.foldl min x)

/-! ### Kiln and steps down (R415 to R421) -/

/-- The floor is held at code 50 for a channel without margin (R419). -/
def State.heldAt50 (s : State) (f : Nat) : Bool := s.fld klnMloss f != 0 || (s.grav f).hubLost

/-- Gravity may change the floor's code downward now (R415, R417, R421) (open points: log 68). -/
def State.mayLower (s : State) (f : Nat) : Bool :=
  s.flag klnLive 0 && (s.grav f).move.isNone &&
    (match (s.grav f).phase with
     | .idle | .ready => true
     | _ => false)

/-- Code `c`, whose margin was not met, is not to be tried again yet (R417 step 3). -/
def State.backedOff (s : State) (f c : Nat) : Bool :=
  (s.grav f).backoff.any fun b => b.1 == c && decide (s.tim.clk < b.2.1)

/-- A floor whose temperature has fallen by TSTEP since then may try it again (R417 step 3). -/
def State.cooled (s : State) (f : Nat) : State :=
  if (s.grav f).backoff.any fun b => decide (s.floorTemp f + s.fld klnTstep 0 ≤ b.2.2) then
    s.modGrav f fun x => { x with backoff := none }
  else s

/-- The lowering condition holds: one code down when it is confirmed, else kiln is asked to confirm it (R416, R417). -/
def State.lower (s : State) (f : Nat) : State :=
  let c := s.code f
  if !s.mayLower f ∨ c = 0 then s
  else if s.clo f < c then
    let w := (s.grav f).phase == .ready
    (s.setCode f (c - 1)).modGrav f fun x => { x with phase := if w then .watch else .idle }
  else if s.backedOff f (c - 1) then s
  else s.modGrav f fun x => { x with phase := .asked (c - 1) }

/-- Lowering no longer applies: a confirmed code is not ordered (R417 step 6). -/
def State.noLower (s : State) (f : Nat) : State :=
  if (s.grav f).phase = .ready then s.modGrav f fun x => { x with phase := .idle } else s

/-- MAN = 1: toward VSET, never below CLO, at the slew of two codes a trim; no raise under the cap (R412 to R414)
(open points: log 68). -/
def State.manual (s : State) (f : Nat) (capped : Bool) : State :=
  let v := max (min 50 (s.fld grvVset f)) (s.clo f)
  let c := s.code f
  if c < v then (if capped then s else s.setCode f (min v (c + 2)))
  else if v < c ∧ s.mayLower f then s.setCode f (max v (c - 2))
  else s

/-- Rows 3 to 6 of R412: `capped` forbids a raise (R414) (open points: log 68). -/
def State.trimRow (s : State) (f meas : Nat) (tgt : Option Nat) (capped : Bool) : State :=
  match tgt with
  | none => s.lower f
  | some t =>
    if t < meas then (if capped then s.noLower f else (s.noLower f).setCode f (s.code f + 2))
    else if meas * 256 < t * (256 - s.fld grvHyst 0) then s.lower f
    else s.noLower f

/-- The results of a trim shown in GRV_FSTAT: `c` is the code at which the floor was measured (R411, R431)
(open points: log 68). -/
def State.showTrim (s : State) (f c meas : Nat) (tgt : Option Nat) : State :=
  let miss := tgt.any fun t => t == 0 || (c == 50 && decide (t < meas))
  (((s.setFld grvNotgt f (b2n tgt.isNone)).setFld grvMiss f (b2n miss)).setFld grvTbtgt f (sat16 (tgt.getD 0))).setFld
    grvTbmeas f (sat16 meas)

/-- The episode of a floor held above its target by the cap (R414). -/
def State.capEpisode (s : State) (f : Nat) (held : Bool) : State :=
  let x := s.grav f
  if !held then (s.setGrav f { x with capSince := none, capRaised := false }).setFld grvCapl f 0
  else match x.capSince with
    | none => s.setGrav f { x with capSince := some s.tim.clk }
    | some t =>
      if t + 100000 < s.tim.clk ∧ !x.capRaised then
        ((s.setGrav f { x with capRaised := true }).setFld grvCapl f 1).raise 0x8101 2 f 0
      else s

/-- Floors that the cap rule may lower: trimmed, above CLO, free to step down (R412, R414). -/
def State.capCands (s : State) : List Nat :=
  (List.range 32).filter fun f =>
    s.floorOpen f && s.flag grvEn 0 && !s.flag grvMan f && decide (s.clo f < s.code f) && s.mayLower f && !s.heldAt50 f

/-- Floor `f` is lowered before floor `g`: more slack, then higher PRIO, then higher number (R414). -/
def State.capBefore (s : State) (tb : List Nat) (f g : Nat) : Bool :=
  let key := fun f => (s.target f, tb.getD f 0)
  let slack : Ordering := match key f, key g with
    | (none, _), (none, _) => .eq
    | (none, _), (some _, _) => .gt
    | (some _, _), (none, _) => .lt
    | (some a, m), (some b, n) => compare (a * n) (b * m)
  slack == .gt || (slack == .eq && (decide (s.fld grvPrio g < s.fld grvPrio f) ||
    (s.fld grvPrio f == s.fld grvPrio g && decide (g < f))))

/-- The floor that the cap rule lowers. -/
def State.capChoice (s : State) (tb : List Nat) : Option Nat :=
  s.capCands.foldl (fun b f => match b with
    | none => some f
    | some g => if s.capBefore tb f g then some f else some g) none

/-- The critical state takes the floor to its CLO, but for a downward change that R415 or R421 forbids (R423)
(open points: log 69). -/
def State.critFloor (s : State) (f : Nat) : State :=
  if s.clo f < s.code f ∧ (!s.flag klnLive 0 ∨ (s.grav f).move.isSome) then s else s.setCode f (s.clo f)

/-- The cap holds the floor at its code: the trim loop would raise it (R412, R414). -/
def State.capHolds (s : State) (f meas : Nat) (tgt : Option Nat) : Bool :=
  s.flag grvEn 0 && !s.flag grvMan f && !s.heldAt50 f && !s.sup.crit && decide (s.code f < 50) &&
    tgt.any fun t => decide (t < meas)

/-- One floor at a trim (R410, R412, R423) (open points: log 68). -/
def State.trimFloor (s : State) (tb : List Nat) (capped : Bool) (low : Option Nat) (f : Nat) : State :=
  let meas := tb.getD f 0
  let tgt := s.target f
  if !s.floorOpen f then s
  else
    let c := s.code f
    let held := capped && s.capHolds f meas tgt
    let s := if s.heldAt50 f then s.setCode f 50
      else if s.sup.crit then s.critFloor f
      else if s.flag grvMan f then s.manual f capped
      else if !s.flag grvEn 0 then s
      else if low = some f then s.lower f
      else s.trimRow f meas tgt capped
    (s.capEpisode f held).showTrim f c meas tgt

/-- The cap exceeded for 1 ms with every floor at its CLO: 0x8102, and again after every further 1 ms (R414, R548). -/
def State.capExceeded (s : State) (pest : Nat) : State :=
  let low := (List.range 32).all fun f => !s.floorOpen f || s.code f == s.clo f
  if s.fld grvCap 0 * 11 < pest * 10 ∧ low then
    match s.sup.overAt with
    | none => { s with sup := { s.sup with overAt := some s.tim.clk } }
    | some t =>
      if t + 1000000 ≤ s.tim.clk then State.raise { s with sup := { s.sup with overAt := some s.tim.clk } } 0x8102 0 0 0
      else s
  else { s with sup := { s.sup with overAt := none } }

/-! ### Supervision (R423) -/

/-- Junction sensors of the package. -/
def sensors : List Nat := List.range 547

/-- THERM_N after a reading. -/
def State.thermPin (s : State) : State :=
  let lim : Int := s.fld grvTherm 0
  if !s.sup.thermN ∧ sensors.any (fun n => decide (lim ≤ s.temp n)) then
    State.raise { s with sup := { s.sup with thermN := true } } 0x8401 0 0 0
  else if s.sup.thermN ∧ sensors.all (fun n => decide (s.temp n ≤ lim - 5)) then { s with sup := { s.sup with thermN := false } }
  else s

/-- The critical state after a reading: every floor at its CLO, DEV_FAULT.TCRIT (R423, R547). -/
def State.critState (s : State) : State :=
  let lim : Int := s.fld grvTcrit 0
  if !s.sup.crit ∧ sensors.any (fun n => decide (lim ≤ s.temp n)) then
    let s := State.raise { s with sup := { s.sup with crit := true } } 0x8402 0 0 0
    let s := (s.setReg .DEV_FAULT 0 (s.reg .DEV_FAULT 0 ||| 4)).faultEdge s
    (List.range 32).foldl (fun s f => if s.floorOpen f then s.critFloor f else s) s
  else if s.sup.crit ∧ sensors.all (fun n => decide (s.temp n ≤ lim - 10)) then
    { s.setReg .DEV_FAULT 0 (putBits (s.reg .DEV_FAULT 0) 2 2 0) with sup := { s.sup with crit := false } }
  else s

/-- CLO raised to the present code when the floor has warmed by TSTEP since CLO was confirmed; a downward step under way starts
over, and the temperature of the raise is the one that counts from then on (R418) (open points: log 68). -/
def State.warmed (s : State) (f : Nat) : State :=
  if (s.grav f).conf + s.fld klnTstep 0 ≤ s.floorTemp f ∧ s.fld nocState f < 3 then
    let w := (s.grav f).phase == .watch
    ((s.setClo f (max (s.clo f) (s.code f))).modGrav f fun x => { x with
      conf := s.floorTemp f, phase := if w then .watch else .idle }).rehold f
  else s

/-! ### Turning (R424 to R430) -/

def State.turn (s : State) (t : Nat) : TurnSt := tget .init s.turns t
def State.setTurn (s : State) (t : Nat) (x : TurnSt) : State := { s with turns := tput .init s.turns t x }
def State.modTurn (s : State) (t : Nat) (g : TurnSt → TurnSt) : State := s.setTurn t (g (s.turn t))

def State.setTstate (s : State) (t v : Nat) : State :=
  s.setReg .TRN_FLOOR (t / 16) (putBits (s.reg .TRN_FLOOR (t / 16)) (2 * (t % 16) + 1) (2 * (t % 16)) v)

/-- Data slots of a tile that are not EMPTY, ascending. -/
def State.dataSlots (s : State) (t : Nat) : List Nat :=
  (List.range 8).filter fun k => s.sstate t k != stEmpty && (s.guardOf t k).isNone

/-- The lowest SPARE tile of the floor that no evacuation is bound to (R426). -/
def State.freeSpareTile (s : State) (f : Nat) : Option Nat :=
  (floorTiles f).find? fun t => s.tstate t == 1 &&
    !((floorTiles f).any fun u => (s.turn u).evac.any fun e => e.spare == t)

/-- The turn patch of slot `k` of tile `t` (R102, R113) (open points: log 30). -/
def State.turnPatch (s : State) (t k : Nat) : Option Config.TurnPatch :=
  Config.turnPatch ((List.range 0x7000).map fun i => tget 0#8 s.cfs (floorFrame (t / 16) + 0x1000 + i)) (t % 16) k

/-- An evacuated tile: RETIRED after a fault, SPARE again once it has cooled below TBACK, when no data slot is left
(R424, R426). -/
def State.settleTile (s : State) (t : Nat) : State :=
  match (s.turn t).evac with
  | none => s
  | some e =>
    if s.dataSlots t ≠ [] ∨ e.left ≠ [] ∨ s.tstate t ≠ 2 then s
    else if e.cause = 1 then ((s.setTstate t 3).idleTile t).modTurn t fun x => { x with evac := none }
    else if s.temp t < s.fld trnTback 0 then (s.setTstate t 1).modTurn t fun x => { x with evac := none }
    else s

/-- An evacuation started or merged into the one in progress (R426): `slots` are those to move. -/
def State.evacuate (s : State) (t cause : Nat) (slots : List Nat) : State :=
  match (s.turn t).evac with
  | some e =>
    s.modTurn t fun x => { x with evac := some { e with
      cause := if cause = 1 then 1 else e.cause, left := (List.range 8).filter fun k => e.left.contains k || slots.contains k } }
  | none => match s.freeSpareTile (t / 16) with
    | none => (s.raise 0x8303 2 (t / 16) 0).modTurn t fun x => { x with
        retry := if cause = 2 then x.retry else some (cause, s.tim.clk) }
    | some b =>
      let s := (s.setTstate t 2).modTurn t fun x => { x with
        retry := none
        evac := some { spare := b, cause := cause, since := s.tim.clk, left := slots, defd := [], late := [] } }
      s.settleTile t

/-- The payload of a move in words (R427) (open points: log 30). -/
def State.moveWords (s : State) (t k : Nat) (p : Config.TurnPatch) : Nat :=
  (1760 + 64 * s.fld leesSpilled (8 * t + k) + (p.live.map (·.2)).sum) / 4

/-- A routing stage of the tile holds a token of the slot bound onward, or a cell has an operand set of it in progress. -/
def State.slotInFlight (s : State) (t k : Nat) : Bool :=
  ((List.range 16).any fun c => (s.cell t k c).ops != []) ||
    s.stages.any fun p => p.1 < 2 ^ 21 && p.1 / 4096 == t && p.1 / 32 % 8 == k && decide (2 ≤ p.1 % 32) && p.2.isSome

/-- Requests of the slot outstanding, its bytes in the line buffer, or a switch on its way to it (log 32). -/
def State.slotWaiting (s : State) (t k : Nat) : Bool :=
  (s.tile t).outst.any (·.slot == k) || (s.tile t).lineBuf.any (·.slot == k) || (s.tile t).switchReq.any (·.slot == k)

/-- Every listed batch leaves the time of the move (R427) (open points: log 30). -/
def State.moveFits (s : State) (t k w : Nat) (p : Config.TurnPatch) : Bool :=
  p.batches.all fun b => !s.flag ⟨.TMB_BCTL, 31, 31⟩ b.1 ||
    ((match (s.slot t k).task with
      | some n => !(s.tf tkTstep n == 1 && s.tf tkBatch n == b.1)
      | none => true) &&
     decide (s.tim.now * 10000 + (16 + w) * s.fld grvTbmeas (t / 16) * 11 + s.reg .TRN_MARGIN 0 * 10000 ≤
       s.reg .TMB_BNEXT b.1 * 10000))

/-- What becomes of the next move of a tile: it starts with `w` words, is deferred, is not moved for want of a patch, or for
want of an EMPTY slot in the spare (R427). -/
inductive MoveFate where
  | start (w : Nat) | defer | noPatch | noSlot
  deriving DecidableEq, Repr

def State.moveFate (s : State) (t k b : Nat) : MoveFate :=
  let st := s.sstate t k
  match s.turnPatch t k with
  | none => .noPatch
  | some p =>
    let w := s.moveWords t k p
    if s.sstate b k ≠ stEmpty ∨ (s.guardOf b k).isSome then .noSlot
    else if (st == stIdle || st == stSuspended || st == stFaulted) && decide (w ≤ 1008) && !s.slotInFlight t k &&
        !s.slotWaiting t k && s.moveFits t k w p && s.floorOpen (t / 16) && s.fld ⟨.CFG_FLOOR, 63, 60⟩ (t / 16) != 3 &&
        (s.grav (t / 16)).move.isNone && s.flag trnEn 0 then .start w
    else .defer

/-- A slot leaves the list of an evacuation. -/
def State.dropTurn (s : State) (t k : Nat) : State :=
  s.modTurn t fun x => { x with evac := x.evac.map fun e => { e with left := e.left.filter (· ≠ k) } }

/-- TURN_MOVEs of the tile whose slots are all committed reply (R434). -/
def State.turnReplies (s : State) (t : Nat) : State :=
  let left := ((s.turn t).evac.map (·.left)).getD []
  s.finishWhere (fun w => match w with
    | .turnMove u m => u == t && !(left.any fun k => m == 0 || bit m k)
    | _ => false) stOk

/-! The copy (R428, R429). -/

/-- Bytes of the store copied to the same addresses of the spare: uncorrectable bytes poisoned, whole fresh lines fresh. -/
def State.copyStore (s : State) (a b off n : Nat) : State :=
  (List.range n).foldl (fun s i =>
    let src := s.phys a (off + i)
    let dst := s.phys b (off + i)
    let line := (off + i) / 64 * 64
    if s.fresh src ∧ off ≤ line ∧ line + 64 ≤ off + n then { s with written := tput false s.written (dst / 64) false }
    else s.pokePhys dst (if s.fresh src then 0#13 else copyByte (tget 0#13 s.store src))) s

/-- One element of a register of tile `a` carried to tile `b` and reset at `a`; `n` elements a slot. -/
def State.carryReg (s : State) (r : Reg) (a b k n : Nat) : State :=
  let per := r.count / 512
  (List.range n).foldl (fun s j =>
    let i := a * per + k * n + j
    (s.setReg r (b * per + k * n + j) (s.reg r i)).setReg r i (r.resetVal i)) s

/-- The slot's TIL registers. -/
def State.carryRegs (s : State) (a b k : Nat) : State :=
  let s := s.carryReg .TIL_SLOT a b k 1
  let s := s.carryReg .TIL_LEES a b k 1
  let s := s.carryReg .TIL_FAULT a b k 1
  let s := s.carryReg .TIL_FPX a b k 1
  let s := s.carryReg .TIL_SLN a b k 1
  let s := s.carryReg .TIL_LUT a b k 8
  let s := s.carryReg .TIL_K0 a b k 16
  let s := s.carryReg .TIL_K1 a b k 16
  s.carryReg .TIL_WIN a b k 4

/-- A reader of slot `k` of tile `a`, as it stands in tile `b`. -/
def movedReader (a b k : Nat) (r : Reader) : Reader :=
  let at_ := fun (w : Wire) => match w with
    | .loc _ c d tr => Wire.loc (tN b) c d tr
    | .seg _ c v => .seg (tN b) c v
    | .pred _ c d => .pred (tN b) c d
    | w => w
  match r with
  | .wire w k' => if wireTile w = some a ∧ k' = k then .wire (at_ w) k' else r
  | .port t c k' p => if t = a ∧ k' = k then .port b c k' p else r
  | r => r

/-- Cell latches, histories, held outputs and configuration records of the slot; forks remember the slot's readers that have
taken their token. -/
def State.carryCells (s : State) (a b k : Nat) : State :=
  let cellK := fun (n : Nat) => if n / 128 = a ∧ n / 16 % 8 = k then 128 * b + n % 128 else n
  let stageK := fun (n : Nat) => if n < 2 ^ 21 ∧ n / 4096 = a ∧ n / 32 % 8 = k then 4096 * b + n % 4096 else n
  let held := fun (h : Option Held) => h.map fun h => { h with served := h.served.map (movedReader a b k) }
  let fa := tileFrame a + k * 0x800
  let fb := tileFrame b + k * 0x800
  { s with
    cells := (s.cells.filter fun p => cellK p.1 ≠ p.1).foldl (fun m p => tput .init m (cellK p.1) p.2)
      (s.cells.filter fun p => cellK p.1 = p.1)
    stages := (s.stages.filter fun p => stageK p.1 ≠ p.1).foldl (fun m p => tput none m (stageK p.1) (held p.2))
      ((s.stages.filter fun p => stageK p.1 = p.1).map fun p => (p.1, held p.2))
    cfs := (List.range 0x220).foldl (fun m i => tput 0#8 m (fb + i) (tget 0#8 m (fa + i))) s.cfs }

/-- Queue locks and the producers of stored words pass to the spare (R233, R429). -/
def State.carryAgents (s : State) (a b k : Nat) : State :=
  let g := fun (x : Agent) => if x = .slot a k then Agent.slot b k else x
  let ent := fun (e : Ent) => { e with prod := g e.prod }
  { s with queues := s.queues.map fun p => (p.1, { p.2 with
      bank0 := p.2.bank0.map ent, bank1 := p.2.bank1.map ent, rel := p.2.rel.map ent, late := p.2.late.map ent
      staged := p.2.staged.map fun x => (x.1, ent x.2)
      ilock := p.2.ilock.map g, olock := p.2.olock.map g, skips := p.2.skips.map g }) }

/-- The scheduler's records re-pointed to the spare (R201). -/
def State.carryRecords (s : State) (a b k img : Nat) : State :=
  let s := s.modFloor (a / 16) fun x => { x with
    ready := x.ready.map fun e => if e.2 = .resume a k then (e.1, .resume b k) else e
    delay := x.delay.map fun e => if e.2 = .slot a k then (e.1, .slot b k) else e
    dlyWait := x.dlyWait.map fun e => if e.1 = .slot a k then (.slot b k, e.2) else e }
  (s.tasks.map (·.1)).foldl (fun s n =>
    if s.tf tkLtv n = 1 ∧ s.tf tkLfloor n = a / 16 ∧ s.tf tkLtile n = a % 16 ∧ s.tf tkImg n = img then
      s.setTf tkLtile n (b % 16)
    else s) s

/-- The guard enables of the source tile, at the first commit into a spare (R425). -/
def State.firstCommit (s : State) (a b : Nat) : State :=
  if s.tstate b = 1 then
    ((s.setReg .TIL_GEN (2 * b) (s.reg .TIL_GEN (2 * a))).setReg .TIL_GEN (2 * b + 1) (s.reg .TIL_GEN (2 * a + 1))).setTstate b 0
  else s

/-- TRN_LAST (R433). -/
def lastWord (cause k a b addb w : Nat) : Nat :=
  2 ^ 63 + cause * 2 ^ 60 + k * 2 ^ 57 + a % 16 * 2 ^ 53 + b % 16 * 2 ^ 49 + addb % 16 * 2 ^ 32 + (16 + w) % 65536 * 2 ^ 16 +
    w % 65536

/-- The payload carried over and the wires redirected. -/
def State.carrySlot (s : State) (m : Move) (p : Config.TurnPatch) : State :=
  let (a, b, k) := (m.tile, m.spare, m.slot)
  let img := s.fld slotImg (8 * a + k)
  let base := s.fld leesBase (8 * a + k) * 64
  let s := s.copyStore a b base (64 * s.fld leesSpilled (8 * a + k))
  let s := p.live.foldl (fun s r => s.copyStore a b r.1 r.2) s
  let l := s.logi a k
  let s := (((s.carryCells a b k).carryRegs a b k).carryAgents a b k).carryRecords a b k img
  let s := (s.setSlot b k { s.slot a k with moving := false }).setSlot a k .init
  State.settleForks { s with moved := tput 0 s.moved (8 * l + k) (if l = b then 0 else b + 1) }

/-- A cancel that came during the move acts at the commit (R178, R430). -/
def State.cancelMoved (s : State) (b k : Nat) : State :=
  if (s.slot b k).flags.getLsbD 7 ∧ (s.slot b k).task.isSome then s.tellCancel (b, k) else s

/-- The move committed (R429) (open points: log 70). -/
def State.commitMove (s : State) (m : Move) (p : Config.TurnPatch) : State :=
  let f := m.tile / 16
  let cause := ((s.turn m.tile).evac.map (·.cause)).getD 2
  let s := (s.firstCommit m.tile m.spare).carrySlot m p
  let s := (s.modGrav f fun x => { x with
    move := none, addb := p.batches.foldl (fun t b => tput 0 t b.1 (tget 0 t b.1 + b.2)) x.addb }).setFld grvMove f 0
  let s := (s.setReg .TRN_LAST f (lastWord cause m.slot m.tile m.spare p.addb m.words)).bump .TRN_MOVES 0
  let s := (s.raise 0x8301 1 (locTile m.tile m.slot 0xFF) 0).dropTurn m.tile m.slot
  ((s.settleTile m.tile).turnReplies m.tile).cancelMoved m.spare m.slot

end Sys2Proof.Machine
end

