-- ==== Sys2Proof/Machine/Flags.lean ====
section
/-! DEFINITION. Binary floating point with the exception flags of R61, exact on dyadic numbers and rounded once (R57, R58),
and the rounding of fixed point (R56). -/

namespace Sys2Proof.Machine

open Sys2Proof

/-- Exception flags as in TIL_FPX (R61). -/
def fIV : Nat := 1
def fOF : Nat := 2
def fUF : Nat := 4
def fNX : Nat := 8
def fDZ : Nat := 16

/-- A binary interchange format: exponent bits and fraction bits. -/
structure Fmt where
  eb : Nat
  mb : Nat
  deriving DecidableEq, Repr

def f32 : Fmt := ⟨8, 23⟩
def f64 : Fmt := ⟨11, 52⟩

/-- The number a bit pattern stands for: NaN (signalling or not), infinity, or sign, magnitude and binary exponent. -/
inductive FVal where
  | nan (sig : Bool)
  | inf (neg : Bool)
  | fin (neg : Bool) (m : Nat) (e : Int)
  deriving DecidableEq, Repr

def Fmt.bias (f : Fmt) : Nat := 2 ^ (f.eb - 1) - 1
def Fmt.infBits (f : Fmt) : Nat := (2 ^ f.eb - 1) * 2 ^ f.mb
def Fmt.signBit (f : Fmt) : Nat := 2 ^ (f.eb + f.mb)
/-- The canonical quiet NaN (R59). -/
def Fmt.qnan (f : Fmt) : Nat := f.infBits + 2 ^ (f.mb - 1)

def Fmt.unpack (f : Fmt) (n : Nat) : FVal :=
  let neg := n / f.signBit % 2 = 1
  let mag := n % f.signBit
  if f.infBits < mag then .nan (mag / 2 ^ (f.mb - 1) % 2 = 0)
  else if mag = f.infBits then .inf neg
  else if mag < 2 ^ f.mb then .fin neg mag (1 - (f.bias : Int) - f.mb)
  else .fin neg (mag % 2 ^ f.mb + 2 ^ f.mb) ((mag / 2 ^ f.mb : Nat) - (f.bias : Int) - f.mb)

/-- A bit pattern and the flags raised in making it. -/
structure FRes where
  v : Nat
  fl : Nat
  deriving DecidableEq, Repr

/-- The magnitude `m` shifted right by `sh` bits, rounded to nearest even, or toward zero when `rz`. -/
def roundShift (m sh : Nat) (rz : Bool) : Nat :=
  let q := m / 2 ^ sh
  let r := m % 2 ^ sh
  if rz ∨ sh = 0 then q
  else if 2 ^ sh < 2 * r ∨ (2 ^ sh = 2 * r ∧ q % 2 = 1) then q + 1 else q

/-- A dyadic number rounded once to a format (R57): overflow to infinity or the greatest finite number, tininess detected
after rounding, UF only when tiny and inexact. -/
def Fmt.round (f : Fmt) (rz neg : Bool) (m : Nat) (e : Int) : FRes :=
  let sg := if neg then f.signBit else 0
  if m = 0 then ⟨sg, 0⟩
  else
    let ex : Int := (Nat.log2 m : Int) + e
    let emin : Int := 1 - f.bias
    let q : Int := max ex emin - f.mb
    let sig := if q ≤ e then m * 2 ^ (e - q).toNat else roundShift m (q - e).toNat rz
    let inexact := decide (e < q) && decide (m % 2 ^ (q - e).toNat ≠ 0)
    let mag := (max ex emin + f.bias - 1).toNat * 2 ^ f.mb + sig
    let q' : Int := ex - f.mb
    let unb := if q' ≤ e then 0 else roundShift m (q' - e).toNat rz
    let tiny := decide (ex < emin) && !(decide (ex = emin - 1) && decide (unb = 2 ^ (f.mb + 1)))
    if f.infBits ≤ mag then ⟨sg + (if rz then f.infBits - 1 else f.infBits), fOF + fNX⟩
    else ⟨sg + mag, (if inexact then fNX else 0) + (if inexact ∧ tiny then fUF else 0)⟩

/-- A dyadic number as an integer over a common power of two. -/
def dyInt (neg : Bool) (m : Nat) (e e0 : Int) : Int :=
  let v : Int := (m * 2 ^ (e - e0).toNat : Nat)
  if neg then -v else v

/-- The exact sum of two dyadic numbers, rounded once; an exact zero is +0 unless both are −0. -/
def Fmt.addDy (f : Fmt) (rz : Bool) (na : Bool) (ma : Nat) (ea : Int) (nb : Bool) (mb : Nat) (eb : Int) : FRes :=
  let e0 := min ea eb
  let v := dyInt na ma ea e0 + dyInt nb mb eb e0
  if v = 0 then ⟨if na ∧ nb then f.signBit else 0, 0⟩
  else f.round rz (decide (v < 0)) v.natAbs e0

def FVal.isNan : FVal → Bool
  | .nan _ => true
  | _ => false
def FVal.isSig : FVal → Bool
  | .nan s => s
  | _ => false

def Fmt.neg (f : Fmt) (n : Nat) : Nat := if n / f.signBit % 2 = 1 then n - f.signBit else n + f.signBit
def Fmt.abs (f : Fmt) (n : Nat) : Nat := n % f.signBit

/-- A + B (R57). -/
def Fmt.add (f : Fmt) (rz : Bool) (a b : Nat) : FRes :=
  match f.unpack a, f.unpack b with
  | .nan s, y => ⟨f.qnan, if s || y.isSig then fIV else 0⟩
  | _, .nan s => ⟨f.qnan, if s then fIV else 0⟩
  | .inf x, .inf y => if x = y then ⟨a, 0⟩ else ⟨f.qnan, fIV⟩
  | .inf _, .fin _ _ _ => ⟨a, 0⟩
  | .fin _ _ _, .inf _ => ⟨b, 0⟩
  | .fin na ma ea, .fin nb mb eb => f.addDy rz na ma ea nb mb eb

/-- A × B + C rounded once (R57); `negP` negates the product (open points: log 10). -/
def Fmt.fma (f : Fmt) (rz negP : Bool) (a b c : Nat) : FRes :=
  let x := f.unpack a
  let y := f.unpack b
  let z := f.unpack c
  let anySig := x.isSig || y.isSig || z.isSig
  let prod : Option FVal := match x, y with
    | .nan _, _ => none
    | _, .nan _ => none
    | .inf n, .inf m => some (.inf (n ^^ m ^^ negP))
    | .inf n, .fin m v _ => if v = 0 then some (.nan true) else some (.inf (n ^^ m ^^ negP))
    | .fin m v _, .inf n => if v = 0 then some (.nan true) else some (.inf (n ^^ m ^^ negP))
    | .fin n v e, .fin m w d => some (.fin (n ^^ m ^^ negP) (v * w) (e + d))
  match prod, z with
  | none, _ => ⟨f.qnan, if anySig then fIV else 0⟩
  | some (.nan _), .nan s => ⟨f.qnan, if s || Config.fmaZeroInfQuiet then fIV else 0⟩
  | some (.nan _), _ => ⟨f.qnan, fIV⟩
  | some _, .nan s => ⟨f.qnan, if s then fIV else 0⟩
  | some (.inf n), .inf m => if n = m then ⟨c, 0⟩ else ⟨f.qnan, fIV⟩
  | some (.inf n), .fin _ _ _ => ⟨(if n then f.signBit else 0) + f.infBits, 0⟩
  | some (.fin _ _ _), .inf _ => ⟨c, 0⟩
  | some (.fin n v e), .fin m w d => f.addDy rz n v e m w d

/-- A × B (R57). -/
def Fmt.mul (f : Fmt) (rz : Bool) (a b : Nat) : FRes :=
  match f.unpack a, f.unpack b with
  | .nan s, y => ⟨f.qnan, if s || y.isSig then fIV else 0⟩
  | _, .nan s => ⟨f.qnan, if s then fIV else 0⟩
  | .inf n, .inf m => ⟨(if n ^^ m then f.signBit else 0) + f.infBits, 0⟩
  | .inf n, .fin m v _ => if v = 0 then ⟨f.qnan, fIV⟩ else ⟨(if n ^^ m then f.signBit else 0) + f.infBits, 0⟩
  | .fin m v _, .inf n => if v = 0 then ⟨f.qnan, fIV⟩ else ⟨(if n ^^ m then f.signBit else 0) + f.infBits, 0⟩
  | .fin n v e, .fin m w d => f.round rz (n ^^ m) (v * w) (e + d)

/-- The place of a non-NaN pattern in the order of R60: −0 below +0. -/
def Fmt.key (f : Fmt) (n : Nat) : Int :=
  if n / f.signBit % 2 = 1 then -((n % f.signBit : Nat) : Int) - 1 else ((n % f.signBit : Nat) : Int)

/-- The order of comparisons: the two zeros are equal. -/
def Fmt.cmpKey (f : Fmt) (n : Nat) : Int :=
  if n / f.signBit % 2 = 1 then -((n % f.signBit : Nat) : Int) else ((n % f.signBit : Nat) : Int)

/-- MIN (`mx` false) or MAX of two patterns and whether the second was taken (R60). -/
def Fmt.minmax (f : Fmt) (mx : Bool) (a b : Nat) : FRes × Bool :=
  let x := f.unpack a
  let y := f.unpack b
  let fl := if x.isSig || y.isSig then fIV else 0
  if x.isNan ∧ y.isNan then (⟨f.qnan, fl⟩, false)
  else if x.isNan then (⟨b, fl⟩, true)
  else if y.isNan then (⟨a, fl⟩, false)
  else
    let second := if mx then decide (f.key a < f.key b) else decide (f.key b < f.key a)
    (⟨if second then b else a, fl⟩, second)

/-- CLAMP(A, B, C) = MIN(MAX(A, B), C), and whether B or C was applied (R60, R64). -/
def Fmt.clamp (f : Fmt) (a b c : Nat) : FRes × Bool :=
  let (r, p) := f.minmax true a b
  let (r', p') := f.minmax false r.v c
  (⟨r'.v, r.fl ||| r'.fl⟩, p || p')

/-- An integer divided by 2^sh: half to even, or toward minus infinity when `tr` (R56). -/
def roundFix (v : Int) (sh : Nat) (tr : Bool) : Int :=
  let q := v / (2 ^ sh : Nat)
  let r := (v % (2 ^ sh : Nat)).toNat
  if tr ∨ sh = 0 then q
  else if 2 ^ sh < 2 * r ∨ (2 ^ sh = 2 * r ∧ q % 2 ≠ 0) then q + 1 else q

/-- A 32-bit result saturated, and whether it was (R55, R56). -/
def sat32 (v : Int) : Word × Bool :=
  if 0x7FFF_FFFF < v then (0x7FFF_FFFF#32, true)
  else if v < -0x8000_0000 then (0x8000_0000#32, true)
  else (BitVec.ofInt 32 v, false)

/-- A .I result: saturated when SAT = 1, else modulo 2^32 (R55). -/
def fixI (sat : Bool) (v : Int) : Word × Bool := if sat then sat32 v else (BitVec.ofInt 32 v, false)

/-- A dyadic number rounded to an integer: half to even, toward zero (`mode` 1) or toward minus infinity (`mode` 2), and
whether it was inexact. -/
def dyToInt (neg : Bool) (m : Nat) (e : Int) (mode : Nat) : Int × Bool :=
  let v := dyInt neg m e (min e 0)
  let sh := (-(min e 0)).toNat
  let inex := decide (v % (2 ^ sh : Nat) ≠ 0)
  let q := if mode = 1 then (if neg then -((-v) / (2 ^ sh : Nat)) else v / (2 ^ sh : Nat)) else roundFix v sh (mode = 2)
  (q, inex)

/-- FP32 to a 32-bit integer of binary point `sh` (F2I with 0, F2Q): value, flags, and P (R64). -/
def floatToFix (a : Nat) (sh mode : Nat) : Word × Nat × Bool :=
  match f32.unpack a with
  | .nan _ => (0#32, fIV, true)
  | .inf n => (if n then 0x8000_0000#32 else 0x7FFF_FFFF#32, fIV, true)
  | .fin n m e =>
    let (v, inex) := dyToInt n m (e + sh) mode
    let (w, sat) := sat32 v
    if sat then (w, fIV, true) else (w, if inex then fNX else 0, false)

/-- A signed integer over 2^sh to a format (I2F with 0, Q2F). -/
def Fmt.ofFix (f : Fmt) (rz : Bool) (v : Int) (sh : Nat) : FRes := f.round rz (decide (v < 0)) v.natAbs (-(sh : Int))

/-- A pattern of one format in another, rounded once; NaN becomes the canonical quiet NaN (F2D, D2F). -/
def convFmt (src dst : Fmt) (rz : Bool) (a : Nat) : FRes :=
  match src.unpack a with
  | .nan s => ⟨dst.qnan, if s then fIV else 0⟩
  | .inf n => ⟨(if n then dst.signBit else 0) + dst.infBits, 0⟩
  | .fin n m e => dst.round rz n m e

/-- Relative error below 2^-14 of `y` against 1/x, for dyadic magnitudes: |x·y − 1| < 2^-14 (R68) (open points: log 10). -/
def seedOk (m : Nat) (e : Int) (m' : Nat) (e' : Int) : Bool :=
  let ex := e + e'
  let one := 2 ^ (-(min ex 0)).toNat
  let v := m * m' * 2 ^ (ex - min ex 0).toNat
  decide ((if v < one then one - v else v - one) * 2 ^ 14 < one)

/-- RCPS (R68): the special cases, else the candidate seed when it keeps the error bound, else the correctly rounded
reciprocal (open points: log 10). -/
def rcps (a : Nat) : FRes :=
  match f32.unpack a with
  | .nan s => ⟨f32.qnan, if s then fIV else 0⟩
  | .inf n => ⟨if n then f32.signBit else 0, 0⟩
  | .fin n m e =>
    let sg := if n then f32.signBit else 0
    if m = 0 then ⟨sg + f32.infBits, fDZ⟩
    else if a % f32.signBit < 2 ^ 23 ∧ m * (2 ^ 24 - 1) * 2 ^ 104 < 2 ^ 149 then ⟨sg + f32.infBits, fOF⟩
    else
      let cand := (Config.rcpsSeed (BitVec.ofNat 32 a)).toNat
      let ok := match f32.unpack cand with
        | .fin n' m' e' => decide (n' = n) && seedOk m e m' e'
        | _ => false
      if ok then ⟨cand, 0⟩
      else ⟨(f32.round false n (2 * (2 ^ 200 / m) + 1) (-e - 201)).v, 0⟩

/-- RSQS (R68): the special cases, else the candidate seed when (1 − 2^-14)² < y²·a < (1 + 2^-14)², else the rounded
reciprocal square root (open points: log 10). -/
def rsqs (a : Nat) : FRes :=
  match f32.unpack a with
  | .nan s => ⟨f32.qnan, if s then fIV else 0⟩
  | .inf n => if n then ⟨f32.qnan, fIV⟩ else ⟨0, 0⟩
  | .fin n m e =>
    if m = 0 then ⟨(if n then f32.signBit else 0) + f32.infBits, fDZ⟩
    else if n then ⟨f32.qnan, fIV⟩
    else
      let cand := (Config.rsqsSeed (BitVec.ofNat 32 a)).toNat
      let ok := match f32.unpack cand with
        | .fin n' m' e' =>
          let ex := e + 2 * e'
          let one := 2 ^ (-(min ex 0)).toNat
          let v := m * m' * m' * 2 ^ (ex - min ex 0).toNat
          !n' && decide ((2 ^ 14 - 1) ^ 2 * one < v * 2 ^ 28) && decide (v * 2 ^ 28 < (2 ^ 14 + 1) ^ 2 * one)
        | _ => false
      if ok then ⟨cand, 0⟩
      else
        let m2 := if e % 2 = 0 then m else 2 * m
        let e2 := if e % 2 = 0 then e else e - 1
        ⟨(f32.round false false (2 * Nat.sqrt (2 ^ 200 / m2) + 1) (-(e2 / 2) - 101)).v, 0⟩

end Sys2Proof.Machine
end

