-- ==== Sys2Proof/Machine/TimeOps.lean ====
section
/-! DEFINITION. The timebase (chapter "Timebase, capture and racking"): device time, its jumps, lock, the time fence, and the
step generator's batches (chapter "Tasks, batches and the hardware scheduler"). -/

namespace Sys2Proof.Machine

open Sys2Proof

def tmbSrc : Fld := ⟨.TMB_CTL, 1, 0⟩
def tmbPpspol : Fld := ⟨.TMB_CTL, 2, 2⟩
def tmbPpsoen : Fld := ⟨.TMB_CTL, 3, 3⟩
def tmbSrcact : Fld := ⟨.TMB_STATUS, 1, 0⟩
def tmbLock : Fld := ⟨.TMB_STATUS, 2, 2⟩
def tmbHoldover : Fld := ⟨.TMB_STATUS, 4, 4⟩

/-- One second of device time in ns. -/
def second : Nat := 1000000000

/-- LOCK set; the moment of its fall is kept (R324). -/
def State.setLock (s : State) (b : Bool) : State :=
  let low := if b then none else if s.flag tmbLock 0 then some s.tim.clk else s.tim.lockLow
  { s.setFld tmbLock 0 (b2n b) with tim := { s.tim with lockLow := low } }

/-- A signed number of ns in a 32-bit register. -/
def word32 (v : Int) : Nat := (BitVec.ofInt 32 v).toNat

/-- TMB_PHERR as a number. -/
def State.pherr (s : State) : Int := (BitVec.ofNat 32 (s.reg .TMB_PHERR 0)).toInt

/-- The conditions of R324 for the fenced state (open points: log 56). -/
def State.fenceDue (s : State) : Bool :=
  (!s.flag tmbLock 0 && decide (s.tim.lockLow.getD 0 + 1000000 < s.tim.clk)) ||
    decide (s.reg .TMB_FENCE_NS 0 % 65536 < s.pherr.natAbs)

/-- TIMEBASE_OK (R325). -/
def State.timebaseOk (s : State) : Bool := s.flag tmbLock 0 && !s.timeFenced

/-! ### Time over links (R521 to R523) -/

def tepV : Fld := ⟨.DEV_TEPOCH, 63, 63⟩
def tepMsdn : Fld := ⟨.DEV_TEPOCH, 59, 48⟩
def tepHops : Fld := ⟨.DEV_TEPOCH, 43, 40⟩
def tepParent : Fld := ⟨.DEV_TEPOCH, 39, 36⟩
def tepParv : Fld := ⟨.DEV_TEPOCH, 35, 35⟩
def tepPinned : Fld := ⟨.DEV_TEPOCH, 34, 34⟩
def tepEcnt : Fld := ⟨.DEV_TEPOCH, 15, 0⟩

def State.link (s : State) (m : Nat) : LinkSt := tget .init s.links m
def State.setLink (s : State) (m : Nat) (x : LinkSt) : State := { s with links := tput .init s.links m x }
def State.modLink (s : State) (m : Nat) (f : LinkSt → LinkSt) : State := s.setLink m (f (s.link m))

/-- The link is HELD or FULL (R510). -/
def State.linkUp (s : State) (m : Nat) : Bool := decide (s.fld alkState m = 3 ∨ s.fld alkState m = 4)

/-- The time parent: of the HELD and FULL links that have exchanged time, the one with the fewest hops; ties go to the lower
number (R522). Answers the link, its last exchange's time, its hops. -/
def State.timeParent (s : State) : Option (Nat × Nat × Nat) :=
  (List.range 12).foldl (fun (b : Option (Nat × Nat × Nat)) m =>
    match s.linkUp m, (s.link m).exch with
    | true, some (t, h, _) => match b with
      | some (_, _, h') => if h < h' then some (m, t, h) else b
      | none => some (m, t, h)
    | _, _ => b) none

/-- The conditions of R523 for LOCK in SYSTEM mode (open points: log 56). -/
def State.sysLocked (s : State) : Bool :=
  s.tim.pll && s.flag tepV 0 && s.timeParent.any fun p => decide (s.tim.clk ≤ p.2.1 + 100000)

/-- LOCK as the source in force gives it (R322, R523): LOCAL needs the PLL alone, PPS also an edge in time after the one
before. -/
def State.lockDue (s : State) : Bool :=
  if s.fld tmbSrcact 0 = 2 then s.sysLocked
  else s.tim.pll && (s.fld tmbSrcact 0 == 0 || s.tim.edgeOk)

/-- A new phase error sets the rate correction: against its sign, and a slew no more often than every 5,000 rim clocks. How
often is a free value (R322, R323) (open points: log 9). -/
def State.steer (s : State) : State :=
  let (x, s) := s.fresh64
  { s with tim := { s.tim with slewDir := -s.pherr.sign, slewEvery := 5000 + x.toNat } }

/-- The source of TMB_CTL comes into force; SRC 0b11 behaves as LOCAL (R322) (open points: log 56). -/
def State.sourceWritten (s : State) (old : Nat) : State :=
  let v := s.fld tmbSrc 0
  if v = old then s
  else
    let act := if v = 3 then 0 else v
    let s := (s.setFld tmbSrcact 0 act).setFld tmbHoldover 0 0
    let s := { s with tim := { s.tim with lastEdge := none, edgeOk := false, slewDir := 0 } }
    s.setLock s.lockDue

/-- The smallest T at or after `a` with T mod `per` = `phs` mod `per`. -/
def firstAt (a per phs : Nat) : Nat := a + (phs % per + per - a % per) % per

/-- A carrier's next period start after a change of time or enable (R374). -/
def State.carRealign (s : State) (c : Nat) : State :=
  let x := s.car c
  if s.flag carEn c then
    s.setCar c { x with start := none, next := some (firstAt s.tim.now (s.fld carPer c) (s.fld carPhs c)) }
  else s.setCar c .init

/-- Device time moved by a jump (R327): every periodic action against device time starts afresh from the new time. -/
def State.jumpTo (s : State) (v : Nat) : State :=
  let s := { s with
    tim := { s.tim with now := v, adv := 1, ppsRose := 0, lastEdge := s.tim.lastEdge.map fun e => v - (s.tim.now - e) }
    tiles := s.tiles.foldl (fun m p => tput .init m p.1 { p.2 with lastTime := 0 }) s.tiles
    encs := s.encs.foldl (fun m p => tput .init m p.1 { p.2 with last := 0 }) s.encs
    adcs := s.adcs.foldl (fun m p => tput .init m p.1 { p.2 with rose := 0 }) s.adcs
    sds := s.sds.foldl (fun m p => tput .init m p.1 { p.2 with edge := 0 }) s.sds
    sup := { s.sup with phAt := [] } }
  (List.range 32).foldl State.carRealign s

/-- The conditions of R352 for BUSY. -/
def State.timeBusy (s : State) : Bool :=
  ((List.range 256).any fun b => s.flag bctlEn b) || (s.lanes.any fun p => p.2.rack ≠ []) ||
    s.floors.any fun p => p.2.delay ≠ []

/-- A TIME_SET applied: device time jumps, and on a master its epoch count rises by 1 (R327, R521). -/
def State.timeSet (s : State) (v : Nat) : State :=
  let s := s.jumpTo v
  if s.flag tepV 0 ∧ s.fld tepMsdn 0 = s.fld sysSdn 0 then s.setFld tepEcnt 0 ((s.fld tepEcnt 0 + 1) % 65536) else s

/-- The phase error of an edge stamped `t` against the nearest T with T mod 10^9 = TMB_PPS_OFS (R322, R323)
(open points: log 57). -/
def phaseError (t ofs : Nat) : Int :=
  let d : Int := ((t : Int) - ofs) % second
  if d ≤ 500000000 then d else d - second

/-- An active PPS_IN edge taken in PPS mode (R322, R323) (open points: log 56). -/
def State.ppsEdge (s : State) : State :=
  let (x, s) := s.fresh64
  let t := s.tim.now - 2 + x.toNat % (min s.tim.now 2 + 3)
  let s := (s.setReg .TMB_PPS_LAST 0 t).setReg .TMB_PHERR 0 (word32 (phaseError t (s.reg .TMB_PPS_OFS 0)))
  let ok := s.tim.lastEdge.any fun (e : Int) => decide (e + (second - 10000 : Nat) ≤ (s.tim.now : Int) ∧ (s.tim.now : Int) ≤ e + (second + 10000 : Nat))
  let s := { s with tim := { s.tim with lastEdge := some s.tim.now, edgeOk := ok } }
  let s := s.setLock s.lockDue
  (if ok then s.setFld tmbHoldover 0 0 else s).steer

/-! ### Batches (R202 to R207) -/

/-- The tasks that step with batch `b` (R204), ascending. -/
def State.members (s : State) (b : Nat) : List Nat :=
  (s.tasks.map (·.1)).filter fun k => s.tf tkTstep k == 1 && s.tf tkBatch k == b

/-- A write of EN = 1 refused (R203). -/
def State.batchRefused (s : State) (b : Nat) : Bool :=
  let per := s.reg .TMB_BPER b
  decide (per < 1000) || decide (per ≤ s.reg .TMB_BPHS b) || s.reg .TMB_BDL b == 0 || decide (per < s.reg .TMB_BDL b)

/-- A write of EN = 1 (R203, R204). -/
def State.enableBatch (s : State) (b : Nat) : State :=
  if s.flag bctlEn b then s
  else if s.batchRefused b then s.setFld bctlErr b 1
  else
    let s := (s.setFld bctlErr b 0).setFld bctlEn b 1
    let s := s.setReg .TMB_BNEXT b (firstAt (s.tim.now + 1000) (s.reg .TMB_BPER b) (s.reg .TMB_BPHS b))
    let s := s.setBatch b .init
    (s.lanes.map (·.1)).foldl (fun s l => s.modLane l fun x => { x with checked := tput 0 x.checked b 0 }) s

/-- No further step and no deadline check of the batch (R221, R348). -/
def State.stopBatch (s : State) (b : Nat) : State :=
  let x := s.batch b
  ((s.setFld bctlEn b 0).setReg .TMB_BNEXT b 0).setBatch b { x with step := none }

/-- The deadline check of the step of batch `b` (R206). -/
def State.batchCheck (s : State) (b : Nat) : State :=
  let x := s.batch b
  match x.step with
  | none => s
  | some t =>
    let l := (s.members b).filter fun k => s.tf tkPend k != 0 || s.tf tkRun k != 0
    let s := s.setBatch b { x with step := none, overran := decide (l ≠ []) }
    match l with
    | [] => s
    | k :: _ =>
      (s.bumpFld ⟨.TMB_BOVR, 15, 0⟩ b).raise 0x3301 5 b (t + l.length * 2 ^ 64 + k * 2 ^ 80)

/-- Lanes bound to rack set `rset`. -/
def State.boundLanes (s : State) (rset : Nat) : List Nat :=
  (List.range 784).filter fun l => s.flag laneBound l && s.fld laneRset l == rset

/-- The step packet of batch `b` to floor `f`; its source is the rim's step generator. -/
def stepPkt (b f : Nat) : Pkt := { pkt0 with op := .step, dest := f, src := 560, addr := b }

/-! ### Heartbeats of a twin pair (R527, R529) -/

def twMode : Fld := ⟨.DEV_TWIN, 63, 62⟩
def twHbovr : Fld := ⟨.DEV_TWIN, 61, 61⟩
def twPsdn : Fld := ⟨.DEV_TWIN, 43, 32⟩
def twBatch : Fld := ⟨.DEV_TWIN, 15, 8⟩
def twLink : Fld := ⟨.DEV_TWIN, 3, 0⟩

/-- The time condition of a twin pair (R529). -/
def State.twinTime (s : State) : Bool :=
  s.fld tmbSrc 0 == 2 || (s.fld tmbSrc 0 == 1 && decide (s.reg .TMB_FENCE_NS 0 % 65536 ≤ 20))

/-- The device is healthy (R527). -/
def State.healthy (s : State) : Bool :=
  s.flag devReady 0 && s.flag devFwrun 0 && s.devFault == 0 && !s.timeFenced && (s.fld twMode 0 != 1 || s.twinTime) &&
    !(s.flag twHbovr 0 && (s.batch (s.fld twBatch 0)).overran)

/-- The heartbeat at step start `t` of batch `b`: driven by a healthy device, else omitted (R527). -/
def State.heartbeat (s : State) (b t : Nat) : State :=
  if s.fld twMode 0 = 0 ∨ s.fld twBatch 0 ≠ b then s
  else if s.healthy then { s with twin := { s.twin with own := 0, hbOut := t + 1 } }
  else { s with twin := { s.twin with own := s.twin.own + 1 } }

/-- A step starts (R204): checks still due for the step before come first (R207, R341), then the step events go out. -/
def State.startStep (s : State) (b : Nat) : State :=
  let t := s.reg .TMB_BNEXT b
  let s := if (s.batch b).step.any fun t0 => decide (t0 + s.reg .TMB_BDL b ≤ s.tim.now) then s.batchCheck b else s
  let s := if s.flag bctlRsen b then (s.boundLanes (s.fld bctlRset b)).foldl State.checkNext s else s
  let x := s.batch b
  let s := s.setBatch b { x with step := some t, last := some t }
  let s := (s.setReg .TMB_BNEXT b (t + s.reg .TMB_BPER b)).heartbeat b t
  (List.range 32).foldl (fun s f => s.inject 32 (stepPkt b f)) s

end Sys2Proof.Machine
end

