-- ==== Sys2Proof/Machine/FieldOps.lean ====
section
/-! DEFINITION. Field inputs (chapter "Field inputs and outputs"): capture streams, sigma-delta filters, serial ADC frames,
encoder counts, valve-link uplinks. -/

namespace Sys2Proof.Machine

open Sys2Proof

def State.stream (s : State) (n : Nat) : StreamSt := tget .init s.streams n
def State.setStream (s : State) (n : Nat) (x : StreamSt) : State := { s with streams := tput .init s.streams n x }
def State.modStream (s : State) (n : Nat) (f : StreamSt → StreamSt) : State := s.setStream n (f (s.stream n))
def State.sd (s : State) (i : Nat) : SdSt := tget .init s.sds i
def State.setSd (s : State) (i : Nat) (x : SdSt) : State := { s with sds := tput .init s.sds i x }
def State.adc (s : State) (p : Nat) : AdcSt := tget .init s.adcs p
def State.setAdc (s : State) (p : Nat) (x : AdcSt) : State := { s with adcs := tput .init s.adcs p x }
def State.enc (s : State) (n : Nat) : EncSt := tget .init s.encs n
def State.setEnc (s : State) (n : Nat) (x : EncSt) : State := { s with encs := tput .init s.encs n x }

def strmEn : Fld := ⟨.FIO_STRM, 63, 63⟩
def strmTsmode : Fld := ⟨.FIO_STRM, 62, 61⟩
def strmTspt : Fld := ⟨.FIO_STRM, 60, 60⟩
def strmK1 : Fld := ⟨.FIO_STRM, 59, 59⟩
def strmK2 : Fld := ⟨.FIO_STRM, 58, 58⟩
def strmDest1 : Fld := ⟨.FIO_STRM, 55, 42⟩
def strmDest2 : Fld := ⟨.FIO_STRM, 41, 28⟩

/-- LOC of a field I/O event: kind and index (R539). -/
def locField (kind i : Nat) : Nat := kind + 256 * i

/-! ### Capture streams (R328, R329, R358 to R362) -/

/-- The words of a sample for its two destinations (R329) (open points: log 57). -/
def sampleWords (mode : Nat) (w : List Tok) (ts : Nat) : Sample :=
  let lo : Tok := ⟨BitVec.ofNat 32 ts, false⟩
  let hi : Tok := ⟨BitVec.ofNat 32 (ts / 2 ^ 32), false⟩
  if mode = 0 then { d1 := w, d2 := [], ready := 0 }
  else if mode = 1 then { d1 := w ++ [lo], d2 := [], ready := 0 }
  else if mode = 2 then { d1 := w ++ [lo, hi], d2 := [], ready := 0 }
  else { d1 := w, d2 := [lo], ready := 0 }

/-- A sample of stream `n`, complete at its input: its timestamp lies within 2 ns of the stream's point (R328). A stream that
is off or draining takes none. -/
def State.sample (s : State) (n : Nat) (words : List Word) (psn : Bool) (ref done : Nat) : State :=
  if !s.flag strmEn n ∨ (s.stream n).drain then s
  else
    let at_ := if s.flag strmTspt n then done else ref
    let (x, s) := s.fresh64
    let ts := at_ - 2 + x.toNat % (min at_ 2 + 3)
    let sm := sampleWords (s.fld strmTsmode n) (words.map fun w => ⟨w, psn⟩) ts
    s.modStream n fun x => { x with made := x.made ++ [sm] }

/-- The oldest sample made becomes ready: buffered, or discarded whole when two samples are buffered (R359, R361). -/
def State.sampleReady (s : State) (n : Nat) : State :=
  let x := s.stream n
  match x.made with
  | [] => s
  | m :: ms =>
    let s := s.setStream n { x with made := ms }
    if x.buf.length < 2 then s.modStream n fun x => { x with buf := x.buf ++ [{ m with ready := s.tim.clk }] }
    else (s.bump .FIO_SLOST n).raiseOnce .FIO_SLOST n 0x6101 7 (locField 0 n) 0

/-- One word handed to a destination: a bridge receive port always takes it, a queue when its floor is open and it has room
(R360, R361) (open points: log 60). -/
def State.toDest (s : State) (n : Nat) (bridge : Bool) (dest : Nat) (w : Tok) (sop eop : Bool) : Option State :=
  if bridge then
    some (s.inject 32 { pkt0 with op := .bridge, dest := bits dest 8 4, src := 558, addr := dest % 16,
                                  data := (leBytes 4 w.v.toNat).map some, psn := b2n w.psn })
  else if !s.floorOpen (dest / 512) then none
  else
    let (ok, s) := s.pushWord dest (.field n) none w.v sop eop w.psn
    if ok then some s else none

/-- The next word of the stream's first buffered sample delivered (R360, R361) (open points: log 60). -/
def State.deliverWord (s : State) (n : Nat) : Option State :=
  let x := s.stream n
  match x.buf with
  | [] => none
  | m :: ms =>
    let k := x.sent
    let s' := if h : k < m.d1.length then
        s.toDest n (s.flag strmK1 n) (s.fld strmDest1 n) m.d1[k] (k == 0) (k + 1 == m.d1.length)
      else match m.d2 with
        | w :: _ => s.toDest n (s.flag strmK2 n) (s.fld strmDest2 n) w true true
        | [] => some s
    s'.map fun s => s.modStream n fun x =>
      if m.d1.length + m.d2.length ≤ k + 1 then { x with buf := ms, sent := 0 } else { x with sent := k + 1 }

/-- When the first sample of stream `n` became ready, if its next word can be delivered now. -/
def State.deliverable (s : State) (n : Nat) : Option Nat :=
  (s.stream n).buf.head?.bind fun m => if (s.deliverWord n).isSome then some m.ready else none

/-- Another stream is ahead of stream `n`: the order is that in which samples became ready, in one rim clock that of the stream
numbers; a stream whose destination cannot accept a word holds up no other (R359, R361). -/
def State.streamBehind (s : State) (n : Nat) : Bool :=
  match s.deliverable n with
  | none => false
  | some a => s.streams.any fun p => (s.deliverable p.1).any fun b => decide (b < a ∨ (b = a ∧ p.1 < n))

/-- The stream has nothing left to deliver. -/
def State.streamEmpty (s : State) (n : Nat) : Bool := (s.stream n).made == [] && (s.stream n).buf == []

/-- Streams of a range turned off (open points: log 60). -/
def State.streamsOff (s : State) (first n : Nat) : State :=
  (List.range n).foldl (fun s i =>
    (s.setFld strmEn (first + i) 0).modStream (first + i) fun x => { x with drain := false }) s

/-- The DRAINs whose streams are all empty complete (R387) (open points: log 60). -/
def State.streamDrains (s : State) : State :=
  (s.cmds.map (·.wait) ++ s.drains).foldl (fun s w => match w with
    | .streamDrain f n => if (List.range n).all fun i => s.streamEmpty (f + i) then
        (s.streamsOff f n).finish (.streamDrain f n) stOk [] else s
    | _ => s) s

/-- The last T at or before now with T mod `per` = `phs` mod `per`. -/
def lastAt (now per phs : Nat) : Option Nat :=
  if now < phs % per then none else some (now - (now - phs % per) % per)

/-! ### Sigma-delta inputs (R363 to R367) -/

def mclkEn : Fld := ⟨.FIO_MCLK, 31, 31⟩
def mclkPhase : Fld := ⟨.FIO_MCLK, 15, 8⟩
def mclkDiv : Fld := ⟨.FIO_MCLK, 7, 0⟩
def sdEn : Fld := ⟨.FIO_SD, 63, 63⟩
def sdClk : Fld := ⟨.FIO_SD, 62, 58⟩
def sdOrd : Fld := ⟨.FIO_SD, 57, 56⟩
def sdFmt : Fld := ⟨.FIO_SD, 55, 55⟩
def sdSten : Fld := ⟨.FIO_SD, 54, 54⟩
def sdSph : Fld := ⟨.FIO_SD, 52, 45⟩
def sdDec : Fld := ⟨.FIO_SD, 40, 32⟩
def sdDph : Fld := ⟨.FIO_SD, 23, 16⟩
def sdStuck : Fld := ⟨.FIO_SD, 0, 0⟩
def thFen : Fld := ⟨.FIO_SDTH, 63, 63⟩
def thFm : Fld := ⟨.FIO_SDTH, 62, 57⟩
def thNcons : Fld := ⟨.FIO_SDTH, 56, 53⟩
def thHi : Fld := ⟨.FIO_SDTH, 49, 49⟩
def thLo : Fld := ⟨.FIO_SDTH, 48, 48⟩

/-- Order K of the main filter (R365). -/
def State.sdK (s : State) (i : Nat) : Nat := if s.fld sdOrd i = 0 then 3 else s.fld sdOrd i

/-- The input is sampled: it, its clock and its bank are on (R356, R364). -/
def State.sdRuns (s : State) (i : Nat) : Bool :=
  s.flag sdEn i && s.flag mclkEn (s.fld sdClk i) && s.claimed (16 + i / 64)

/-- The number of the clock's last rising edge whose sampling instant has come (R363, R364). -/
def State.sdEdge (s : State) (i : Nat) : Nat :=
  let c := s.fld sdClk i
  let d := s.fld mclkDiv c
  (8 * s.tim.now - s.fld sdSph i - 8 * (s.fld mclkPhase c % d)) / (8 * d)

/-- The sampling instant of edge `k` in units of 0.125 ns. -/
def State.sdInstant (s : State) (i k : Nat) : Nat :=
  let c := s.fld sdClk i
  8 * (s.fld mclkPhase c % s.fld mclkDiv c + k * s.fld mclkDiv c) + s.fld sdSph i

/-- The bits `l` are those of every edge since the last one sampled, up to the last whose instant has come: an input is sampled
once for each edge (R364) (open points: log 61). -/
def State.sdFits (s : State) (i : Nat) (l : List Bool) : Bool :=
  let e := (s.sd i).edge
  decide (l ≠ [] ∧ l.length ≤ s.sdEdge i + 1 ∧ s.sdInstant i (s.sdEdge i) ≤ 8 * s.tim.now) &&
    (e == 0 || e + l.length == s.sdEdge i + 1)

/-- Edge `k` is a boundary of the main filter (R365). -/
def State.sdBoundary (s : State) (i k : Nat) : Bool := k % s.fld sdDec i == s.fld sdDph i % s.fld sdDec i

/-- Sums of `n` neighbouring terms. -/
def movSum (n : Nat) (l : List Int) : List Int := (List.range (l.length + 1 - n)).map fun i => ((l.drop i).take n).sum

/-- The sinc filter of order `k` and length `n` over a bit history, newest first (R365, R367). -/
def sincOut (k n : Nat) (hist : List Bool) : Int :=
  let x : List Int := (hist.take (k * (n - 1) + 1)).map fun b => if b then 1 else -1
  ((List.range k).foldl (fun l _ => movSum n l) x).headD 0

/-- y ÷ d rounded to nearest even as FP32 (R365). -/
def ratioF32 (y : Int) (d : Nat) : Word :=
  let q := y.natAbs * 2 ^ 60 / d
  let r := y.natAbs * 2 ^ 60 % d
  BitVec.ofNat 32 (f32.round false (decide (y < 0)) (2 * q + b2n (r ≠ 0)) (-61)).v

/-- Bits that precede the first sampled one: the spec gives them no value, so they are free (R365)
(open points: log 5, log 61). -/
def freeBits (n0 : Nat) : List (Bool × Bool) :=
  (List.range 768).map fun j => ((Config.freeValue (n0 + j / 64)).getLsbD (j % 64), false)

/-- A bit taken into the history; a run of 128 equal bits is marked, and STUCK set once per run (R366). -/
def State.sdPush (s : State) (i : Nat) (b : Bool) : State :=
  let x := s.sd i
  let (h, s) := if x.hist = [] then (freeBits s.free, { s with free := s.free + 12 }) else (x.hist, s)
  let same := x.run ≠ 0 ∧ (h.headD (b, false)).1 = b
  let run := if same then min 129 (x.run + 1) else 1
  let stuck := s.flag sdSten i && decide (128 ≤ run)
  let h := (b, stuck) :: h
  let h := if stuck ∧ run = 128 then (h.take 128).map (fun p => (p.1, true)) ++ h.drop 128 else h
  let s := s.setSd i { x with hist := h.take 768, run := run }
  if stuck ∧ run = 128 then (s.setFld sdStuck i 1).raise 0x6102 7 (locField 1 i) 0
  else if !same then s.setFld sdStuck i 0 else s

/-- The fast path after a bit (R367): both comparators and their trip sources. -/
def State.sdFast (s : State) (i : Nat) : State :=
  if !s.flag thFen i then s
  else
    let x := s.sd i
    let y := sincOut 2 (s.fld thFm i) (x.hist.map (·.1))
    let v := s.reg .FIO_SDTH i
    let hiT := (BitVec.ofNat 16 (v / 2 ^ 16)).toInt
    let loT := (BitVec.ofNat 16 v).toInt
    let nc := max 1 (s.fld thNcons i)
    let hiN := if hiT < y then min 15 (x.hiN + 1) else 0
    let loN := if y < loT then min 15 (x.loN + 1) else 0
    let hi := hiT < y ∧ (s.flag thHi i ∨ nc ≤ hiN)
    let lo := y < loT ∧ (s.flag thLo i ∨ nc ≤ loN)
    let s := ((s.setSd i { x with hiN := hiN, loN := loN }).setFld thHi i (b2n hi)).setFld thLo i (b2n lo)
    s.setSrcs [(i, decide hi), (256 + i, decide lo)]

/-- The main filter's output at a boundary, as a sample of stream `i` (R365, R366) (open points: log 61). -/
def State.sdOutput (s : State) (i k : Nat) : State :=
  let kk := s.sdK i
  let n := s.fld sdDec i
  let h := (s.sd i).hist.take (kk * (n - 1) + 1)
  let y := sincOut kk n (h.map (·.1))
  let w := if s.flag sdFmt i then ratioF32 y (n ^ kk) else BitVec.ofInt 32 y
  let t := s.sdInstant i k
  s.sample i [w] (h.any (·.2)) ((t - 4 * kk * (n - 1) * s.fld mclkDiv (s.fld sdClk i)) / 8) (t / 8)

/-- One bit sampled at edge `k`. -/
def State.sdBit (s : State) (i k : Nat) (b : Bool) : State :=
  let s := (s.sdPush i b).sdFast i
  if s.sdBoundary i k then s.sdOutput i k else s

/-- The bits sampled since the input's last event, oldest first; the last one is that of the last edge. -/
def State.sdBits (s : State) (i : Nat) (l : List Bool) : State :=
  let e := s.sdEdge i + 1
  let s := (l.zipIdx).foldl (fun s x => s.sdBit i (e - l.length + x.2) x.1) s
  s.setSd i { s.sd i with edge := e }

/-- What MCLK`c` drives: high for DIV/2 ns from each rising edge, low with EN = 0, nothing while its bank is unclaimed or the
device is a standby (R356, R363, R531). -/
def State.mclkOut (s : State) (c : Nat) : Option Bool :=
  let d := s.fld mclkDiv c
  if let some p := s.extPin (608 + c) then p
  else if !s.claimed (16 + c / 8) ∨ s.standby then none
  else if !s.flag mclkEn c then some false
  else match lastAt s.tim.now d (s.fld mclkPhase c) with
    | some t => some (decide (tget 0 s.dev.clkFrom c ≤ t ∧ s.tim.now < t + d / 2))
    | none => some false

/-- The fast path switched off: its comparators are deasserted (R367). -/
def State.sdFastOff (s : State) (i : Nat) : State :=
  let s := ((s.setSd i { s.sd i with hiN := 0, loN := 0 }).setFld thHi i 0).setFld thLo i 0
  s.setSrcs [(i, false), (256 + i, false)]

/-! ### Serial ADC ports (R368 to R370) -/

def adcEn : Fld := ⟨.FIO_ADCCFG, 63, 63⟩
def adcLanes : Fld := ⟨.FIO_ADCCFG, 62, 61⟩
def adcWord : Fld := ⟨.FIO_ADCCFG, 60, 56⟩
def adcCh : Fld := ⟨.FIO_ADCCFG, 55, 53⟩
def adcSigned : Fld := ⟨.FIO_ADCCFG, 52, 52⟩
def adcRefofs : Fld := ⟨.FIO_ADCCFG, 47, 32⟩
def cnvEn : Fld := ⟨.FIO_ADCCNV, 63, 63⟩
def cnvWid : Fld := ⟨.FIO_ADCCNV, 62, 55⟩
def cnvPer : Fld := ⟨.FIO_ADCCNV, 43, 22⟩
def cnvPhs : Fld := ⟨.FIO_ADCCNV, 21, 0⟩
def adcClk : Fld := ⟨.FIO_ADCSTAT, 31, 31⟩
def adcErr : Fld := ⟨.FIO_ADCSTAT, 30, 30⟩
def adcFrerr : Fld := ⟨.FIO_ADCSTAT, 15, 0⟩

/-- Lanes, word length and channels of port `p`. -/
def State.adcShape (s : State) (p : Nat) : Nat × Nat × Nat := (s.fld adcLanes p + 1, s.fld adcWord p + 1, s.fld adcCh p + 1)

/-- Bit `i` of the frame: lane i mod LANES, slot i div LANES (R368). -/
def frameBit (lanes : List (List Bool)) (n i : Nat) : Bool := (lanes.getD (i % n) []).getD (i / n) false

/-- Channel `c` of a frame, most significant bit first (R368, R369). -/
def channelWord (lanes : List (List Bool)) (n word c : Nat) (signed : Bool) : Word :=
  let v := (List.range word).foldl (fun a j => 2 * a + b2n (frameBit lanes n (c * word + j))) 0
  if signed ∧ 2 ^ (word - 1) ≤ v then BitVec.ofInt 32 ((v : Int) - 2 ^ word) else BitVec.ofNat 32 v

/-- Lowest and highest set bit of a set of DLY settings, and the centre of its widest run (R387). -/
def passRange (m : BitVec 64) : Option (Nat × Nat × Nat) :=
  let l := (List.range 64).filter fun i => m.getLsbD i
  match l with
  | [] => none
  | a :: _ =>
    let runLen := fun i => ((List.range (64 - i)).takeWhile fun j => m.getLsbD (i + j)).length
    let best := l.foldl (fun (b : Nat × Nat) i => if b.2 < runLen i then (i, runLen i) else b) (a, 0)
    some (a, l.getLastD a, best.1 + (best.2 - 1) / 2)

/-! ### Encoders (R371) -/

/-- What ADCP`p`_CNV drives (R356, R370, R531). -/
def State.cnvOut (s : State) (p : Nat) : Option Bool :=
  if let some x := s.extPin (640 + p) then x
  else if !s.claimed 21 ∨ s.standby then none else some (s.flag cnvEn p && (s.adc p).cnv)

def encEn : Fld := ⟨.FIO_ENCCFG, 63, 63⟩
def encMode : Fld := ⟨.FIO_ENCCFG, 62, 62⟩
def encZclr : Fld := ⟨.FIO_ENCCFG, 61, 61⟩
def encGray : Fld := ⟨.FIO_ENCCFG, 60, 60⟩
def encPar : Fld := ⟨.FIO_ENCCFG, 59, 59⟩
def encBits : Fld := ⟨.FIO_ENCCFG, 58, 54⟩
def encFilt : Fld := ⟨.FIO_ENCCFG, 53, 46⟩
def encChalf : Fld := ⟨.FIO_ENCCFG, 45, 38⟩
def encPer : Fld := ⟨.FIO_ENCTIM, 63, 32⟩
def encPhs : Fld := ⟨.FIO_ENCTIM, 31, 0⟩
def encLine : Fld := ⟨.FIO_ENCST, 31, 31⟩
def encErr : Fld := ⟨.FIO_ENCST, 15, 0⟩

/-- The count after the accepted levels change from (a, b) to (a', b') (R371): up while A leads B. -/
def quadCount (n : Nat) (a b a' b' : Bool) : Nat :=
  if a ≠ a' ∧ b ≠ b' then n
  else if a ≠ a' then (if a' ≠ b then n + 1 else n + 0xFFFFFFFF) % 2 ^ 32
  else if b ≠ b' then (if b' = a then n + 1 else n + 0xFFFFFFFF) % 2 ^ 32
  else n

/-- What the clock pin B of serial encoder `n` drives: it idles high; a transfer makes it fall at T and at every second
half-period, once for each bit (R356, R371, R531). -/
def State.encClockOut (s : State) (n : Nat) : Option Bool :=
  if let some p := s.extPin (656 + n) then p
  else if !s.flag encMode n ∨ !s.claimed 20 ∨ s.standby then none
  else match (s.enc n).busy with
    | none => some true
    | some t =>
      let h := 10 * s.fld encChalf n
      let j := (s.tim.now - t) / h
      some (!decide (j % 2 = 0 ∧ j < 2 * (s.fld encBits n + 1 + s.fld encPar n) ∧ tget 0 s.dev.clkFrom 32 ≤ t + j * h))

/-- A Gray-coded number of `n` bits, most significant bit first, as binary. -/
def grayBits : Bool → List Bool → List Bool
  | _, [] => []
  | p, b :: l => (p ^^ b) :: grayBits (p ^^ b) l

def bitsNat (l : List Bool) : Nat := l.foldl (fun a b => 2 * a + b2n b) 0

/-! ### Valve-link uplinks (R381 to R384) -/

def vlSmcnt : Fld := ⟨.FIO_VLCFG, 62, 57⟩
def vlUfmt : Fld := ⟨.FIO_VLCFG, 56, 56⟩
def vlUwd : Fld := ⟨.FIO_VLCFG, 47, 32⟩
def vlScale : Fld := ⟨.FIO_VLCFG, 31, 0⟩
def vlUp : Fld := ⟨.FIO_VLSTAT, 31, 31⟩
def vlWdog : Fld := ⟨.FIO_VLSTAT, 30, 30⟩
def vlEcho : Fld := ⟨.FIO_VLSTAT, 5, 0⟩

/-- Word `k` of an uplink frame's sample (R382); `body` starts after K27.7. -/
def uplinkWord (body : List Byte) (ufmt : Bool) (scale k : Nat) : Word :=
  let v := leNat ((body.drop (2 + 4 * k)).take 2)
  let st := leNat ((body.drop (4 + 4 * k)).take 2)
  if ufmt then BitVec.ofNat 32 (f32.mul false (f32.round false false v 0).v scale).v else BitVec.ofNat 32 (v * 65536 + st)

/-- A good uplink frame restarts the watchdog and clears WDOG (R384). -/
def State.vlGood (s : State) (n : Nat) : State :=
  ((s.modVl n fun x => { x with good := s.tim.clk }).setFld vlWdog n 0).setSrc (656 + n) false

/-- An uplink frame that is neither cut nor too long (R382). -/
def State.uplink (s : State) (n : Nat) (body : List Byte) : State :=
  let cnt := (body.getD 1 0#8).toNat
  let crc := leNat ((body.drop (2 + 4 * cnt)).take 2).reverse
  let ok := decide (crc16 (body.take (2 + 4 * cnt)) = crc)
  let s := if ok then (s.setFld vlEcho n ((body.headD 0#8).toNat % 64)).vlGood n
    else (s.bump .FIO_VLCRC n).raiseOnce .FIO_VLCRC n 0x6301 7 (locField 5 n) 0
  let ws := (List.range cnt).map (uplinkWord body (s.flag vlUfmt n) (s.fld vlScale n))
  s.sample (416 + n) ws (!ok || cnt != s.fld vlSmcnt n) (s.tim.now - (5 + 4 * cnt) * 8) s.tim.now

/-! ### GPIO inputs (R385) -/

def gpioTrpol : Fld := ⟨.FIO_GPIO, 10, 10⟩
def gpioFilt : Fld := ⟨.FIO_GPIO, 9, 2⟩
def gpioEdge : Fld := ⟨.FIO_GPIO, 1, 0⟩

/-- The accepted level of GPIO`k`. -/
def State.gpioIn (s : State) (k : Nat) : Bool := bit (s.reg .FIO_GPIO_IN 0) k

/-- GPIO`k` asserts its source (R385). -/
def State.gpioLevel (s : State) (k : Nat) : Bool := s.gpioIn k == s.flag gpioTrpol k

/-- Source 512 + k follows the accepted level (R385, R390); inputs of an unclaimed bank are not sampled (R356). -/
def State.gpioSource (s : State) (k : Nat) : State :=
  if s.claimed 21 then s.setSrc (512 + k) (s.gpioLevel k) else s

end Sys2Proof.Machine
end

