-- ==== Sys2Proof/Machine/Adapt.lean ====
section
/-! DEFINITION. Gravity, kiln, thermal supervision and turning (chapter "Gravity, kiln and floor turning"). -/

namespace Sys2Proof.Machine

open Sys2Proof

/-! ### Gravity and kiln (R409 to R422) -/

/-- GRAVITY_TRIM (R411 to R416): `tb` is the beat time of each floor in ps, `pest` the package power in 0.1 W
(open points: log 68). -/
def execGravityTrim (tb : List Nat) (pest : Nat) (s : State) : Out :=
  let n := s.tim.now / 2000
  if !s.flag devReady 0 ∨ n = s.sup.lastTrim then .next s
  else
    let s := { s with sup := { s.sup with lastTrim := n } }.setReg .GRV_PEST 0 (sat16 pest)
    let capped := decide (s.fld grvCap 0 < pest)
    let low := if capped then s.capChoice tb else none
    let s := if low.isSome then s.bump .GRV_CAPCNT 0 else s
    .next (((List.range 32).foldl (fun s f => s.trimFloor tb capped low f) s).capExceeded pest)

/-- Code `c` of floor `f` is confirmed (R416, R417) (open points: log 68). -/
def State.confirmed (s : State) (f c : Nat) : State :=
  ((s.setClo f c).modGrav f fun x => { x with phase := .ready, conf := s.floorTemp f, backoff := none }).rehold f

/-- KILN_CONFIRM (R416, R417, R419): the replicas met the margin or not, `taps` live channels need longer taps; `lost` names a
channel without margin at code 50: of a local tile, or 16 the hub's (open points: log 69, log 93). -/
def execKilnConfirm (f : FloorNo) (ok : Bool) (taps : Nat) (lost : Option (Fin 17)) (s : State) : Out :=
  match (s.grav f).phase with
  | .asked c =>
    let s := if !ok then s.modGrav f fun x => { x with phase := .idle, backoff := some (c, s.tim.clk + 1000000, s.floorTemp f) }
      else if taps = 0 then s.confirmed f c
      else s.modGrav f fun x => { x with phase := .taps c taps }
    .next (match lost with
      | some i => s.marginLost f i
      | none => s)
  | _ => .next s

/-- KILN_TAP_CHANGE (R417 step 4, R420, R421): one live channel's tap is lengthened in its borrowed beat. -/
def execKilnTapChange (f : FloorNo) (s : State) : Out :=
  match (s.grav f).phase with
  | .taps c n =>
    if !s.flag klnLive 0 then .next s
    else .next (if n ≤ 1 then s.confirmed f c else s.modGrav f fun x => { x with phase := .taps c (n - 1) })
  | _ => .next s

/-- KILN_WATCH_END (R417 steps 7, 8). -/
def execKilnWatchEnd (f : FloorNo) (s : State) : Out :=
  if (s.grav f).phase = .watch then .next (s.modGrav f fun x => { x with phase := .idle }) else .next s

/-- KLN_RETREAT (R418, R421): a near-miss on a live channel of the floor. -/
def execKlnRetreat (f : FloorNo) (s : State) : Out :=
  if 3 ≤ s.fld nocState f then .next s
  else
    let c := min 50 (s.code f + 1)
    let s := ((s.setClo f c).setCode f (if s.flag klnLive 0 then c else 50)).bumpFld klnNear f
    let s := s.modGrav f fun x => { x with phase := .idle }
    .next (match (s.grav f).nearAt with
      | some t => if s.tim.clk < t + 1000000 then s
        else (s.modGrav f fun x => { x with nearAt := some s.tim.clk }).raise 0x8201 2 f 0
      | none => (s.modGrav f fun x => { x with nearAt := some s.tim.clk }).raise 0x8201 2 f 0)

/-- KILN_SD_PHASE_STEP (R422): SPH of an input with KAUTO = 1 moves one step of 0.125 ns, once per 1,024 modulator clocks
(open points: log 68). -/
def execKilnSdPhaseStep (i : Fin 256) (up narrow : Bool) (s : State) : Out :=
  let sph : Fld := ⟨.FIO_SD, 52, 45⟩
  if !s.flag klnSden 0 ∨ !s.flag ⟨.FIO_SD, 53, 53⟩ i ∨ !s.flag ⟨.FIO_SD, 63, 63⟩ i ∨
      (tget 0 s.sup.phAt i ≠ 0 ∧ s.sdEdge i < tget 0 s.sup.phAt i + 1023) then .next s
  else
    let edge := s.sdEdge i
    let s := s.setFld sph i (if up then min 255 (s.fld sph i + 1) else s.fld sph i - 1)
    let old := tget false s.sup.eyes i
    let s := { s with sup := { s.sup with
      eyes := tput false s.sup.eyes i narrow, phAt := tput 0 s.sup.phAt i (edge + 1) } }
    .next (if narrow ∧ !old then s.raise 0x8203 7 (1 + 256 * i.val) 0 else s)

/-- PMBUS_POLL (R555): the answers of the core and SRAM regulators, which calibrate the current monitors. -/
def execPmbusPoll (core sram : Option Word) (s : State) : Out :=
  .next { s with sup := { s.sup with core := core, sram := sram } }

/-! ### Thermal supervision (R423) -/

/-- THERMAL_SENSOR_READ (R418, R423, R424, R426): sensor 0 to 511 a tile, 512 to 543 a hub, 544 to 546 a die. -/
def execThermalSensorRead (sensor : Fin 547) (temp : BitVec 8) (s : State) : Out :=
  let n := sensor.val
  let s := { s with sup := { s.sup with temps := tput 0 s.sup.temps n temp.toInt } }
  let s := s.thermPin.critState
  if 544 ≤ n then .next s
  else
    let f := if n < 512 then n / 16 else n - 512
    let s := (s.setFld grvTemp f (BitVec.ofInt 8 (s.floorTemp f)).toNat).cooled f |>.warmed f
    if 512 ≤ n then .next s
    else
      let hot := decide ((s.fld trnTturn 0 : Int) ≤ temp.toInt)
      let s := s.modTurn n fun x => { x with hot := if hot then (match x.hot with
        | some t => some t
        | none => some s.tim.clk) else none }
      .next (s.settleTile n)

/-! ### Turning (R424 to R430, R434) -/

/-- The trigger of a tile holds (R426); one that found no spare is tried again after 1 ms. -/
def State.triggerDue (s : State) (t cause : Nat) : Bool :=
  ((s.turn t).retry.all fun r => decide (r.2 + 1000000 ≤ s.tim.clk)) &&
  (if cause = 0 then s.flag trnThen 0 && (s.turn t).hot.any fun h => decide (h + 100000 ≤ s.tim.clk)
   else cause == 1 && s.flag trnFten 0 && bit (s.fld klnMloss (t / 16)) (t % 16))

/-- TURN_TRIGGER (R426): of a WORK tile, or merged into an evacuation whose cause it changes. -/
def execTurnTrigger (t : TileNo) (cause : Fin 3) (s : State) : Out :=
  let st := s.tstate t
  let asked := (s.turn t).evac.any fun e => e.cause == 2
  if s.triggerDue t cause ∧ (st = 0 ∨ (st = 2 ∧ (cause = 1 ∨ asked))) then .next (s.evacuate t cause (s.dataSlots t)) else .next s

/-- TURN_MOVE_START (R427, R428): the lowest slot still to move. -/
def execTurnMoveStart (t : TileNo) (s : State) : Out :=
  match (s.turn t).evac with
  | none => .next s
  | some e => match e.left with
    | [] => .next s
    | k :: _ => match s.moveFate t k e.spare with
      | .defer => .next s
      | .start w =>
        let s := (s.modSlot t k fun x => { x with moving := true }).modSlot e.spare k fun x => { x with moving := true }
        .next ((s.modGrav (t / 16) fun x => { x with
          move := some { tile := t, slot := k, spare := e.spare, start := s.tim.clk, words := w } }).setFld grvMove (t / 16) 1)
      | .noPatch =>
        let s := (s.dropTurn t k).settleTile t
        let hit := fun (w : CmdWait) => match w with
          | .turnMove u m => u == t.val && (m == 0 || bit m k)
          | _ => false
        let done := s.cmds.filter fun x => hit x.wait
        .next (done.foldl (fun s x => s.badParam x.cmd x.op 2) { s with cmds := s.cmds.filter fun x => !hit x.wait })
      | .noSlot => .next ((((s.dropTurn t k).raise 0x8303 2 (t / 16) 0).settleTile t).turnReplies t)

/-- TURN_COMMIT (R425, R429, R430, R201): the move of the tile's slot is committed. -/
def execTurnCommit (t : TileNo) (s : State) : Out :=
  match (s.grav (t / 16)).move with
  | none => .next s
  | some m => match s.turnPatch m.tile m.slot with
    | none => .next s
    | some p => if m.tile = t.val then .next (s.commitMove m p) else .next s

/-- TRN_DEFERRED (R427): the next move of the tile is deferred; counted once, and 0x8302 once after TRN_DEFMAX
(open points: log 70). -/
def execTrnDeferred (t : TileNo) (s : State) : Out :=
  match (s.turn t).evac with
  | none => .next s
  | some e => match e.left with
    | [] => .next s
    | k :: _ =>
      if s.moveFate t k e.spare ≠ .defer ∨ (s.slot t k).moving then .next s
      else
        let s := if e.defd.contains k then s else s.bump .TRN_DEFERS 0
        let late := !e.late.contains k && decide (e.since + s.reg .TRN_DEFMAX 0 * 1000 ≤ s.tim.clk)
        let s := s.modTurn t fun x => { x with evac := some { e with
          defd := insertNat k e.defd, late := if late then insertNat k e.late else e.late } }
        .next (if late then s.raise 0x8302 1 (locTile t k 0xFF) 0 else s)

def State.turnMoveCmd (s : State) (c : Cmd) (t slots timeout : Nat) : State :=
  let l := (s.dataSlots t).filter fun k => slots = 0 ∨ bit slots k
  if l = [] ∨ s.tstate t = 1 ∨ s.tstate t = 3 then s.reply c 0x8003 stOk []
  else
    let s := s.evacuate t 2 l
    if (s.turn t).evac.isNone then s.reply c 0x8003 stBusy []
    else s.await c 0x8003 (.turnMove t slots) timeout

/-- TURN_MOVE (R426, R434). -/
def execTurnMove (c : Cmd) (t slots timeout : Nat) (s : State) : Out :=
  .next (s.runCmd c 0x8003 (leBytes 2 t ++ leBytes 1 slots ++ leBytes 2 timeout) false fun s =>
    if 511 < t then s.badParam c 0x8003 0 else s.turnMoveCmd c t slots timeout)

/-- TURN_MOVE_TIMEOUT (R434): the moves stay pending. -/
def execTurnMoveTimeout (t : TileNo) (s : State) : Out :=
  let due := fun (x : InProg) => (match x.wait with
    | .turnMove u _ => u == t.val
    | _ => false) && x.deadline.any fun d => decide (d ≤ s.tim.clk)
  match s.cmds.find? due with
  | none => .next s
  | some x => .next (State.reply { s with cmds := s.cmds.erase x } x.cmd x.op stTimeout [])

def State.turnReturnCmd (s : State) (c : Cmd) (t : Nat) (pass : Bool) : State :=
  let st := s.tstate t
  if s.dataSlots t ≠ [] ∨ st = 0 then s.reply c 0x8004 stBusy []
  else if st = 3 ∧ !pass then s.reply c 0x8004 stFault []
  else
    let s := if st = 3 then s.setFld klnMloss (t / 16) (putBits (s.fld klnMloss (t / 16)) (t % 16) (t % 16) 0) else s
    ((s.setTstate t 1).modTurn t fun x => { x with evac := none }).reply c 0x8004 stOk []

/-- TURN_RETURN (R424, R434): `pass` is the outcome of kiln's retest of a RETIRED tile. -/
def execTurnReturn (c : Cmd) (t : Nat) (pass : Bool) (s : State) : Out :=
  .next (s.runCmd c 0x8004 (leBytes 2 t) false fun s =>
    if 511 < t then s.badParam c 0x8004 0 else s.turnReturnCmd c t pass)

/-! ### Other commands (R434) -/

/-- GRV_LIMITS (R434). -/
def execGrvLimits (c : Cmd) (f tbmax rsv prio : Nat) (s : State) : Out :=
  .next (s.runCmd c 0x8001 (leBytes 1 f ++ leBytes 2 tbmax ++ leBytes 2 rsv ++ leBytes 1 prio) false fun s =>
    if 31 < f then s.badParam c 0x8001 0
    else if 15 < prio then s.badParam c 0x8001 5
    else (((s.setFld grvTbmax f tbmax).setFld grvRsv f rsv).setFld grvPrio f prio).reply c 0x8001 stOk [])

/-- GRV_STATUS (R434) (open points: log 69). -/
def execGrvStatus (c : Cmd) (first n : Nat) (s : State) : Out :=
  .next (s.runCmd c 0x8002 (leBytes 1 first ++ leBytes 1 n) false fun s =>
    if n = 0 ∨ 32 < n then s.badParam c 0x8002 1
    else if 32 < first + n then s.badParam c 0x8002 0
    else s.reply c 0x8002 stOk ((List.range n).flatMap fun i =>
      leBytes 8 (s.reg .GRV_FSTAT (first + i)) ++ leBytes 8 (s.reg .KLN_FLOOR (first + i))))

/-- KLN_RECAL (R434): of a fenced floor (open points: log 69). -/
def execKlnRecal (c : Cmd) (f : Nat) (s : State) : Out :=
  .next (s.runCmd c 0x8005 (leBytes 1 f) false fun s =>
    if 31 < f then s.badParam c 0x8005 0
    else if 3 ≤ s.fld nocState f then s.reply c 0x8005 stDomainOff []
    else if s.floorOpen f then s.reply c 0x8005 stBusy []
    else s.await c 0x8005 (.recal f) 0)

/-- KLN_RECAL_DONE (R434) (open points: log 69). -/
def execKlnRecalDone (f : FloorNo) (ok : Bool) (clo : Fin 51) (lost : BitVec 16) (s : State) : Out :=
  if s.waitsFor (.recal f) then
    .next ((s.calibrated f ok clo lost.toNat).finish (.recal f) (if ok then stOk else stFault) [])
  else .next s

end Sys2Proof.Machine
end

