-- ==== Sys2Proof/Machine/Batches.lean ====
section
/-! DEFINITION. The commands of the step generator (chapter "Tasks, batches and the hardware scheduler"). -/

namespace Sys2Proof.Machine

open Sys2Proof

/-- STEP_START (R204, R326). -/
def execStepStart (b : BatchNo) (s : State) : Out :=
  if s.tim.running ∧ s.flag bctlEn b ∧ s.reg .TMB_BNEXT b ≤ s.tim.now then .next (s.startStep b) else .next s

/-- One member's activation by a step: with OVR = 1 a member that is still busy is skipped and counted (R202, R204). -/
def State.stepTask (s : State) (b k : Nat) : State :=
  if s.flag bctlOvr b ∧ (s.tf tkPend k ≠ 0 ∨ s.tf tkRun k ≠ 0) then s.bumpFld ⟨.TMB_BOVR, 31, 16⟩ b else s.addOne k

/-- The step event is one that a pending freeze of its floor waits for, so FREEZE_TAKE_EFFECT comes first (R492)
(open points: log 87). -/
def State.freezeFirst (s : State) (p : Pkt) : Bool :=
  let z := s.frz p.dest
  decide (z.batch = some p.addr ∧ z.since ≤ p.sent)

/-- PKT_STEP (R204, R220, R297): the step event at a floor hub; one that does not come from the rim hub is dropped
(open points: log 17). -/
def execPktStep (p : Pkt) (s : State) : Out :=
  if s.arrived p ∧ p.op = .step ∧ p.dest < 32 ∧ !s.freezeFirst p then
    let s := s.takePkt p
    if s.fenced p then .next (s.fenceDrop p.dest)
    else if !lenOk p ∨ p.src < 544 then .next (s.bump .NOC_NOROUTE_DROP 0)
    else .next (((s.members p.addr).filter fun k => homeFloor k == p.dest).foldl (fun s k => s.stepTask p.addr k) s)
  else .next s

/-- BATCH_DEADLINE_CHECK (R206, R326). -/
def execBatchDeadlineCheck (b : BatchNo) (s : State) : Out :=
  if s.flag bctlEn b ∧ (s.batch b).step.any fun t => decide (t + s.reg .TMB_BDL b ≤ s.tim.now) then .next (s.batchCheck b)
  else .next s

/-- BATCH_ENABLE (R203, R222); it waits while a drain of the batch is pending (R447) (open points: log 26). -/
def execBatchEnable (c : Cmd) (b : BatchNo) (s : State) : Out :=
  if s.waitsFor (.batchDrain b) then .next s
  else .next (s.runCmd c 0x2006 (leBytes 1 b) true fun s =>
    if !s.cmdOwns c 3 b then s.reply c 0x2006 stNoPriv []
    else
      let s := s.enableBatch b
      if s.flag bctlErr b ∧ !s.flag bctlEn b then s.badParam c 0x2006 0 else s.reply c 0x2006 stOk [])

/-- The batch's EN is 0 and no drain of it is pending. -/
def State.batchOff (s : State) (b : Nat) : Bool := !s.flag bctlEn b && !s.waitsFor (.batchDrain b)

/-- BATCH_DISABLE in DRAIN mode (R221, R348). -/
def execBatchDisableDrain (c : Cmd) (b : BatchNo) (timeout : Nat) (s : State) : Out :=
  .next (s.runCmd c 0x2007 (leBytes 1 b ++ leBytes 1 0 ++ leBytes 2 timeout) true fun s =>
    if !s.cmdOwns c 3 b then s.reply c 0x2007 stNoPriv []
    else if s.batchOff b then s.reply c 0x2007 stOk []
    else (s.stopBatch b).await c 0x2007 (.batchDrain b) timeout)

/-- Every member cancelled; the rack set's entries discarded and its lanes safe when the batch fed it (R221, R348)
(open points: log 26). -/
def State.abortBatch (s : State) (b : Nat) : State :=
  let fed := s.flag bctlRsen b
  let s := s.stopBatch b
  let s := (s.members b).foldl State.cancelTask s
  if fed then (s.boundLanes (s.fld bctlRset b)).foldl State.laneAbort s else s

/-- BATCH_DISABLE in ABORT mode (R221, R348). -/
def execBatchDisableAbort (c : Cmd) (b : BatchNo) (timeout : Nat) (s : State) : Out :=
  .next (s.runCmd c 0x2007 (leBytes 1 b ++ leBytes 1 1 ++ leBytes 2 timeout) true fun s =>
    if !s.cmdOwns c 3 b then s.reply c 0x2007 stNoPriv []
    else if s.batchOff b then s.reply c 0x2007 stOk []
    else (((s.interim c 0x2007).finish (.batchDrain b) stAborted []).abortBatch b).reply c 0x2007 stOk [])

/-- The members' activations and the rack entries of the batch are complete (R221). -/
def State.batchIdle (s : State) (b : Nat) : Bool :=
  ((s.members b).all fun k => s.tf tkPend k == 0 && s.tf tkRun k == 0) &&
    (!s.flag bctlRsen b || (s.boundLanes (s.fld bctlRset b)).all fun l => (s.lane l).rack == [])

/-- BATCH_DRAIN_DONE (R221). -/
def execBatchDrainDone (b : BatchNo) (s : State) : Out :=
  if s.waitsFor (.batchDrain b) ∧ s.batchIdle b then .next (s.finish (.batchDrain b) stOk []) else .next s

/-- The read-write fields of TMB_BCTL but EN. -/
def State.bctlFields (s : State) (b v : Nat) : State :=
  (((s.setFld bctlOvr b (bits v 30 30)).setFld bctlRsen b (bits v 29 29)).setFld bctlRset b (bits v 23 16))

/-- TMB_BCTL written (R203, R221): EN = 1 enables or is refused, EN = 0 drains without a reply. -/
def State.bctlWrite (s : State) (b v : Nat) : State :=
  let feed := fun (s : State) => (s.flag bctlRsen b, s.fld bctlRset b)
  let old := feed s
  let s := s.bctlFields b v
  let s := if feed s = old then s else (s.boundLanes (s.fld bctlRset b)).foldl (fun s l => s.skipPast (· == b) l) s
  if bit v 31 then s.enableBatch b else if s.flag bctlEn b then (s.stopBatch b).drainOn (.batchDrain b) else s

/-- TMB_BCTL_EN_SET (R203). -/
def execTmbBctlEnSet (view : ViewNo) (b : BatchNo) (v : Word) (s : State) : Out :=
  if !s.owns view 3 b ∨ !v.getLsbD 31 then .next s else .next (s.bctlWrite b v.toNat)

/-- TMB_BCTL_EN_CLEAR (R221). -/
def execTmbBctlEnClear (view : ViewNo) (b : BatchNo) (v : Word) (s : State) : Out :=
  if !s.owns view 3 b ∨ v.getLsbD 31 then .next s else .next (s.bctlWrite b v.toNat)

end Sys2Proof.Machine
end

