-- ==== Sys2Proof/Machine/CellOps.lean ====
section
/-! DEFINITION. What a cell computes (chapter "Cells, number formats and operations"): the operation tables of R64 to R73 on
one operand set, and the lookup of R73 to R75. -/

namespace Sys2Proof.Machine

open Sys2Proof

/-- A computed result: Y (64 bits for a pair), P before PINV, flags, poison, and the history it leaves. -/
structure CRes where
  y : DWord
  p : Bool
  fl : Nat
  psn : Bool
  hist : List (DWord × Bool)
  deriving DecidableEq, Repr

/-- A result with no history and no flag. -/
def res (y : DWord) (p : Bool) (psn : Bool) : CRes := { y := y, p := p, fl := 0, psn := psn, hist := [] }

def w32 (w : DWord) : Word := w.setWidth 32
def i32 (w : DWord) : Int := (w32 w).toInt
def d64 (n : Nat) : DWord := BitVec.ofNat 64 n
def of32 (w : Word) : DWord := w.setWidth 64

/-- A floating-point result, which is neither saturated nor clamped: P = 0 (R64). -/
def fres (r : FRes) (psn : Bool) : CRes := { y := d64 r.v, p := false, fl := r.fl, psn := psn, hist := [] }

/-- A fixed-point result with P = saturated. -/
def satRes (r : Word × Bool) (psn : Bool) : CRes := res (of32 r.1) r.2 psn

/-- Poison of the operand words the operation reads, and of the reset word C where it is read (R63). -/
def opPsn (g : CellCfg) (o : OpSet) : Bool :=
  (opPorts g.opc g.csrc).any fun p => if p = 0 then o.psnA else if p = 1 then o.psnB else if p = 2 then o.psnC else o.psnD

/-- Shift count of R65. -/
def shiftCount (g : CellCfg) (o : OpSet) : Nat := if g.bsrc = 3 then g.imm5 else (w32 o.b).toNat % 32

/-- The limit |x| of INTG as an integer. -/
def absInt (w : DWord) : Int := (i32 w).natAbs

/-- ADD to CLAMP in .I (R55, R64). -/
def arithI (g : CellCfg) (o : OpSet) (psn : Bool) : CRes :=
  let a := i32 o.a
  let b := i32 o.b
  let c := i32 o.c
  let f := fixI g.sat
  if g.opc = opAdd then satRes (f (a + b)) psn
  else if g.opc = opSub then satRes (f (a - b)) psn
  else if g.opc = opMul then satRes (f (a * b)) psn
  else if g.opc = opFma then satRes (f (a * b + c)) psn
  else if g.opc = opFms then satRes (f (c - a * b)) psn
  else if g.opc = opNeg then satRes (f (-a)) psn
  else if g.opc = opAbs then satRes (f a.natAbs) psn
  else if g.opc = opMin then res (of32 (BitVec.ofInt 32 (min a b))) false psn
  else if g.opc = opMax then res (of32 (BitVec.ofInt 32 (max a b))) false psn
  else res (of32 (BitVec.ofInt 32 (min (max a b) c))) (decide (a < b) || decide (c < max a b)) psn

/-- FMA to CLAMP and QADD to QSHR in .Q (R56, R64, R65). -/
def arithQ (g : CellCfg) (o : OpSet) (psn : Bool) : CRes :=
  let a := i32 o.a
  let b := i32 o.b
  let c := i32 o.c
  let sc : Int := (2 ^ g.qpt : Nat)
  let k := shiftCount g o
  if g.opc = opFma then satRes (sat32 (roundFix (a * b + c * sc) g.qpt g.rnd)) psn
  else if g.opc = opFms then satRes (sat32 (roundFix (c * sc - a * b) g.qpt g.rnd)) psn
  else if g.opc = opNeg then satRes (sat32 (-a)) psn
  else if g.opc = opAbs then satRes (sat32 a.natAbs) psn
  else if g.opc = opMin then res (of32 (BitVec.ofInt 32 (min a b))) false psn
  else if g.opc = opMax then res (of32 (BitVec.ofInt 32 (max a b))) false psn
  else if g.opc = opClamp then
    res (of32 (BitVec.ofInt 32 (min (max a b) c))) (decide (a < b) || decide (c < max a b)) psn
  else if g.opc = opQadd then satRes (sat32 (a + b)) psn
  else if g.opc = opQsub then satRes (sat32 (a - b)) psn
  else if g.opc = opQmul then satRes (sat32 (roundFix (a * b) g.qpt g.rnd)) psn
  else if g.opc = opQshl then satRes (sat32 (a * (2 ^ k : Nat))) psn
  else res (of32 (BitVec.ofInt 32 (roundFix a k g.rnd))) false psn

/-- ADD to CLAMP in .F or .D (R57 to R60, R64). -/
def arithF (m : Fmt) (g : CellCfg) (o : OpSet) (psn : Bool) : CRes :=
  let a := o.a.toNat
  let b := o.b.toNat
  let c := o.c.toNat
  if g.opc = opAdd then fres (m.add g.rnd a b) psn
  else if g.opc = opSub then
    fres (match m.unpack b with
      | .nan _ => m.add g.rnd a b
      | _ => m.add g.rnd a (m.neg b)) psn
  else if g.opc = opMul then fres (m.mul g.rnd a b) psn
  else if g.opc = opFma then fres (m.fma g.rnd false a b c) psn
  else if g.opc = opFms then fres (m.fma g.rnd true a b c) psn
  else if g.opc = opNeg then res (d64 (m.neg a)) false psn
  else if g.opc = opAbs then res (d64 (m.abs a)) false psn
  else if g.opc = opMin then fres (m.minmax false a b).1 psn
  else if g.opc = opMax then fres (m.minmax true a b).1 psn
  else
    let (r, p) := m.clamp a b c
    { y := d64 r.v, p := p, fl := r.fl, psn := psn, hist := [] }

/-- AND to ROT (R64, R65). -/
def logicOp (g : CellCfg) (o : OpSet) (psn : Bool) : CRes :=
  let a := w32 o.a
  let b := w32 o.b
  let k := shiftCount g o
  let y := if g.opc = opAnd then a &&& b else if g.opc = opOr then a ||| b else if g.opc = opXor then a ^^^ b
    else if g.opc = opNot then ~~~a else if g.opc = opShl then a <<< k else if g.opc = opShr then a >>> k
    else if g.opc = opSar then a.sshiftRight k else a.rotateLeft k
  res (of32 y) false psn

/-- CMPLT to CMPEQ (R64): the condition before PINV is `p`; Y is formed after PINV. -/
def compareOp (g : CellCfg) (o : OpSet) (psn : Bool) : CRes :=
  let (cond, fl) : Bool × Nat :=
    if g.fmt = fmtI ∨ g.fmt = fmtQ then
      let a := i32 o.a
      let b := i32 o.b
      (if g.opc = opCmplt then decide (a < b) else if g.opc = opCmple then decide (a ≤ b) else decide (a = b), 0)
    else
      let m := if g.fmt = fmtD then f64 else f32
      let x := m.unpack o.a.toNat
      let y := m.unpack o.b.toNat
      if x.isNan ∨ y.isNan then
        (false, if g.opc = opCmpeq then (if x.isSig ∨ y.isSig then fIV else 0) else fIV)
      else
        let a := m.cmpKey o.a.toNat
        let b := m.cmpKey o.b.toNat
        (if g.opc = opCmplt then decide (a < b) else if g.opc = opCmple then decide (a ≤ b) else decide (a = b), 0)
  let pv := cond ^^ g.pinv
  { y := if pv then (if g.fmt = fmtD then 0xFFFF_FFFF_FFFF_FFFF#64 else 0xFFFF_FFFF#64) else 0#64,
    p := cond, fl := fl, psn := psn, hist := [] }

/-- SEL2, SEL4, MUX2: the selected word and its poison only (R63, R66). -/
def selectOp (g : CellCfg) (o : OpSet) : CRes :=
  if g.opc = opSel2 then (if o.e then res o.b false o.psnB else res o.a false o.psnA)
  else if g.opc = opSel4 then
    match o.sel.toNat / 2 ^ g.imm5 % 4 with
    | 0 => res o.a false o.psnA
    | 1 => res o.b false o.psnB
    | 2 => res o.c false o.psnC
    | _ => res o.d false o.psnD
  else if o.sel.toNat / 2 ^ g.imm5 % 2 = 0 then res o.a false o.psnA else res o.b false o.psnB

/-- I2F to RSQS (R64, R68). -/
def convOp (g : CellCfg) (o : OpSet) (psn : Bool) : CRes :=
  let a := (w32 o.a).toNat
  if g.opc = opI2f then fres (f32.ofFix g.rnd (i32 o.a) 0) psn
  else if g.opc = opF2i then
    let (v, fl, p) := floatToFix a 0 (if g.rnd then 1 else 0)
    { y := of32 v, p := p, fl := fl, psn := psn, hist := [] }
  else if g.opc = opQ2f then fres (f32.ofFix g.rnd (i32 o.a) g.qpt) psn
  else if g.opc = opF2q then
    let (v, fl, p) := floatToFix a g.qpt (if g.rnd then 2 else 0)
    { y := of32 v, p := p, fl := fl, psn := psn, hist := [] }
  else if g.opc = opF2d then fres (convFmt f32 f64 g.rnd a) psn
  else if g.opc = opD2f then
    let r := convFmt f64 f32 g.rnd o.a.toNat
    { y := d64 (r.v + 2 ^ 32 * r.v), p := false, fl := r.fl, psn := psn, hist := [] }
  else if g.opc = opRcps then fres (rcps a) psn
  else fres (rsqs a) psn

/-- Latch and history of a stateful operation at the start (R46, R67): K0, K1 as the constants stand. -/
def cellInit (g : CellCfg) (k1 : DWord) : DWord × List (DWord × Bool) :=
  if g.opc = opAcc then (k1, [])
  else if g.opc = opDiff then (0#64, [(k1, false)])
  else if g.opc = opDelay then (0#64, List.replicate (g.imm5 % 8 + 1) (k1, false))
  else (0#64, [])

/-- ACC to PASS (R67): the latch `y0` (with its poison) and history go in, the new ones come out (open points: log 29). -/
def streamOp (g : CellCfg) (o : OpSet) (y0 : DWord) (p0 : Bool) (hist : List (DWord × Bool)) (psn : Bool) : CRes :=
  let reset := decide (g.csrc = 0) && decide (o.c ≠ 0#64)
  let (y, py, h) := if reset ∧ g.opc ≠ opPass then ((cellInit g o.k1).1, false, (cellInit g o.k1).2) else (y0, p0, hist)
  if g.opc = opAcc then
    if g.fmt = fmtI then satRes (fixI g.sat (i32 y + i32 o.a)) (psn || py)
    else if g.fmt = fmtQ then satRes (sat32 (i32 y + i32 o.a)) (psn || py)
    else fres (f32.add g.rnd (w32 y).toNat (w32 o.a).toNat) (psn || py)
  else if g.opc = opDiff then
    let (hv, hp) := h.headD (o.k1, false)
    let r := if g.fmt = fmtI then satRes (fixI g.sat (i32 o.a - i32 hv)) (psn || hp)
      else if g.fmt = fmtQ then satRes (sat32 (i32 o.a - i32 hv)) (psn || hp)
      else arithF f32 { g with opc := opSub } { o with b := hv } (psn || hp)
    { r with hist := [(o.a, o.psnA)] }
  else if g.opc = opIntg then
    if g.fmt = fmtF then
      let r := f32.fma g.rnd false (w32 o.k0).toNat (w32 o.a).toNat (w32 y).toNat
      let lim := f32.abs (w32 o.k1).toNat
      let (c, p) := f32.clamp r.v (f32.neg lim) lim
      { y := d64 c.v, p := p, fl := r.fl ||| c.fl, psn := psn || py, hist := [] }
    else
      let v := if g.fmt = fmtI then i32 y + i32 o.k0 * i32 o.a
        else roundFix (i32 y * (2 ^ g.qpt : Nat) + i32 o.k0 * i32 o.a) g.qpt g.rnd
      let lim := absInt o.k1
      let c := min (max v (-lim)) lim
      let r := if g.fmt = fmtI then fixI g.sat c else sat32 c
      res (of32 r.1) (decide (v < -lim) || decide (lim < v)) (psn || py)
  else if g.opc = opDelay then
    let (v, hp) := h.getLastD (o.k1, false)
    { res v false (psn || hp) with hist := (o.a, o.psnA) :: h.dropLast }
  else if g.opc = opCount then
    let v := (fixI g.sat (i32 y + 1)).1
    if v = w32 o.k0 ∧ w32 o.k0 ≠ 0#32 then res 0#64 true (psn || py) else res (of32 v) false (psn || py)
  else res o.a false psn

/-! ### Lookup (R73 to R76) -/

/-- x outside 0 to LEN, the segment and the fraction f over 2^s: i, f, s; or a point value. -/
inductive LutAt where
  | seg (i : Int) (neg : Bool) (m : Nat) (e : Int)
  | point (i : Int)
  | infSeg (i : Int) (neg : Bool)
  | unknown
  deriving DecidableEq, Repr

/-- The floor of a dyadic number, and the rest, over the common exponent. -/
def dyFloor (neg : Bool) (m : Nat) (e : Int) : Int × Nat × Int :=
  let e0 := min e 0
  let v := dyInt neg m e e0
  let one : Int := (2 ^ (-e0).toNat : Nat)
  (v / one, (v % one).toNat, e0)

/-- Where x falls in a table of LEN segments under EDGE (R74), and whether it lay outside 0 to LEN (open points: log 29). -/
def lutPlace (edge len : Nat) (neg : Bool) (m : Nat) (e : Int) : LutAt × Bool :=
  let e0 := min e 0
  let v := dyInt neg m e e0
  let one : Int := (2 ^ (-e0).toNat : Nat)
  let out := decide (v < 0) || decide ((len : Int) * one < v)
  let segOf := fun (v : Int) => LutAt.seg (v / one) false (v % one).toNat e0
  if !out then (segOf v, false)
  else if edge = 1 then
    if v < 0 then (.seg 0 true v.natAbs e0, true) else (.seg (len - 1) false (v - ((len : Int) - 1) * one).toNat e0, true)
  else if edge = 2 then (segOf (v - (len : Int) * one * (v / ((len : Int) * one))), true)
  else if v < 0 then (.point 0, true) else (.point len, true)

/-- A table entry as stored: value, uncorrectable, fresh (R75). -/
def State.lutEntry (s : State) (t : Nat) (word : Int) : Nat × Bool × Bool :=
  let off := (word % 131072).toNat * 4
  let l := s.peekN t off 4
  (leNat (l.map (·.1)), l.any (·.2), s.fresh (s.phys t off))

/-- The effects of a table read: ECC counters and logs (requester 3), and event 0x1003 for a fresh line with FTRAP (R75). -/
def State.lutNote (s : State) (t k c : Nat) (word : Int) : State :=
  let off := (word % 131072).toNat * 4
  let s := s.noteRead t off 4 3 k
  if s.fresh (s.phys t off) ∧ s.flag slotFtrap (8 * t + k) then
    s.raise 0x1003 1 (locTile t k c) (memData off 3 (15 * 2 ^ (off % 8)) 0x80 k (s.physPage t (off / 4096)))
  else s

/-- LUT (R73 to R75): the result and the state after its table reads (open points: log 29). -/
def State.lutOp (s : State) (t k c : Nat) (g : CellCfg) (o : OpSet) (psn : Bool) : CRes × State :=
  let d := o.lut.toNat
  let base : Int := (bits d 16 0 : Nat)
  let len := max (bits d 47 32) 1
  let edge := bits d 61 60
  let x : FRes := if g.fmt = fmtF then f32.fma g.rnd false (w32 o.a).toNat (w32 o.k0).toNat (w32 o.k1).toNat
    else ⟨(sat32 (roundFix (i32 o.a * i32 o.k0 + i32 o.k1 * (2 ^ g.qpt : Nat)) g.qpt g.rnd)).1.toNat, 0⟩
  let xv : FVal := if g.fmt = fmtF then f32.unpack x.v
    else let v := (BitVec.ofNat 32 x.v).toInt; .fin (decide (v < 0)) v.natAbs (-(g.qpt : Int))
  let (place, out, fl) : LutAt × Bool × Nat := match xv with
    | .nan _ => (.point 0, false, fIV)
    | .inf n => (if edge = 1 then .infSeg (if n then 0 else len - 1) n else if edge = 2 then .unknown
        else .point (if n then 0 else len), true, 0)
    | .fin n m e => let (p, o) := lutPlace edge len n m e; (p, o, 0)
  let i : Int := match place with
    | .seg i _ _ _ | .point i | .infSeg i _ => i
    | .unknown => 0
  let (t0, u0, _) := s.lutEntry t (base + i)
  let (t1, u1, _) := s.lutEntry t (base + i + 1)
  let s := (s.lutNote t k c (base + i)).lutNote t k c (base + i + 1)
  let ue := u0 || u1
  let fl := x.fl ||| fl ||| (if ue then fIV else 0)
  let mk := fun (v : Nat) (f2 : Nat) =>
    ({ y := d64 v, p := out, fl := fl ||| f2, psn := psn || ue, hist := [] } : CRes)
  match place with
  | .point _ => (mk (if g.fmt = fmtF ∧ (f32.unpack t0).isNan then f32.qnan else t0) 0, s)
  | .unknown => let (v, s) := s.fresh64; (mk (v.toNat % 2 ^ 32) 0, s)
  | .infSeg _ n =>
    let df := f32.add g.rnd t1 (f32.neg t0)
    let r := f32.fma g.rnd false ((if n then f32.signBit else 0) + f32.infBits) df.v t0
    (mk r.v (df.fl ||| r.fl), s)
  | .seg _ n m e =>
    if g.fmt = fmtF then
      let df := match f32.unpack t0 with
        | .nan _ => f32.add g.rnd t1 t0
        | _ => f32.add g.rnd t1 (f32.neg t0)
      match f32.unpack df.v, f32.unpack t0 with
      | .fin nd md ed, .fin n0 m0 e0 =>
        let r := f32.addDy g.rnd (n ^^ nd) (m * md) (e + ed) n0 m0 e0
        (mk r.v (df.fl ||| r.fl), s)
      | .inf nd, v0 =>
        let clash : Bool := match v0 with
          | .inf n0 => n0 != (n ^^ nd)
          | _ => false
        if decide (m = 0) || clash then (mk f32.qnan (df.fl ||| fIV), s)
        else (mk ((if n ^^ nd then f32.signBit else 0) + f32.infBits) df.fl, s)
      | _, _ => (mk f32.qnan df.fl, s)
    else
      let a0 := (BitVec.ofNat 32 t0).toInt
      let a1 := (BitVec.ofNat 32 t1).toInt
      let df := (sat32 (a1 - a0)).1.toInt
      let sh := (-(min e 0)).toNat
      let f := dyInt n m e (min e 0)
      (mk (sat32 (roundFix (a0 * (2 ^ sh : Nat) + f * df) sh g.rnd)).1.toNat 0, s)

/-- One operand set computed (R64 to R75). -/
def State.compute (s : State) (t k c : Nat) (g : CellCfg) (o : OpSet) (y0 : DWord) (p0 : Bool)
    (hist : List (DWord × Bool)) : CRes × State :=
  let psn := opPsn g o
  if g.opc = opLut then s.lutOp t k c g o psn
  else if g.opc < 0x10 then
    (if g.fmt = fmtI then arithI g o psn else if g.fmt = fmtQ then arithQ g o psn
     else arithF (if g.fmt = fmtD then f64 else f32) g o psn, s)
  else if g.opc < 0x20 then (arithQ g o psn, s)
  else if g.opc < 0x30 then (logicOp g o psn, s)
  else if g.opc < 0x40 then (compareOp g o psn, s)
  else if g.opc < 0x50 then (selectOp g o, s)
  else if g.opc < 0x60 then (convOp g o psn, s)
  else (streamOp g o y0 p0 hist psn, s)

end Sys2Proof.Machine
end

