-- ==== Sys2Proof/Machine/Cells.lean ====
section
/-! DEFINITION. A cell accepts an operand set and emits a result (R44 to R76). -/

namespace Sys2Proof.Machine

open Sys2Proof

/-- Constants of a cell (R53): K0 and K1 stand in TIL_K0 and TIL_K1; TIL_KPAIR is their pair. -/
def State.k0 (s : State) (t k c : Nat) : Nat := s.reg .TIL_K0 (128 * t + 16 * k + c)
def State.k1 (s : State) (t k c : Nat) : Nat := s.reg .TIL_K1 (128 * t + 16 * k + c)

/-- The slot index of a wire's key: a lane belongs to no slot. -/
def wireSlot (w : Wire) (k : Nat) : Nat := if (wireTile w).isSome then k else 0

/-- The word at port `p` (R47): a constant, or the token offered there; none when it must wait. -/
def State.portWord (s : State) (t k c p : Nat) : Option Tok :=
  let g := decodeCfg (s.cellCfg t k c)
  let src := if p = 0 then g.asrc else if p = 1 then g.bsrc else if p = 2 then g.csrc else 0
  if p < 3 ∧ src = 1 then some ⟨BitVec.ofNat 32 (s.k0 t k c), false⟩
  else if p < 3 ∧ src = 2 then some ⟨BitVec.ofNat 32 (s.k1 t k c), false⟩
  else if p < 3 ∧ src = 3 then some ⟨0#32, false⟩
  else match s.portWire k t c p with
    | none => none
    | some w => s.offered w (wireSlot w k) (.port t c k p)

/-- The token at port `p` taken from its driver; a constant takes nothing. -/
def State.takePort (s : State) (t k c p : Nat) : State :=
  match s.portWire k t c p with
  | none => s
  | some w => s.serve w (wireSlot w k) (.port t c k p)

/-- Ports a cell reads for a firing: word ports, then E (4) and the select lane (5). -/
def firePorts (g : CellCfg) : List Nat :=
  opPorts g.opc g.csrc ++ (if g.readsE then [4] else []) ++ (if g.readsSel then [5] else [])

/-- The words at the ports a cell reads; none when one must wait (R47). -/
def State.fireWords (s : State) (t k c : Nat) : Option (List (Nat × Tok)) :=
  (firePorts (decodeCfg (s.cellCfg t k c))).foldr (fun p acc => match acc, s.portWord t k c p with
    | some l, some w => some ((p, w) :: l)
    | _, _ => none) (some [])

def wordOf (l : List (Nat × Tok)) (p : Nat) : Tok := ((l.find? (·.1 = p)).map (·.2)).getD ⟨0#32, false⟩

/-- The operand set of one cell. -/
def State.opSet (s : State) (t k c : Nat) (g : CellCfg) (l : List (Nat × Tok)) : OpSet :=
  let w := wordOf l
  { a := of32 (w 0).v, b := of32 (w 1).v, c := of32 (w 2).v, d := of32 (w 3).v, e := (w 4).v.getLsbD 0, sel := (w 5).v,
    k0 := d64 (s.k0 t k c), k1 := d64 (s.k1 t k c), lut := d64 (s.reg .TIL_LUT (64 * t + 8 * k + g.imm5 % 8)),
    psn := false, psnA := (w 0).psn, psnB := (w 1).psn, psnC := (w 2).psn, psnD := (w 3).psn }

/-- Two halves of a .D operand set (R70): the even cell holds bits [31:0], the odd cell [63:32]. -/
def pairSet (lo hi : OpSet) : OpSet :=
  let j := fun (x y : DWord) => x ||| (y <<< 32)
  { lo with
      a := j lo.a hi.a, b := j lo.b hi.b, c := j lo.c hi.c, d := j lo.d hi.d, k0 := j lo.k0 hi.k0, k1 := j lo.k1 hi.k1
      psnA := lo.psnA || hi.psnA, psnB := lo.psnB || hi.psnB, psnC := lo.psnC || hi.psnC, psnD := lo.psnD || hi.psnD }

/-- A cell's output channels are free (R47). -/
def State.outFree (s : State) (t k c : Nat) : Bool :=
  (s.held (.y (tN t) (cN c)) k).isNone && (s.held (.p (tN t) (cN c)) k).isNone

/-- One cell, or the pair it leads, can fire in slot `k`: its operand set. -/
def State.fireSet (s : State) (t k c : Nat) : Option OpSet :=
  let g := decodeCfg (s.cellCfg t k c)
  let busy := issueTwo g.opc g.fmt && (s.cell t k c).ops ≠ []
  if !g.used ∨ !opListed g.opc g.fmt ∨ !s.outFree t k c ∨ busy then none
  else if g.fmt = fmtD then
    if c % 2 = 1 ∨ !s.outFree t k (c + 1) then none
    else if g.opc = opF2d then (s.fireWords t k c).map fun l => s.opSet t k c g l
    else match s.fireWords t k c, s.fireWords t k (c + 1) with
      | some l, some h => some (pairSet (s.opSet t k c g l) (s.opSet t k (c + 1) (decodeCfg (s.cellCfg t k (c + 1))) h))
      | _, _ => none
  else (s.fireWords t k c).map fun l => s.opSet t k c g l

/-- The tokens of a firing taken from their drivers. -/
def State.takeAll (s : State) (t k c : Nat) : State :=
  let g := decodeCfg (s.cellCfg t k c)
  let s := (firePorts g).foldl (fun s p => s.takePort t k c p) s
  if g.fmt = fmtD ∧ g.opc ≠ opF2d then
    (firePorts (decodeCfg (s.cellCfg t k (c + 1)))).foldl (fun s p => s.takePort t k (c + 1) p) s
  else s

/-- CELL_FIRE (R47, R53, R66, R70): the cell takes one token from each port it reads and accepts the operand set. -/
def execCellFire (t : TileNo) (c : CellNo) (s : State) : Out :=
  match s.active t with
  | none => .next s
  | some k =>
    if !s.cellsRun t k then .next s
    else match s.fireSet t k c with
      | none => .next s
      | some o =>
        let x := s.cell t k c
        .next ((s.takeAll t k c).setCell t k c { x with ops := x.ops ++ [o] })

/-- Exception flags of a slot set, with event 0x3108 when IV rises under IVEV (R61, R62). -/
def State.setFpx (s : State) (t k c fl : Nat) : State :=
  let i := 8 * t + k
  let old := s.reg .TIL_FPX i
  let s' := s.setReg .TIL_FPX i (old ||| (fl % 32))
  if bit fl 0 ∧ !bit old 0 ∧ bit old 8 then s'.raise 0x3108 1 (locTile t k c) 0 else s'

/-- Y and P of a result offered on the cell's channels (R48, R95) (open points: log 29). -/
def State.offerResult (s : State) (t k c : Nat) (y : Tok) (p : Option Bool) : State :=
  let s := s.offer (.y (tN t) (cN c)) k y
  match p with
  | some b => s.offer (.p (tN t) (cN c)) k ⟨BitVec.ofNat 32 (b2n b), false⟩
  | none => s

/-- The emission of one operand set: latch, history, flags and tokens (R45, R48, R52, R63). A .D pair follows the record of its
even cell (R70) (open points: log 14). -/
def State.emit (s : State) (t k c : Nat) (o : OpSet) (rest : List OpSet) : State :=
  let g := decodeCfg (s.cellCfg t k c)
  let pair := decide (g.fmt = fmtD)
  let x := { s.cell t k c with ops := rest }
  let hiL := (s.cell t k (c + 1)).latch
  let y0 : DWord := of32 x.latch.v ||| (if pair then of32 hiL.v <<< 32 else 0#64)
  if g.emode = 1 ∧ !o.e then s.setCell t k c x
  else if g.emode = 2 ∧ !o.e then
    let s := (s.setCell t k c x).offerResult t k c x.latch (if g.pen then some false else none)
    if pair then s.offerResult t k (c + 1) hiL none else s
  else
    let (r, s) := s.compute t k c g o y0 (x.latch.psn || (pair && hiL.psn)) x.hist
    let lo : Tok := ⟨r.y.setWidth 32, r.psn⟩
    let hi : Tok := ⟨(r.y >>> 32).setWidth 32, r.psn⟩
    let s := s.setCell t k c { latch := lo, hist := r.hist, ops := rest }
    let s := s.setFpx t k c r.fl
    let s := s.offerResult t k c lo (if g.pen then some (r.p ^^ g.pinv) else none)
    if pair then
      let xo := s.cell t k (c + 1)
      (s.setCell t k (c + 1) { xo with latch := hi }).offerResult t k (c + 1) hi none
    else s

/-- CELL_RESULT_EMIT (R48, R50): the oldest accepted operand set of the slot gives its result, into the slot's own latch and
channels whatever slot the tile runs now. -/
def execCellResultEmit (t : TileNo) (c : CellNo) (k : SlotNo) (s : State) : Out :=
  match (s.cell t k c).ops with
  | [] => .next s
  | o :: rest =>
    let g := decodeCfg (s.cellCfg t k c)
    if decide (s.fld nocState (t / 16) ≤ 1 ∧ (s.floor (t / 16)).offWhy ≠ 2) && s.outFree t k c && (g.fmt ≠ fmtD || s.outFree t k (c + 1)) then .next (s.emit t k c o rest) else .next s

end Sys2Proof.Machine
end

