-- ==== Sys2Proof/Machine/Racks.lean ====
section
/-! DEFINITION. The commands of racks and lanes (chapter "Timebase, capture and racking"). -/

namespace Sys2Proof.Machine

open Sys2Proof

/-- RACK_PORT_WORD (R334, R335): a bridge word at the rim hub is accepted by the rack port that its DPORT names. -/
def execRackPortWord (p : Pkt) (s : State) : Out :=
  if s.arrived p ∧ p.op = .bridge ∧ p.dest = 32 ∧ p.addr < 32 ∧ !s.pairBusy p.addr then
    let s := (s.takePkt p).returnCredit p
    .next (s.rackWord p.addr ⟨BitVec.ofNat 32 (leNat (p.data.map (·.getD 0#8))), p.psn % 2 = 1⟩)
  else .next s

/-- What is due on lane `l` by release time `r` carried out, at most `n` times. -/
def State.releaseUpTo (s : State) (l r : Nat) : Nat → State
  | 0 => s
  | n + 1 => if (s.laneDue l).any fun d => decide (d ≤ r) then (s.laneRelease l).releaseUpTo l r n else s

/-- The setpoint words of the link of frame lane `l` released up to `r`: a frame carries those released at its own release
time (R333, R378). -/
def State.setpointsFirst (s : State) (l r : Nat) : State :=
  if 512 ≤ l ∧ l < 560 then (List.range 4).foldl (fun s k => s.releaseUpTo (592 + 4 * (l - 512) + k) r 8) s else s

/-- RACK_RELEASE (R326, R333): the first entry or miss action of the lane whose release time has come. -/
def execRackRelease (l : LaneNo) (s : State) : Out :=
  match s.laneDue l with
  | none => .next s
  | some r => if r ≤ s.tim.now then .next ((s.setpointsFirst l r).laneRelease l) else .next s

/-- RACK_DEADLINE_CHECK (R326, R341). -/
def execRackDeadlineCheck (l : LaneNo) (s : State) : Out := .next (s.checkNext l)

/-- A range of a first item and a count, checked (R444): the offset of the byte found wrong. The first item takes 2 bytes. -/
def rangeFault (first n most limit : Nat) : Option Nat :=
  if n = 0 ∨ most < n then some 2 else if limit ≤ first then some 0 else if limit < first + n then some 2 else none

/-- The view of a command owns every lane of a range (R352, R458). -/
def State.ownsLanes (s : State) (c : Cmd) (first n : Nat) : Bool := (List.range n).all fun i => s.cmdOwns c 4 (first + i)

def State.rackPutCmd (s : State) (c : Cmd) (l te fine r : Nat) (v : Word) (psn : Nat) : State :=
  let op := 0x5003
  if 1 < te then s.badParam c op 2
  else if 7 < fine then s.badParam c op 3
  else if 1 < psn then s.badParam c op 16
  else if l < 784 ∧ !s.cmdOwns c 4 l then s.reply c op stNoPriv []
  else
    let t := if te = 1 then some r else if l < 784 then s.setTime l else none
    let (res, s) := s.accept 0xFF l true t fine v (psn == 1) (te == 0)
    if res = 0 then s.reply c op stOk []
    else if res = 1 then s.badParam c op 0
    else if res = 2 then s.badParam c op (if te = 1 then 4 else 0)
    else s.reply c op stBusy []

/-- RACK_PUT (R352). -/
def execRackPut (c : Cmd) (l te fine : Nat) (r : DWord) (v : Word) (psn : Nat) (s : State) : Out :=
  .next (s.runCmd c 0x5003 (leBytes 2 l ++ leBytes 1 te ++ leBytes 1 fine ++ leBytes 8 r.toNat ++ leBytes 4 v.toNat ++
    leBytes 1 psn) true fun s => s.rackPutCmd c l te fine r.toNat v psn)

/-- CONSEC zero and a STICKY hold of lane `l` ended (R352) (open points: log 58). -/
def State.clearLane (s : State) (l : Nat) : State :=
  let s := (s.setFld lstatConsec l 0).refreshMsrc l
  let x := s.lane l
  if !x.sticky then s
  else
    let s := s.setLane l { x with sticky := false, safe := false }
    if l < 512 then s.refreshPair l s.now8
    else if 592 ≤ l then s.setReg .FIO_VLSP (l - 592) (x.last.getD 0#32).toNat
    else s

def State.rackClearCmd (s : State) (c : Cmd) (first n : Nat) : State :=
  match rangeFault first n 784 784 with
  | some o => s.badParam c 0x5004 o
  | none =>
    if !s.ownsLanes c first n then s.reply c 0x5004 stNoPriv []
    else ((List.range n).foldl (fun s i => s.clearLane (first + i)) s).reply c 0x5004 stOk []

/-- RACK_CLEAR (R343, R352). -/
def execRackClear (c : Cmd) (first n : Nat) (s : State) : Out :=
  .next (s.runCmd c 0x5004 (leBytes 2 first ++ leBytes 2 n) true fun s => s.rackClearCmd c first n)

/-- The checks of LANE_DISABLE; a range that is off already replies OK (R221). -/
def State.laneDisableCmd (s : State) (c : Cmd) (first n : Nat) (go : State → State) : State :=
  let op := 0x5005
  match rangeFault first n 784 784 with
  | some o => s.badParam c op o
  | none =>
    if !s.ownsLanes c first n then s.reply c op stNoPriv []
    else if (List.range n).all fun i => !s.flag laneEn (first + i) then s.reply c op stOk []
    else go s

/-- LANE_DISABLE in DRAIN mode (R351): intake stops and checks are suspended. -/
def execLaneDisableDrain (c : Cmd) (first n timeout : Nat) (s : State) : Out :=
  .next (s.runCmd c 0x5005 (leBytes 2 first ++ leBytes 2 n ++ leBytes 1 0 ++ leBytes 2 timeout) true fun s =>
    s.laneDisableCmd c first n fun s =>
      ((List.range n).foldl (fun s i => s.modLane (first + i) fun x => { x with drain := true }) s).await c 0x5005
        (.laneDrain first n) timeout)

/-- The wait is a DRAIN of a lane in the range. -/
def drainsLane (first n : Nat) : CmdWait → Bool
  | .laneDrain f m => decide (f < first + n ∧ first < f + m)
  | _ => false

/-- LANE_DISABLE in ABORT mode (R221, R351). -/
def execLaneDisableAbort (c : Cmd) (first n timeout : Nat) (s : State) : Out :=
  .next (s.runCmd c 0x5005 (leBytes 2 first ++ leBytes 2 n ++ leBytes 1 1 ++ leBytes 2 timeout) true fun s =>
    s.laneDisableCmd c first n fun s =>
      let s := (s.interim c 0x5005).finishWhere (drainsLane first n) stAborted
      ((List.range n).foldl (fun s i => s.laneOff (first + i)) s).reply c 0x5005 stOk [])

/-- LANE_DRAIN_DONE (R351). -/
def execLaneDrainDone (first n : Nat) (s : State) : Out :=
  if s.waitsFor (.laneDrain first n) ∧
      (List.range n).all fun i => (s.lane (first + i)).rack == [] && (s.lane (first + i)).misses == [] then
    .next (((List.range n).foldl (fun s i => s.laneOff (first + i)) s).finish (.laneDrain first n) stOk [])
  else .next s

/-- RAK_LSTAT as it reads (R350) (open points: log 59). -/
def State.lstatView (s : State) (l : Nat) : Nat :=
  let x := s.lane l
  s.reg .RAK_LSTAT l + x.rack.length * 2 ^ 23 + b2n (x.safe || x.sticky) * 2 ^ 31

def State.rackStatusCmd (s : State) (c : Cmd) (first n : Nat) : State :=
  match rangeFault first n 64 784 with
  | some o => s.badParam c 0x5006 o
  | none =>
    if !s.ownsLanes c first n then s.reply c 0x5006 stNoPriv []
    else s.reply c 0x5006 stOk (((List.range n).map fun i =>
      leBytes 8 (s.reg .RAK_LANE (first + i)) ++ leBytes 4 (s.lstatView (first + i))).flatten)

/-- RACK_STATUS (R352). -/
def execRackStatus (c : Cmd) (first n : Nat) (s : State) : Out :=
  .next (s.runCmd c 0x5006 (leBytes 2 first ++ leBytes 1 n) true fun s => s.rackStatusCmd c first n)

end Sys2Proof.Machine
end

