-- ==== Sys2Proof/Machine/FieldIn.lean ====
section
/-! DEFINITION. The commands of the field inputs (chapter "Field inputs and outputs"). -/

namespace Sys2Proof.Machine

open Sys2Proof

/-- SAMPLE_READY (R359, R361). -/
def execSampleReady (n : Fin 496) (s : State) : Out := .next (s.sampleReady n)

/-- STREAM_DELIVER (R359 to R361): the next word of the stream, once its destination can accept it and no other stream is ahead,
one word per rim clock (open points: log 60). -/
def execStreamDeliver (n : Fin 496) (s : State) : Out :=
  if s.dev.handed = s.tim.clk + 1 ∨ s.streamBehind n then .next s
  else match s.deliverWord n with
  | some s => .next { s with dev := { s.dev with handed := s.tim.clk + 1 } }.streamDrains
  | none => .next s

/-- SD_FILTER_OUTPUT (R365). -/
def execSdFilterOutput (i : Fin 256) (bits : List Bool) (s : State) : Out :=
  if s.sdRuns i ∧ s.sdFits i bits ∧ s.sdBoundary i (s.sdEdge i) then .next (s.sdBits i bits) else .next s

/-- SD_COMPARATOR_CHANGE (R367): the last bit changes a comparator. -/
def execSdComparatorChange (i : Fin 256) (bits : List Bool) (s : State) : Out :=
  let s' := s.sdBits i bits
  if s.sdRuns i ∧ s.sdFits i bits ∧ (s'.fld thHi i ≠ s.fld thHi i ∨ s'.fld thLo i ≠ s.fld thLo i) then .next s' else .next s

/-- SD_STUCK (R366): the last bit completes a run of 128. -/
def execSdStuck (i : Fin 256) (bits : List Bool) (s : State) : Out :=
  let s' := s.sdBits i bits
  if s.sdRuns i ∧ s.sdFits i bits ∧ s'.flag sdStuck i ∧ !s.flag sdStuck i then .next s' else .next s

/-- SD_STUCK_CLEAR (R366). -/
def execSdStuckClear (i : Fin 256) (bits : List Bool) (s : State) : Out :=
  let s' := s.sdBits i bits
  if s.sdRuns i ∧ s.sdFits i bits ∧ s.flag sdStuck i ∧ !s'.flag sdStuck i then .next s' else .next s

/-- A valid frame's samples, one per channel (R369). -/
def State.adcFrame (s : State) (p : Nat) (lanes : List (List Bool)) : State :=
  let (n, word, ch) := s.adcShape p
  (List.range ch).foldl (fun s c =>
    s.sample (256 + 8 * p + c) [channelWord lanes n word c (s.flag adcSigned p)] false
      (s.tim.now - s.fld adcRefofs p) s.tim.now) s

/-- An edge of DCO has arrived (R370). -/
def State.adcHeard (s : State) (p : Nat) : State := (s.setFld adcClk p 1).setAdc p { s.adc p with lost := false }

/-- ADC_FRAME_RECEIVE (R368, R369): the bits that each lane took in one FCO period. -/
def execAdcFrameReceive (p : Fin 16) (lanes : List (List Bool)) (s : State) : Out :=
  let (n, word, ch) := s.adcShape p
  if !s.flag adcEn p ∨ s.waitsFor (.adcTrain p) then .next s
  else
    let s := s.adcHeard p
    if lanes.length = n ∧ lanes.all fun l => l.length * n == ch * word then .next (s.adcFrame p lanes)
    else .next ((s.bumpFld adcFrerr p).raiseOnce .FIO_ADCSTAT p 0x6103 7 (locField 2 p) 0)

/-- ADC_CLOCK_LOSS (R370): no edge of DCO for 1 µs, reported once. -/
def execAdcClockLoss (p : Fin 16) (s : State) : Out :=
  if s.flag adcEn p ∧ !(s.adc p).lost then
    .next (((s.setFld adcClk p 0).setAdc p { s.adc p with lost := true }).raise 0x6104 7 (locField 2 p) 0)
  else .next s

/-- ADC_CLOCK_RETURN (R370). -/
def execAdcClockReturn (p : Fin 16) (s : State) : Out :=
  if s.flag adcEn p then .next (s.adcHeard p) else .next s

/-- ADC_CNV_PULSE (R370): CNV rises at its phase of the period and falls after CWID. -/
def execAdcCnvPulse (p : Fin 16) (level : Bool) (s : State) : Out :=
  let x := s.adc p
  if level then
    match lastAt s.tim.now (s.fld cnvPer p) (s.fld cnvPhs p) with
    | some t => if s.flag cnvEn p ∧ !x.cnv ∧ x.rose ≠ t + 1 ∧ s.tim.now < t + s.fld cnvWid p then
        .next (s.setAdc p { x with cnv := true, rose := t + 1 }) else .next s
    | none => .next s
  else if x.cnv ∧ x.rose + s.fld cnvWid p ≤ s.tim.now + 1 then .next (s.setAdc p { x with cnv := false })
  else .next s

/-- ADC_TRAIN (R387). -/
def execAdcTrain (c : Cmd) (p : Nat) (pattern : Word) (s : State) : Out :=
  .next (s.runCmd c 0x6002 (leBytes 1 p ++ leBytes 4 pattern.toNat) false fun s =>
    if 15 < p then s.badParam c 0x6002 0
    else if !s.flag adcEn p ∨ !s.flag adcClk p then s.reply c 0x6002 stBusy []
    else s.await c 0x6002 (.adcTrain p) 0)

/-- DLY of lane `l` of port `p` (open points: log 62). -/
def adcDly (l : Nat) : Fld := ⟨.FIO_ADCCFG, 13 + 6 * l, 8 + 6 * l⟩

/-- ADC_TRAIN_DONE (R387): for each lane the DLY settings at which every channel word met the pattern (open points: log 62). -/
def execAdcTrainDone (p : Fin 16) (pass : List (BitVec 64)) (s : State) : Out :=
  let n := s.fld adcLanes p + 1
  if !s.waitsFor (.adcTrain p) ∨ pass.length ≠ n then .next s
  else
    let rs := pass.map passRange
    let s := (rs.zipIdx).foldl (fun s x => match x.1 with
      | some r => s.setFld (adcDly x.2) p r.2.2
      | none => s) s
    if rs.all (·.isSome) then
      .next (s.finish (.adcTrain p) stOk (rs.flatMap fun r => match r with
        | some r => leBytes 1 r.1 ++ leBytes 1 r.2.1
        | none => []))
    else .next (s.finish (.adcTrain p) stFault [])

/-- The encoder takes its inputs (R356, R358). -/
def State.encRuns (s : State) (n : Nat) : Bool := s.flag encEn n && s.claimed 20

/-- ENC_EDGE (R371): the accepted levels of A, B and Z of a quadrature encoder. -/
def execEncEdge (n : Fin 32) (a b z : Bool) (s : State) : Out :=
  if !s.encRuns n ∨ s.flag encMode n then .next s
  else
    let x := s.enc n
    let both := decide (x.a ≠ a ∧ x.b ≠ b)
    let pos := if s.flag encZclr n ∧ z ∧ !x.z then 0 else quadCount (s.reg .FIO_ENCPOS n) x.a x.b a b
    let s := (s.setEnc n { x with a := a, b := b, z := z, bad := x.bad || both }).setReg .FIO_ENCPOS n pos
    .next (if both then (s.bumpFld encErr n).raiseOnce .FIO_ENCST n 0x6105 7 (locField 3 n) 0 else s)

/-- A serial transfer starts at `t` with A at level `a` (R371). -/
def State.encStart (s : State) (n t : Nat) (a : Bool) : State :=
  let x := s.enc n
  let s := (s.setEnc n { x with busy := some t, low := !a }).setFld encLine n (b2n (!a))
  if a then s else s.bumpFld encErr n

/-- ENC_SAMPLE (R371): a quadrature sample, or the start of a serial transfer with A at level `a`. -/
def execEncSample (n : Fin 32) (a : Bool) (s : State) : Out :=
  match lastAt s.tim.now (s.fld encPer n) (s.fld encPhs n) with
  | none => .next s
  | some t =>
    let x := s.enc n
    if !s.encRuns n ∨ x.last = t + 1 then .next s
    else
      let s := s.setEnc n { x with last := t + 1 }
      if !s.flag encMode n then
        let at_ := t - s.fld encFilt n
        let s := s.sample (384 + n) [BitVec.ofNat 32 (s.reg .FIO_ENCPOS n)] x.bad at_ at_
        .next (s.setEnc n { s.enc n with bad := false })
      else if x.busy.isSome then .next ((s.setEnc n { s.enc n with bad := true }).bumpFld encErr n)
      else .next (s.encStart n t a)

/-- ENC_SERIAL_DONE (R371): the bits taken, most significant first, with the parity bit last when PAR = 1
(open points: log 62). -/
def execEncSerialDone (n : Fin 32) (bits : List Bool) (s : State) : Out :=
  let x := s.enc n
  let w := s.fld encBits n + 1
  match x.busy with
  | none => .next s
  | some t =>
    if !s.encRuns n ∨ bits.length ≠ w + s.fld encPar n then .next s
    else
      let raw := bits.take w
      let pos := bitsNat (if s.flag encGray n then grayBits false raw else raw)
      let parBad := s.flag encPar n && bits.foldl (· ^^ ·) false
      let s := if parBad then s.bumpFld encErr n else s
      let s := (s.setEnc n { x with busy := none, bad := false, low := false }).setReg .FIO_ENCPOS n pos
      .next (s.sample (384 + n) [BitVec.ofNat 32 pos] (x.bad || x.low || parBad) t s.tim.now)

/-- VL_UPLINK_FRAME (R381, R382, R384): the bytes after K27.7; `cut` marks a frame ended by K30.7 or an idle; `errs` counts
the code errors met since the last event of the receiver (R383) (open points: log 64). -/
def execVlUplinkFrame (n : Fin 48) (body : List Byte) (cut : Bool) (errs : Nat) (s : State) : Out :=
  if !s.flag vlEn n ∨ !s.flag vlUp n then .next s
  else
    let s := s.bumpBy .FIO_VLCODE n errs
    let cnt := (body.getD 1 0#8).toNat
    if cut ∨ cnt = 0 ∨ 32 < cnt ∨ body.length ≠ 4 + 4 * cnt then .next (s.bump .FIO_VLCRC n)
    else .next (s.uplink n body)

/-- VL_RX_UP (R383). -/
def execVlRxUp (n : Fin 48) (errs : Nat) (s : State) : Out :=
  if s.flag vlEn n ∧ !s.flag vlUp n then .next ((s.bumpBy .FIO_VLCODE n errs).setFld vlUp n 1) else .next s

/-- VL_DOWN (R383). -/
def execVlDown (n : Fin 48) (errs : Nat) (s : State) : Out :=
  if s.flag vlUp n then .next (((s.bumpBy .FIO_VLCODE n errs).setFld vlUp n 0).raise 0x6302 7 (locField 5 n) 0) else .next s

/-- VL_WATCHDOG (R384). -/
def execVlWatchdog (n : Fin 48) (s : State) : Out :=
  let w := s.fld vlUwd n
  if s.flag vlEn n ∧ w ≠ 0 ∧ !s.flag vlWdog n ∧ (s.vl n).good + w * 1000 ≤ s.tim.clk then
    .next (((s.setFld vlWdog n 1).raise 0x6303 7 (locField 5 n) 0).setSrc (656 + n) true)
  else .next s

/-- GPIO_EDGE (R385): a filtered level of GPIO`k` is accepted, FILT ns after the change at the ball. -/
def execGpioEdge (k : Fin 32) (level : Bool) (s : State) : Out :=
  let filt := s.fld gpioFilt k
  if !s.claimed 21 ∨ s.gpioIn k = level ∨ !s.pinStable (16 + k) filt then .next s
  else
    let s := (s.pinTaken (16 + k)).setReg .FIO_GPIO_IN 0 (putBits (s.reg .FIO_GPIO_IN 0) k k (b2n level))
    let e := s.fld gpioEdge k
    let s := if e = 3 ∨ (e = 1 ∧ level) ∨ (e = 2 ∧ !level) then
        s.sample (464 + k) [BitVec.ofNat 32 (b2n level)] false (s.tim.now - filt) (s.tim.now - filt) else s
    .next (s.gpioSource k)

/-- The supply of bank `k` has left its window or come back to it. -/
def State.supplySeen (s : State) (k : Nat) : State :=
  { s with dev := { s.dev with supply := tput 0 s.dev.supply k (tget 0 s.dev.supply k + 1) } }

/-- IO_SUPPLY (R357) (open points: log 65). -/
def execIoSupply (k : Fin 22) (s : State) : Out :=
  if s.claimed k ∧ s.flag bankVok k then .next (((s.supplySeen k).setFld bankVok k 0).raise 0x6401 7 (locField 6 k) 0) else .next s

/-- IO_SUPPLY_OK (R357) (open points: log 65). -/
def execIoSupplyOk (k : Fin 22) (s : State) : Out :=
  if s.claimed k then .next ((s.supplySeen k).setFld bankVok k 1) else .next s

/-- The checks of STREAM_DISABLE; a range that is off already replies OK (R221, R387). -/
def State.streamDisableCmd (s : State) (c : Cmd) (first n : Nat) (go : State → State) : State :=
  match rangeFault first n 496 496 with
  | some o => s.badParam c 0x6001 o
  | none => if (List.range n).all fun i => !s.flag strmEn (first + i) then s.reply c 0x6001 stOk [] else go s

/-- STREAM_DISABLE in DRAIN mode (R387). -/
def execStreamDisableDrain (c : Cmd) (first n timeout : Nat) (s : State) : Out :=
  .next (s.runCmd c 0x6001 (leBytes 2 first ++ leBytes 2 n ++ leBytes 1 0 ++ leBytes 2 timeout) false fun s =>
    s.streamDisableCmd c first n fun s =>
      (((List.range n).foldl (fun s i => s.modStream (first + i) fun x => { x with drain := true }) s).await c 0x6001
        (.streamDrain first n) timeout).streamDrains)

/-- The wait is a DRAIN of a stream in the range. -/
def drainsStream (first n : Nat) : CmdWait → Bool
  | .streamDrain f m => decide (f < first + n ∧ first < f + m)
  | _ => false

/-- A stream stopped at once: its samples discarded, the item it holds open ended with a truncation word (R387). -/
def State.streamAbort (s : State) (n : Nat) : State :=
  let s := s.setStream n .init
  let s := if s.flag strmK1 n then s else s.endProducer (s.fld strmDest1 n) (.field n)
  let s := if s.flag strmK2 n then s else s.endProducer (s.fld strmDest2 n) (.field n)
  s.setFld strmEn n 0

/-- STREAM_DISABLE in ABORT mode (R387). -/
def execStreamDisableAbort (c : Cmd) (first n timeout : Nat) (s : State) : Out :=
  .next (s.runCmd c 0x6001 (leBytes 2 first ++ leBytes 2 n ++ leBytes 1 1 ++ leBytes 2 timeout) false fun s =>
    s.streamDisableCmd c first n fun s =>
      let s := (s.interim c 0x6001).finishWhere (drainsStream first n) stAborted
      ((List.range n).foldl (fun s i => s.streamAbort (first + i)) s).reply c 0x6001 stOk [])

end Sys2Proof.Machine
end

