-- ==== Sys2Proof/Machine/FieldOut.lean ====
section
/-! DEFINITION. The commands of gate outputs and valve-link transmitters (chapter "Field inputs and outputs"). -/

namespace Sys2Proof.Machine

open Sys2Proof

/-- The PWM outputs of carrier `c`. -/
def State.carGates (s : State) (c : Nat) : List Nat :=
  (List.range 512).filter fun g => s.fld goutMode g == 1 && s.fld goutCar g == c

/-- A carrier that stops leaves its outputs at level 0 (R374). -/
def State.carStop (s : State) (c : Nat) : State :=
  let s := (s.carGates c).foldl (fun s g => s.modGate g fun x => { x with pwm := false }) s
  (s.carGates c).foldl (fun s g => s.refreshPair g s.now8) s

/-- Output `g` at a period start: its shadow takes effect (R375). -/
def State.periodGate (s : State) (g : Nat) : State :=
  let s := s.modGate g fun x => { x with cmp := (x.shadow).or x.cmp, shadow := none }
  s.modGate g fun x => { x with pwm := s.pwmAt g 0 }

/-- CARRIER_PERIOD_START (R326, R374, R375). -/
def execCarrierPeriodStart (c : Fin 32) (s : State) : Out :=
  match (s.car c).next with
  | none => .next s
  | some t =>
    if !s.flag carEn c ∨ s.tim.now < t then .next s
    else
      let st := s.tim.clk - (s.tim.now - t)
      let per := s.fld carPer c
      let s := s.setCar c { start := some st, per := per, next := some (firstAt (t + 1) per (s.fld carPhs c)) }
      let gs := s.carGates c
      let s := gs.foldl State.periodGate s
      .next (gs.foldl (fun s g => s.refreshPair g (8 * st)) s)

/-- The units of a period at which the carrier level of output `g` changes (R374). -/
def State.comparePoints (s : State) (g : Nat) : List Nat :=
  let c := s.fld goutCar g
  let per := (s.car c).per
  match (s.gate g).cmp with
  | none => []
  | some w =>
    let v := w.toNat % 2 ^ 25
    if s.flag carCntr c then [per * 4 - v / 2, per * 4 + (v + 1) / 2] else [v]

/-- PWM_LEVEL_CHANGE (R374): the carrier has reached a compare point of output `g`. -/
def execPwmLevelChange (g : Fin 512) (s : State) : Out :=
  match (s.car (s.fld goutCar g)).start with
  | none => .next s
  | some st =>
    let u := 8 * (s.tim.clk - st) + 7
    let lv := s.pwmAt g u
    if s.fld goutMode g ≠ 1 ∨ lv = (s.gate g).pwm then .next s
    else
      let p := ((s.comparePoints g).filter (· ≤ u)).foldl max 0
      .next ((s.modGate g fun x => { x with pwm := lv }).refreshPair g (8 * st + p))

/-- PWM_MID_PERIOD_UPDATE (R375): a word released before the mid-period point takes effect there. -/
def execPwmMidPeriodUpdate (g : Fin 512) (s : State) : Out :=
  let c := s.fld goutCar g
  match (s.car c).start, (s.gate g).shadow with
  | some st, some w =>
    let mid := 8 * st + (s.car c).per * 4
    if s.fld goutMode g = 1 ∧ s.flag goutUpd g ∧ s.flag carCntr c ∧ (s.gate g).shadowAt ≤ mid ∧ mid ≤ s.now8 + 7 then
      let s := s.modGate g fun x => { x with cmp := some w, shadow := none }
      .next ((s.modGate g fun x => { x with pwm := s.pwmAt g ((s.car c).per * 4) }).refreshPair g mid)
    else .next s
  | _, _ => .next s

/-- GATE_EDGE_HOLD_END (R372): the edge held at output `g` is applied, or dropped when the level has returned. -/
def execGateEdgeHoldEnd (g : Fin 512) (s : State) : Out :=
  match s.gateHoldEnd g with
  | some e => if e ≤ s.now8 + 7 then .next (s.refreshPair g e) else .next s
  | none => .next s

/-- VL_FRAME_DELAYED (R379). -/
def execVlFrameDelayed (l : Fin 48) (s : State) : Out :=
  match (s.vl l).waiting with
  | [] => .next s
  | w :: ws =>
    if !s.vlTx l ∨ s.linkHeld l ∨ s.tim.clk < (s.vl l).endAt + 16 then .next s
    else
      let s := (s.modVl l fun x => { x with waiting := ws }).vlSend l w.1 w.2
      .next ((s.bump .FIO_VLDLYD l).raiseOnce .FIO_VLDLYD l 0x6304 7 (5 + 256 * l.val) 0)

/-- VL_SAFE_REPEAT (R380). -/
def execVlSafeRepeat (l : Fin 48) (s : State) : Out :=
  if s.vlTx l ∧ s.linkHeld l ∧ (s.vl l).safeAt + 1024 ≤ s.tim.clk then
    .next ((s.modVl l fun x => { x with safeAt := s.tim.clk }).vlSend l true 0#32)
  else .next s

/-- SAFE_POL_CHANGE (R356): followed while RESET_N is low. -/
def execSafePolChange (v : BitVec 16) (s : State) : Out :=
  if s.dev.resetN then .next s else .next { s with dev := { s.dev with safePol := v.toNat } }.refreshGates

end Sys2Proof.Machine
end

