-- ==== Sys2Proof/Machine/HostOps.lean ====
section
/-! DEFINITION. Rings, packets, host queue ports and ownership (chapter "Command packets and register views"): the layouts of
R443 and R455, the fetch conditions, the writing of replies. -/

namespace Sys2Proof.Machine

open Sys2Proof

/-! ### Layouts (R443, R455) -/

/-- What follows the fixed parameters: nothing; any bytes; `unit` bytes for each of the count at `off`, `size` bytes wide; up
to `max` changes of 4 bytes. -/
inductive Tail where
  | none
  | any
  | units (off size unit : Nat)
  | quads (max : Nat)
  deriving DecidableEq, Repr

/-- A command's row: open to tenants; its fixed parameters as (bytes, least, greatest); what follows. -/
structure Layout where
  tenant : Bool
  pars : List (Nat × Nat × Nat)
  tail : Tail
  deriving DecidableEq, Repr

/-- A parameter of `n` bytes with no range of its own. -/
def par (n : Nat) : Nat × Nat × Nat := (n, 0, 256 ^ n - 1)

def parTile : Nat × Nat × Nat := (2, 0, 511)
def parQueue : Nat × Nat × Nat := (2, 0, 16383)
def parTask : Nat × Nat × Nat := (2, 0, 32767)
def parFlag : Nat × Nat × Nat := (1, 0, 1)
def parFloor : Nat × Nat × Nat := (1, 0, 31)
def parLines : Nat × Nat × Nat := (2, 0, 4095)

def lay (tenant : Bool) (pars : List (Nat × Nat × Nat)) : Option Layout := some ⟨tenant, pars, .none⟩
def layT (tenant : Bool) (pars : List (Nat × Nat × Nat)) (t : Tail) : Option Layout := some ⟨tenant, pars, t⟩

/-- Device, image and task commands. -/
def layoutLow : Nat → Option Layout
  | 0x0001 => lay true []
  | 0x0002 => layT true [] .any
  | 0x0003 => lay false [(1, 0, 5), par 2, (2, 1, 32768), (1, 1, 15)]
  | 0x0004 => lay false [(1, 0, 5), par 2, (2, 1, 32768)]
  | 0x0005 => lay false [(1, 0, 5), par 2, (2, 1, 1008)]
  | 0x0006 => lay false [parTile, parFlag]
  | 0x0007 => lay false [(1, 0, 63), parQueue, parFlag, (1, 0, 15)]
  | 0x0008 => lay true [(1, 0, 63), parFlag, par 2]
  | 0x0009 => lay false [(1, 0, 31), parFlag, (1, 0, 15), par 8]
  | 0x1001 => lay false [(1, 0, 2), par 1, parFlag, (1, 0, 62), par 8, par 4]
  | 0x1002 => lay false [par 1]
  | 0x1003 => lay false [parTile, (1, 0, 7), parFlag, par 8, par 4]
  | 0x1004 => lay false [parTile, (1, 0, 7)]
  | 0x1005 => lay false [par 2, (2, 1, 1008)]
  | 0x2001 => lay true [parTask, parFlag]
  | 0x2002 => lay true [parTask, (1, 1, 255)]
  | 0x2003 => lay true [parTask]
  | 0x2004 => lay true [parTask, parFlag, par 2]
  | 0x2005 => lay true [parTask]
  | 0x2006 => lay true [par 1]
  | 0x2007 => lay true [par 1, parFlag, par 2]
  | _ => none

/-- Queue, network and time commands. -/
def layoutMid : Nat → Option Layout
  | 0x3001 => layT true [parQueue, (2, 1, 200), par 4] (.units 2 2 5)
  | 0x3002 => lay true [parQueue, (1, 1, 200)]
  | 0x3003 => lay true [parQueue]
  | 0x3004 => lay true [parQueue]
  | 0x3005 => lay true [parQueue, parFlag, par 2]
  | 0x3006 => lay true [parQueue]
  | 0x4001 => layT false [] (.quads 250)
  | 0x4002 => lay false [parFlag, par 2]
  | 0x4003 => lay false [(1, 0, 52), parFlag]
  | 0x4004 => lay false [parFloor, parFlag, par 2]
  | 0x4005 => lay false [parFloor]
  | 0x4006 => lay false [par 2, (1, 1, 15)]
  | 0x5001 => lay false [par 8, parFlag]
  | 0x5002 => lay false []
  | 0x5003 => lay true [par 2, parFlag, (1, 0, 7), par 8, par 4, parFlag]
  | 0x5004 => lay true [par 2, (2, 1, 784)]
  | 0x5005 => lay true [par 2, (2, 1, 784), parFlag, par 2]
  | 0x5006 => lay true [par 2, (1, 1, 64)]
  | 0x6001 => lay false [par 2, (2, 1, 496), parFlag, par 2]
  | 0x6002 => lay false [(1, 0, 15), par 4]
  | _ => none

/-- Trip, adaptive, memory, link, freeze and register commands. -/
def layoutHigh : Nat → Option Layout
  | 0x7001 => lay false [parLines]
  | 0x7002 => lay false [parLines]
  | 0x7003 => lay false [parLines]
  | 0x7004 => lay false [(1, 0, 11)]
  | 0x8001 => lay false [par 1, par 2, par 2, (1, 0, 15)]
  | 0x8002 => lay false [par 1, (1, 1, 32)]
  | 0x8003 => lay false [parTile, par 1, par 2]
  | 0x8004 => lay false [parTile]
  | 0x8005 => lay false [parFloor]
  | 0x9001 => lay true [par 5, (2, 1, 512)]
  | 0x9002 => layT true [par 5, (2, 1, 992)] (.units 5 2 1)
  | 0x9003 => lay false [parTile, par 2, (2, 1, 8192)]
  | 0x9004 => lay false [parTile, par 1]
  | 0x9005 => lay false [parTile]
  | 0x9006 => lay false [par 1, (1, 1, 31), parFlag]
  | 0xA001 => lay false [par 1]
  | 0xA002 => lay false [par 1, parFlag, par 2]
  | 0xA003 => lay false []
  | 0xA004 => lay false [par 4, par 2, parFlag]
  | 0xA005 => layT false [] (.quads 200)
  | 0xA006 => lay false [par 2]
  | 0xA007 => lay false [(1, 0, 2), par 1, par 1, par 1, parFlag]
  | 0xB001 => lay false [parFloor, par 1, parFlag, par 2]
  | 0xB002 => lay false [par 5, (2, 4, 1000)]
  | 0xB003 => lay false [parFloor]
  | 0xC001 => lay true [par 5, (2, 1, 252)]
  | 0xC002 => layT true [par 5, (2, 1, 250), (1, 0, 0)] (.units 5 2 4)
  | _ => none

/-- The layout of an opcode; none when it is not in the opcode table (R455) (open points: log 39). -/
def layoutOf (op : Nat) : Option Layout := ((layoutLow op).or (layoutMid op)).or (layoutHigh op)

/-- The number at `off` of a byte string, `n` bytes. -/
def numAt (l : List Byte) (off n : Nat) : Nat := leNat ((l.drop off).take n)

/-- The first parameter outside its range, by the offset of its first byte (open points: log 94). -/
def parFault (l : List Byte) : Nat → List (Nat × Nat × Nat) → Option Nat
  | _, [] => none
  | off, (n, lo, hi) :: rest =>
    let v := numAt l off n
    if v < lo ∨ hi < v then some off else parFault l (off + n) rest

/-- What is wrong with the parameter bytes (R443, R444 step 6): the offset that the reply gives (R445)
(open points: log 39). -/
def paramFault (y : Layout) (l : List Byte) : Option Nat :=
  let fixed := (y.pars.map (·.1)).sum
  let wrong : Option Nat := match y.tail with
    | .none => if l.length = fixed then none else some (min l.length fixed)
    | .any => none
    | .units off size unit => if fixed ≤ l.length ∧ l.length = fixed + unit * numAt l off size then none else some off
    | .quads m => if 4 * m < l.length then some (4 * m) else if l.length % 4 = 0 then none else some l.length
  wrong.or (parFault l 0 y.pars)

/-! ### Rings (R440, R441) -/

def State.ring (s : State) (v : Nat) : RingSt := tget .init s.rings v
def State.setRing (s : State) (v : Nat) (x : RingSt) : State := { s with rings := tput .init s.rings v x }
def State.modRing (s : State) (v : Nat) (f : RingSt → RingSt) : State := s.setRing v (f (s.ring v))

/-- N, the slots of each ring of view `v`. -/
def State.ringSlots (s : State) (v : Nat) : Nat := 2 ^ s.fld ringLog2n v

/-- A packet from a ring of this device, in progress there. -/
def ofRing (v : Nat) (c : Cmd) : Bool := decide (c.ring.val = v ∧ c.remote = 0)

/-- Final replies of a ring not yet written. -/
def State.finals (s : State) (v : Nat) : Nat := (s.replies.filter fun r => ofRing v r.cmd && !r.interim).length

/-- Commands of ring `v` in progress (R440): fetched and not yet answered in the ring (open points: log 41). -/
def State.inflight (s : State) (v : Nat) : Nat :=
  (s.fetched.filter fun f => ofRing v f.cmd).length + (s.cmds.filter fun x => ofRing v x.cmd).length + s.finals v

def State.inflightAll (s : State) : Nat := ((List.range 16).map s.inflight).sum

/-- Reply slots reserved (R441) (open points: log 41). -/
def State.reserved (s : State) (v : Nat) : Nat :=
  ((s.fetched.filter fun f => ofRing v f.cmd).map fun f => if f.cmd.pack then 2 else 1).sum +
    (s.cmds.filter fun x => ofRing v x.cmd).length + (s.replies.filter fun r => ofRing v r.cmd).length

/-- Reply slots that the host has freed and no command has reserved (R441) (open points: log 41). -/
def State.freeReplies (s : State) (v : Nat) : Nat :=
  s.ringSlots v - ((s.reg .CMD_RTAIL v + 65536 - s.reg .CMD_RHEAD v % 65536) % 65536 + s.reserved v)

/-- The ring may fetch a packet that needs `need` reply slots (R441, R439). -/
def State.ringReady (s : State) (v need : Nat) : Bool :=
  s.flag devFwrun 0 && s.flag ringEn v && !s.flag ringErr v && decide (s.reg .CMD_CHEAD v ≠ (s.ring v).tail) &&
    decide (s.inflight v < 16) && decide (s.inflightAll < 64) && decide (need ≤ s.freeReplies v)

/-- Another ring's turn to fetch (R441): view 0 takes every second fetch, the others go round. A ring that is not the one
fetched is ready when it is ready for a packet with PACK (open points: log 38). -/
def State.othersTurn (s : State) (v : Nat) : Bool :=
  if v = 0 then s.zeroLast && (List.range 16).any fun w => w != 0 && s.ringReady w 2
  else
    (!s.zeroLast && s.ringReady 0 2) ||
      ((List.range 16).any fun i =>
        let w := (s.lastFetch + 1 + i) % 16
        w != 0 && w != v && decide (i < (v + 31 - s.lastFetch) % 16) && s.ringReady w 2)

/-- LOC of an event of a view: view, and port or segment, 0xFF for none (R539) (open points: log 91). -/
def locView (v sub : Nat) : Nat := v + 256 * sub

/-- A ring stopped with ERR and its event; DATA is CHEAD and TAIL (R451, R542) (open points: log 41). -/
def State.ringFault (s : State) (v code : Nat) : State :=
  (s.setFld ringErr v 1).raise code 0xB (locView v 0xFF) (s.reg .CMD_CHEAD v + 65536 * (s.ring v).tail)

/-- Ring `v` stopped and its indices zeroed; its replies are discarded, those of commands in progress too (R452)
(open points: log 41). -/
def State.resetRing (s : State) (v : Nat) : State :=
  let s := (((s.setFld ringEn v 0).setReg .CMD_CHEAD v 0).setReg .CMD_RTAIL v 0).setReg .CMD_RHEAD v 0
  let s := s.modRing v fun x => { x with tail := 0, unsig := 0 }
  { s with
    orphans := s.orphans ++ (s.fetched.filter fun f => ofRing v f.cmd).map (·.cmd) ++
      ((s.cmds.filter fun x => ofRing v x.cmd && !s.orphans.contains x.cmd).map (·.cmd))
    replies := s.replies.filter fun r => !ofRing v r.cmd }

/-! ### Fetching a packet (R442 to R444) -/

/-- The header of a packet; VIEW beyond 15 counts as the ring's view, and is rejected. -/
def packetCmd (v : ViewNo) (index : Nat) (l : List Byte) : Cmd :=
  let fl := numAt l 2 1
  let w := numAt l 3 1
  { remote := 0, ring := v, view := if w < 16 then Fin.ofNat 16 w else v, tag := BitVec.ofNat 32 (numAt l 4 4), index := index,
    order := bit fl 0, irq := bit fl 1, pack := bit fl 2, target := BitVec.ofNat 32 (numAt l 12 4) }

/-- Steps 1 to 5 of R444: the status of the first failing check (open points: log 39). -/
def State.headerFault (s : State) (c : Cmd) (l : List Byte) : Option (Nat × List Byte) :=
  match layoutOf (numAt l 0 2) with
  | none => some (stBadOpcode, [])
  | some y =>
    let view := numAt l 3 1
    if numAt l 2 1 / 8 ≠ 0 ∨ numAt l 10 2 ≠ 0 ∨ 1008 < numAt l 8 2 ∨ tgtBad c ∨ (c.ring = 0 ∧ 15 < view) then
      some (stBadParam, leBytes 2 0xFFFF)
    else if c.ring ≠ 0 ∧ view ≠ c.ring then some (stNoPriv, [])
    else if s.tgtOther c ∧ view ≠ 0 then some (stNoPriv, [])
    else if !y.tenant ∧ view ≠ 0 then some (stNoPriv, [])
    else none

/-- The parameter bytes as the command's row carries them: reserved bytes of QUEUE_PUSH read as zero (R17, R259)
(open points: log 39). -/
def cleanParams (op : Nat) (l : List Byte) : List Byte :=
  if op = 0x3001 then l.take 4 ++ List.replicate 4 0#8 ++ l.drop 8 else l

/-- A packet taken from slot CHEAD of ring `v` (R441, R444) (open points: log 38). -/
def State.takePacket (s : State) (v : ViewNo) (l : List Byte) : State :=
  let head := s.reg .CMD_CHEAD v
  let c := packetCmd v head l
  let op := numAt l 0 2
  let s := ((s.setReg .CMD_CHEAD v ((head + 1) % 65536)).bump .CMD_FETCHED 0)
  let s : State := { s with lastFetch := if v.val = 0 then s.lastFetch else v.val, zeroLast := decide (v.val = 0) }
  match s.headerFault c l with
  | some (st, d) => (s.bump .CMD_REJECTED 0).reply c op st d
  | none =>
    let ps := (l.drop 16).take (numAt l 8 2)
    match (layoutOf op).bind fun y => paramFault y ps with
    | some off => s.badParam c op off
    | none => { s with fetched := s.fetched ++ [{ cmd := c, op := op, params := cleanParams op ps }] }

/-! ### Replies in host memory (R445, R446, R449) -/

/-- The bytes of a reply (R445) (open points: log 41). -/
def replyBytes (r : Reply) (phase : Bool) : List Byte :=
  leBytes 1 r.status ++ leBytes 1 (b2n phase + 2 * b2n r.interim) ++ leBytes 2 r.data.length ++ leBytes 4 r.cmd.tag.toNat ++
    leBytes 2 r.op ++ leBytes 2 r.cmd.index ++ leBytes 4 0 ++ r.data

/-- One message covers every unsignalled reply of the ring (R449). -/
def State.signalRing (s : State) (v : Nat) : State :=
  State.modRing { s with irqs := s.irqs ++ [(v, 0)] } v fun x => { x with unsig := 0 }

/-- A reply written at RTAIL with PHASE, and the coalescing rule (R446, R449). -/
def State.putReply (s : State) (v : Nat) (r : Reply) : State :=
  let t := s.reg .CMD_RTAIL v
  let n := s.ringSlots v
  let s := s.putHost (s.reg .CMD_RBASE v + 1024 * (t % n)) (replyBytes r (t / n % 2 == 0))
  let s := s.setReg .CMD_RTAIL v ((t + 1) % 65536)
  let s := s.modRing v fun x => { x with unsig := x.unsig + 1, unsigAt := if x.unsig = 0 then s.tim.clk else x.unsigAt }
  if (r.cmd.irq ∧ !r.interim) ∨ max 1 (s.reg .CMD_COAL v % 65536) ≤ (s.ring v).unsig then s.signalRing v else s

/-! ### Ownership (R456 to R459) -/

/-- Resources of a kind (R458). -/
def kindSize (kind : Nat) : Nat := [512, 16384, 32768, 256, 784, 64].getD kind 0

def State.setOwner (s : State) (kind i v : Nat) : State := { s with owners := tput 0 s.owners (kind * 65536 + i) v }

def State.setOwners (s : State) (kind first n v : Nat) : State :=
  (List.range n).foldl (fun s i => s.setOwner kind (first + i) v) s

/-- The resource that a waiting tenant command names, as (kind, first, count) (R447, R459). -/
def waitNames : CmdWait → Option (Nat × Nat × Nat)
  | .taskDrain k => some (2, k, 1)
  | .batchDrain b => some (3, b, 1)
  | .queueDrain q => some (1, q, 1)
  | .laneDrain first n => some (4, first, n)
  | .portDrain p => some (5, p, 1)
  | _ => none

/-- The old owner's commands that a VIEW_REVOKE waits for (R459): those that name a resource of the range, and, since a
finished command no longer says what it named, every reply of the old owner not yet written (log 40). -/
def State.revokeBlocked (s : State) (kind first n : Nat) : Bool :=
  let old := ((List.range n).map fun i => s.ownerOf kind (first + i)).filter (· ≠ 0)
  s.cmds.any (fun x => old.contains x.cmd.view.val && !s.orphans.contains x.cmd &&
    (match waitNames x.wait with
     | some (k, a, m) => decide (k = kind ∧ a < first + n ∧ first < a + m)
     | none => false)) ||
  s.replies.any fun r => old.contains r.cmd.view.val && !r.interim

/-- A VIEW_REVOKE takes effect: input locks of the old owner's command path are released (R249, R459). -/
def State.revokeDone (s : State) (kind first n : Nat) : State :=
  let s := if kind = 1 then
      (List.range n).foldl (fun s i => s.endProducer (first + i) (.cmdPath (s.ownerOf 1 (first + i)))) s
    else s
  s.setOwners kind first n 0

/-- Every pending VIEW_REVOKE whose commands are gone is done (open points: log 40). -/
def State.settleRevokes (s : State) : State :=
  s.cmds.foldl (fun s x => match x.wait with
    | .viewRevoke kind first n =>
      if s.revokeBlocked kind first n then s
      else State.reply { s.revokeDone kind first n with cmds := s.cmds.erase x } x.cmd x.op stOk []
    | _ => s) s

/-! ### Host queue ports (R461 to R463) -/

def hqEn : Fld := ⟨.CMD_HQ, 31, 31⟩
def hqDir : Fld := ⟨.CMD_HQ, 30, 30⟩
def hqView : Fld := ⟨.CMD_HQ, 29, 26⟩
def hqQueue : Fld := ⟨.CMD_HQ, 13, 0⟩

def State.hport (s : State) (h : Nat) : HPort := tget .init s.hports h
def State.setHport (s : State) (h : Nat) (x : HPort) : State := { s with hports := tput .init s.hports h x }
def State.modHport (s : State) (h : Nat) (f : HPort → HPort) : State := s.setHport h (f (s.hport h))

/-- HQ_CREDIT (R461). -/
def State.hqCredit (s : State) (h : Nat) : Nat :=
  if s.flag hqDir h then (s.hport h).fifo.length else 256 - (s.hport h).fifo.length

/-- The port holds its queue's input or output lock: MID. -/
def State.hqMid (s : State) (h : Nat) : Bool :=
  let x := s.queue (s.fld hqQueue h)
  x.ilock == some (.hostPort h) || x.olock == some (.hostPort h)

/-- Bit `h` of HQ_PEND. -/
def State.hqPend (s : State) (h : Nat) : Bool := (s.hport h).note ≠ 0 && decide ((s.hport h).note ≤ s.hqCredit h)

/-- A rise of an HQ_PEND bit signals its vector (R449). -/
def State.pendEdge (s old : State) (h : Nat) : State :=
  if s.hqPend h ∧ !old.hqPend h then
    let v := s.fld hqView h
    { s with irqs := s.irqs ++ [(v, if v = 0 then 4 else 1)] }
  else s

/-- A view's page of port `h` is that port (R438, R460). -/
def State.hqSees (s : State) (view h : Nat) : Bool :=
  view = 0 || (s.fld hqView h == view && s.ownerOf 5 h == view)

/-- A discarded write (R462): counted, and event 0xB201 unless one has been since HQ_ERR was read. -/
def State.hqOverrun (s : State) (h : Nat) : State :=
  let first := (s.hport h).err == 0
  let s := (s.modHport h fun x => { x with err := min 0xFFFF_FFFF (x.err + 1) }).bump .CMD_HQ_ERR 0
  if first then s.raise 0xB201 0xB (locView (s.fld hqView h) h) 0 else s

/-- A word offered to push port `h` with its tags (R462, R463). -/
def State.hqPush (s : State) (h : Nat) (w : Word) (sop eop psn : Bool) : State :=
  let x := s.hport h
  if !s.flag hqEn h ∨ s.flag hqDir h ∨ 256 ≤ x.fifo.length ∨ (x.drain ∧ !x.mid) then s.hqOverrun h
  else s.setHport h { x with fifo := x.fifo ++ [mkWord w sop eop psn], mid := !eop }

/-- The port is done: EN falls, its waiting commands reply (R463). -/
def State.hqDone (s : State) (h status : Nat) : State :=
  ((s.setFld hqEn h 0).modHport h fun x => { x with drain := false, mid := false }).finish (.portDrain h) status []

/-- A DRAIN has nothing left to wait for (R463). -/
def State.hqDrained (s : State) (h : Nat) : Bool :=
  let x := s.hport h
  x.drain && x.fifo.isEmpty && !s.hqMid h && (s.flag hqDir h || !x.mid)

def State.hqSettle (s : State) (h : Nat) : State := if s.hqDrained h then s.hqDone h stOk else s

/-- The ABORT of a port (R463): a pending DRAIN replies ABORTED. -/
def State.hqAbort (s : State) (h : Nat) : State :=
  let q := s.fld hqQueue h
  let s := s.modHport h fun x => { x with fifo := [] }
  let s := if s.flag hqDir h then s.endConsumer q (.hostPort h) else s.endProducer q (.hostPort h)
  s.hqDone h stAborted

/-- The input locks of views' command paths released (R249, R452). -/
def State.releaseLocks (s : State) (p : Nat → Bool) : State :=
  (s.queues.map (·.1)).foldl (fun s q => match (s.queue q).ilock with
    | some (.cmdPath v) => if p v then s.endProducer q (.cmdPath v) else s
    | _ => s) s

end Sys2Proof.Machine
end

