-- ==== Sys2Proof/Machine/Trips.lean ====
section
/-! DEFINITION. The commands of the trip matrix (chapter "Trip lines") and RAISE. -/

namespace Sys2Proof.Machine

open Sys2Proof

/-- RAISE (R181, R391): a data slot drives only the sources that TIL_RAISE gives its tile. -/
def execRaise (t : TileNo) (src : Fin 64) (set : Bool) (s : State) : Out :=
  seqStep t (.raise t src set) [] s fun k s =>
    if (s.guardOf t k).isNone ∧ !bit (s.reg .TIL_RAISE t) src then s.seqFault t k 0x3212
    else (s.setSrc (576 + src) set).advance t k

/-- TRIP_PIN_EDGE (R390, R400): the filtered input of TRIP`n` takes the level of its ball; `low` is what the board drives
(open points: log 66). -/
def execTripPinEdge (n : LineNo) (low : Bool) (s : State) : Out :=
  let t : State := { s with trip := { s.trip with pinLow := tput false s.trip.pinLow n low } }
  if t.tripBall n = s.srcLive (544 + n) then .next t
  else if !s.pinStable n (s.fld trpPinfilt 0) then .next s
  else .next ((t.pinTaken n).setSrc (544 + n) (t.tripBall n))

/-- TRIP_SAFE_INPUT (R392, R406). -/
def execTripSafeInput (high : Bool) (s : State) : Out :=
  if high = s.srcLive 556 ∨ !s.pinStable 12 (s.fld trpPinfilt 0) then .next s
  else .next ((s.pinTaken 12).setSrc 556 high)

/-- A mask word written: it applies before the sources that assert in the same rim clock (R395, R405) (open points: log 66). -/
def State.maskWrite (s : State) (n w v : Nat) : State :=
  let s := s.setReg .TRP_MASK (32 * n + w) v
  (s.latchLine n (s.blockers n)).sendFrames

/-- TRP_MASK_WRITE (R395): only the privileged view writes it. -/
def execTrpMaskWrite (view : ViewNo) (n : LineNo) (w : Fin 32) (v : Word) (s : State) : Out :=
  if view.val ≠ 0 then .next s else .next (s.maskWrite n w v.toNat)

/-- Lines of a 12-bit mask, ascending. -/
def linesOf (mask : Nat) : List Nat := (List.range 12).filter fun n => bit mask n

def State.tripClearCmd (s : State) (c : Cmd) (lines : Nat) : State :=
  if 4095 < lines then s.badParam c 0x7001 0
  else
    let l := (linesOf lines).foldl (fun a n => a + b2n (s.latched n) * 2 ^ n) 0
    let s := { s with trip := { s.trip with clears := s.trip.clears ++ [(lines, l, s.tim.clk + s.fld trpSettle 0)] } }
    (s.waitCmd c 0x7001 (.tripClear lines) 0).sendFrames

/-- TRIP_CLEAR (R399): the drives of the latched lines stop and the settle wait starts. -/
def execTripClear (c : Cmd) (lines : Nat) (s : State) : Out :=
  .next (s.runCmd c 0x7001 (leBytes 2 lines) false fun s => s.tripClearCmd c lines)

/-- Line `n` clears: its banks and links are released (R399). -/
def State.clearLine (s : State) (n : Nat) : State :=
  let s := (s.setReg .TRP_STATUS 0 (putBits (s.reg .TRP_STATUS 0) n n 0)).raise 0x7102 9 n 0
  (List.range 16).foldl (fun s b => if bit (s.reg .TRP_GBANK b) n then s.refreshBank b else s) s

/-- Line `n` is refused: it stays latched (R399). -/
def State.refuseLine (s : State) (n : Nat) : State := s.raise 0x7103 9 n ((s.blockers n).headD 0)

/-- One refused line of a TRIP_CLEAR reply: the line, the number of sources, up to 8 of them (R407). -/
def State.refusedBytes (s : State) (n : Nat) : List Byte :=
  let l := (s.blockers n).take 8
  leBytes 1 n ++ leBytes 1 l.length ++ (l.map (leBytes 2 ·)).flatten

/-- The end of a settle wait (R399): a source that asserts in the clearing rim clock wins. -/
def State.settled (s : State) (lines l : Nat) : State :=
  let bad := (linesOf l).filter fun n => s.blockers n ≠ []
  let good := (linesOf l).filter fun n => s.blockers n = []
  let data := leBytes 2 (lines - bad.foldl (fun a n => a + 2 ^ n) 0) ++ (bad.map s.refusedBytes).flatten
  let s := (bad.foldl State.refuseLine (good.foldl State.clearLine s)).sendFrames
  s.finishFirst (.tripClear lines) (if bad = [] then stOk else stBusy) data

/-- TRIP_CLEAR_SETTLE (R399). -/
def execTripClearSettle (lines : Fin 4096) (s : State) : Out :=
  match s.trip.clears.find? fun c => c.1 == lines.val with
  | none => .next s
  | some c =>
    if s.tim.clk < c.2.2 then .next s
    else .next ({ s with trip := { s.trip with clears := s.trip.clears.erase c } }.settled c.1 c.2.1)

def State.tripForceCmd (s : State) (c : Cmd) (lines : Nat) : State :=
  if 4095 < lines ∨ (linesOf lines).any fun n => !s.flag lineEn n then s.badParam c 0x7002 0
  else
    let s := s.seeSrc 1023
    (((linesOf lines).foldl (fun s n => s.latchLine n [1023]) s).sendFrames).reply c 0x7002 stOk []

/-- TRIP_FORCE (R393, R407). -/
def execTripForce (c : Cmd) (lines : Nat) (s : State) : Out :=
  .next (s.runCmd c 0x7002 (leBytes 2 lines) false fun s => s.tripForceCmd c lines)

def State.tripStatusCmd (s : State) (c : Cmd) (lines : Nat) : State :=
  if 4095 < lines then s.badParam c 0x7003 0
  else s.reply c 0x7003 stOk (leBytes 4 s.trpStatus ++ ((linesOf lines).map fun n =>
    leBytes 8 (s.reg .TRP_CAPT n) ++ leBytes 4 (s.reg .TRP_CAPS n) ++ leBytes 2 (s.fld lineTag n)).flatten)

/-- TRIP_STATUS (R407). -/
def execTripStatus (c : Cmd) (lines : Nat) (s : State) : Out :=
  .next (s.runCmd c 0x7003 (leBytes 2 lines) false fun s => s.tripStatusCmd c lines)

def State.tripSnapshotCmd (s : State) (c : Cmd) (line : Nat) : State :=
  if 11 < line then s.badParam c 0x7004 0
  else s.reply c 0x7004 stOk (((List.range 32).map fun w => leBytes 4 (s.reg .TRP_SNAP (32 * line + w))).flatten ++
    ((List.range 32).map fun w => leBytes 4 (s.reg .TRP_SRCSEEN w)).flatten)

/-- TRIP_SNAPSHOT (R407). -/
def execTripSnapshot (c : Cmd) (line : Nat) (s : State) : Out :=
  .next (s.runCmd c 0x7004 (leBytes 1 line) false fun s => s.tripSnapshotCmd c line)

/-- TRIP_FRAME_REPEAT (R401): every 1 µs while any bit is 1. -/
def execTripFrameRepeat (m : LinkNo) (s : State) : Out :=
  let f := tget (0, 0) s.trip.frames m
  if s.carriesTrips m ∧ s.frameBits m ≠ 0 ∧ f.2 + 999 ≤ s.tim.clk then .next (s.sendFrame m) else .next s

/-- The 12 source levels of link `m` set to the bits of a received frame (R401). -/
def State.frameSources (s : State) (m bits : Nat) : State :=
  s.setSrcs ((List.range 12).map fun n => (704 + 12 * m + n, bit bits n))

/-- A trip frame taken on link `m`: shown in TRIPRX, and asserting sources on a HELD or FULL link (R525). -/
def State.takeFrame (s : State) (m bits : Nat) : State :=
  let st := s.fld alkState m
  if st < 2 ∨ 4 < st then s
  else
    let s := s.setFld ⟨.ALK_STATUS, 11, 0⟩ m bits
    if st = 2 then s else s.frameSources m bits

/-- TRIP_FRAME_RECEIVE (R401, R525). -/
def execTripFrameReceive (m : LinkNo) (bits : BitVec 12) (s : State) : Out := .next (s.takeFrame m bits.toNat)

/-- The host watchdog restarted (R402) (open points: log 67). -/
def State.kick (s : State) : State :=
  ({ s with trip := { s.trip with kick := s.tim.clk } }).setSrc 849 false

/-- HOST_WATCHDOG_KICK (R402). -/
def execHostWatchdogKick (view : ViewNo) (_v : Word) (s : State) : Out :=
  if view.val ≠ 0 then .next s else .next s.kick

/-- HOST_WATCHDOG (R402) (open points: log 67). -/
def execHostWatchdog (s : State) : Out :=
  if s.flag hostWdEn 0 ∧ s.trip.kick + s.fld hostWdPeriod 0 * 1000 ≤ s.tim.clk ∧ !s.srcLive 849 then
    .next ((s.setSrc 849 true).raise 0x7201 0 0 0)
  else .next s

/-- KEEPER_WATCHDOG (R390, R402): 10 ms without service. -/
def execKeeperWatchdog (s : State) : Out :=
  if s.srcLive 848 ∨ s.tim.clk < s.trip.keeper + 10000000 then .next s else .next ((s.setSrc 848 true).raise 0x7202 0 0 0)

/-- KEEPER_WATCHDOG_SERVICE (R402). -/
def execKeeperWatchdogService (s : State) : Out :=
  .next ({ s with trip := { s.trip with keeper := s.tim.clk } }.setSrc 848 false)

end Sys2Proof.Machine
end

