-- ==== Sys2Proof/Machine/LinkOps.lean ====
section
/-! DEFINITION. Ahnistob links (chapter "Ahnistob links and multi-device systems"): link states and what ends with them, mash-in
verdicts, the gateway crossbar, system requests, proxies and channels. -/

namespace Sys2Proof.Machine

open Sys2Proof

def alkEn : Fld := ⟨.ALK_CTL, 31, 31⟩
def alkNrz : Fld := ⟨.ALK_CTL, 30, 30⟩
def alkPsdn : Fld := ⟨.ALK_STATUS, 27, 16⟩
def alkHcause : Fld := ⟨.ALK_STATUS, 15, 12⟩
def alkFlvl : Fld := ⟨.ALK_PEER, 39, 36⟩

/-- LOC of an event of link `m`: the peer's SDN is known once its mash record has come (R539) (open points: log 72, log 91). -/
def State.locLink (s : State) (m : Nat) : Nat :=
  m + 256 * (if (s.link m).peer.isSome then s.fld alkPsdn m else 0xFFFF)

/-! ### States (R510 to R512) -/

/-- Some link is HELD (R439). -/
def State.anyHeld (s : State) : Bool := (List.range 12).any fun m => s.fld alkState m == 3

/-- Link `m` enters state `st`; a change of DEV_STATUS.HELD raises PF vector 5 (R449). A retrain keeps the time of its
start. -/
def State.putLinkState (s : State) (m st : Nat) : State :=
  let t := (s.setFld alkState m st).modLink m fun x => { x with since := if x.from_.isSome then x.since else s.tim.clk }
  if t.anyHeld = s.anyHeld then t else { t with irqs := t.irqs ++ [(0, 5)] }

/-- The lock of a channel's producer `a` released: a truncation word ends its item and its later words up to EOP are skipped
(R512). -/
def State.cutProducer (s : State) (q : Nat) (a : Agent) : State :=
  let x := s.queue q
  if x.ilock ≠ some a then s
  else
    let s := if x.skip then s.modQueue q fun x => { x with skip := false, ilock := if x.truncWait then x.ilock else none }
      else if x.truncWait then s
      else (s.truncate q).qEval q
    s.modQueue q fun x => { x with skips := x.skips ++ [a] }

/-- Every queue lock held through link `m` released (R512). -/
def State.cutChannels (s : State) (m : Nat) : State :=
  (s.queues.map (·.1)).foldl (fun s q => match (s.queue q).ilock with
    | some (.gateway l) => if l % 12 = m then s.cutProducer q (.gateway l) else s
    | _ => s) s

/-- PARENT and LOCK brought up to the links that carry time now (R522, R523). -/
def State.retime (s : State) : State :=
  if s.fld tmbSrcact 0 ≠ 2 then s
  else
    let s := match s.timeParent with
      | some p => ((s.setFld tepParent 0 p.1).setFld tepParv 0 1).setFld tepHops 0 (min 15 (p.2.2 + 1))
      | none => s.setFld tepParv 0 0
    if s.sysLocked then s else s.setLock false

/-- A JOIN whose links have all run mash-in again replies with their states (R519, R536) (open points: log 76). -/
def State.joinReply (s : State) (links : Nat) : List Byte :=
  ((List.range 12).filter (bit links)).map fun m => BitVec.ofNat 8 (s.fld alkState m)

def State.settleJoins (s : State) : State :=
  s.cmds.foldl (fun s x => match x.wait with
    | .join links =>
      if (List.range 12).any fun m => bit links m && (s.link m).rerun then s
      else State.reply { s with cmds := s.cmds.erase x } x.cmd x.op stOk (s.joinReply links)
    | _ => s) s

/-- The work that depends on link `m` ends (R512); the link stands in its new state (open points: log 71). -/
def State.endWork (s : State) (m : Nat) : State :=
  let s := (s.cutChannels m).setSrcs ((List.range 12).map fun n => (704 + 12 * m + n, false))
  let s := s.modLink m fun x => { x with exch := if s.linkUp m then x.exch else none, rerun := x.rerun && s.linkUp m }
  s.retime.settleJoins

/-- A link leaving FULL, or HELD for another state than FULL, ends the work that depends on it (R512). -/
def leaves (old new : Nat) : Bool := (old == 4 && new != 4) || (old == 3 && new != 3 && new != 4)

/-- Link `m` goes to state `st` for good: a retrain is over. Each entry to FAILED raises 0xA201 (R511)
(open points: log 71). -/
def State.toLinkState (s : State) (m st : Nat) : State :=
  let old := ((s.link m).from_.map (·.1)).getD (s.fld alkState m)
  let s := s.modLink m fun x => { x with from_ := none }
  let s := s.putLinkState m st
  let s := if leaves old st then s.endWork m else s
  if st = 5 then s.raise 0xA201 8 (s.locLink m) 0 else s

/-- System requests sent over link `m` and not answered. -/
def State.linkIdle (s : State) (m : Nat) : Bool := s.sysReqs.all fun q => q.link != m

/-- Link `m` disabled (R512) (open points: log 71). -/
def State.disableLink (s : State) (m : Nat) : State :=
  let s := (s.setFld alkEn m 0).toLinkState m 0
  s.modLink m fun x => { x with drain := false, peer := none }

/-- Drains of links with nothing left complete (R512) (open points: log 71). -/
def State.settleLinks (s : State) : State :=
  (List.range 12).foldl (fun s m =>
    if (s.link m).drain ∧ s.linkIdle m then (s.disableLink m).finish (.linkDrain m) stOk [] else s) s

/-- LINK_DISABLE in ABORT mode (R512): a pending DRAIN replies ABORTED (R466). -/
def State.abortLink (s : State) (m : Nat) : State := (s.finish (.linkDrain m) stAborted []).disableLink m

/-- A write of ALK_CTL (R510, R534). -/
def State.alkCtlWrite (s : State) (m v : Nat) : State :=
  let s := if s.flag alkEn m then s else s.setFld alkNrz m (bits v 30 30)
  if !bit v 31 then (if s.flag alkEn m then s.abortLink m else s)
  else if s.flag alkEn m then s
  else (s.setFld alkEn m 1).toLinkState m 1

/-! ### Mash-in (R517, R518) -/

/-- Major and minor version of Drefel, and the silicon revision (R438). -/
def State.fwMajor (s : State) : Nat := bits (s.reg .DEV_FWVER 0) 31 24
def State.fwMinor (s : State) : Nat := bits (s.reg .DEV_FWVER 0) 23 16

/-- The first failing row of R518, 0 for none (open points: log 72). -/
def State.mashRow (s : State) (r : MashRec) : Nat :=
  if r.sdn = s.fld sysSdn 0 then 1
  else if r.mhash ≠ s.reg .CFG_MANIFEST 0 then 2
  else if r.major ≠ s.fwMajor then 3
  else if !Config.compatRevs.contains (BitVec.ofNat 8 r.rev) then 4
  else if r.member ≠ s.reg .DEV_MEMBER 0 then 5
  else 0

/-- The event of a failing row, with the peer's value (R518, R542) (open points: log 72). -/
def State.mashEvent (s : State) (m row : Nat) (r : MashRec) : State :=
  let ev : List (Nat × Nat) := [(0xA105, r.sdn), (0xA101, r.mhash), (0xA102, r.major), (0xA103, r.rev), (0xA104, r.member)]
  match row with
  | 0 => s
  | k + 1 => let e := ev.getD k (0, 0); s.raise e.1 8 (s.locLink m) e.2

/-- The registers that show the peer's record (R534). -/
def State.showPeer (s : State) (m row : Nat) (r : MashRec) : State :=
  let s := (s.setFld alkPsdn m r.sdn).setFld alkHcause m row
  let s := (s.setReg .ALK_MASH m r.mhash).setReg .ALK_PEER m
    (r.member % 2 ^ 32 + min s.fwMinor r.minor % 16 * 2 ^ 36 + r.minor % 256 * 2 ^ 40 + r.major % 256 * 2 ^ 48 +
      r.rev % 256 * 2 ^ 56)
  s.modLink m fun x => { x with peer := some r, rerun := false }

/-- A retrain that has come up again in time and with the same peer (R511). -/
def State.resumed (s : State) (m : Nat) (r : MashRec) : Bool :=
  match (s.link m).from_ with
  | none => true
  | some f => decide (f.2 = r.sdn ∧ s.tim.clk ≤ (s.link m).since + 10000000)

/-- A peer's mash record checked (R518): the link takes the more restrictive of the two verdicts (open points: log 72). -/
def State.mashIn (s : State) (m : Nat) (r : MashRec) (held : Bool) : State :=
  if !s.resumed m r then s.toLinkState m 5
  else
    let row := s.mashRow r
    let s := (s.showPeer m row r).mashEvent m row r
    (s.toLinkState m (if row = 0 ∧ !held then 4 else 3)).settleJoins

/-! ### The gateway crossbar (R514) -/

def grtActive : Fld := ⟨.NOC_GRT_CTL, 0, 0⟩
def grtPend : Fld := ⟨.NOC_GRT_CTL, 31, 31⟩
def grtMaxhop : Fld := ⟨.NOC_GRT_CTL, 13, 8⟩

/-- Link `m` carries VC0 and VC1, or VC2 and VC3, and takes new packets (R510, R512). -/
def State.linkCarries (s : State) (m : Nat) (data : Bool) : Bool :=
  decide (m < 12) && !(s.link m).drain && (if data then s.fld alkState m == 4 else s.linkUp m)

/-- The link by which a packet for another device leaves (R514); LINK 12 to 15 count as no entry. -/
def State.sysLink (s : State) (sdn : Nat) (data : Bool) : Option Nat :=
  let e := s.reg .NOC_GRT (4096 * s.fld grtActive 0 + sdn % 4096)
  let l := bits e 23 20
  if !bit e 31 ∨ 12 ≤ l then none
  else if s.linkCarries l data then some l
  else if bit e 29 ∧ s.linkCarries (bits e 19 16) data then some (bits e 19 16)
  else none

/-- The virtual channel on which a packet goes on: for data VC1 from the first dateline link that it leaves by; VC2 and VC3 stay
(R311, R514). -/
def State.sysVc (s : State) (p : Pkt) : Nat :=
  if 2 ≤ p.vc then p.vc
  else if s.flag ⟨.NOC_GRT, 30, 30⟩ (4096 * s.fld grtActive 0 + p.dsdn % 4096) then 1 else p.vc

/-- A packet for another device sent on, after `hops` links; none when R309 applies (open points: log 73). -/
def State.sendSys (s : State) (ssdn hops : Nat) (p : Pkt) : Option (Nat × State) :=
  if s.fld grtMaxhop 0 < hops then none
  else (s.sysLink p.dsdn (decide (p.vc < 2))).map fun m => (m, { s with linkOut := s.linkOut ++ [⟨m, ssdn, hops + 1, { p with vc := s.sysVc p }⟩] })

/-- An answer sent to device `sdn`; one without a route is dropped (R309). -/
def State.sysAnswer (s : State) (sdn : Nat) (p : Pkt) : State :=
  match s.sendSys (s.fld sysSdn 0) 0 { p with sys := true, dsdn := sdn } with
  | some (_, s) => s
  | none => s.noRouteDrop 52 32 (pktNet p)

/-! ### System channels (R516) -/

def xchEn : Fld := ⟨.ALK_XCH, 63, 63⟩
def xchErr : Fld := ⟨.ALK_XCH, 62, 62⟩
def xchDsdn : Fld := ⟨.ALK_XCH, 59, 48⟩
def xchDq : Fld := ⟨.ALK_XCH, 45, 32⟩
def xchSq : Fld := ⟨.ALK_XCH, 29, 16⟩

/-- A push answered with anything but OK ends its channel (R516) (open points: log 73). -/
def State.xchFail (s : State) (x status : Nat) : State :=
  if !s.flag xchEn x then s
  else
    let s := s.dropBy (s.fld xchSq x) (.channel (x / 16) (x % 16))
    ((s.setFld xchErr x 1).setFld xchEn x 0).raise 0xA302 8 (s.locLink (x / 16)) (x % 16 + 256 * status)

/-- The answer of a system request; its channel and a drain of its link learn of it. -/
def State.sysDone (s : State) (q : SysReq) (status : Nat) : State :=
  let s : State := { s with sysReqs := s.sysReqs.filter (·.id ≠ q.id) }
  (if status = 0 then s else s.xchFail q.chan status).settleLinks

/-- An answer from device `sdn`: matched by the gateway that sent the request and its TAG; one that nothing waits for is
discarded (R515). -/
def State.sysArrive (s : State) (sdn : Nat) (p : Pkt) : State :=
  match s.sysReqs.find? fun q => q.dsdn == sdn && q.tag == p.tag && decide (544 + q.chan / 16 = p.src) with
  | none => s.bump .NOC_LATE_DROP 0
  | some q => s.sysDone q p.status

/-! ### Proxies (R515) -/

/-- A free TAG of a gateway's proxy table. -/
def freeTag (used : List Nat) : Option Nat := (List.range 256).find? fun t => !used.contains t

/-- The node of a request that has entered: an object's hub, or the node of its address (R294). -/
def reqNode (p : Pkt) : Option Nat :=
  match p.op with
  | .rd | .wr | .cfgwr => nodeOf p.addr
  | .qpush | .qpop | .qdrop | .qlvl => some (p.addr % 16384 / 512)
  | .signal | .cancel => some (p.addr % 32768 / 1024)
  | _ => none

/-- A system request for this device enters by gateway `m` from device `sdn`: proxied, and injected as a local request of
view 0 (R513, R515). The producer it stands for is the source SDN, its gateway and its channel (R516). -/
def State.enterProxy (s : State) (m sdn : Nat) (p : Pkt) (tag node : Nat) : State :=
  let q := { p with src := 544 + m, tag := tag, view := 0, sys := false, dsdn := 0, dest := node
                    result := p.result % 16 + 16 * ((p.src - 544) % 16) + 256 * sdn }
  let s := if pktPosted p then s
    else s.modLink m fun x => { x with proxies := x.proxies ++ [{ tag := tag, sdn := sdn, orig := p.tag, pkt := q, resend := false }] }
  s.inject 32 q

/-- The answer of a proxied request returned to the device that made it (R515). A push that a full park refused is made
again (R304, R516). -/
def State.proxyAnswer (s : State) (m : Nat) (p : Pkt) : State :=
  match (s.link m).proxies.find? fun x => x.tag == p.tag with
  | none => s.bump .NOC_LATE_DROP 0
  | some x =>
    if p.status = stBusy ∧ !x.pkt.nb ∧ (x.pkt.op = .qpush ∨ x.pkt.op = .qpop) then
      s.modLink m fun l => { l with proxies := l.proxies.map fun y => if y.tag = x.tag then { y with resend := true } else y }
    else
      let s := s.modLink m fun l => { l with proxies := l.proxies.filter fun y => y.tag != x.tag }
      let a := { p with tag := x.orig, src := 544 + x.pkt.result / 16 % 16, dest := 32 }
      if x.sdn = s.fld sysSdn 0 then s.sysArrive x.sdn a else s.sysAnswer x.sdn a

/-- A proxied push or pop made again after a full park (R304). -/
def State.proxyResend (s : State) (m : Nat) (x : Proxy) : State :=
  (s.modLink m fun l => { l with proxies := l.proxies.map fun y => if y.tag = x.tag then { y with resend := false } else y }).inject 32
    x.pkt

/-- An earlier push of the same channel is still proxied at gateway `m`, so its next push waits (R516)
(open points: log 73). -/
def State.channelBusy (s : State) (m sdn : Nat) (p : Pkt) : Bool :=
  p.op == .qpush && (s.link m).proxies.any fun x => x.pkt.op == .qpush && x.sdn == sdn &&
    decide (x.pkt.result % 256 = p.result % 16 + 16 * ((p.src - 544) % 16))

/-- The gateway may make a further request: a posted one, or one of at most 64 outstanding (R305). -/
def State.gateFree (s : State) (m : Nat) (p : Pkt) : Bool := pktPosted p || decide ((s.link m).proxies.length < 64)

/-- A request for this device that has arrived at gateway `m` (R515): it waits while the proxy table has no free entry or the
gateway no free request (R305). -/
def State.enterLocal (s : State) (m sdn : Nat) (p : Pkt) : State :=
  match freeTag ((s.link m).proxies.map (·.tag)) with
  | none => s
  | some tag =>
    if s.channelBusy m sdn p ∨ !s.gateFree m p then s
    else match reqNode p with
      | some node => s.enterProxy m sdn p tag node
      | none =>
        if pktPosted p then s.noRouteDrop 52 32 0
        else
          let st := if p.op = .rd ∨ p.op = .wr ∨ p.op = .cfgwr then stNoRoute else stBadParam
          let a := { answer p with op := .rsp, status := st }
          if sdn = s.fld sysSdn 0 then s.sysArrive sdn a else s.sysAnswer sdn a

/-- A packet of device `sdn` in transit, after `hops` links (R309, R514). -/
def State.transit (s : State) (sdn hops : Nat) (p : Pkt) : State :=
  match s.sendSys sdn hops p with
  | some (_, s) => s
  | none =>
    if isRequest p then s.sysAnswer sdn { answer p with op := .rsp, status := stNoRoute }
    else s.noRouteDrop 52 32 (pktNet p)

end Sys2Proof.Machine
end

