-- ==== Sys2Proof/Machine/Host.lean ====
section
/-! DEFINITION. The commands of rings, views, host queue ports and the host memory window (chapter "Command packets and
register views"). -/

namespace Sys2Proof.Machine

open Sys2Proof

/-! ### Ring registers (R440, R441, R451) -/

/-- A write of CMD_DB (R440, R451). -/
def State.doorbell (s : State) (v n : Nat) : State :=
  let s := s.modRing v fun x => { x with tail := n % 65536 }
  let ahead := (n % 65536 + 65536 - s.reg .CMD_CHEAD v) % 65536
  if !(s.ring v).sized ∨ s.ringSlots v < ahead then s.ringFault v 0xB101 else s

/-- RING_DOORBELL (R441, R451). -/
def execRingDoorbell (v : ViewNo) (w : Word) (s : State) : Out := .next (s.doorbell v w.toNat)

/-- CMD_CBASE, CMD_RBASE and LOG2N may be written (R441). -/
def State.ringOpen (s : State) (v : Nat) : Bool := !s.flag ringEn v && s.inflight v == 0

/-- A write of CMD_CFG (R440, R441). -/
def State.ringCfg (s : State) (v w : Nat) : State :=
  let s := if s.ringOpen v then
      (s.setFld ringLog2n v (max 4 (min 12 (bits w 19 16)))).modRing v fun x => { x with sized := true }
    else s
  if !bit w 31 then (if s.flag ringEn v then (s.setFld ringEn v 0).releaseLocks (· == v) else s)
  else if s.flag ringEn v then s
  else
    let s := (((s.setFld ringErr v 0).setReg .CMD_CHEAD v 0).setReg .CMD_RTAIL v 0).setReg .CMD_RHEAD v 0
    (s.setFld ringEn v 1).modRing v fun x => { x with tail := 0 }

/-- RING_ENABLE (R441). -/
def execRingEnable (v : ViewNo) (w : Word) (s : State) : Out :=
  if w.getLsbD 31 then .next (s.ringCfg v w.toNat) else .next s

/-- RING_DISABLE (R441). -/
def execRingDisable (v : ViewNo) (w : Word) (s : State) : Out :=
  if w.getLsbD 31 then .next s else .next (s.ringCfg v w.toNat)

/-! ### Fetch, reply, signals (R441, R444, R446, R449, R451) -/

/-- COMMAND_FETCH (R441, R444): `slot` holds the 1,024 bytes that the host memory read returned
(open points: log 38, log 39). -/
def execCommandFetch (v : ViewNo) (slot : List Byte) (fails : Bool) (s : State) : Out :=
  let slot := (slot ++ List.replicate 1024 0#8).take 1024
  if !s.ringReady v (if bit (numAt slot 2 1) 2 then 2 else 1) || s.othersTurn v then .next s
  else if fails then .next (s.ringFault v 0xB102)
  else .next (s.takePacket v slot)

/-- REPLY_WRITE (R446, R451): the ring's oldest reply (open points: log 41, log 93). -/
def execReplyWrite (v : ViewNo) (fails : Bool) (s : State) : Out :=
  match s.replies.find? fun r => ofRing v r.cmd with
  | none => .next s
  | some r =>
    let s : State := { s with replies := s.replies.erase r }
    .next (if fails then (s.ringFault v 0xB102).settleRevokes else (s.putReply v r).settleRevokes)

/-- MSIX_COALESCE_TIMEOUT (R449). -/
def execMsixCoalesceTimeout (v : ViewNo) (s : State) : Out :=
  let x := s.ring v
  if x.unsig ≠ 0 ∧ x.unsigAt + s.reg .CMD_COAL v / 65536 * 1000 ≤ s.tim.clk then .next (s.signalRing v) else .next s

/-! ### Host-side resets (R452) -/

/-- The ports that a host-side reset disables, as by HOSTQ_DISABLE ABORT. -/
def State.resetPorts (s : State) (p : Nat → Bool) : State :=
  ((List.range 64).filter fun h => s.flag hqEn h && p (s.fld hqView h)).foldl (fun s h => (s.hqAbort h).pendEdge s h) s

/-- The host side of the views that `p` names reset (open points: log 44). -/
def State.hostReset (s : State) (p : Nat → Bool) : State :=
  let s := ((List.range 16).filter p).foldl State.resetRing s
  ((s.resetPorts p).releaseLocks p).settleRevokes

/-- PCIE_RESET (R452) (open points: log 44). -/
def execPcieReset (s : State) : Out := .next (s.hostReset fun _ => true)

/-- VF_FLR (R452): view 0 is the PF, whose FLR is PCIE_RESET (open points: log 44). -/
def execVfFlr (v : ViewNo) (s : State) : Out := if v = 0 then .next s else .next (s.hostReset fun w => w == v.val)

/-! ### Device commands (R456) -/

/-- DEV_INFO (R456). -/
def execDevInfo (c : Cmd) (s : State) : Out :=
  .next (s.runCmd c 0x0001 [] true fun s =>
    s.reply c 0x0001 stOk (leBytes 4 (s.reg .DEV_ID 0) ++ leBytes 4 (s.reg .DEV_FWVER 0) ++ leBytes 8 (s.reg .DEV_EFUSE_ID 0) ++
      leBytes 8 (s.reg .CFG_MANIFEST 0) ++ leBytes 2 (s.fld sysSdn 0) ++ leBytes 1 c.view ++ leBytes 5 0))

/-- NOP (R456). -/
def execNop (c : Cmd) (data : List Byte) (s : State) : Out :=
  .next (s.runCmd c 0x0002 data true fun s =>
    if 1008 < data.length then s.badParam c 0x0002 0xFFFF else s.reply c 0x0002 stOk data)

/-- Parameters of the three ownership commands. -/
def rangeParams (kind first n : Nat) : List Byte := leBytes 1 kind ++ leBytes 2 first ++ leBytes 2 n

/-- The range checks of the ownership commands, with what comes between them (R443, R456). -/
def State.viewCmd (s : State) (c : Cmd) (op kind first n most : Nat) (busy : Bool) (body : State → State) : State :=
  if 5 < kind then s.badParam c op 0
  else if n = 0 ∨ most < n then s.badParam c op 3
  else if busy then s.reply c op stBusy []
  else if kindSize kind ≤ first then s.badParam c op 1
  else if kindSize kind < first + n then s.badParam c op 3
  else body s

/-- A pending VIEW_REVOKE names a resource of the range. -/
def State.revokePending (s : State) (kind first n : Nat) : Bool := (List.range n).any fun i => s.revoked kind (first + i)

/-- VIEW_GRANT (R456); it waits behind a pending VIEW_REVOKE of a resource of its range (R447) (open points: log 40). -/
def execViewGrant (c : Cmd) (kind first n view : Nat) (s : State) : Out :=
  if s.revokePending kind first n then .next s
  else .next (s.runCmd c 0x0003 (rangeParams kind first n ++ leBytes 1 view) false fun s =>
    if 5 < kind then s.badParam c 0x0003 0
    else if n = 0 ∨ kindSize kind < n then s.badParam c 0x0003 3
    else if view = 0 ∨ 15 < view then s.badParam c 0x0003 5
    else
      let busy := (List.range n).any fun i => let o := s.ownerOf kind (first + i); o != 0 && o != view
      s.viewCmd c 0x0003 kind first n (kindSize kind) busy fun s =>
        (s.setOwners kind first n view).reply c 0x0003 stOk [])

/-- VIEW_REVOKE (R456, R459). -/
def execViewRevoke (c : Cmd) (kind first n : Nat) (s : State) : Out :=
  .next (s.runCmd c 0x0004 (rangeParams kind first n) false fun s =>
    s.viewCmd c 0x0004 kind first n (kindSize kind) false fun s =>
      (s.waitCmd c 0x0004 (.viewRevoke kind first n) 0).settleRevokes)

/-- VIEW_TABLE (R456). -/
def execViewTable (c : Cmd) (kind first n : Nat) (s : State) : Out :=
  .next (s.runCmd c 0x0005 (rangeParams kind first n) false fun s =>
    s.viewCmd c 0x0005 kind first n 1008 false fun s =>
      s.reply c 0x0005 stOk ((List.range n).flatMap fun i => leBytes 1 (s.ownerOf kind (first + i))))

/-- GUARD_DOORBELL (R123, R456): the cause goes to the named guard only. -/
def execGuardDoorbell (c : Cmd) (t g : Nat) (s : State) : Out :=
  .next (s.runCmd c 0x0006 (leBytes 2 t ++ leBytes 1 g) false fun s =>
    if 511 < t then s.badParam c 0x0006 0
    else if 1 < g then s.badParam c 0x0006 2
    else if (s.guardSlot t g).isNone then s.badParam c 0x0006 2
    else if !bit (s.reg .TIL_GEN (2 * t + g)) 12 then s.reply c 0x0006 stBusy []
    else if s.domainOff (t / 16) then s.reply c 0x0006 stDomainOff []
    else (s.notice t 12 g).reply c 0x0006 stOk [])

/-! ### Host queue ports (R456, R461 to R463) -/

/-- HOSTQ_BIND (R456, R461) (open points: log 42). -/
def execHostqBind (c : Cmd) (p q dir view : Nat) (s : State) : Out :=
  .next (s.runCmd c 0x0007 (leBytes 1 p ++ leBytes 2 q ++ leBytes 1 dir ++ leBytes 1 view) false fun s =>
    if 63 < p then s.badParam c 0x0007 0
    else if 16383 < q then s.badParam c 0x0007 1
    else if 1 < dir then s.badParam c 0x0007 3
    else if 15 < view then s.badParam c 0x0007 4
    else if s.flag hqEn p then s.reply c 0x0007 stBusy []
    else if view ≠ 0 ∧ (s.ownerOf 1 q ≠ view ∨ s.revoked 1 q) then s.badParam c 0x0007 4
    else
      let s' := (s.setReg .CMD_HQ p (2 ^ 31 + dir * 2 ^ 30 + view * 2 ^ 26 + q)).modHport p fun x =>
        { x with fifo := [], drain := false, mid := false }
      (s'.pendEdge s p).reply c 0x0007 stOk [])

/-- The checks of HOSTQ_DISABLE; a disabled port replies OK at once (R456, R458, R466). -/
def State.hostqCmd (s : State) (c : Cmd) (p : Nat) (body : State → State) : State :=
  if 63 < p then s.badParam c 0x0008 0
  else if !s.cmdOwns c 5 p then s.reply c 0x0008 stNoPriv []
  else if !s.flag hqEn p then s.reply c 0x0008 stOk []
  else body s

/-- HOSTQ_DISABLE in DRAIN mode (R463). -/
def execHostqDisableDrain (c : Cmd) (p timeout : Nat) (s : State) : Out :=
  .next (s.runCmd c 0x0008 (leBytes 1 p ++ leBytes 1 0 ++ leBytes 2 timeout) true fun s =>
    s.hostqCmd c p fun s =>
      ((s.await c 0x0008 (.portDrain p) timeout).modHport p fun x => { x with drain := true }).hqSettle p)

/-- HOSTQ_DISABLE in ABORT mode (R463). -/
def execHostqDisableAbort (c : Cmd) (p timeout : Nat) (s : State) : Out :=
  .next (s.runCmd c 0x0008 (leBytes 1 p ++ leBytes 1 1 ++ leBytes 2 timeout) true fun s =>
    s.hostqCmd c p fun s => (((s.interim c 0x0008).hqAbort p).pendEdge s p).reply c 0x0008 stOk [])

/-- A 4-byte write at `off` of port `h`'s page (R461, R462). -/
def State.hqWrite (s : State) (h off : Nat) (w : Word) : State :=
  if off = 8 then (s.modHport h fun x => { x with note := w.toNat % 512 }).pendEdge s h
  else if 0x100 ≤ off ∧ off < 0x120 then
    let g := (off - 0x100) / 4
    s.hqPush h w (bit g 0) (bit g 1) (bit g 2)
  else if 0x800 ≤ off then s.hqPush h w false false false
  else s

/-- HQ_PUSH_WRITE (R462): one write request of whole 4-byte words, or a write that is not one. -/
def execHqPushWrite (h : Fin 64) (view : ViewNo) (off : BitVec 12) (ws : List Word) (whole : Bool) (s : State) : Out :=
  if !s.hqSees view h then .next s
  else
    let a := off.toNat
    if !whole then .next (if (0x100 ≤ a ∧ a < 0x120) ∨ 0x800 ≤ a then s.hqOverrun h else s)
    else .next (ws.zipIdx.foldl (fun s (w, i) => s.hqWrite h (a / 4 * 4 + 4 * i) w) s)

/-- One word from a push port's FIFO to its queue (R462) (open points: log 42). -/
def State.portPush (s : State) (h q : Nat) : State :=
  match (s.hport h).fifo with
  | [] => s
  | w :: rest =>
    let (ok, s) := s.pushWord q (.hostPort h) none w.data w.sop w.eop w.psn
    if ok then s.modHport h fun x => { x with fifo := rest } else s

/-- One word from the queue to a pop port's FIFO; a DRAIN stops at the end of the item (R462, R463) (open points: log 42). -/
def State.portPop (s : State) (h q : Nat) : State :=
  if 256 ≤ (s.hport h).fifo.length ∨ ((s.hport h).drain ∧ (s.queue q).olock ≠ some (.hostPort h)) then s
  else match s.popWord q (.hostPort h) with
    | none => s
    | some (w, s) => s.modHport h fun x => { x with fifo := x.fifo ++ [w] }

/-- HQ_PORT_TRANSFER (R462); a queue in a floor that is not OPEN is not reached (R314). -/
def execHqPortTransfer (h : Fin 64) (s : State) : Out :=
  let q := s.fld hqQueue h
  if !s.flag hqEn h ∨ !s.floorOpen (q / 512) then .next s
  else
    let s' := if s.flag hqDir h then s.portPop h q else s.portPush h q
    .next ((s'.pendEdge s h).hqSettle h)

/-- The register at `off` of a port's page as a read finds it (R461, R462): HQ_CTL, HQ_CREDIT, HQ_NOTE, HQ_ERR, HQ_POP
(open points: log 42). -/
def State.hqRead (s : State) (h off : Nat) (wide : Bool) : Nat :=
  let x := s.hport h
  let ctl := putBits (putBits (s.reg .CMD_HQ h) 29 14 0) 29 29 (b2n (s.hqMid h))
  let lo := if off = 0 then ctl else if off = 4 then s.hqCredit h else if off = 8 then x.note else if off = 12 then x.err else 0
  if !wide then lo
  else if off = 0 then ctl + s.hqCredit h * 2 ^ 32
  else if off = 8 then x.note + x.err * 2 ^ 32
  else if off = 0x200 ∧ s.flag hqDir h then
    match x.fifo with
    | [] => 0
    | w :: _ => wordBits w + 2 ^ 63
  else 0

/-- HQ_POP_READ (R461, R462): a read of a port's page; HQ_POP and HQ_ERR change by it. -/
def execHqPopRead (h : Fin 64) (view : ViewNo) (off : BitVec 12) (wide : Bool) (s : State) : Out :=
  if !s.hqSees view h then .next s
  else if off = 0xC ∨ (off = 8 ∧ wide) then .next (s.modHport h fun x => { x with err := 0 })
  else if off = 0x200 ∧ wide ∧ s.flag hqDir h then
    .next (((s.modHport h fun x => { x with fifo := x.fifo.tail }).pendEdge s h).hqSettle h)
  else .next s

/-! ### Host memory window (R464, R465) -/

def hmwEn : Fld := ⟨.CMD_HMW, 63, 63⟩
def hmwFn : Fld := ⟨.CMD_HMW, 62, 59⟩

/-- HMW_SET (R456, R465). -/
def execHmwSet (c : Cmd) (seg en fn : Nat) (addr : DWord) (s : State) : Out :=
  .next (s.runCmd c 0x0009 (leBytes 1 seg ++ leBytes 1 en ++ leBytes 1 fn ++ leBytes 8 addr.toNat) false fun s =>
    if 31 < seg then s.badParam c 0x0009 0
    else if 1 < en then s.badParam c 0x0009 1
    else if 15 < fn then s.badParam c 0x0009 2
    else if addr.toNat % 2 ^ 30 ≠ 0 then s.badParam c 0x0009 3
    else (s.setReg .CMD_HMW seg (en * 2 ^ 63 + fn * 2 ^ 59 + addr.toNat / 2 ^ 30)).reply c 0x0009 stOk [])

/-- A window access that PCIe fails: answered NO_ROUTE, event 0xB301 at most once a millisecond and segment (R464)
(open points: log 43). -/
def State.hmwFail (s : State) (p : Pkt) : State :=
  let k := p.addr / 2 ^ 30 % 32
  let s := s.rsp 32 p stNoRoute 0
  let last := tget 0 s.hmwAt k
  if last ≠ 0 ∧ s.tim.clk < last - 1 + 1000000 then s
  else State.raise { s with hmwAt := tput 0 s.hmwAt k (s.tim.clk + 1) } 0xB301 0xB (locView (s.fld hmwFn k) k) 0

/-- HMW_COMPLETION (R464): PCIe completes a window access, with the bytes read; 1: Bus Master Enable is 0; 2: the host fails
it. Bytes written lie in host memory from then on (open points: log 43). -/
def execHmwCompletion (p : Pkt) (res : Fin 3) (data : List Byte) (s : State) : Out :=
  if !s.hmw.contains p then .next s
  else
    let s : State := { s with hmw := s.hmw.erase p }
    if res = 1 then .next (s.rsp 32 p stNoRoute 0)
    else if res = 2 then .next (s.hmwFail p)
    else if p.op = .rd then .next (s.dat 32 p ((data ++ List.replicate (reqBytes p.size) 0#8).take (reqBytes p.size)) 0)
    else
      let k := p.addr / 2 ^ 30 % 32
      let a := s.reg .CMD_HMW k % 2 ^ 34 * 2 ^ 30 + p.addr % 2 ^ 30
      let s := p.data.zipIdx.foldl (fun s (b, i) => match b with
        | some b => s.putHost (a + i) [b]
        | none => s) s
      .next (s.rsp 32 p stOk 0)

end Sys2Proof.Machine
end

