-- ==== Sys2Proof/Machine/Links.lean ====
section
/-! DEFINITION. The events of links, the commands of R536 that act on links and the gateway crossbar, forwarded commands (chapter
"Ahnistob links and multi-device systems"; R453). -/

namespace Sys2Proof.Machine

open Sys2Proof

/-! ### Training (R510, R511) -/

/-- LINK_ENABLE (R510). -/
def execLinkEnable (m : LinkNo) (v : Word) (s : State) : Out :=
  if v.getLsbD 31 then .next (s.alkCtlWrite m v.toNat) else .next s

/-- LINK_TRAINED (R510): training takes at most 50 ms. A link that retrains keeps the start of its retrain
(open points: log 71). -/
def execLinkTrained (m : LinkNo) (ok : Bool) (s : State) : Out :=
  if s.fld alkState m ≠ 1 then .next s
  else if ok ∧ s.tim.clk ≤ (s.link m).since + 50000000 then .next (s.putLinkState m 2)
  else .next (s.toLinkState m 5)

/-- LINK_RETRY (R510). -/
def execLinkRetry (m : LinkNo) (s : State) : Out :=
  if s.fld alkState m = 5 ∧ (s.link m).since + 100000000 ≤ s.tim.clk then .next (s.toLinkState m 1) else .next s

/-- LINK_REPLAY (R506): an uncorrectable codeword is counted, and the replay it asks for. -/
def execLinkReplay (m : LinkNo) (s : State) : Out :=
  if s.carriesTrips m then .next ((s.bump .ALK_FEC_UNC m).bump .ALK_REPLAY m) else .next s

/-- LINK_RETRAIN (R506, R508, R511): the link goes through TRAINING and keeps its replay buffer (open points: log 71). -/
def execLinkRetrain (m : LinkNo) (s : State) : Out :=
  if !s.linkUp m then .next s
  else
    let st := s.fld alkState m
    let s := (s.bump .ALK_RETRAIN m).putLinkState m 1
    .next (s.modLink m fun x => { x with from_ := some (st, s.fld alkPsdn m) })

/-- LINK_DOWN (R511, R512): a retrain that is not over after 10 ms. -/
def execLinkDown (m : LinkNo) (s : State) : Out :=
  if (s.link m).from_.isSome ∧ (s.link m).since + 10000000 ≤ s.tim.clk then .next (s.toLinkState m 5) else .next s

/-- Lane and direction of a link as a number. -/
def eqKey (k : Nat) (tx : Bool) : Nat := 2 * k + b2n tx

/-- LINK_EQ_STEP (R508): one step of a lane's receive equalisation or transmit emphasis, at most every 10 µs. -/
def execLinkEqStep (m : LinkNo) (k : Fin 4) (tx up : Bool) (s : State) : Out :=
  let e := tget (0, 0) (s.link m).eq (eqKey k tx)
  if !s.flag klnSeren 0 ∨ !s.linkUp m ∨ (e.2 ≠ 0 ∧ s.tim.clk < e.2 - 1 + 10000) then .next s
  else .next (s.modLink m fun x => { x with
    eq := tput (0, 0) x.eq (eqKey k tx) (e.1 + (if up then 1 else -1), s.tim.clk + 1) })

/-! ### Side slots (R509) -/

/-- Bytes [79:16] of a side slot, the highest first. -/
def slotBytes (v : BitVec 80) : List Byte := (List.range 8).map fun i => v.extractLsb' (72 - 8 * i) 8

/-- The slot's CRC fails or its KIND is reserved (R509). -/
def slotBad (v : BitVec 80) : Bool :=
  decide (crc16 (slotBytes v) ≠ v.toNat % 65536) || !([0x00, 0x5A, 0x33].contains (v.toNat / 2 ^ 72))

/-- The TWIN field of the device's own side slots (R509). -/
def State.twinCode (s : State) : Nat := if s.fld twMode 0 = 0 then 0 else if s.standby then 1 else 2

/-- The trip frame that link `m` sent last, as its side slot carries it (R401, R509). -/
def State.slotOut (s : State) (m : Nat) : BitVec 80 :=
  let v := BitVec.ofNat 80 (0x5A * 2 ^ 72 + s.fld sysSdn 0 * 2 ^ 60 + (tget (0, 0) s.trip.frames m).1 % 4096 * 2 ^ 48 +
    tget 0 s.trip.seq m % 16 * 2 ^ 44 + s.twinCode * 2 ^ 42)
  v ||| BitVec.ofNat 80 (crc16 (slotBytes v))

/-- SIDE_SLOT_RECEIVE (R509, R525). -/
def execSideSlotReceive (m : LinkNo) (slot : BitVec 80) (s : State) : Out :=
  if !s.carriesTrips m then .next s
  else if slotBad slot then .next (s.bump .ALK_SLOT_ERR m)
  else
    let s := s.modLink m fun x => { x with twin := bits slot.toNat 43 42 }
    .next (if slot.toNat / 2 ^ 72 = 0x5A then s.takeFrame m (bits slot.toNat 59 48) else s)

/-- MASH_RECORD_RECEIVE (R517, R518); `held` is the peer's verdict. -/
def execMashRecordReceive (m : LinkNo) (r : MashRec) (held : Bool) (s : State) : Out :=
  if s.carriesTrips m then .next (s.mashIn m r held) else .next s

/-! ### System packets (R513 to R516) -/

/-- GATEWAY_PACKET_ENTRY (R514, R515): a packet of device `src` that has crossed `hops` links comes out of link `m`. -/
def execGatewayPacketEntry (m : LinkNo) (p : Pkt) (src : BitVec 12) (hops : Fin 64) (s : State) : Out :=
  if s.fld alkState m ≠ 4 ∧ (p.vc < 2 ∨ !s.linkUp m) then .next s
  else if p.dsdn % 4096 ≠ s.fld sysSdn 0 then .next (s.transit src.toNat hops p)
  else if pktAnswer p then .next (s.sysArrive src.toNat p)
  else .next (s.enterLocal m src.toNat p)

/-- SYS_REQUEST_TIMEOUT (R515): event 0xA301 at most once per millisecond. -/
def execSysRequestTimeout (id : Nat) (s : State) : Out :=
  match s.sysReqs.find? fun q => q.id == id && decide (q.sent + s.fld ⟨.DEV_SYSCFG, 30, 16⟩ 0 * 1000 ≤ s.tim.clk) with
  | none => .next s
  | some q =>
    let s := s.bump .ALK_RSPTO q.link
    let s := if s.sysTo.any fun t => decide (s.tim.clk < t + 1000000) then s
      else State.raise { s with sysTo := some s.tim.clk } 0xA301 8 (s.locLink q.link) q.dsdn
    .next (s.sysDone q stNoRoute)

/-- The push of a popped word, as it leaves the channel `x` = 16 × gateway + channel. -/
def State.pushPkt (s : State) (x tag : Nat) (w : QWord) : Pkt :=
  { pkt0 with op := .qpush, src := 544 + x / 16, tag := tag, sys := true, dsdn := s.fld xchDsdn x, addr := s.fld xchDq x,
              data := (leBytes 4 w.data.toNat).map some, psn := b2n w.psn, sop := w.sop, eop := w.eop, result := x % 16 }

/-- A word sent by channel `x` (R516): over its link, or within the device when DSDN names it; without a route it is answered
NO_ROUTE (R309) (open points: log 73). -/
def State.sendPush (s : State) (x tag : Nat) (w : QWord) : State :=
  let p := s.pushPkt x tag w
  let q : SysReq := { id := s.nextSys, tag := tag, link := x / 16, dsdn := p.dsdn, sent := s.tim.clk, chan := x }
  let s : State := { s with nextSys := s.nextSys + 1 }
  if p.dsdn = s.fld sysSdn 0 then State.enterLocal { s with sysReqs := s.sysReqs ++ [q] } (x / 16) p.dsdn p
  else match s.sendSys (s.fld sysSdn 0) 0 p with
    | some (m, s) => { s with sysReqs := s.sysReqs ++ [{ q with link := m }] }
    | none => s.xchFail x stNoRoute

/-- The channel may take a word: it runs, its source queue's floor is OPEN, at most 8 of its pushes and 64 of its gateway are
outstanding, and a push to the device itself finds a proxy entry (R305, R516) (open points: log 73). -/
def State.xchReady (s : State) (x : Nat) : Bool :=
  s.flag xchEn x && s.floorOpen (s.fld xchSq x / 512) && decide ((s.sysReqs.filter fun q => q.chan == x).length < 8) &&
    decide ((s.sysReqs.filter fun q => q.chan / 16 == x / 16).length < 64) &&
    (s.fld xchDsdn x != s.fld sysSdn 0 ||
      (decide ((s.link (x / 16)).proxies.length < 64) &&
        !s.channelBusy (x / 16) (s.fld sysSdn 0) (s.pushPkt x 0 truncWord)))

/-- XCH_PUSH (R516). -/
def execXchPush (m : LinkNo) (k : Fin 16) (s : State) : Out :=
  let x := 16 * m.val + k.val
  if !s.xchReady x then .next s
  else
    let used := (s.sysReqs.filter fun q => q.chan / 16 == m.val).map (·.tag)
    match s.popWord (s.fld xchSq x) (.channel m k), freeTag used with
    | some (w, s), some tag => .next (s.sendPush x tag w)
    | _, _ => .next s

/-! ### Link commands (R512, R536) -/

/-- LINK_STATUS (R536). -/
def execLinkStatus (c : Cmd) (l : Nat) (s : State) : Out :=
  .next (s.runCmd c 0xA001 (leBytes 1 l) false fun s =>
    if 11 < l then s.badParam c 0xA001 0
    else s.reply c 0xA001 stOk (leBytes 4 (s.reg .ALK_STATUS l) ++ leBytes 8 (s.reg .ALK_MASH l) ++ leBytes 8 (s.reg .ALK_PEER l) ++
      leBytes 4 (s.reg .ALK_DELAY l) ++
      ([Reg.ALK_FEC_CW, .ALK_FEC_UNC, .ALK_REPLAY, .ALK_SLOT_ERR, .ALK_RETRAIN, .ALK_RSPTO].flatMap fun r => leBytes 4 (s.reg r l))))

/-- The parameters of LINK_DISABLE. -/
def linkDisableBytes (l mode timeout : Nat) : List Byte := leBytes 1 l ++ leBytes 1 mode ++ leBytes 2 timeout

/-- LINK_DISABLE in DRAIN mode (R466, R512). -/
def execLinkDisableDrain (c : Cmd) (l timeout : Nat) (s : State) : Out :=
  .next (s.runCmd c 0xA002 (linkDisableBytes l 0 timeout) false fun s =>
    if 11 < l then s.badParam c 0xA002 0
    else if s.fld alkState l = 0 then s.reply c 0xA002 stOk []
    else ((s.await c 0xA002 (.linkDrain l) timeout).modLink l fun x => { x with drain := true }).settleLinks)

/-- LINK_DISABLE in ABORT mode (R466, R512). -/
def execLinkDisableAbort (c : Cmd) (l timeout : Nat) (s : State) : Out :=
  .next (s.runCmd c 0xA002 (linkDisableBytes l 1 timeout) false fun s =>
    if 11 < l then s.badParam c 0xA002 0
    else if s.fld alkState l = 0 then s.reply c 0xA002 stOk []
    else ((s.interim c 0xA002).abortLink l).reply c 0xA002 stOk [])

/-- The items of MASH_STATUS (R517, R536): the own record, the compatibility table, STATE and HCAUSE of each link
(open points: log 31). -/
def State.mashItems (s : State) : List Nat :=
  [s.fld sysSdn 0, s.reg .CFG_MANIFEST 0, s.fwMajor, s.fwMinor, s.reg .DEV_ID 0 % 256, s.fld tepMsdn 0, s.fld tepEcnt 0,
    s.fld tepHops 0, s.reg .DEV_MEMBER 0, s.fld ⟨.DEV_SYSCFG, 12, 12⟩ 0, s.fld twMode 0, s.fld ⟨.DEV_TWSTAT, 31, 31⟩ 0] ++
  Config.compatRevs.map (·.toNat) ++
  (List.range 12).flatMap fun m => [s.fld alkState m, s.fld alkHcause m]

/-- MASH_STATUS (R536) (open points: log 31). -/
def execMashStatus (c : Cmd) (s : State) : Out :=
  .next (s.runCmd c 0xA003 [] false fun s => s.reply c 0xA003 stOk (Config.mashStatus s.mashItems))

/-! ### The crossbar's table (R514, R536) -/

def sysChangeBytes (l : List (Nat × Nat × Nat)) : List Byte :=
  l.flatMap fun c => leBytes 2 c.1 ++ leBytes 1 c.2.1 ++ leBytes 1 c.2.2

/-- The first parameter byte of a change outside its range. -/
def sysChangeFault (l : List (Nat × Nat × Nat)) : Option Nat :=
  l.zipIdx.findSome? fun (c, i) =>
    if 4095 < c.1 then some (4 * i) else if 11 < c.2.1 ∧ c.2.1 ≠ 0xFF then some (4 * i + 2)
    else if bits c.2.2 5 4 ≠ 0 then some (4 * i + 3) else none

/-- The entry that a change writes; 0 when it invalidates. -/
def grtEntry (link flags : Nat) : Nat :=
  if link = 0xFF then 0
  else 2 ^ 31 + bits flags 7 7 * 2 ^ 30 + bits flags 6 6 * 2 ^ 29 + link * 2 ^ 20 + flags % 16 * 2 ^ 16

/-- Entries of bank `b` made those of bank `a`. -/
def State.copyGrt (s : State) (a b : Nat) : State :=
  let lo := Reg.NOC_GRT.addr 0
  let ds := ((s.regs.filter fun p => decide (lo ≤ p.1 ∧ p.1 < lo + 32768)).map fun p => (p.1 - lo) / 4 % 4096).dedup
  ds.foldl (fun s d => s.setReg .NOC_GRT (4096 * b + d) (s.reg .NOC_GRT (4096 * a + d))) s

def State.writeGrt (s : State) (b : Nat) (l : List (Nat × Nat × Nat)) : State :=
  l.foldl (fun s c => s.setReg .NOC_GRT (4096 * b + c.1) (grtEntry c.2.1 c.2.2)) s

/-- One commit: the inactive bank, a copy of the active one with some changes, becomes active (open points: log 74). -/
def State.commitGrt (s : State) (l : List (Nat × Nat × Nat)) : State :=
  let a := s.fld grtActive 0
  ((s.copyGrt a (1 - a)).writeGrt (1 - a) l).setFld grtActive 0 (1 - a)

/-- SYS_ROUTE (R514, R536): entries added or changed in the first commit, entries removed in the second
(open points: log 74). -/
def execSysRoute (c : Cmd) (changes : List (Nat × Nat × Nat)) (s : State) : Out :=
  .next (s.runCmd c 0xA005 (sysChangeBytes changes) false fun s =>
    if 200 < changes.length then s.badParam c 0xA005 800
    else match sysChangeFault changes with
      | some o => s.badParam c 0xA005 o
      | none =>
        if s.flag grtPend 0 then s.reply c 0xA005 stBusy []
        else
          let adds := changes.filter fun x => x.2.1 != 0xFF
          ((s.commitGrt adds).commitGrt (changes.filter fun x => x.2.1 == 0xFF)).reply c 0xA005 stOk [])

/-! ### Commands between devices (R453) -/

/-- A command for another device passes on: sent on VC2, or refused (R453, R454). -/
def State.sendForward (s : State) (c : Cmd) (op : Nat) : State :=
  let s := s.unfetch c
  if tgtBad c then s.badParam c op 0xFFFF
  else if c.view ≠ 0 ∨ c.ring ≠ 0 then s.reply c op stNoPriv []
  else if !s.flag devReady 0 ∧ !earlyOps.contains op then s.reply c op stBusy []
  else if (s.sysLink (tgtSdn c) false).isNone then s.reply c op stNoRoute []
  else s.await c op (.forwarded (tgtSdn c)) 100000

/-- The reply of the other device written on the issuing ring (R453) (open points: log 78). -/
def State.forwardBack (s : State) (c : Cmd) (op : Nat) (back : Option (Nat × List Byte)) : State :=
  let x? := s.cmds.find? fun x => decide (x.cmd = c ∧ x.op = op ∧ x.wait = .forwarded (tgtSdn c))
  match x?, back with
  | some x, some (st, data) => State.reply { s with cmds := s.cmds.erase x } c op st data
  | _, _ => s

/-- FORWARDED_COMMAND (R453): the command is sent when its turn comes; `back` is the reply that has returned
(open points: log 16, log 78). -/
def execForwardedCommand (c : Cmd) (op : Nat) (params : List Byte) (back : Option (Nat × List Byte)) (s : State) : Out :=
  if !s.tgtOther c ∨ c.remote ≠ 0 then .next s
  else if s.cmds.any fun x => decide (x.cmd = c ∧ x.op = op ∧ x.wait = .forwarded (tgtSdn c)) then .next (s.forwardBack c op back)
  else if !s.isTurn c op params then .next s
  else .next ((s.sendForward c op).forwardBack c op back)

/-- FORWARD_TIMEOUT (R453). -/
def execForwardTimeout (ring : ViewNo) (tag : Word) (s : State) : Out :=
  let due := fun (x : InProg) => decide (x.cmd.ring = ring ∧ x.cmd.tag = tag) &&
    (match x.wait with
     | .forwarded _ => true
     | _ => false) && x.deadline.any fun d => decide (d ≤ s.tim.clk)
  match s.cmds.find? due with
  | none => .next s
  | some x => .next (State.reply { s with cmds := s.cmds.erase x } x.cmd x.op stTimeout [])

/-- A command of another device taken: checked as R444 has it, and run with view 0 rights (R453). -/
def State.takeForwarded (s : State) (c : Cmd) (op : Nat) (params : List Byte) : State :=
  match layoutOf op with
  | none => s.reply c op stBadOpcode []
  | some y => match paramFault y params with
    | some off => s.badParam c op off
    | none => { s with fetched := s.fetched ++ [{ cmd := c, op := op, params := cleanParams op params }] }

/-- MANAGEMENT_COMMAND_RECEIVE (R453): VC2 of a HELD or FULL link (open points: log 78). -/
def execManagementCommandReceive (m : LinkNo) (c : Cmd) (op : Nat) (params : List Byte) (s : State) : Out :=
  if !s.linkUp m ∨ !s.flag devFwrun 0 ∨ c.remote = 0 ∨ c.ring ≠ 0 ∨ c.view ≠ 0 ∨ !tgtSys c ∨ s.tgtOther c then .next s
  else .next (s.takeForwarded c op params)

end Sys2Proof.Machine
end

