-- ==== Sys2Proof/Machine/Queues.lean ====
section
/-! DEFINITION. The queue engine's own steps, the fabric queue ports and the queue commands (chapter "Hardware queues"). -/

namespace Sys2Proof.Machine

open Sys2Proof

/-! ### Descriptor views (R229) -/

/-- QUE_CFG as read: EN shows OPEN. -/
def State.queCfgView (s : State) (q : Nat) : Nat := putBits (s.reg .QUE_CFG q) 63 63 (b2n (s.qOpen q))

/-- WMERR: the watermarks contradict each other. -/
def State.wmErr (s : State) (q : Nat) : Bool := s.fld queHigh q ≠ 0 && decide (s.fld queHigh q ≤ s.fld queLow q)

/-- QUE_STATUS as read. DBANK names the draining bank of a queue that is not DISABLED: one that is holds no words. SKIP also shows while the words past an item's 4,096th are skipped (R228; log 22). -/
def State.queStatusView (s : State) (q : Nat) : Nat :=
  let x := s.queue q
  x.level + b2n (x.skip || x.skips ≠ []) * 2 ^ 24 + b2n (!x.fill1 && s.fld queState q ≠ 0) * 2 ^ 25 + b2n x.olock.isSome * 2 ^ 26 +
    b2n x.ilock.isSome * 2 ^ 27 + b2n (s.wmErr q) * 2 ^ 28 + s.fld queAbove q * 2 ^ 29 + s.fld queState q * 2 ^ 30

/-- QUE_WMEV as read: ABOVE is a copy. -/
def State.queWmevView (s : State) (q : Nat) : Nat := putBits (s.reg .QUE_WMEV q) 0 0 (s.fld queAbove q)

/-- QUE_ITEMS as read. -/
def State.queItemsView (s : State) (q : Nat) : Nat := (s.itemEnds q).length % 65536

/-- The 32-byte descriptor. -/
def State.queDesc (s : State) (q : Nat) : List Byte :=
  leBytes 8 (s.queCfgView q) ++ leBytes 4 (s.reg .QUE_WM_HIGH q) ++ leBytes 4 (s.reg .QUE_WM_LOW q) ++
    leBytes 4 (s.queStatusView q) ++ leBytes 4 (s.queWmevView q) ++ leBytes 4 (s.queItemsView q) ++ leBytes 4 0

/-! ### Engine steps -/

/-- BANK_SWAP (R238). -/
def execBankSwap (q : QueueNo) (s : State) : Out := if s.swapReady q then .next (s.swap q) else .next s

/-- TRUNCATION_WORD_STORE (R227): a waiting truncation word is stored once there is room. -/
def execTruncationWordStore (q : QueueNo) (s : State) : Out :=
  if (s.queue q).truncWait && !s.qFull q then .next (s.storeTrunc q) else .next s

/-- The fields of a QUE_CFG write other than EN (R229): BSZ and BASE are discarded, and the write counted, where they may not
change. -/
def State.cfgFields (s : State) (view q v : Nat) : State :=
  let old := s.reg .QUE_CFG q
  let differ := decide (bits v 57 36 ≠ bits old 57 36)
  let barred := decide (view ≠ 0 ∨ s.fld queState q ≠ 0)
  let s := if differ && barred then s.bump .QUE_CFG_REJ (q / 512) else s
  let new := if barred then old else putBits old 57 36 (bits v 57 36)
  let new := putBits (putBits new 35 24 (bits v 35 24)) 59 59 (bits v 59 59)
  s.setReg .QUE_CFG q (putBits new 58 58 (b2n (bit new 58 || bit v 58)))

/-- A write of EN = 0: DRAIN without a reply (R255). -/
def State.drainQueue (s : State) (q : Nat) : State := if s.qOpen q then s.setFld queState q 2 else s

/-- QUE_CFG_ENABLE_WRITE (R229, R230). -/
def execQueCfgEnableWrite (view : ViewNo) (q : QueueNo) (v : DWord) (s : State) : Out :=
  if v.getLsbD 63 ∧ s.owns view 1 q ∧ s.floorOpen (q / 512) then
    .next ((s.cfgFields view q v.toNat).enableQueue q)
  else .next s

/-- QUE_CFG_DISABLE_WRITE (R229, R255). -/
def execQueCfgDisableWrite (view : ViewNo) (q : QueueNo) (v : DWord) (s : State) : Out :=
  if !v.getLsbD 63 ∧ s.owns view 1 q ∧ s.floorOpen (q / 512) then
    .next ((s.cfgFields view q v.toNat).drainQueue q)
  else .next s

/-- CMDPATH_LOCK_TIMEOUT (R249): 1 ms of device time without an accepted word. -/
def execCmdpathLockTimeout (q : QueueNo) (s : State) : Out :=
  match (s.queue q).ilock with
  | some (.cmdPath v) =>
    if (s.queue q).lastAcc + 1000000 ≤ s.tim.dev then .next (s.endProducer q (.cmdPath v)) else .next s
  | _ => .next s

/-- QUEUE_DRAIN_DONE (R255). -/
def execQueueDrainDone (q : QueueNo) (s : State) : Out :=
  if s.drainReady q then .next ((s.closeQueue q).finish (.queueDrain q) stOk []) else .next s

/-! ### Fabric queue ports (R257, R258) -/

/-- PUSH_PORT_STORE (R258). -/
def execPushPortStore (f : FloorNo) (k : Fin 16) (s : State) : Out :=
  let r := s.qiRec f k
  match portLane f r with
  | none => .next s
  | some w => match s.offered w 0 (.qi f k) with
    | none => .next s
    | some tok =>
      let q := 512 * f.val + bits r 54 46
      let len := bits r 45 34
      let n := tget 0 (s.floor f).qiCount k
      let (ok, s) := s.pushWord q (.pushPort f k) none tok.v (n == 0) (n == len) tok.psn
      if ok then
        .next ((s.serve w 0 (.qi f k)).modFloor f fun x => { x with qiCount := tput 0 x.qiCount k ((n + 1) % (len + 1)) })
      else .next s

/-- POP_PORT_OFFER (R258): the port takes a word when its lanes are free and some lane reads it. -/
def execPopPortOffer (f : FloorNo) (k : Fin 16) (s : State) : Out :=
  let r := s.popRec f k
  let w := Wire.brecv f k
  if !bit r 63 ∨ (s.held w 0).isSome ∨ s.readers w 0 = [] then .next s
  else match s.popWord (512 * f.val + bits r 62 54) (.popPort f k) with
    | none => .next s
    | some (x, s) => .next (s.setHeld w 0 (some { tok := ⟨x.data, x.psn⟩, served := [] }))

/-! ### Queue commands (R259) -/

/-- A queue command's shared checks: the number, the owner and the floor. -/
def State.queueCmd (s : State) (c : Cmd) (op q : Nat) (body : State → State) : State :=
  if 16383 < q then s.badParam c op 0
  else if !s.cmdOwns c 1 q then s.reply c op stNoPriv []
  else if s.domainOff (q / 512) then s.reply c op stDomainOff []
  else body s

/-- Words pushed in order until one is not accepted: how many were. -/
def State.pushWords (s : State) (q : Nat) (a : Agent) : List (Word × Byte) → Nat × State
  | [] => (0, s)
  | (w, tag) :: l =>
    let (ok, s') := s.pushWord q a none w (tag.getLsbD 0) (tag.getLsbD 1) (tag.getLsbD 2)
    if ok then
      let (n, s'') := s'.pushWords q a l
      (n + 1, s'')
    else (0, s')

/-- The queue takes no word of agent `a`: it is not OPEN and `a` completes no item in it (R255, R259). -/
def State.noNewItem (s : State) (q : Nat) (a : Agent) : Bool :=
  let x := s.queue q
  !s.qOpen q && x.ilock != some a && !x.skips.contains a

def State.queuePushCmd (s : State) (c : Cmd) (q : Nat) (l : List (Word × Byte)) : State :=
  let a := Agent.cmdPath c.view
  if s.noNewItem q a then s.reply c 0x3001 stBusy []
  else
    let (n, s) := s.pushWords q a l
    let s := if n = 0 then s else s.modQueue q fun x => { x with lastAcc := s.tim.dev }
    s.reply c 0x3001 stOk (leBytes 2 n)

/-- The parameter bytes of QUEUE_PUSH (R259). -/
def pushParams (q : Nat) (words : List Word) (tags : List Byte) : List Byte :=
  leBytes 2 q ++ leBytes 2 words.length ++ leBytes 4 0 ++ words.flatMap (fun (w : Word) => leBytes 4 w.toNat) ++ tags

/-- QUEUE_PUSH (R259). -/
def execQueuePush (c : Cmd) (q : Nat) (words : List Word) (tags : List Byte) (s : State) : Out :=
  .next (s.runCmd c 0x3001 (pushParams q words tags) true fun s =>
    if words.length = 0 ∨ 200 < words.length ∨ tags.length ≠ words.length then s.badParam c 0x3001 2
    else s.queueCmd c 0x3001 q fun s => s.queuePushCmd c q (words.zip tags))

/-- Up to `n` poppable words, stopping after an EOP (R259) (open points: log 24). -/
def State.popWords (s : State) (q : Nat) (a : Agent) : Nat → List QWord × State
  | 0 => ([], s)
  | n + 1 => match s.popWord q a with
    | none => ([], s)
    | some (w, s') =>
      if w.eop then ([w], s')
      else
        let (l, s'') := s'.popWords q a n
        (w :: l, s'')

def tagByte (w : QWord) : Nat := b2n w.sop + 2 * b2n w.eop + 4 * b2n w.psn

def State.queuePopCmd (s : State) (c : Cmd) (q n : Nat) : State :=
  let (l, s) := s.popWords q (.cmdPath c.view) n
  if l.isEmpty then s.reply c 0x3002 stEmptyRd []
  else s.reply c 0x3002 stOk (leBytes 2 l.length ++ l.flatMap (fun (w : QWord) => leBytes 4 w.data.toNat) ++
    l.map fun w => BitVec.ofNat 8 (tagByte w))

/-- QUEUE_POP (R242, R259). -/
def execQueuePop (c : Cmd) (q n : Nat) (s : State) : Out :=
  .next (s.runCmd c 0x3002 (leBytes 2 q ++ leBytes 1 n) true fun s =>
    if n = 0 ∨ 200 < n then s.badParam c 0x3002 2
    else s.queueCmd c 0x3002 q fun s => s.queuePopCmd c q n)

/-- QUEUE_DROP (R243). -/
def execQueueDrop (c : Cmd) (q : Nat) (s : State) : Out :=
  .next (s.runCmd c 0x3003 (leBytes 2 q) true fun s => s.queueCmd c 0x3003 q fun s =>
    (s.dropBy q (.cmdPath c.view)).reply c 0x3003 stOk [])

/-- QUEUE_FLUSH (R246). -/
def execQueueFlush (c : Cmd) (q : Nat) (s : State) : Out :=
  .next (s.runCmd c 0x3004 (leBytes 2 q) true fun s => s.queueCmd c 0x3004 q fun s =>
    let (n, s) := s.flush q
    s.reply c 0x3004 stOk (leBytes 4 n))

/-- QUEUE_DISABLE in DRAIN mode (R255). -/
def execQueueDisableDrain (c : Cmd) (q timeout : Nat) (s : State) : Out :=
  .next (s.runCmd c 0x3005 (leBytes 2 q ++ leBytes 1 0 ++ leBytes 2 timeout) true fun s => s.queueCmd c 0x3005 q fun s =>
    if s.fld queState q = 0 then s.reply c 0x3005 stOk []
    else (s.drainQueue q).await c 0x3005 (.queueDrain q) timeout)

/-- QUEUE_DISABLE in ABORT mode (R255). -/
def execQueueDisableAbort (c : Cmd) (q timeout : Nat) (s : State) : Out :=
  .next (s.runCmd c 0x3005 (leBytes 2 q ++ leBytes 1 1 ++ leBytes 2 timeout) true fun s => s.queueCmd c 0x3005 q fun s =>
    if s.fld queState q = 0 then s.reply c 0x3005 stOk []
    else ((((s.interim c 0x3005).finish (.queueDrain q) stAborted []).abortQueue q).reply c 0x3005 stOk []))

/-- QUEUE_STATUS (R259). -/
def execQueueStatus (c : Cmd) (q : Nat) (s : State) : Out :=
  .next (s.runCmd c 0x3006 (leBytes 2 q) true fun s => s.queueCmd c 0x3006 q fun s =>
    s.reply c 0x3006 stOk (s.queDesc q))

end Sys2Proof.Machine
end

