-- ==== Sys2Proof/Machine/Systems.lean ====
section
/-! DEFINITION. Device time over links, membership and twin mode (chapter "Ahnistob links and multi-device systems"). -/

namespace Sys2Proof.Machine

open Sys2Proof

/-! ### Time (R521 to R523) -/

/-- A two's complement 16-bit field. -/
def signed16 (n : Nat) : Int := (BitVec.ofNat 16 n).toInt

/-- TIME_SERVICE_EXCHANGE (R522, R523): `delay` is half the round trip in ps, `off` the offset to the master in ns, `hops` the
peer's hop count (open points: log 75). -/
def execTimeServiceExchange (m : LinkNo) (delay off : Word) (hops : Fin 16) (s : State) : Out :=
  if !s.linkUp m then .next s
  else
    let s := s.setReg .ALK_DELAY m (word32 (delay.toNat + signed16 (s.reg .ALK_ASYM m % 65536)))
    let s := s.modLink m fun x => { x with exch := some (s.tim.clk, hops.val, off) }
    let s := s.retime
    if s.fld tmbSrcact 0 = 2 ∧ s.timeParent.any (fun p => p.1 == m.val) then
      let s := (s.setReg .TMB_PHERR 0 off.toNat).steer
      .next (if s.sysLocked then s.setLock true else s)
    else .next s

/-- SYSTEM_LOCK_LOSS (R523) (open points: log 75). -/
def execSystemLockLoss (s : State) : Out :=
  if s.fld tmbSrcact 0 = 2 ∧ s.flag tmbLock 0 ∧ !s.sysLocked then .next (s.setLock false) else .next s

/-- The master changed to `sdn`: 0xA401 when it is another than before (R521, R542) (open points: log 75). -/
def State.setMaster (s : State) (sdn ecnt : Nat) (pinned : Bool) : State :=
  let old := if s.flag tepV 0 then s.fld tepMsdn 0 else 0xFFFF
  let s := (((s.setFld tepV 0 1).setFld tepMsdn 0 sdn).setFld tepEcnt 0 ecnt).setFld tepPinned 0 (b2n pinned)
  let s := if sdn = s.fld sysSdn 0 then s.setFld tepHops 0 0 else s
  if old = sdn then s else s.raise 0xA401 0 0 (sdn + 65536 * old)

/-- The device may follow `sdn` (R521): a pin of its own is overridden only by a lower pin, and without a pin a time-capable
device follows no higher SDN than its own. -/
def State.masterAllowed (s : State) (sdn : Nat) (pinned : Bool) : Bool :=
  match s.tim.pin with
  | some p => decide (sdn = p) || (pinned && decide (sdn < p))
  | none => pinned || !s.flag ⟨.DEV_SYSCFG, 12, 12⟩ 0 || decide (sdn ≤ s.fld sysSdn 0)

/-- TIME_MASTER (R521): the links have told of a master (open points: log 75). -/
def execTimeMaster (sdn : BitVec 12) (ecnt : BitVec 16) (pinned : Bool) (s : State) : Out :=
  if s.masterAllowed sdn.toNat pinned then .next (s.setMaster sdn.toNat ecnt.toNat pinned) else .next s

/-- TIME_PIN (R521, R536); `cap` says that the SDN names a time-capable device. Of two pins the lower SDN wins
(open points: log 75). -/
def execTimePin (c : Cmd) (sdn : Nat) (cap : Bool) (s : State) : Out :=
  .next (s.runCmd c 0xA006 (leBytes 2 sdn) false fun s =>
    if sdn = 0xFFFF then
      let s : State := if s.tim.pin = some (s.fld tepMsdn 0) then s.setFld tepPinned 0 0 else s
      State.reply { s with tim := { s.tim with pin := none } } c 0xA006 stOk []
    else if 4095 < sdn ∨ !cap then s.badParam c 0xA006 0
    else
      let other := s.flag tepPinned 0 && s.tim.pin != some (s.fld tepMsdn 0) && decide (s.fld tepMsdn 0 < sdn)
      let s : State := { s with tim := { s.tim with pin := some sdn } }
      let ecnt := if s.flag tepV 0 ∧ s.fld tepMsdn 0 = sdn then s.fld tepEcnt 0 else 0
      (if other then s else s.setMaster sdn ecnt true).reply c 0xA006 stOk [])

/-! ### Membership (R519, R520) -/

/-- The master's time as the parent link's last exchange gives it (R520, R522, R523). -/
def State.masterTime (s : State) : Nat :=
  match s.timeParent.bind fun p => (s.link p.1).exch with
  | some (_, _, off) => ((s.tim.now : Int) - off.toInt).toNat
  | none => s.tim.now

/-- JOIN's effect (R519, R520) (open points: log 76). -/
def State.joinCmd (s : State) (c : Cmd) (epoch links align : Nat) : State :=
  if align = 1 ∧ (s.timeBusy ∨ !s.sysLocked) then s.reply c 0xA004 stBusy []
  else
    let s := if align = 1 then
        let old := s.fld tmbSrc 0
        ((s.timeSet s.masterTime).setFld tmbSrc 0 2).sourceWritten old
      else s
    let s := s.setReg .DEV_MEMBER 0 epoch
    let s := (List.range 12).foldl (fun s m =>
      if bit links m ∧ s.linkUp m then s.modLink m fun x => { x with rerun := true } else s) s
    (s.await c 0xA004 (.join links) 0).settleJoins

/-- JOIN (R519, R520, R536) (open points: log 76). -/
def execJoin (c : Cmd) (epoch : Word) (links align : Nat) (s : State) : Out :=
  .next (s.runCmd c 0xA004 (leBytes 4 epoch.toNat ++ leBytes 2 links ++ leBytes 1 align) false fun s =>
    if 4095 < links then s.badParam c 0xA004 4
    else if 1 < align then s.badParam c 0xA004 6
    else s.joinCmd c epoch.toNat links align)

/-! ### Twin mode (R526 to R530) -/

def twAct : Fld := ⟨.DEV_TWSTAT, 31, 31⟩
def twDual : Fld := ⟨.DEV_TWSTAT, 29, 29⟩
def twInhib : Fld := ⟨.DEV_TWSTAT, 28, 28⟩
def twMiss : Fld := ⟨.DEV_TWSTAT, 3, 0⟩

/-- On leaving standby the clock outputs start at their next rising edge (R531). -/
def State.leaveStandby (s : State) : State :=
  { s with
    dev := { s.dev with clkFrom := (List.range 33).foldl (fun t c => tput 0 t c s.tim.now) s.dev.clkFrom }
    adcs := s.adcs.foldl (fun m p => tput .init m p.1 { p.2 with cnv := false }) s.adcs }

/-- The role set: STBY shows it, a change of STBY raises PF vector 5, the pins follow R531 (R526, R531)
(open points: log 77). -/
def State.setRole (s : State) (mode : Nat) (act : Bool) : State :=
  let stby := decide (mode ≠ 0) && !act
  let t := (s.setFld twAct 0 (b2n act)).setFld devStby 0 (b2n stby)
  if stby = s.standby then t
  else
    let t : State := { t with irqs := t.irqs ++ [(0, 5)] }
    (if stby then t else t.leaveStandby).refreshGates

/-- TWIN_HB_OUT: high for 1,000 ns from a step start at which the heartbeat was driven (R527). -/
def State.hbPin (s : State) : Bool :=
  decide (0 < s.twin.hbOut ∧ s.twin.hbOut ≤ s.tim.now + 1 ∧ s.tim.now < s.twin.hbOut + 999)

/-- TWIN_ACT_OUT: high while the device is the active one, as its partner reads it (R526, R530) (open points: log 77). -/
def State.actPin (s : State) : Bool := decide (s.fld twMode 0 ≠ 0) && s.flag twAct 0

/-- The heartbeat batch's step whose check is due (R527) (open points: log 77). -/
def State.twinStep (s : State) : Option Nat :=
  if s.fld twMode 0 = 0 then none
  else match (s.batch (s.fld twBatch 0)).last with
    | some t => if s.twin.checked = t + 1 ∨ s.tim.now < t + 1500 then none else some t
    | none => none

/-- The active device gives the plant up (R528, R530). -/
def State.demote (s : State) : State :=
  State.raise { (s.setRole 1 false).bump .DEV_TWCNT 0 with twin := { s.twin with own := 0 } } 0xA502 0 0 0

/-- The checks of TWIN_CTL beyond its ranges (R526, R529): the status and the offset of the byte found wrong
(open points: log 77). -/
def State.twinCtlFault (s : State) (mode link batch : Nat) : Option (Nat × List Byte) :=
  if s.fld alkState link ≠ 4 then some (stHeld, [])
  else if !s.flag bctlEn batch ∨ s.reg .TMB_BPER batch < 4000 then some (stBadParam, leBytes 2 3)
  else if mode = 1 ∧ !s.twinTime then some (stBadParam, leBytes 2 0)
  else none

/-- TWIN_CTL's effect (R526): the partner is the named link's peer (open points: log 77). -/
def State.twinSet (s : State) (mode role link batch hbovr : Nat) : State :=
  let s := s.setReg .DEV_TWIN 0
    (link + 256 * batch + 2 ^ 32 * s.fld alkPsdn link + 2 ^ 61 * hbovr + 2 ^ 62 * mode)
  let s := (s.setFld twMiss 0 0).setFld twInhib 0 0
  let s : State := { s with twin := { s.twin with own := 0, take := none, checked := ((s.batch batch).last.map (· + 1)).getD 0 } }
  s.setRole mode (if mode = 1 then role == 1 else if mode = 2 then s.twin.actIn else false)

/-- TWIN_CTL (R526, R532): it waits while a check is due. -/
def execTwinCtl (c : Cmd) (mode role link batch hbovr : Nat) (s : State) : Out :=
  if s.twinStep.isSome ∨ s.twin.take.isSome then .next s
  else .next (s.runCmd c 0xA007 (leBytes 1 mode ++ leBytes 1 role ++ leBytes 1 link ++ leBytes 1 batch ++ leBytes 1 hbovr) false
    fun s =>
      if 2 < mode then s.badParam c 0xA007 0
      else if mode = 1 ∧ 1 < role then s.badParam c 0xA007 1
      else if 11 < link then s.badParam c 0xA007 2
      else if 255 < batch then s.badParam c 0xA007 3
      else if 1 < hbovr then s.badParam c 0xA007 4
      else match s.twinCtlFault mode link batch with
        | some (st, d) => s.reply c 0xA007 st d
        | none => (s.twinSet mode role link batch hbovr).reply c 0xA007 stOk [])

/-- A heartbeat seen or missed (R527). -/
def State.noteBeat (s : State) (seen : Bool) : State :=
  if seen then (s.setFld twMiss 0 0).setFld twInhib 0 0
  else
    let first := s.fld twMiss 0 == 0
    let s := s.bumpFld twMiss 0
    if first then s.raise 0xA503 0 0 0 else s

/-- TWIN_HB_CHECK (R527, R528): made at T + 1,500 ns of each step of the heartbeat batch (open points: log 77). -/
def execTwinHbCheck (seen : Bool) (s : State) : Out :=
  match s.twinStep with
  | none => .next s
  | some t =>
    let s := s.noteBeat seen
    let s : State := { s with twin := { s.twin with checked := t + 1 } }
    if s.fld twMode 0 ≠ 1 then .next s
    else if s.standby then
      if s.healthy ∧ !s.flag twInhib 0 ∧ 2 ≤ s.fld twMiss 0 then .next { s with twin := { s.twin with take := some (t + 1600) } }
      else .next s
    else if 2 ≤ s.twin.own then .next s.demote
    else .next s

/-- TWIN_TAKEOVER (R528) (open points: log 77). -/
def execTwinTakeover (s : State) : Out :=
  if s.twin.take.any fun t => decide (t ≤ s.tim.now) then
    let s : State := { s with twin := { s.twin with take := none, own := 0 } }
    .next (((s.setRole 1 true).bump .DEV_TWCNT 0).raise 0xA501 0 0 0)
  else .next s

/-- TWIN_DUAL_ACTIVE (R530). -/
def execTwinDualActive (s : State) : Out :=
  let partner := s.twin.actIn || (s.link (s.fld twLink 0)).twin == 2
  if s.fld twMode 0 = 1 ∧ !s.standby ∧ partner ∧ s.fld twPsdn 0 < s.fld sysSdn 0 then
    .next ((s.demote.setFld twDual 0 1).setFld twInhib 0 1)
  else .next s

/-- TWIN_ACT_INPUT (R526): the level of the input; in EXT it sets the role. -/
def execTwinActInput (high : Bool) (s : State) : Out :=
  let s : State := { s with twin := { s.twin with actIn := high } }
  .next (if s.fld twMode 0 = 2 then s.setRole 2 high else s)

end Sys2Proof.Machine
end

