-- ==== Sys2Proof/Machine/RegOps.lean ====
section
/-! DEFINITION. Register accesses (chapter "Scope and conventions", R14 to R18; R38 to R42): what each register reads as, what a write
does, who may reach it. -/

namespace Sys2Proof.Machine

open Sys2Proof

/-! ### Reading (R15, R18) -/

/-- DEV_STATUS as it reads (R439). -/
def State.devStatusView (s : State) : Nat :=
  s.reg .DEV_STATUS 0 + b2n (s.devFault ≠ 0) * 2 ^ 29 + b2n s.sup.thermN * 2 ^ 28 + b2n s.timebaseOk * 2 ^ 27 +
    b2n ((List.range 12).any s.latched) * 2 ^ 26 + b2n s.anyHeld * 2 ^ 24

/-- CFG_STATUS as it reads (R501). -/
def State.cfgStatusView (s : State) : Nat :=
  s.reg .CFG_STATUS 0 + b2n (s.cfg.manifest ≠ []) * 2 ^ 31 + b2n s.dev.guardIn * 2 ^ 30 + b2n s.cfg.load.isSome * 2 ^ 29

/-- TRP_LINE_ACT of line `n` (R406). -/
def State.lineActView (s : State) (n : Nat) : Nat :=
  (List.range 16).foldl (fun a b => a + b2n (bit (s.reg .TRP_GBANK b) n) * 2 ^ b) 0 +
    (List.range 48).foldl (fun a l => a + b2n (bit (s.reg .TRP_VLINK l) n) * 2 ^ (16 + l)) 0

/-- Pool words of the queues of floor `f` that are not DISABLED (R260). -/
def State.poolUsed (s : State) (f : Nat) : Nat :=
  (((List.range 512).filter fun i => s.fld queState (512 * f + i) != 0).map fun i => (s.qRange (512 * f + i)).2).sum

/-- Items held uncredited by the TQNE tasks of floor `f` (R216). -/
def State.credHeld (s : State) (f : Nat) : Nat :=
  (((s.tasks.map (·.1)).filter fun k => homeFloor k == f && s.tf tkTqne k == 1 && s.tf tkPend k == 255).map fun k =>
    s.uncredited (s.tqOf k)).sum

/-- SCH_STATUS of floor `f` (R223). -/
def State.schStatusView (s : State) (f : Nat) : Nat :=
  let x := s.floor f
  x.ready.length % 2048 + x.delay.length % 512 * 2 ^ 11 + x.seq.length % 1024 * 2 ^ 20

/-- Registers of the rim as they read. -/
def State.rimView (s : State) (r : Reg) (i : Nat) : Nat :=
  match r with
  | .DEV_STATUS => s.devStatusView
  | .DEV_FAULT => s.devFault
  | .DEV_TWSTAT => s.reg .DEV_TWSTAT 0 + b2n s.healthy * 2 ^ 30
  | .CMD_INFLT => s.inflight i
  | .CMD_DB => 0
  | .CFG_STATUS => s.cfgStatusView
  | .TMB_NOW => s.tim.now
  | .RAK_LSTAT => s.lstatView i
  | .RAK_MSRC => s.msrcView
  | .RAK_SAFEW => if i < 560 then 0 else s.reg .RAK_SAFEW i
  | .TRP_STATUS => s.trpStatus
  | .TRP_HOSTKICK => 0
  | .TRP_LINE_ACT => s.lineActView i
  | .NOC_FLOOR => s.reg .NOC_FLOOR i + min 0xFFFF (s.unanswered i).length
  | .FIO_GIN => s.ginView i
  | r => s.reg r i

/-- TIL_SLOT with GUARD: 1 for a slot that TIL_GCFG names as a guard slot (R144). -/
def State.tilSlotView (s : State) (i : Nat) : Nat := putBits (s.reg .TIL_SLOT i) 15 15 (b2n (s.guardOf (i / 8) (i % 8)).isSome)

/-- Registers of floor hubs and tiles as they read. -/
def State.regView (s : State) (r : Reg) (i : Nat) : Nat :=
  match r with
  | .QUE_CFG => s.queCfgView i
  | .QUE_STATUS => s.queStatusView i
  | .QUE_WMEV => s.queWmevView i
  | .QUE_ITEMS => s.queItemsView i
  | .QUE_POOL_USED => s.poolUsed i
  | .SCH_STATUS => s.schStatusView i
  | .SCH_CRED_HELD => s.credHeld i
  | .TIL_KPAIR => s.reg .TIL_K0 i + 2 ^ 32 * s.reg .TIL_K1 i
  | .TIL_SLOT => s.tilSlotView i
  | r => s.rimView r i

/-- The fields of an accessed half (R18): bits of the whole register. -/
def halfMask (wide high : Bool) : Nat := if wide then 2 ^ 64 - 1 else if high then 0xFFFFFFFF00000000 else 0xFFFFFFFF

/-- RCL fields among the bits `m` of a register cleared by a read, and its raise-once marks with them (R15, R541). -/
def State.clearRead (s : State) (r : Reg) (i m : Nat) : State :=
  let c := r.info.rcl &&& m
  if c = 0 then s else (s.setReg r i (s.reg r i - (s.reg r i &&& c))).rearm r i

/-- A read of the bits `m` of a register, and its effect. -/
def State.readReg (s : State) (r : Reg) (i m : Nat) : Nat × State := (s.regView r i &&& m, s.clearRead r i m)

/-! ### Writing (R15 to R18) -/

/-- A register's value after a write of `v` to the bits `m` under its access codes (R15, R18). -/
def mergeWrite (d : RegInfo) (old m v : Nat) : Nat :=
  let a := d.rw &&& m
  let x := old - (old &&& a) + (v &&& a)
  (x - (x &&& (d.w1c &&& m &&& v))) ||| (d.w1s &&& m &&& v)

def State.storeReg (s : State) (r : Reg) (i m v : Nat) : State := s.setReg r i (mergeWrite r.info (s.reg r i) m v)

/-- A field brought between `lo` and `hi`. -/
def State.clampFld (s : State) (f : Fld) (i lo hi : Nat) : State :=
  if s.fld f i < lo then s.setFld f i lo else if hi < s.fld f i then s.setFld f i hi else s

/-- A value with the bits `m` of `v` and the other bits of `old`. -/
def overlay (old m v : Nat) : Nat := old - (old &&& m) + (v &&& m)

/-! #### Device and rings -/

/-- DEV_FAULT (R547): KWDOG stays while source 848 is asserted. -/
def State.faultWrite (s : State) (m v : Nat) : State :=
  s.storeReg .DEV_FAULT 0 m (if s.srcLive 848 then v - (v &&& 2) else v)

/-- DEV_SYSCFG (R533). -/
def State.syscfgWrite (s : State) (m v : Nat) : State :=
  if (List.range 12).any fun l => s.fld alkState l != 0 then s
  else (s.storeReg .DEV_SYSCFG 0 m v).clampFld ⟨.DEV_SYSCFG, 30, 16⟩ 0 1 32767

/-- A ring's base address (R441). -/
def State.baseWrite (s : State) (r : Reg) (i m v : Nat) : State := if s.ringOpen i then s.storeReg r i m v else s

def State.devWrite (s : State) (r : Reg) (i m v : Nat) : State :=
  match r with
  | .DEV_FAULT => s.faultWrite m v
  | .DEV_SYSCFG => s.syscfgWrite m v
  | .CMD_CBASE | .CMD_RBASE => s.baseWrite r i m v
  | .CMD_CFG => s.ringCfg i v
  | .CMD_DB => s.doorbell i v
  | .ECC_SCRUB => (s.storeReg r i m v).clampFld ⟨.ECC_SCRUB, 15, 0⟩ i 1 65535
  | .ECC_FLIP_CTL => s.flipCtlWrite v
  | .LOG_TAIL => s.tailWrite i v
  | .GRV_PCAP => (s.storeReg r i m v).clampFld ⟨.GRV_PCAP, 15, 0⟩ i 100 1200
  | .ALK_CTL => s.alkCtlWrite i v
  | r => s.storeReg r i m v

/-! #### Time, lanes and ports -/

/-- TMB_CTL (R322, R325). -/
def State.tmbCtlWrite (s : State) (m v : Nat) : State :=
  let old := s.fld tmbSrc 0
  let s := (s.storeReg .TMB_CTL 0 m v).sourceWritten old
  if s.flag tmbPpsoen 0 then s else { s with tim := { s.tim with ppsOut := false } }

/-- A period, phase or deadline of a batch (R203). -/
def State.batchWrite (s : State) (r : Reg) (b m v : Nat) : State := if s.flag bctlEn b then s else s.storeReg r b m v

/-- RAK_LANE (R341, R344, R350, R351). -/
def State.laneWrite (s : State) (l m v : Nat) : State :=
  let was := s.flag laneEn l
  let src := s.fld laneMsrc l
  let feed := fun (s : State) => (s.flag laneEn l, s.flag laneBound l, s.fld laneRset l)
  let old := feed s
  let s := (s.storeReg .RAK_LANE l m v).clampFld laneGuard l 8 255
  let s := if was ∧ !s.flag laneEn l then s.laneOff l else if !was ∧ s.flag laneEn l then s.laneOn l else s
  let s := if feed s = old then s else s.skipPast (fun _ => true) l
  (s.setSrc (640 + src) (s.missSource src)).refreshMsrc l

/-- NEXT := LANE_LO, and a PAIRED port's waiting word is discarded (R335). -/
def State.portRestart (s : State) (p : Nat) : State :=
  let s := s.setFld portNext p (s.fld portLo p)
  if s.fld portMode p = 2 then s.setRport p { s.rport p with time := none, value := none } else s

/-- RAK_PORT (R335). -/
def State.portWrite (s : State) (p m v : Nat) : State :=
  let was := s.flag portEn p
  let s := s.storeReg .RAK_PORT p m v
  if !was ∧ s.flag portEn p then s.portRestart p else s

/-- RAK_SAFEW (R350): the safe value of a GPIO or setpoint lane (open points: log 59). -/
def State.safewWrite (s : State) (l m v : Nat) : State :=
  if l < 560 then s
  else
    let s := s.storeReg .RAK_SAFEW l m v
    if s.laneSafe l then s.laneToSafe l else s

def State.timeWrite (s : State) (r : Reg) (i m v : Nat) : State :=
  match r with
  | .TMB_CTL => s.tmbCtlWrite m v
  | .TMB_PPS_OFS => (s.storeReg r i m v).clampFld ⟨.TMB_PPS_OFS, 31, 0⟩ i 0 999999999
  | .TMB_BPER | .TMB_BPHS | .TMB_BDL => s.batchWrite r i m v
  | .TMB_BCTL => s.bctlWrite i v
  | .RAK_LANE => s.laneWrite i m v
  | .RAK_PORT => s.portWrite i m v
  | .RAK_SAFEW => s.safewWrite i m v
  | r => s.devWrite r i m v

/-! #### Trips and routes -/

/-- TRP_HOSTWD (R402, R406): the timer starts when EN is written to 1 (open points: log 67). -/
def State.hostWdWrite (s : State) (m v : Nat) : State :=
  let was := s.flag hostWdEn 0
  let s := (s.storeReg .TRP_HOSTWD 0 m v).clampFld hostWdPeriod 0 1 65535
  if !was ∧ s.flag hostWdEn 0 then { s with trip := { s.trip with kick := s.tim.clk } } else s

/-- TRP_VLINK (R397): a link that a latched line now names is held. -/
def State.vlinkWrite (s : State) (l m v : Nat) : State :=
  let was := s.linkHeld l
  let s := s.storeReg .TRP_VLINK l m v
  if !was ∧ s.linkHeld l then s.vlHold l else s

/-- An entry of a route table; one of the active bank is discarded and counted (R306, R514). -/
def State.routeWrite (s : State) (r : Reg) (i bank m v : Nat) (active : Fld) : State :=
  if bank = s.fld active 0 then s.bump .NOC_RT_REJ 0 else s.storeReg r i m v

def State.tripWrite (s : State) (r : Reg) (i m v : Nat) : State :=
  match r with
  | .TRP_PINCTL => (s.storeReg r i m v).clampFld trpSettle i 50 255
  | .TRP_HOSTWD => s.hostWdWrite m v
  | .TRP_HOSTKICK => s.kick
  | .TRP_LINE_CFG => (s.storeReg r i m v).relatch i
  | .TRP_GBANK => (s.storeReg r i m v).refreshBank i
  | .TRP_VLINK => s.vlinkWrite i m v
  | .TRP_LINKOUT => (s.storeReg r i m v).sendFrames
  | .TRP_MASK => s.maskWrite (i / 32) (i % 32) v
  | .NOC_DRAIN_TO => (s.storeReg r i m v).clampFld ⟨.NOC_DRAIN_TO, 15, 0⟩ i 1 65535
  | .NOC_STAT_CTL => s.statCtlWrite v
  | .NOC_GRT_CTL => (s.storeReg r i m v).clampFld grtMaxhop i 1 63
  | .NOC_RT => s.routeWrite r i (i % 128 / 64) m v nocActive
  | .NOC_GRT => s.routeWrite r i (i / 4096) m v grtActive
  | r => s.timeWrite r i m v

/-! #### Field I/O -/

/-- FIO_MCLK (R363). -/
def State.mclkWrite (s : State) (c m v : Nat) : State :=
  let hold := s.flag mclkEn c
  let s := s.storeReg .FIO_MCLK c (if hold then m &&& 0x80000000 else m) v
  let s := (s.setFld mclkDiv c (s.fld mclkDiv c / 2 * 2)).clampFld mclkDiv c 40 200
  if !hold ∧ s.flag mclkEn c then
    let s := { s with dev := { s.dev with clkFrom := tput 0 s.dev.clkFrom c s.tim.now } }
    s.sds.foldl (fun s p => if s.fld sdClk p.1 = c then s.setSd p.1 { p.2 with edge := 0 } else s) s
  else s

/-- FIO_SD (R364, R367): a sampled input starts afresh when EN rises (open points: log 61). -/
def State.sdWrite (s : State) (i m v : Nat) : State :=
  let was := s.flag sdEn i
  let clk := s.fld sdClk i
  let s := (s.storeReg .FIO_SD i m v).clampFld sdDec i 8 256
  if !was ∧ s.flag sdEn i then (s.setSd i .init).setFld sdStuck i 0
  else if s.fld sdClk i ≠ clk then s.setSd i { s.sd i with edge := 0 }
  else s

/-- FIO_SDTH (R367). -/
def State.sdthWrite (s : State) (i m v : Nat) : State :=
  let was := s.flag thFen i
  let s := (s.storeReg .FIO_SDTH i m v).clampFld thFm i 4 32
  if was ∧ !s.flag thFen i then s.sdFastOff i else s

/-- FIO_ADCCFG (R368): a write of EN = 1 is refused when the lanes do not divide the frame. -/
def State.adcWrite (s : State) (p m v : Nat) : State :=
  let s := if s.flag adcEn p then s else s.setAdc p { s.adc p with lost := false }
  let s := (s.storeReg .FIO_ADCCFG p m v).clampFld adcWord p 7 31
  if !s.flag adcEn p then s
  else
    let (n, w, c) := s.adcShape p
    if c * w % n = 0 then s.setFld adcErr p 0 else (s.setFld adcEn p 0).setFld adcErr p 1

/-- FIO_ADCCNV (R370): with CEN = 0 CNV is low (open points: log 62). -/
def State.cnvWrite (s : State) (p m v : Nat) : State :=
  let s := ((s.storeReg .FIO_ADCCNV p m v).clampFld cnvWid p 1 255).clampFld cnvPer p 20 (2 ^ 22 - 1)
  if s.flag cnvEn p then s else { s with adcs := tput .init s.adcs p { tget .init s.adcs p with cnv := false } }

/-- FIO_CAR (R374, R376): a carrier that EN starts or stops is aligned again. -/
def State.carWrite (s : State) (c m v : Nat) : State :=
  let was := s.flag carEn c
  let s := (s.storeReg .FIO_CAR c m v).clampFld carPer c 20 4000000
  if s.flag carEn c = was then s
  else
    let s := s.carRealign c
    if was then s.carStop c else s

/-- FIO_VLCFG (R384): the watchdog starts with EN and UWD; without EN the receiver is down (open points: log 64). -/
def State.vlcfgWrite (s : State) (l m v : Nat) : State :=
  let was := s.flag vlEn l && decide (s.fld vlUwd l ≠ 0)
  let s := (s.storeReg .FIO_VLCFG l m v).clampFld vlSmcnt l 1 32
  let s := if s.flag vlEn l then s else s.setFld vlUp l 0
  if !was ∧ s.flag vlEn l then s.modVl l fun x => { x with good := s.tim.clk } else s

def State.fieldWrite (s : State) (r : Reg) (i m v : Nat) : State :=
  match r with
  | .FIO_MCLK => s.mclkWrite i m v
  | .FIO_SD => s.sdWrite i m v
  | .FIO_SDTH => s.sdthWrite i m v
  | .FIO_ADCCFG => s.adcWrite i m v
  | .FIO_ADCCNV => s.cnvWrite i m v
  | .FIO_ENCCFG => ((s.storeReg r i m v).clampFld encBits i 7 31).clampFld ⟨.FIO_ENCCFG, 45, 38⟩ i 5 255
  | .FIO_ENCTIM => (s.storeReg r i m v).clampFld encPer i 100 (2 ^ 32 - 1)
  | .FIO_GOUT => (s.storeReg r i m v).refreshBank (i / 32)
  | .FIO_CAR => s.carWrite i m v
  | .FIO_VLCFG => s.vlcfgWrite i m v
  | .FIO_GPIO => (s.storeReg r i m v).gpioSource i
  | r => s.tripWrite r i m v

/-! #### Floor hubs and tiles -/

/-- QUE_CFG (R229, R230, R255). -/
def State.queCfgWrite (s : State) (view q m v : Nat) : State :=
  let v := overlay (s.queCfgView q) m v
  let s := s.cfgFields view q v
  if bit v 63 then s.enableQueue q else s.drainQueue q

/-- The task of flow `i` is ARMED or DRAINING (R215) (open points: log 92). -/
def State.flowBusy (s : State) (i : Nat) : Bool :=
  s.tasks.any fun p => homeFloor p.1 == i / 64 && s.tf tkFlowen p.1 == 1 && s.tf tkFlow p.1 == i % 64 &&
    (s.tf tkState p.1 == 1 || s.tf tkState p.1 == 2)

/-- TIL_KPAIR: K0 in the low half, K1 in the high half (R53). -/
def State.kpairWrite (s : State) (i m v : Nat) : State :=
  (s.setReg .TIL_K0 i (overlay (s.reg .TIL_K0 i) (m % 2 ^ 32) (v % 2 ^ 32))).setReg .TIL_K1 i
    (overlay (s.reg .TIL_K1 i) (m / 2 ^ 32) (v / 2 ^ 32))

/-- A write of `v` to the bits `m` of a register, by a view (open points: log 92). -/
def State.writeReg (s : State) (view : Nat) (r : Reg) (i m v : Nat) : State :=
  match r with
  | .QUE_CFG => s.queCfgWrite view i m v
  | .QUE_WM_HIGH | .QUE_WM_LOW => (s.storeReg r i m v).qEval i
  | .SCH_CFG => (s.storeReg r i m v).clampFld ⟨.SCH_CFG, 4, 0⟩ i 0 17
  | .SCH_FLOW => if s.flowBusy i then s else s.storeReg r i m v
  | .TIL_KPAIR => s.kpairWrite i m v
  | r => s.fieldWrite r i m v

/-! ### Rights (R41, R460) -/

/-- The tile that element `i` of a TIL register belongs to. -/
def regTile (r : Reg) (i : Nat) : Nat := if r.info.n1 = 1 then i else i / r.info.n2

/-- Who owns a register's element, as (kind, number); none for a privileged one, which no tenant reaches. -/
def regOwner (r : Reg) (i : Nat) (write : Bool) : Option (Nat × Nat) :=
  match r.info.own with
  | .priv => none
  | .tile => some (0, regTile r i)
  | .queue => some (1, i)
  | .batch => some (3, i)
  | .lane => some (4, i)
  | .laneRead => if write then none else some (4, i)

/-- Tile and floor of an address in a TIL block or a floor hub block (R42). -/
def tilOf (a : Nat) : Option Nat := if 0x0440000000 ≤ a ∧ a < 0x0442000000 then some ((a - 0x0440000000) / 0x10000) else none
def regFloor (a : Nat) : Option Nat :=
  if 0x0410000000 ≤ a ∧ a < 0x0412000000 then some ((a - 0x0410000000) / 0x100000) else (tilOf a).map (· / 16)

/-- The unit at address `a` may be reached; `own` says which resources the view owns (R460). A reserved register of a tile's
block goes with the tile (open points: log 47). -/
def unitReached (view : Nat) (own : Nat → Nat → Bool) (a : Nat) (write : Bool) : Bool :=
  view == 0 || (match regAt a with
    | some (r, i, _) => (regOwner r i write).any fun p => own p.1 p.2
    | none => (tilOf a).any fun t => own 0 t)

/-- The address lies on a floor that is not OPEN (R314, R454) (open points: log 47). -/
def State.unitOff (s : State) (a : Nat) : Bool := (regFloor a).any fun f => s.domainOff f

/-- A write of one register, whole or half, at an aligned address; a reserved register takes none (R42). -/
def State.writeUnit (s : State) (view a : Nat) (wide : Bool) (v : Nat) : State :=
  match regAt a with
  | none => s
  | some (r, i, high) => s.writeReg view r i (halfMask wide high) (if high then v % 2 ^ 32 * 2 ^ 32 else v)

/-- A read of one register, whole or half: the bytes' value. -/
def State.readUnit (s : State) (a : Nat) (wide : Bool) : Nat × State :=
  match regAt a with
  | none => (0, s)
  | some (r, i, high) =>
    let (v, s) := s.readReg r i (halfMask wide high)
    (if high then v / 2 ^ 32 else v, s)

/-- An access that register space accepts (R39): 4 bytes aligned to 4, or 8 bytes aligned to 8 to a 64-bit register
(open points: log 47). -/
def regAccess (a size : Nat) : Bool :=
  (size == 4 && a % 4 == 0) ||
  (size == 8 && a % 8 == 0 && (match regAt a with
    | some (r, _, high) => r.info.wide && !high
    | none => false))

end Sys2Proof.Machine
end

