-- ==== Sys2Proof/Machine/Packets.lean ====
section
/-! DEFINITION. RD, WR and CFGWR requests at their node, and answers at their initiator (chapter "Packet network", R294 to R305;
chapter "Scope and conventions", R37 to R41). -/

namespace Sys2Proof.Machine

open Sys2Proof

/-! ### What lies at an address (R37) -/

/-- The parts of the local address space. -/
inductive Space where
  | store (t off : Nat)
  | pool (f off : Nat)
  | desc (f off : Nat)
  | frames
  | regs
  | host
  | hole
  deriving DecidableEq, Repr

def spaceOf (a : Nat) : Space :=
  if (nodeOf a).isNone then .hole
  else if a < 0x10000000 then .store (a / 0x80000) (a % 0x80000)
  else if a < 0x0200000000 then .pool ((a - 0x0100000000) / 0x100000) (a % 0x100000)
  else if a < 0x0300000000 then .desc ((a - 0x0200000000) / 0x100000) (a % 0x100000)
  else if a < 0x0400000000 then .frames
  else if a < 0x0442000000 then .regs
  else .host

/-- An access of `n` bytes that the space at `a` accepts (R39, R232). -/
def accepted (a n : Nat) : Bool :=
  match spaceOf a with
  | .store _ _ | .desc _ _ | .host => a % n == 0
  | .pool _ _ => n == 4 && a % 4 == 0
  | .regs => if (regAt (a / 4 * 4)).isSome then regAccess a n else n == 4 && a % 4 == 0
  | .frames | .hole => true

/-- SIZE is one of R297, and the data is as long as SIZE says (open points: log 96). -/
def wellSized (p : Pkt) : Bool :=
  decide (p.size ≤ 4) && p.data.length == (if p.op = .rd then 0 else reqBytes p.size)

/-- A request for a reserved register, which is no error whatever its view (R295). -/
def reservedReg (p : Pkt) : Bool := spaceOf p.addr == .regs && (regAt p.addr).isNone

/-- The view may make the access (R40, R41, R140, R232, R464). -/
def State.pktMay (s : State) (p : Pkt) (write : Bool) : Bool :=
  match spaceOf p.addr with
  | .store t off => s.owns p.view 0 t && (p.view == 0 || !s.inLees t off (reqBytes p.size))
  | .pool _ _ => p.view == 0
  | .desc f off => p.view == 0 || (decide (off < 0x10000) && s.owns p.view 2 (1024 * f + off / 64))
  | .frames => false
  | .regs => unitReached p.view (s.owns p.view) p.addr write
  | .host => p.view == 0 || p.view == s.fld hmwFn (p.addr / 2 ^ 30 % 32)
  | .hole => true

/-- A mapped segment of the host memory window, or another space. -/
def State.mapped (s : State) (a : Nat) : Bool :=
  match spaceOf a with
  | .hole => false
  | .host => s.flag hmwEn (a / 2 ^ 30 % 32)
  | _ => true

/-- The status that the node answers at once, in the order of R295; none when the request is carried out
(open points: log 17). -/
def State.pktFault (s : State) (p : Pkt) (write : Bool) : Option Nat :=
  if s.fenced p then some stDomainOff
  else if !wellSized p then some stBadParam
  else if !s.mapped p.addr ∨ nodeOf p.addr ≠ some p.dest then some stNoRoute
  else if !accepted p.addr (reqBytes p.size) then some stBadParam
  else if !reservedReg p ∧ !s.pktMay p write then some stNoPriv
  else none

/-- The request has arrived at its node as the next of its flow (open points: log 17). -/
def State.reqArrived (s : State) (p : Pkt) (op : POp) : Bool := s.arrived p && p.op == op

/-! ### RD -/

/-- A read of a tile store (R268, R271, R302); a line that a tile reads is recorded in the sharer filter (R166)
(open points: log 95). -/
def State.readStore (s : State) (p : Pkt) (t off n : Nat) : State :=
  let l := s.peekN t off n
  let s := s.noteRead t off n 4 0xFF
  let line := 8192 * t + off / 64
  let shs := tget [] s.sharers line
  let s : State := if n = 64 ∧ p.src < 512 ∧ !shs.contains p.src then
      { s with sharers := tput [] s.sharers line (shs ++ [p.src]) } else s
  s.dat p.dest p (l.map (·.1)) (psnMask l off)

/-- A direct read of a pool word: data only, parity checked (R232, R244) (open points: log 95). -/
def State.readPoolAt (s : State) (p : Pkt) (f off : Nat) : State :=
  let (w, s) := s.readPool (s.poolOwner f (off / 4)) (off / 4)
  s.dat p.dest p (leBytes 4 w.data.toNat) 0

/-- The bytes of a task table; from +0x1_0000 they read as zero (R37). -/
def State.descBytes (s : State) (f off n : Nat) : List Byte :=
  (List.range n).map fun i =>
    let o := off + i
    if o < 0x10000 then
      BitVec.ofNat 8 (((s.task (1024 * f + o / 64)).w.getD (o % 64 / 8) 0#64).toNat / 2 ^ (8 * (o % 8)))
    else 0#8

/-- A request for host memory goes out on PCIe (R464). -/
def State.toHost (s : State) (p : Pkt) : State := { s with hmw := s.hmw ++ [p] }

/-- The read carried out (open points: log 95). -/
def State.serveRead (s : State) (p : Pkt) : State :=
  let n := reqBytes p.size
  match spaceOf p.addr with
  | .store t off => s.readStore p t off n
  | .pool f off => s.readPoolAt p f off
  | .desc f off => s.dat p.dest p (s.descBytes f off n) 0
  | .regs => let (v, s) := s.readUnit p.addr (n == 8); s.dat p.dest p (leBytes n v) 0
  | .host => s.toHost p
  | .frames | .hole => s

/-- PKT_RD (R294 to R302). -/
def execPktRd (p : Pkt) (s : State) : Out :=
  if s.reqArrived p .rd then
    let s := s.takePkt p
    match s.pktFault p false with
    | some st => .next (s.rsp p.dest p st 0)
    | none => .next (s.serveRead p)
  else .next s

/-! ### WR -/

/-- The enabled bytes of a write: offset, byte, poisoned (R299). -/
def enabledBytes (p : Pkt) (off : Nat) : List (Nat × Byte × Bool) :=
  p.data.zipIdx.filterMap fun x => x.1.map fun b => (off + x.2, b, bit p.psn (x.2 / 4))

/-- A write of a tile store, answered once every invalidation it caused has been acknowledged (R166, R297). -/
def State.writeStorePkt (s : State) (p : Pkt) (t off : Nat) : State :=
  let (q, s) := s.writeStore t (enabledBytes p off)
  if q = [] then s.rsp p.dest p stOk 0 else s.modTile t fun x => { x with wrWait := x.wrWait ++ [(q, p)] }

/-- A direct write of a pool word: the data bits, tags kept, valid parity (R232). -/
def State.writePoolAt (s : State) (p : Pkt) (f off : Nat) : State :=
  let w := s.poolWord f (off / 4)
  let old := leBytes 4 w.data.toNat
  let v := leNat (p.data.zipIdx.map fun x => x.1.getD (old.getD x.2 0#8))
  (s.setPool f (off / 4) (mkWord (BitVec.ofNat 32 v) w.sop w.eop w.psn)).rsp p.dest p stOk 0

/-- A write of a task table (R37, R189). -/
def State.writeDescAt (s : State) (p : Pkt) (f off : Nat) : State :=
  let s := if off < 0x10000 then s.descWrite (1024 * f + off / 64) (off % 64) p.data else s
  s.rsp p.dest p stOk 0

/-- A register write: every byte enabled (R39) (open points: log 17). -/
def State.writeRegAt (s : State) (p : Pkt) : State :=
  if p.data.all Option.isSome then
    (s.writeUnit p.view p.addr (reqBytes p.size == 8) (leNat (p.data.map (·.getD 0#8)))).rsp p.dest p stOk 0
  else s.rsp p.dest p stBadParam 0

/-- The write carried out. -/
def State.serveWrite (s : State) (p : Pkt) : State :=
  match spaceOf p.addr with
  | .store t off => s.writeStorePkt p t off
  | .pool f off => s.writePoolAt p f off
  | .desc f off => s.writeDescAt p f off
  | .regs => s.writeRegAt p
  | .host => s.toHost p
  | .frames | .hole => s

/-- PKT_WR (R294 to R299). -/
def execPktWr (p : Pkt) (s : State) : Out :=
  if s.reqArrived p .wr then
    let s := s.takePkt p
    match s.pktFault p true with
    | some st => .next (s.rsp p.dest p st 0)
    | none => .next (s.serveWrite p)
  else .next s

/-! ### CFGWR -/

/-- Bytes put into configuration frame space. -/
def State.putCfs (s : State) (a : Nat) (l : List Byte) : State :=
  { s with cfs := l.zipIdx.foldl (fun m x => tput 0#8 m (a + x.2) x.1) s.cfs }

/-- PKT_CFGWR (R40, R297): only the configuration engine writes configuration frame space. -/
def execPktCfgwr (p : Pkt) (s : State) : Out :=
  if s.reqArrived p .cfgwr then
    let s := s.takePkt p
    if p.src ≠ 559 then .next (s.rsp p.dest p (if s.fenced p then stDomainOff else stNoPriv) 0)
    else if p.size ≠ 4 ∨ p.data.length ≠ 64 ∨ p.addr % 64 ≠ 0 ∨ spaceOf p.addr ≠ .frames then .next (s.rsp p.dest p stBadParam 0)
    else .next ((s.putCfs p.addr (p.data.map (·.getD 0#8))).rsp p.dest p stOk 0)
  else .next s

/-! ### Initiators (R303, R304) -/

/-- PARK_FULL_RESEND (R304): a request that a full park refused is made again by its tile or gateway (open points: log 17). -/
def execParkFullResend (i : Fin 560) (tag : Nat) (s : State) : Out :=
  if i.val < 512 then
    match (s.tile i).outst.find? fun o => o.tag == tag && o.resend with
    | some o => .next (s.resend i o)
    | none => .next s
  else if 544 ≤ i.val ∧ i.val < 556 then
    match (s.link (i - 544)).proxies.find? fun x => x.tag == tag && x.resend with
    | some x => .next (s.proxyResend (i - 544) x)
    | none => .next s
  else .next s

/-- RESPONSE_ARRIVAL (R303, R313, R315): an answer taken by its initiator. -/
def execResponseArrival (p : Pkt) (s : State) : Out :=
  if s.arrived p && pktAnswer p then
    let s := (s.takePkt p).countAnswer p
    if p.src < 512 then .next (s.tileAnswer p.src p)
    else if p.src < 544 then .next (s.hubAnswer (p.src - 512) p)
    else if p.src < 556 then .next (s.proxyAnswer (p.src - 544) p)
    else .next s
  else .next s

end Sys2Proof.Machine
end

