-- ==== Sys2Proof/Machine/Power.lean ====
section
/-! DEFINITION. Powering floors off and on (chapter "Packet network", R315 to R318). -/

namespace Sys2Proof.Machine

open Sys2Proof

/-- The active table takes another node's traffic through the hub router of floor `f` (R316). -/
def State.routedThrough (s : State) (f : Nat) : Bool :=
  (List.range 53).any fun r => isNodeRouter r && r != f && !(decide (r < 32) && s.floorDown r) &&
    (List.range 33).any fun e => e != f && (List.range 4).any fun n => (pathOf s.activeBank e n 13 r).1.contains f

/-- A load of the floor runs or its floor is frozen or freezing (R316, R491) (open points: log 48). -/
def State.floorBusy (s : State) (f : Nat) : Bool :=
  (s.cfg.load.any fun l => l.floor == f) || s.fld cfgFloorState f == 3 || s.fld cfgFloorState f == 5

/-- A power-off of the floor is in its drain. -/
def State.poweringOff (s : State) (f : Nat) : Bool :=
  let x := s.floor f
  x.offWhy == 1 && (s.fld nocState f == 1 || s.fld nocState f == 2)

/-- FLOOR_POWER_OFF in DRAIN mode (R315, R316, R318) (open points: log 48). -/
def execFloorPowerOffDrain (c : Cmd) (f timeout : Nat) (s : State) : Out :=
  .next (s.runCmd c 0x4004 (leBytes 1 f ++ leBytes 1 0 ++ leBytes 2 timeout) false fun s =>
    if 31 < f then s.badParam c 0x4004 0
    else if s.floorBusy f ∨ !s.floorOpen f then s.reply c 0x4004 stBusy []
    else if s.routedThrough f then s.badParam c 0x4004 0
    else (s.await c 0x4004 (.floorOff f) timeout).fence f 1 false)

/-- FLOOR_POWER_OFF in ABORT mode (R315, R316, R318) (open points: log 48). -/
def execFloorPowerOffAbort (c : Cmd) (f timeout : Nat) (s : State) : Out :=
  .next (s.runCmd c 0x4004 (leBytes 1 f ++ leBytes 1 1 ++ leBytes 2 timeout) false fun s =>
    if 31 < f then s.badParam c 0x4004 0
    else if s.poweringOff f ∧ !(s.floor f).drainTo0 then
      ((s.finish (.floorOff f) stAborted []).await c 0x4004 (.floorOff f) timeout).modFloor f fun x => { x with drainTo0 := true }
    else if s.floorBusy f ∨ !s.floorOpen f then s.reply c 0x4004 stBusy []
    else if s.routedThrough f then s.badParam c 0x4004 0
    else (s.await c 0x4004 (.floorOff f) timeout).fence f 1 true)

/-- Every slot of a floor in one state. -/
def State.setSlots (s : State) (f st : Nat) : State :=
  (List.range 128).foldl (fun s i => s.setSstate (16 * f + i / 8) (i % 8) st) s

/-- The floor becomes DRAINED; for a load the hold follows, and the loader writes its slots (R118, R315, R488). -/
def State.becomeDrained (s : State) (f : Nat) : State :=
  let s := s.setFld nocState f 2
  if (s.floor f).offWhy = 2 then (s.holdFloor f).setSlots f stLoading else s

/-- A fence of a load or a power-off drains. -/
def State.draining (s : State) (f : Nat) : Bool := s.fld nocState f == 1 && (s.floor f).offWhy != 0

/-- FLOOR_DRAINED (R315). -/
def execFloorDrained (f : FloorNo) (s : State) : Out :=
  if s.draining f && s.drained f then .next (s.becomeDrained f) else .next s

/-- FLOOR_DRAIN_TIMEOUT (R281, R315). -/
def execFloorDrainTimeout (f : FloorNo) (s : State) : Out :=
  let x := s.floor f
  let due := x.fencedAt + (if x.drainTo0 then 0 else s.reg .NOC_DRAIN_TO 0 % 65536 * 1000)
  if s.draining f && !s.drained f && !s.copying f && decide (due ≤ s.tim.clk) then .next ((s.drainAbort f).becomeDrained f)
  else .next s

/-- FLOOR_OFF (R315) (open points: log 49). -/
def execFloorOff (f : FloorNo) (s : State) : Out :=
  if s.fld nocState f = 2 ∧ (s.floor f).offWhy = 1 then .next ((s.powerOff f).finish (.floorOff f) stOk [])
  else .next s

/-- FLOOR_POWER_ON (R317, R318). -/
def execFloorPowerOn (c : Cmd) (f : Nat) (s : State) : Out :=
  .next (s.runCmd c 0x4005 (leBytes 1 f) false fun s =>
    if 31 < f then s.badParam c 0x4005 0
    else if s.fld nocState f ≠ 3 then s.reply c 0x4005 stBusy []
    else ((s.await c 0x4005 (.floorOn f) 0).setFld nocState f 4).setCode f 40)

/-- FLOOR_POWER_ON_DONE (R317, R479): memory initialised and kiln calibrated, the floor is FENCED and holds no image; a floor
that kiln cannot confirm is left OFF (open points: log 49). -/
def execFloorPowerOnDone (f : FloorNo) (ok : Bool) (clo : Fin 51) (lost : BitVec 16) (s : State) : Out :=
  if s.fld nocState f = 4 then
    let s := (s.initFloorMem f).calibrated f ok clo lost.toNat
    .next (if ok then ((s.setFld nocState f 1).holdCode f).finish (.floorOn f) stOk []
      else ((s.setFld nocState f 3).setFld grvVnow f 0).finish (.floorOn f) stFault [])
  else .next s

end Sys2Proof.Machine
end

