-- ==== Sys2Proof/Machine/ImageOps.lean ====
section
/-! DEFINITION. Images (chapter "Power-up, configuration and read-back", R481 to R484; R109, R110, R146): their layout, what their
frames may write, conflicts between frames. -/

namespace Sys2Proof.Machine

open Sys2Proof

/-! ### Layout (R146, R481, R483) -/

/-- A frame: local address and bytes, a filled one written out. -/
structure Frame where
  addr : Nat
  data : List Byte
  deriving DecidableEq, Repr

def allZero (l : List Byte) : Bool := l.all (· == 0#8)

/-- `n` frames that are the whole of a byte string; none when they break R481. -/
def parseFrames : Nat → List Byte → Option (List Frame)
  | 0, l => if l.isEmpty then some [] else none
  | n + 1, l =>
    let len := numAt l 8 4
    let fill := numAt l 12 4
    let m := if fill = 1 then 8 else (len + 7) / 8 * 8
    let body := (l.drop 16).take m
    let used := if fill = 1 then 4 else len
    if l.length < 16 + m ∨ numAt l 5 3 ≠ 0 ∨ len % 4 ≠ 0 ∨ len < 4 ∨ 0x100000 < len ∨ 1 < fill ∨ !allZero (body.drop used) then none
    else
      let data := if fill = 1 then (List.replicate (len / 4) (body.take 4)).flatten else body.take len
      (parseFrames n (l.drop (16 + m))).map (⟨numAt l 0 5, data⟩ :: ·)

/-- The whole frames at the start of a byte string, at most `n` (R486). -/
def leadFrames : Nat → List Byte → List Frame
  | 0, _ => []
  | n + 1, l =>
    let m := if numAt l 12 4 = 1 then 8 else (numAt l 8 4 + 7) / 8 * 8
    match parseFrames 1 (l.take (16 + m)) with
    | some g => g ++ leadFrames n (l.drop (16 + m))
    | none => []

/-- Image kinds of R481. -/
def kGuard : Nat := 1
def kFloor : Nat := 2
def kSlot : Nat := 3

/-- Largest image of a kind (R146, R481). -/
def imageMax (kind : Nat) : Nat := if kind = kGuard then 0x40000 else if kind = kFloor then 0x1000000 else 0x80000

/-- The head's fixed fields (R146, R481). -/
def headOk (kind : Nat) (l : List Byte) : Bool :=
  decide (64 ≤ l.length ∧ l.length ≤ imageMax kind ∧ numAt l 0 4 = 0x494D4731 ∧ numAt l 4 1 = kind ∧ numAt l 6 2 = 1 ∧
    numAt l 8 4 = l.length) &&
  (if kind = kSlot then numAt l 27 1 == 0 && allZero ((l.drop 34).take 30) && numAt l 28 2 != 0 && numAt l 30 4 % 4 == 0 &&
      decide (numAt l 30 4 < 0x80000)
    else allZero ((l.drop 24).take 40) && (kind == kFloor || numAt l 5 1 == 0))

/-- The frames of an image; none when its layout breaks R146 or R481. -/
def imageFrames (kind : Nat) (l : List Byte) : Option (List Frame) :=
  if headOk kind l then parseFrames (numAt l 12 4) (l.drop 64) else none

/-- The image digest: MHASH counts as zero (R481) (open points: log 11). -/
def imageDigest (l : List Byte) : BitVec 384 := Config.sha384 (l.take 16 ++ List.replicate 8 0#8 ++ l.drop 24)

def digestBytes (d : BitVec 384) : List Byte := leBytes 48 d.toNat

/-- The manifest hash (R483) (open points: log 11). -/
def manifestHash (m : List Byte) : Nat := (Config.sha384 (m.take 1648)).toNat % 2 ^ 64

def manSigned (m : List Byte) : Bool := bit (numAt m 6 1) 0

/-- The layout of a manifest (R483). -/
def manifestOk (m : List Byte) : Bool :=
  decide (m.length = 1840 ∧ numAt m 0 4 = 0x4D4E4631 ∧ numAt m 4 2 = 1 ∧ numAt m 6 1 ≤ 1 ∧ numAt m 7 1 = 0) &&
    allZero ((m.drop 10).take 54) && (manSigned m || allZero (m.drop 1648))

/-- The digest that a manifest lists at byte `off`. -/
def listed (m : List Byte) (off : Nat) : Nat := numAt m off 48
def guardAt : Nat := 64
def floorAt (f : Nat) : Nat := 112 + 48 * f

/-! ### What a frame may write (R146, R482) -/

/-- The slot of element `i` of a per-slot register of a tile. -/
def regSlot (r : Reg) (i : Nat) : Nat := i % r.info.n2 / (r.info.n2 / 8)

/-- A TIL register that belongs to the slots of a tile and that a slot image may write (R146). -/
def slotReg : Reg → Bool
  | .TIL_K0 | .TIL_K1 | .TIL_KPAIR | .TIL_FPX | .TIL_SLN | .TIL_LUT | .TIL_SLOT | .TIL_LEES | .TIL_WIN => true
  | _ => false

/-- Fields that only an image sets, beside those that a view may write. -/
def imageMask : Reg → Nat
  | .TIL_GCFG => 0xFF
  | .TIL_SLOT => 0xFFFF0001
  | .TIL_LEES => 0xF1FFF
  | .TIL_SLN => 0x1F
  | .FIO_BANK => 0x4000003F
  | .TRN_FLOOR => 0xFFC0000000000000
  | _ => 0

/-- Fields of a slot's registers that a slot image may set (R146). -/
def slotMask : Reg → Nat
  | .TIL_SLOT => 1
  | .TIL_FPX => 0x100
  | .TIL_LEES => 0xF1FFF
  | .TIL_SLN => 0x1F
  | _ => 2 ^ 64 - 1

/-- The register space of the TRP block, of the FIO block, of the QUE, SCH and GRD blocks of a floor (R42, R43). -/
def inTrp (a : Nat) : Bool := decide (0x0400050000 ≤ a ∧ a < 0x0400060000)
def inFio (a : Nat) : Bool := decide (0x0400100000 ≤ a ∧ a < 0x0400200000)
def inHub (f a : Nat) : Bool := decide (0x0410000000 + f * 0x100000 ≤ a ∧ a < 0x0410000000 + f * 0x100000 + 0xC0000)

def regName (a : Nat) : Option Reg := (regAt a).map (·.1)

def laneOwnvB : Nat := 21
def laneOwnfLo : Nat := 16

/-- A floor image may write the lane's records: no floor owns it, or this one does (R482) (open points: log 83). -/
def State.laneOpen (s : State) (f l : Nat) : Bool := !s.flag laneOwnv l || s.fld laneOwnf l == f

/-- The unit at `a` of a register frame may be written by a guard image. -/
def guardUnit (a : Nat) : Bool :=
  inTrp a || inFio a || (match regName a with
    | some .TIL_RAISE | some .RAK_PORT | some .RAK_LANE | some .RAK_SAFEW => true
    | _ => false)

/-- The unit at `a`, with the value the frame gives it, may be written by an image of floor `f` (R482). -/
def State.floorUnit (s : State) (f a v : Nat) : Bool :=
  (inFio a && regName a != some .FIO_BANK) || inHub f a ||
  ((tilOf a).any (· / 16 == f) && regName a != some .TIL_RAISE) ||
  (match regAt a with
   | some (.TRN_FLOOR, i, _) => i == f
   | some (.RAK_PORT, _, _) => true
   | some (.RAK_SAFEW, l, _) => s.laneOpen f l
   | some (.RAK_LANE, l, high) => s.laneOpen f l && (high || (bit v laneOwnvB && bits v 20 16 == f))
   | _ => false)

/-- The unit at `a` with its value may be written by an image of slot `k` of tile `t` (R146). -/
def slotUnit (t k a v : Nat) : Bool :=
  match regAt a with
  | some (r, i, high) =>
    slotReg r && regTile r i == t && regSlot r i == k &&
      (let m := if high then slotMask r / 2 ^ 32 else slotMask r % 2 ^ 32; v &&& m == v)
  | none => false

/-- What an image is for. -/
inductive Target where
  | guard
  | floor (f : Nat)
  | slot (t k : Nat)
  deriving DecidableEq, Repr

/-- The 4-byte units of a register frame with their values; a RAK_LANE frame covers the low half (R482). -/
def frameUnits (g : Frame) : List (Nat × Nat) :=
  (List.range (g.data.length / 4)).map fun j => (g.addr + 4 * j, numAt g.data (4 * j) 4)

def lowHalves (g : Frame) : Bool :=
  (frameUnits g).all fun u => match regAt u.1 with
    | some (.RAK_LANE, _, true) => decide (g.addr < u.1)
    | _ => true

/-- Every byte of a frame lies between `lo` and `hi`. -/
def within (g : Frame) (lo hi : Nat) : Bool := decide (lo ≤ g.addr ∧ g.addr + g.data.length ≤ hi)

/-- A register frame: aligned, of units that exist and that the target may write. -/
def State.regFrame (s : State) (x : Target) (g : Frame) : Bool :=
  g.addr % 4 == 0 && (frameUnits g).all fun u =>
    isRegSpace u.1 && (nodeOf u.1).isSome && (match x with
      | .guard => guardUnit u.1
      | .floor f => s.floorUnit f u.1 u.2 && lowHalves g
      | .slot t k => slotUnit t k u.1 u.2)

/-- A frame writes only what its image may (R482, R146); the lees is checked on the result (open points: log 83). -/
def State.frameOk (s : State) (x : Target) (g : Frame) : Bool :=
  s.regFrame x g ||
  (match x with
   | .guard => within g guardFrame (guardFrame + 0x100000)
   | .floor f =>
     within g (tileFrame (16 * f)) (tileFrame (16 * f + 16)) || within g (floorFrame f) (floorFrame (f + 1)) ||
       within g (f * 0x800000) ((f + 1) * 0x800000) || within g (0x0200000000 + f * 0x100000) (0x0200000000 + (f + 1) * 0x100000)
   | .slot t k =>
     let r := tileFrame t + k * 0x800
     within g r (r + 0x220) || within g (t * 0x80000) ((t + 1) * 0x80000))

/-! ### Conflicts (R109, R110) -/

/-- A field of configuration frame space: first bit (8 × byte address + bit) and width, and how R110 names it. -/
structure CField where
  lo : Nat
  width : Nat
  space : Nat
  floor : Nat
  tile : Nat
  slot : Nat
  pos : Nat
  field : Nat
  deriving DecidableEq, Repr

/-- First bits of the fields of a cell's SWITCH and of the rest of its record (R51, R88), rising. -/
def switchLos : List Nat := [0, 5, 10, 15, 20, 25, 30, 35, 40, 46, 52, 55, 58, 61]
def recordLos : List Nat := [64, 66, 71, 77, 78, 84, 90, 96, 97, 98, 100, 102, 104, 106, 111, 116, 117, 118, 120, 128, 160, 192]

/-- First bits of the fields of a 64-bit port record: bridge send, push, pop (R106, R257). -/
def sendLos : List Nat := [0, 41, 49, 55, 57, 61, 63]
def pushLos : List Nat := [0, 34, 46, 55, 57, 61, 63]
def popLos : List Nat := [0, 54, 63]

/-- First bits of the fields of a bank record: words, the pc, HDEPTH, SPILLED, the flags, STATE, the task (R132). -/
def bankLos : List Nat := (List.range 113).map (32 * ·) ++ [3616, 3624, 3632, 3648, 3680, 3688, 3696] ++
  (List.range 48).map fun j => 3712 + 8 * j

/-- The field that bit `b` lies in: its first bit and width; `n` bits in all. -/
def fieldIn (los : List Nat) (n b : Nat) : Nat × Nat :=
  let lo := (los.filter (· ≤ b)).getLastD 0
  let hi := (los.find? (b < ·)).getD n
  (lo, hi - lo)

/-- The field at bit `b` of byte `a` of a tile's frame. -/
def tileField (t o a b : Nat) : CField :=
  let k := o / 0x800
  let r := o % 0x800
  if o < 0x4000 ∧ r < 0x200 then
    let bb := 8 * (r % 32) + b
    let base := 8 * (a - r % 32)
    let p := fieldIn (switchLos ++ recordLos) 256 bb
    let sw := bb < 64
    ⟨base + p.1, p.2, if sw then 0 else 4, t / 16, t, k, if sw then r / 32 else 0xFF,
      if sw then switchLos.idxOf p.1 else 0xFF⟩
  else if o < 0x4000 ∧ 0x200 ≤ r ∧ r < 0x20A then ⟨8 * a, 8, 1, t / 16, t, k, r - 0x200, 0xFF⟩
  else if o < 0x4000 then ⟨8 * a, 8, 4, t / 16, t, k, 0xFF, 0xFF⟩
  else if o < 0x5000 then
    let r := o % 0x200
    let p := fieldIn bankLos 4096 (8 * r + b)
    ⟨8 * (a - r) + p.1, p.2, 4, t / 16, t, (o - 0x4000) / 0x200, 0xFF, 0xFF⟩
  else ⟨8 * a, 8, 4, t / 16, t, 0xFF, 0xFF, 0xFF⟩

/-- The field at bit `b` of byte `a` of a floor's frame. -/
def floorField (f o a b : Nat) : CField :=
  let e := o / 0x100
  let r := o % 0x100
  let port := fun (los : List Nat) (sp pos : Nat) =>
    let p := fieldIn los 64 (8 * (o % 8) + b)
    (⟨8 * (a - o % 8) + p.1, p.2, sp, f, 0xFFFF, 0xFF, pos, 0xFF⟩ : CField)
  if o < 0x400 ∧ r < 0x40 then ⟨8 * a, 8, 2, f, 0xFFFF, 0xFF, 4 * e + r % 4, r / 4⟩
  else if o < 0x400 ∧ r < 0x50 then ⟨8 * a, 8, 2, f, 0xFFFF, 0xFF, 4 * e + (r - 0x40) / 4, 16 + r % 4⟩
  else if 0x800 ≤ o ∧ o < 0x880 then port sendLos 3 ((o - 0x800) / 8)
  else if 0x8000 ≤ o ∧ o < 0x8080 then port pushLos 4 0xFF
  else if 0x8080 ≤ o ∧ o < 0x8100 then port popLos 4 0xFF
  else ⟨8 * a, 8, 4, f, 0xFFFF, 0xFF, 0xFF, 0xFF⟩

def cfsField (a b : Nat) : CField :=
  if a < floorFrame 0 then
    let o := a - tileFrame 0
    tileField (o / 0x10000) (o % 0x10000) a b
  else if a < guardFrame then
    let o := a - floorFrame 0
    floorField (o / 0x10000) (o % 0x10000) a b
  else ⟨8 * a, 8, 4, 0, 0xFFFF, 0xFF, 0xFF, 0xFF⟩

def isCfs (a : Nat) : Bool := spaceOf a == .frames

/-- The bit fields in which two frames differ (open points: log 82). -/
def clashFields (f g : Frame) : List CField :=
  ((List.range f.data.length).flatMap fun o =>
    let a := f.addr + o
    if isCfs a ∧ g.addr ≤ a ∧ a < g.addr + g.data.length then
      let d := (f.data.getD o 0#8) ^^^ (g.data.getD (a - g.addr) 0#8)
      ((List.range 8).filter d.getLsbD).map (cfsField a)
    else []).dedup

/-- Every conflict of a load: field, earlier frame, later frame (R109) (open points: log 82). -/
def clashes (fs : List Frame) : List (CField × Nat × Nat) :=
  let l := fs.zipIdx
  l.flatMap fun g => (l.take g.2).flatMap fun f => (clashFields f.1 g.1).map fun c => (c, f.2, g.2)

/-- The value of a field in a frame; bits outside the frame count as 0 (open points: log 82). -/
def fieldValue (g : Frame) (c : CField) : Nat :=
  (List.range (min 16 c.width)).foldl (fun v i =>
    let x := c.lo + i
    if g.addr ≤ x / 8 ∧ (g.data.getD (x / 8 - g.addr) 0#8).getLsbD (x % 8) then v + 2 ^ i else v) 0

/-- The result of R110: the conflict with the lowest byte address, and how many fields conflict; none without a conflict
(open points: log 82). -/
def doubleAssign (fs : List Frame) : Option (List Byte) :=
  match clashes fs with
  | [] => none
  | c0 :: cs =>
    let (c, i, j) := cs.foldl (fun m c => if c.1.lo < m.1.lo then c else m) c0
    let n := ((c0 :: cs).map fun c => c.1.lo).dedup.length
    some (leBytes 2 (min n 0xFFFF) ++ leBytes 1 c.space ++ leBytes 1 c.floor ++ leBytes 2 c.tile ++ leBytes 1 c.slot ++
      leBytes 1 c.pos ++ leBytes 1 c.field ++ leBytes 1 0 ++ leBytes 2 (fieldValue (fs.getD i ⟨0, []⟩) c) ++
      leBytes 2 (fieldValue (fs.getD j ⟨0, []⟩) c) ++ leBytes 2 i ++ leBytes 2 j ++ leBytes 5 (c.lo / 8) ++ leBytes 1 0)

/-! ### Frames written -/

/-- A register unit, whole or half, written by an image: fields that only an image sets, or as the privileged view writes. -/
def State.imageUnit (s : State) (a : Nat) (wide : Bool) (v : Nat) : State :=
  match regAt a with
  | none => s
  | some (r, i, high) =>
    let m := halfMask wide high
    let v := if high then v * 2 ^ 32 else v
    if imageMask r = 0 then s.writeReg 0 r i m v
    else s.setReg r i (overlay (s.reg r i) (imageMask r &&& m) v)

/-- The units of a register frame, 64-bit registers whole where the frame covers them (R18). -/
def wideUnits (g : Frame) : List (Nat × Bool) :=
  let n := g.data.length / 4
  (List.range n).filterMap fun j =>
    let x := g.addr + 4 * j
    match regAt x with
    | some (_, _, true) => if j = 0 then some (x, false) else none
    | some (r, _, false) => some (x, r.info.wide && decide (j + 1 < n))
    | none => some (x, false)

def State.regFrameWrite (s : State) (g : Frame) : State :=
  (wideUnits g).foldl (fun s u => s.imageUnit u.1 u.2 (numAt g.data (u.1 - g.addr) (if u.2 then 8 else 4))) s

/-- K0 and K1 of a cell record are the constant registers (R51, R53). -/
def State.constByte (s : State) (a : Nat) (b : Byte) : State :=
  let o := (a - tileFrame 0) % 0x10000
  let t := (a - tileFrame 0) / 0x10000
  let r := o % 32
  if a < floorFrame 0 ∧ o < 0x4000 ∧ o % 0x800 < 0x200 ∧ 16 ≤ r ∧ r < 24 then
    let i := 128 * t + 16 * (o / 0x800) + o % 0x800 / 32
    let n := 8 * (r % 4)
    if r < 20 then s.setReg .TIL_K0 i (putBits (s.reg .TIL_K0 i) (n + 7) n b.toNat)
    else s.setReg .TIL_K1 i (putBits (s.reg .TIL_K1 i) (n + 7) n b.toNat)
  else s

def State.cfsFrameWrite (s : State) (g : Frame) : State :=
  g.data.zipIdx.foldl (fun s x => s.constByte (g.addr + x.2) x.1) (s.putCfs g.addr g.data)

/-- A tile store frame: the bytes of each tile it reaches (R270). -/
def State.storeFrameWrite (s : State) (g : Frame) : State :=
  let t0 := g.addr / 0x80000
  let t1 := (g.addr + g.data.length - 1) / 0x80000
  (List.range (t1 + 1 - t0)).foldl (fun s i =>
    let t := t0 + i
    let l := (g.data.zipIdx.filter fun x => (g.addr + x.2) / 0x80000 == t).map fun x => ((g.addr + x.2) % 0x80000, x.1, false)
    (s.writeStore t l).2) s

/-- A task table frame, descriptor by descriptor; W4 to W7 are never written (R189, R482). -/
def State.descFrameWrite (s : State) (g : Frame) : State :=
  let a0 := g.addr - 0x0200000000
  let k0 := a0 / 64
  let k1 := (a0 + g.data.length - 1) / 64
  (List.range (k1 + 1 - k0)).foldl (fun s i =>
    let k := k0 + i
    let l := g.data.zipIdx.filter fun x => (a0 + x.2) / 64 == k
    let off := if i = 0 then a0 % 64 else 0
    if k * 64 % 0x100000 < 0x10000 then s.descWrite (k * 64 / 0x100000 * 1024 + k % 16384) off (l.map fun x => some x.1) else s) s

/-- One frame written (R482). -/
def State.writeFrame (s : State) (g : Frame) : State :=
  match spaceOf g.addr with
  | .store _ _ => s.storeFrameWrite g
  | .desc _ _ => s.descFrameWrite g
  | .frames => s.cfsFrameWrite g
  | .regs => s.regFrameWrite g
  | .pool _ _ | .host | .hole => s

def State.writeFrames (s : State) (l : List Frame) : State := l.foldl State.writeFrame s

end Sys2Proof.Machine
end

