-- ==== Sys2Proof/Machine/LoadOps.lean ====
section
/-! DEFINITION. What the loader checks before it writes an image, and what a load leaves (chapters "Cells, number formats and
operations" to "Contexts, banks and the frame stack": R49, R70, R72, R85, R87, R93, R97, R103, R106, R112, R114, R131, R136, R167, R257;
R355, R482 to R490). -/

namespace Sys2Proof.Machine

open Sys2Proof

/-! ### Cells and wires of a slot -/

/-- The operation reads a port sourced from a wire, the cascade, E or the select lane (R49). -/
def CellCfg.readsAny (g : CellCfg) : Bool :=
  g.readsE || g.readsSel || (opPorts g.opc g.csrc).any fun p =>
    if p = 0 then g.asrc == 0 else if p = 1 then g.bsrc == 0 else if p = 2 then g.csrc == 0 else true

/-- The wire input that port `p` of A to D selects (R51). -/
def CellCfg.input (g : CellCfg) (p : Nat) : Option Nat :=
  if p = 0 then (if g.asrc = 0 then some g.sela else none)
  else if p = 1 then (if g.bsrc = 0 then some g.selb else none)
  else if p = 2 then (if g.csrc = 0 then some g.selc else none)
  else if g.dcas then none else some g.seld

/-- Wire input `n` may not be selected by the cell: reserved, a tap off its edge, a broadcast line without EN (R87). -/
def State.inputBarred (s : State) (t k c n : Nat) : Bool :=
  let (_, x, y) := cellXY t c
  if n < 16 then false
  else if n < 20 then !(y % 16 == 0 || y % 16 == 15)
  else if n < 24 then !(x % 16 == 0 || x % 16 == 15)
  else if n = 24 then false
  else if 32 ≤ n ∧ n < 40 then s.lineByte k t (n - 32) / 128 == 0
  else true

/-- Wire input `n` is a local wire that its driver in the same tile leaves undriven (R97). -/
def State.inputUndriven (s : State) (t k c n : Nat) : Bool :=
  decide (n < 8) && (match cellTo t c (n / 2) 1 with
    | some (t', c') => t' == t && s.outCode t k c' ((n / 2 + 2) % 4) (n % 2) == 0
    | none => false)

/-- Wire input `n` may not be read by the cell or its multiplexers (R87, R97). -/
def State.inputBad (s : State) (t k c n : Nat) : Bool := s.inputBarred t k c n || s.inputUndriven t k c n

/-- The predicate from the neighbour in direction `d` is left undriven in the same tile (R97). -/
def State.predInBad (s : State) (t k c d : Nat) : Bool :=
  match cellTo t c d 1 with
  | some (t', c') => t' == t && s.predCode t k c' ((d + 2) % 4) == 0
  | none => false

/-- PB line `i` has EN = 0. -/
def State.pbOff (s : State) (t k i : Nat) : Bool := s.lineByte k t (8 + i) / 128 == 0

/-- PB line `i` is sourced from the P of a cell with PEN = 0. -/
def State.pbNoP (s : State) (t k i : Nat) : Bool :=
  !s.pbOff t k i && !(decodeCfg (s.cellCfg t k (s.lineByte k t (8 + i) % 16))).pen

/-- SELE of a cell may not stand: a reserved code, its own P or a PB line without a P whether it reads E or not (R92, R93), or
an undriven input that it reads (R87, R97). -/
def State.seleBad (s : State) (t k c : Nat) (g : CellCfg) : Bool :=
  decide (6 < g.sele) || (g.sele == 4 && !g.pen) || (decide (4 < g.sele) && s.pbNoP t k (g.sele - 5)) ||
    (g.readsE && (if g.sele < 4 then s.predInBad t k c g.sele else decide (4 < g.sele) && s.pbOff t k (g.sele - 5)))

/-- A local output of the cell may not stand (R85, R87, R93, R97) (open points: log 35). -/
def State.localBad (s : State) (t k c d track : Nat) : Bool :=
  let n := s.outCode t k c d track
  n != 0 && (decide (25 < n) || (cellTo t c d 1).isNone || s.inputBad t k c (n - 1))

/-- SH, or SV, of the cell may not stand (R85, R87, R93, R97) (open points: log 35). -/
def State.segBad (s : State) (t k c : Nat) (vert : Bool) : Bool :=
  let w := s.cellCfg t k c
  let (len, dir) := if vert then (bits w 51 51, bits w 50 50) else (bits w 45 45, bits w 44 44)
  let src := s.segCode t k c vert
  let d := if vert then (if dir = 0 then 2 else 0) else (if dir = 0 then 1 else 3)
  src != 0 && (decide (13 < src) || (cellTo t c d (if len = 0 then 8 else 16)).isNone ||
    (decide (2 ≤ src ∧ src ≤ 9) && s.inputBad t k c (src - 2)))

/-- A predicate output of the cell may not stand (R85, R87, R93, R97) (open points: log 35). -/
def State.predBad (s : State) (t k c d : Nat) (g : CellCfg) : Bool :=
  let n := s.predCode t k c d
  if n = 0 then false else if (cellTo t c d 1).isNone then true else if n = 1 then !g.pen else if n < 6 then s.predInBad t k c (n - 2) else s.pbOff t k (n - 6)

/-- The odd cell of an F2D pair, which reads nothing (R70). -/
def f2dOdd (c : Nat) (g : CellCfg) : Bool := c % 2 == 1 && g.opc == opF2d && g.fmt == fmtD

/-- A .D cell without a partner of the same OPC and RND, or an odd one with PEN = 1 (R70). -/
def State.pairBad (s : State) (t k c : Nat) (g : CellCfg) : Bool :=
  g.fmt == fmtD && (let h := decodeCfg (s.cellCfg t k (if c % 2 = 0 then c + 1 else c - 1))
    !h.used || h.fmt != fmtD || h.opc != g.opc || h.rnd != g.rnd || (c % 2 == 1 && g.pen))

/-- The operation half of a cell's record may not stand (R49, R52, R70, R72, R87, R93) (open points: log 13). -/
def State.operBad (s : State) (t k c : Nat) (g : CellCfg) : Bool :=
  s.pairBad t k c g || !opListed g.opc g.fmt || g.emode == 3 || (g.opc == opSel2 && g.emode != 0) || (c % 4 == 0 && g.dcas) ||
    (g.readsSel && !bit (s.reg .TIL_SLN (8 * t + k)) 4) || s.seleBad t k c g ||
    (List.range 4).any (fun p => (g.input p).any (s.inputBarred t k c)) ||
    (!f2dOdd c g && (!g.readsAny || (opPorts g.opc g.csrc).any fun p => (g.input p).any (s.inputUndriven t k c)))

/-- A cell of the slot that the loader rejects (open points: log 13). -/
def State.cellBad (s : State) (t k c : Nat) : Bool :=
  let g := decodeCfg (s.cellCfg t k c)
  (g.used && s.operBad t k c g) || ((List.range 4).any fun d => s.localBad t k c d 0 || s.localBad t k c d 1 || s.predBad t k c d g) ||
    s.segBad t k c false || s.segBad t k c true

/-- A PB line driven from the P of a cell with PEN = 0 (R93): the cell. -/
def State.pbBad (s : State) (t k : Nat) : Option Nat :=
  ((List.range 2).filter (s.pbNoP t k)).head?.map
    fun i => s.lineByte k t (8 + i) % 16

/-- The first cell of the slot that the loader rejects. -/
def State.slotBad (s : State) (t k : Nat) : Option Nat := ((List.range 16).find? (s.cellBad t k)).or (s.pbBad t k)

/-! ### Lees, windows, guards of a tile -/

/-- Byte range of a slot's lees as its registers give it (R136). -/
def State.leesSpan (s : State) (t k : Nat) : Nat × Nat :=
  (s.fld leesBase (8 * t + k) * 64, 256 * 2 ^ s.fld leesLsz (8 * t + k))

/-- The lees of slot `k` passes its bounds or overlaps that of a slot in `others` (R136) (open points: log 83). -/
def State.leesBad (s : State) (t k : Nat) (others : List Nat) : Bool :=
  let (b, n) := s.leesSpan t k
  decide (8 < s.fld leesLsz (8 * t + k) ∨ 0x80000 < b + n) ||
    others.any fun j => let (b', n') := s.leesSpan t j; j != k && decide (b < b' + n' ∧ b' < b + n)

/-- A window of the slot with SH = 1 outside the tile stores (R167). -/
def State.winBad (s : State) (t k : Nat) : Bool :=
  (List.range 4).any fun w => s.flag winSh (32 * t + 4 * k + w) && decide (0x10 ≤ s.fld winBase (32 * t + 4 * k + w))

/-- The guard slots of a tile break R114. -/
def State.guardsBad (s : State) (t : Nat) : Bool :=
  s.flag gcfgBen t && (!s.flag gcfgAen t || s.fld gcfgA t == s.fld gcfgB t)

/-! ### Floor frame -/

/-- An injection or a tap of the floor may not stand (R103, R112) (open points: log 83). -/
def State.lanesBad (s : State) (f : Nat) : Bool :=
  (List.range 4).any fun e => (List.range 4).any fun p =>
    ((List.range 16).any fun l => let m := s.injByte f e l p / 64; m == 3 || (m != 0 && s.laneReserved f l)) ||
    ((List.range 4).any fun n => let b := s.tapByte f e p n; bit b 7 && s.laneReserved f (b % 16))

/-- DEST and DPORT of a send port record name a receive port of a floor, or a rack port of the rim hub
(R106, R334). -/
def sendPortOk (dest dport : Nat) : Bool :=
  if dest < 32 then decide (dport < 16) else decide (dest = 32) && decide (dport < 32)

/-- A send, push or pop record of the floor may not stand (R106, R112, R257). -/
def State.portsBad (s : State) (f : Nat) : Bool :=
  ((List.range 16).any fun n =>
    let b := s.bsRec f n
    (bit b 63 && s.laneReserved f (bits b 60 57)) || !sendPortOk (bits b 54 49) (bits b 48 41)) ||
  ((List.range 16).any fun n =>
    let b := s.qiRec f n
    bits b 56 55 != 0 || bits b 33 0 != 0 || (bit b 63 && s.laneReserved f (bits b 60 57))) ||
  ((List.range 16).any fun n =>
    let b := s.popRec f n
    bits b 53 0 != 0 || (bit b 63 && (List.range n).any fun j => bit (s.popRec f j) 63 && bits (s.popRec f j) 62 54 == bits b 62 54))

/-! ### A floor image written -/

/-- Slots of a tile that hold an image (open points: log 80). -/
def State.imaged (s : State) (t : Nat) : List Nat := (List.range 8).filter fun k => s.fld slotImg (8 * t + k) != 0

/-- What a floor load starts from: the floor's frames zero, its slots without image, its guards and select lanes off, no slot
moved away. The queue, scheduler and grader registers that the image is silent about keep their values, a queue's descriptor with
EN = 0 (R256) (open points: log 79, log 80). -/
def State.blankFloor (s : State) (f : Nat) : State :=
  let s := s.wipeFrames f
  let s : State := { s with moved := s.moved.filter fun p => p.1 / 128 ≠ f, turns := s.turns.filter fun p => p.1 / 16 ≠ f }
  (floorTiles f).foldl (fun s t =>
    let s := (s.setReg .TIL_GCFG t 0).setReg .TIL_CTX t 0
    let s := (List.range 128).foldl (fun s i => (s.setReg .TIL_K0 (128 * t + i) 0).setReg .TIL_K1 (128 * t + i) 0) s
    (List.range 8).foldl (fun s k =>
      let i := 8 * t + k
      (((s.setReg .TIL_SLOT i (s.reg .TIL_SLOT i % 4096 / 256 * 256)).setReg .TIL_LEES i 0).setReg .TIL_SLN i 0).setReg .TIL_FAULT i 0) s) s

/-- The frames of a floor image on the blank floor (open points: log 79). -/
def State.placeFloor (s : State) (f : Nat) (l : List Frame) : State := (s.blankFloor f).writeFrames l

/-- A tile or slot of the placed image that the loader rejects: (tile, slot, cell). -/
def State.placedBad (s : State) (f : Nat) : Option (Nat × Nat × Nat) :=
  (floorTiles f).findSome? fun t =>
    if s.guardsBad t then some (t, 0xFF, 0xFF)
    else (List.range 8).findSome? fun k =>
      let own := s.imaged t
      if own.contains k && s.leesBad t k own then some (t, k, 0xFF)
      else if s.winBad t k then some (t, k, 0xFF)
      else (s.slotBad t k).map fun c => (t, k, c)

/-- The tile of the placed image that is RETIRED and gets a data slot (R487). -/
def State.placedRetired (old new : State) (f : Nat) : Option Nat :=
  (floorTiles f).find? fun t => old.tstate t == 3 && (new.imaged t).any fun k => (new.guardOf t k).isNone

/-- The entry point, and PF, of a slot: bytes 448 and 456 of its bank in the image's frames (R131, R132)
(open points: log 80). -/
def State.imageEntry (s : State) (t k : Nat) : Nat := s.cfsNum (tileFrame t + 0x4000 + k * 0x200 + 448) 4 % 0x80000 / 4 * 4
def State.imagePf (s : State) (t k : Nat) : Bool := bit (s.cfsNum (tileFrame t + 0x4000 + k * 0x200 + 456) 4) 8

/-- Latches and history words of a slot's cells at their initial values (R46). -/
def State.initCells (s : State) (t k : Nat) : State :=
  (List.range 16).foldl (fun s c =>
    let g := decodeCfg (s.cellCfg t k c)
    let i := 128 * t + 16 * k + c
    let (y, h) := cellInit g (BitVec.ofNat 64 (s.reg .TIL_K1 i + (if g.fmt = fmtD then 2 ^ 32 * s.reg .TIL_K1 (i + 1) else 0)))
    s.setCell t k c { latch := ⟨y.setWidth 32, false⟩, hist := h, ops := [] }) s

/-- A slot set up under R131, IDLE. -/
def State.readySlot (s : State) (t k entry : Nat) (pf : Bool) : State :=
  let s := s.modSlot t k fun x => { x with entry := entry, pf := pf }
  let s := (s.initSlot t k).setSstate t k stIdle
  (s.setReg .TIL_FPX (8 * t + k) (s.reg .TIL_FPX (8 * t + k) / 256 * 256)).initCells t k

/-- A slot that the image does not write. -/
def State.vacateSlot (s : State) (t k : Nat) : State :=
  (s.setReg .TIL_SLOT (8 * t + k) 0).modSlot t k fun _ => .init

/-- Every slot of the placed floor (R488). -/
def State.readySlots (s : State) (f : Nat) : State :=
  (floorTiles f).foldl (fun s t =>
    let s := (List.range 8).foldl (fun s k =>
      if s.fld slotImg (8 * t + k) = 0 then s.vacateSlot t k else s.readySlot t k (s.imageEntry t k) (s.imagePf t k)) s
    s.modTile t fun x => { x with icache := [] }) s

/-- Tile states after a load: the tiles that TRN_FLOOR names are spares, RETIRED ones stay (R424). -/
def State.spares (s : State) (f : Nat) : State :=
  let n := s.fld trnNsp f
  (List.range 16).foldl (fun s i =>
    let spare := (decide (1 ≤ n) && s.fld trnSp0 f == i) || (decide (2 ≤ n) && s.fld trnSp1 f == i)
    if s.tstate (16 * f + i) = 3 then s
    else s.setReg .TRN_FLOOR f (putBits (s.reg .TRN_FLOOR f) (2 * i + 1) (2 * i) (b2n spare))) s

/-! ### Load records (R501) -/

def cfgLstat : Fld := ⟨.CFG_FLOOR, 59, 52⟩
def guardState : Fld := ⟨.CFG_GUARD, 63, 60⟩
def guardLstat : Fld := ⟨.CFG_GUARD, 59, 52⟩
def guardDigest : Fld := ⟨.CFG_GUARD, 47, 0⟩
def cfgAuto : Fld := ⟨.CFG_STATUS, 28, 27⟩

/-- The 16-byte reply of IMAGE_LOAD (R502) (open points: log 84). -/
def loadReply (len : Nat) (digest us : Nat) : List Byte := leBytes 4 len ++ leBytes 8 digest ++ leBytes 4 us

/-- Event 0x9401 of a failed autonomous load (R480): floor or 0xFF, flash entry, status (open points: log 84). -/
def State.autoFail (s : State) (floor entry status : Nat) : State := s.raise 0x9401 0xD (floor + 256 * entry) status

/-- The autonomous load is over: `code` is 2 done, 3 failed (R480, R501). -/
def State.autoEnd (s : State) (code : Nat) : State :=
  State.setFld { s with cfg := { s.cfg with auto := 0 } } cfgAuto 0 code

/-- A step of the autonomous load has ended with a status: the next step, or the end after a failed manifest or guard image
(R480) (open points: log 84). -/
def State.autoStep (s : State) (floor entry status next : Nat) : State :=
  let s := if status = 0 then s else s.autoFail floor entry status
  if status ≠ 0 ∧ next ≤ 3 then s.autoEnd 3 else { s with cfg := { s.cfg with auto := next } }

/-! ### Manifest (R484) -/

/-- The manifest may be in force: layout, Drefel version, signature, digests of what is loaded. -/
def State.manifestFits (s : State) (m : List Byte) : Bool :=
  manifestOk m &&
  decide (numAt m 8 1 * 256 + numAt m 9 1 ≤ s.fwMajor * 256 + s.fwMinor) &&
  (!(manSigned m || s.dev.fuses.msigreq) ||
    (Config.sha384 ((m.drop 1648).take 96) == s.dev.fuses.key &&
      Config.ecdsaP384 ((m.drop 1648).take 96) (m.take 1648) (m.drop 1744))) &&
  (!s.dev.guardIn || listed m guardAt == s.cfg.guard.toNat) &&
  s.cfg.floors.all fun p => p.2 == 0 || listed m (floorAt p.1) == p.2.toNat

/-- A manifest load: its status, and the state after it. -/
def State.loadManifest (s : State) (m : List Byte) (fails : Bool) : Nat × State :=
  if fails then (stFault, s)
  else if !s.manifestFits m then (stMismatch, s)
  else
    let s := State.setReg { s with cfg := { s.cfg with manifest := m } } .CFG_MANIFEST 0 (manifestHash m)
    (stOk, s.bump .CFG_LOADS 0)

/-! ### Image checks (R484) -/

/-- What is wrong with an image, with the bytes of the reply; the frames when it may be written (open points: log 81). -/
inductive Checked where
  | bad (status : Nat) (data : List Byte)
  | good (frames : List Frame)
  deriving DecidableEq, Repr

/-- Offset of the address parameter of IMAGE_LOAD and SLOT_LOAD: where a fault in the image's content is reported. -/
def addrPar : Nat := 4

def badImage (where_ : List Byte) : Checked := .bad stBadParam (leBytes 2 addrPar ++ where_)

def placeBytes (p : Nat × Nat × Nat) : List Byte := leBytes 2 p.1 ++ leBytes 1 p.2.1 ++ leBytes 1 p.2.2

/-- The image does not belong to the manifest in force (R484). -/
def State.foreign (s : State) (img : List Byte) (digest : Nat) (off : Nat) : Bool :=
  s.cfg.manifest == [] || numAt img 16 8 != s.reg .CFG_MANIFEST 0 || digest != listed s.cfg.manifest off || digest == 0

/-- Layout, ranges and conflicts of an image whose placing is then checked by `placed` (open points: log 81). -/
def State.checkFrames (s : State) (x : Target) (kind : Nat) (img : List Byte) (placed : List Frame → Option Checked) : Checked :=
  match imageFrames kind img with
  | none => badImage []
  | some l =>
    if !l.all (s.frameOk x) then badImage []
    else match placed l with
      | some c => c
      | none => match doubleAssign l with
        | some d => .bad stDoubleAssign d
        | none => .good l

/-- A floor image checked (R484, R487, R482) (open points: log 81). -/
def State.checkFloor (s : State) (f : Nat) (img : List Byte) : Checked :=
  if s.foreign img (imageDigest img).toNat (floorAt f) ∨ numAt img 5 1 ≠ f then .bad stMismatch []
  else s.checkFrames (.floor f) kFloor img fun l =>
    let n := s.placeFloor f l
    match n.placedBad f with
    | some p => some (badImage (placeBytes p))
    | none =>
      if decide (4 < n.turnRes f) || n.lanesBad f || n.portsBad f then some (badImage [])
      else (s.placedRetired n f).map fun t => .bad stFault (leBytes 2 t)

/-! ### Guard image (R355, R490) -/

/-- A TRP register is stored first and acts with the others; another register acts as the privileged view's write. -/
def State.guardFrame1 (s : State) (g : Frame) : State :=
  (wideUnits g).foldl (fun s u =>
    let v := numAt g.data (u.1 - g.addr) (if u.2 then 8 else 4)
    if inTrp u.1 then
      match regAt u.1 with
      | some (r, i, high) => s.storeReg r i (halfMask u.2 high) (if high then v * 2 ^ 32 else v)
      | none => s
    else s.imageUnit u.1 u.2 v) s

def State.guardFrames (s : State) (l : List Frame) : State :=
  let s := l.foldl (fun s g => if isCfs g.addr then s.cfsFrameWrite g else s.guardFrame1 g) s
  (s.clampFld trpSettle 0 50 255).clampFld hostWdPeriod 0 1 65535

/-- mV of VSEL (R357). -/
def vselMv (v : Nat) : Nat := if v = 1 then 1800 else if v = 2 then 2500 else 3300

/-- The measured VDDIO of bank `b` lies outside ±10 % of `mv`; within the window of the VSEL in force it lies in no other
(R355, R357). -/
def State.vddioBad (s : State) (b mv : Nat) : Bool :=
  let x := Config.vddio (b + 22 * tget 0 s.dev.supply b)
  (s.claimed b && s.flag bankVok b) || decide (x * 10 < mv * 9 ∨ mv * 11 < x * 10)

/-- A bank that the image sets as it may not (R355, R490); `old` is the state before the load. -/
def State.bankBad (old new : State) (b : Nat) : Bool :=
  let v := new.fld bankVsel b
  if v = 0 then old.claimed b
  else
    (if old.fld bankVsel b = v then !old.flag bankVok b else old.vddioBad b (vselMv v)) || (decide (b < 16) && new.fld bankSafe b != b2n (bit old.dev.safePol b))

/-- A guard image checked (R484, R490). -/
def State.checkGuard (s : State) (img : List Byte) : Checked :=
  if s.foreign img (imageDigest img).toNat guardAt then .bad stMismatch []
  else s.checkFrames .guard kGuard img fun l =>
    if (List.range 22).any (s.bankBad (s.guardFrames l)) then some (badImage []) else none

/-- The settings of a guard image take effect together (R490): `old` is the state before (open points: log 65). -/
def State.guardActs (s old : State) : State :=
  let s : State := { s with dev := { s.dev with guardIn := true } }
  let s := (List.range 22).foldl (fun s b => s.setFld ⟨.FIO_BANK, 31, 31⟩ b (b2n (s.claimed b))) s
  let s := if s.flag hostWdEn 0 ∧ !old.flag hostWdEn 0 then { s with trip := { s.trip with kick := s.tim.clk } } else s
  let s := (List.range 48).foldl (fun s l => if s.linkHeld l ∧ !old.linkHeld l then s.vlHold l else s) s
  let s := (List.range 32).foldl (fun s k => if s.claimed 21 then s.showSrc (512 + k) (s.gpioLevel k) else s) s
  ((List.range 12).foldl State.relatch s).refreshGates.sendFrames

/-- A guard load: its status and reply bytes, and the state after it (R490, R501). -/
def State.loadGuard (s : State) (img : List Byte) (fails : Bool) : Nat × List Byte × State :=
  let c := if fails then .bad stFault [] else s.checkGuard img
  match c with
  | .bad st d =>
    let s := s.setFld guardLstat 0 st
    (st, d, if s.dev.guardIn then s else s.setFld guardState 0 4)
  | .good l =>
    let dg := imageDigest img
    let t := (s.guardFrames l).guardActs s
    let t : State := { t with cfg := { t.cfg with guard := dg } }
    let t := ((t.setFld guardState 0 2).setFld guardLstat 0 0).setFld guardDigest 0 (dg.toNat % 2 ^ 48)
    (stOk, loadReply img.length (dg.toNat % 2 ^ 64) 0, t.bump .CFG_LOADS 0)

end Sys2Proof.Machine
end

