-- ==== Sys2Proof/Machine/Loads.lean ====
section
/-! DEFINITION. Image loads and slot loads (chapter "Power-up, configuration and read-back", R480 to R491, R502; R145 to R149). -/

namespace Sys2Proof.Machine

open Sys2Proof

/-! ### IMAGE_LOAD in start order (R485) -/

def opImageLoad : Nat := 0x1001

def imageParams (kind floor src entry : Nat) (a : DWord) (len : Nat) : List Byte :=
  leBytes 1 kind ++ leBytes 1 floor ++ leBytes 1 src ++ leBytes 1 entry ++ leBytes 8 a.toNat ++ leBytes 4 len

/-- The first parameter outside its range (R443, R455). -/
def imageParFault (floor src entry : Nat) (kind : Nat) : Option Nat :=
  if kind = 2 ∧ 31 < floor then some 1 else if 1 < src then some 2 else if 62 < entry then some 3 else none

/-- Another load runs, or an earlier one waits. -/
def State.loadBusy (s : State) : Bool := s.cfg.load.isSome || s.cmds.any fun x => x.wait = .imageQueue

/-- IMAGE_LOAD starts, or, having waited, has its turn (R485): the checks, the wait behind an earlier load, then `body`
(open points: log 84). -/
def State.imageTurn (s : State) (c : Cmd) (kind floor src entry : Nat) (params : List Byte) (body : State → State) : State :=
  match s.cmds.find? fun x => x.wait = .imageQueue with
  | some x =>
    if x.cmd = c then (if s.cfg.load.isSome then s else body { s with cmds := s.cmds.erase x })
    else s.runCmd c opImageLoad params false fun s =>
      if let some o := imageParFault floor src entry kind then s.badParam c opImageLoad o
      else if s.fld cfgAuto 0 = 1 then s.reply c opImageLoad stBusy []
      else s.await c opImageLoad .imageQueue 0
  | none => s.runCmd c opImageLoad params false fun s =>
      if let some o := imageParFault floor src entry kind then s.badParam c opImageLoad o
      else if s.fld cfgAuto 0 = 1 then s.reply c opImageLoad stBusy []
      else if s.cfg.load.isSome then s.await c opImageLoad .imageQueue 0
      else body (s.interim c opImageLoad)

/-- The bytes that a load reads: `len` of them from host memory, what the flash entry holds from flash. -/
def sourced (src len : Nat) (img : List Byte) : List Byte :=
  if src = 0 then (img ++ List.replicate (len - img.length) 0#8).take len else img

/-- IMAGE_LOAD_MANIFEST (R484, R502). -/
def execImageLoadManifest (c : Cmd) (floor src entry : Nat) (a : DWord) (len : Nat) (img : List Byte) (fails : Bool) (s : State) :
    Out :=
  .next (s.imageTurn c 0 floor src entry (imageParams 0 floor src entry a len) fun s =>
    let m := sourced src len img
    let (st, s) := s.loadManifest m fails
    s.reply c opImageLoad st (if st = 0 then loadReply m.length (manifestHash m) 0 else []))

/-- IMAGE_LOAD_GUARD (R490, R502). -/
def execImageLoadGuard (c : Cmd) (floor src entry : Nat) (a : DWord) (len : Nat) (img : List Byte) (fails : Bool) (s : State) : Out :=
  .next (s.imageTurn c 1 floor src entry (imageParams 1 floor src entry a len) fun s =>
    let (st, d, s) := s.loadGuard (sourced src len img) fails
    s.reply c opImageLoad st d)

/-! ### Floor loads (R486 to R489, R491) -/

/-- Why a floor load may not start (R485, R491) (open points: log 84). -/
def State.floorLoadFault (s : State) (f : Nat) : Option Nat :=
  let z := s.fld cfgFloorState f
  if z = 3 ∨ z = 5 then some stBusy
  else if 3 ≤ s.fld nocState f ∨ (s.floor f).offWhy = 1 then some stDomainOff
  else if !s.dev.guardIn then some stBusy
  else none

/-- Pass 1 of a load of floor `f` begins. -/
def State.startLoad (s : State) (c : Option Cmd) (f entry len : Nat) : State :=
  let s := s.setFrz f { s.frz f with prev := s.fld cfgFloorState f }
  let s := s.setFld cfgFloorState f 1
  { s with cfg := { s.cfg with load := some { cmd := c, floor := f, entry := entry, pass2 := false, len := len, digest := 0, fenceAt := 0 } } }

/-- IMAGE_LOAD_FLOOR (R485, R486, R491). -/
def execImageLoadFloor (c : Cmd) (floor src entry : Nat) (a : DWord) (len : Nat) (s : State) : Out :=
  .next (s.imageTurn c 2 floor src entry (imageParams 2 floor src entry a len) fun s =>
    match s.floorLoadFault floor with
    | some st => s.reply c opImageLoad st []
    | none =>
      if src = 0 ∧ (len < 64 ∨ 0x1000000 < len) then s.badParam c opImageLoad 12
      else (s.waitCmd c opImageLoad (.imageLoad floor) 0).startLoad (some c) floor (if src = 0 then 0xFF else entry)
        (if src = 0 then len else 0))

/-- The load that runs ends with a status and reply bytes (R501) (open points: log 84). -/
def State.endLoad (s : State) (x : LoadSt) (st : Nat) (data : List Byte) : State :=
  let f := x.floor
  let s : State := { s with cfg := { s.cfg with load := none } }
  let s := (s.setFld cfgLstat f st).setReg .CFG_LTIME f s.tim.now
  let s := if st = 0 then s.bump .CFG_LOADS 0 else s
  match x.cmd with
  | some _ => s.finish (.imageLoad f) st data
  | none => s.autoStep f x.entry st (4 + f)

/-- LOAD_PASS1_DONE (R486 to R488): pass 1 has read the whole image; the load ends without a change, or the floor is fenced
(open points: log 93). -/
def execLoadPass1Done (img : List Byte) (fails : Bool) (s : State) : Out :=
  match s.cfg.load with
  | none => .next s
  | some x =>
    if x.pass2 then .next s
    else
      let f := x.floor
      let m := if x.len = 0 then img else sourced 0 x.len img
      let r := if fails then .bad stFault [] else s.checkFloor f m
      match r with
      | .bad st d => .next ((s.setFld cfgFloorState f (s.frz f).prev).endLoad x st d)
      | .good _ =>
        let s := s.fence f 2 false
        let s := ((List.range 32).filter fun p => (List.range 16).any fun k =>
          let b := s.bsRec f k
          bit b 63 && bits b 54 49 == 32 && (bits b 48 41 == p || (s.fld portMode p == 2 && p % 2 == 0 && bits b 48 41 == p + 1))).foldl
          State.portRestart s
        .next { s with cfg := { s.cfg with load := some { x with pass2 := true, len := m.length, digest := imageDigest m, fenceAt := s.tim.clk } } }

/-- The frames that a pass 2 which then failed has written: those that arrived whole and that a floor image may write (R486)
(open points: log 84). -/
def State.arrived2 (s : State) (f : Nat) (m : List Byte) : List Frame :=
  (leadFrames (numAt m 12 4) (m.drop 64)).filter (s.frameOk (.floor f))

/-- Pass 2 has failed, having read `m` (R486): cause 0 another digest, 1 a read failure (open points: log 84). -/
def State.loadFailed (s : State) (x : LoadSt) (m : List Byte) (cause : Nat) : State :=
  let f := x.floor
  let s := s.placeFloor f (s.arrived2 f m)
  let s := (floorTiles f).foldl (fun s t => (List.range 8).foldl (fun s k => s.vacateSlot t k) s) s
  let s := ((s.noImage f).setFld nocState f 1).modFloor f fun y => { y with offWhy := 0 }
  ((s.setFld cfgFloorState f 4).raise 0x9202 0xD (f + 256 * x.entry) cause).endLoad x stFault []

/-- The floor holds its image and is OPEN (R488, R501). -/
def State.loadOpen (s : State) (x : LoadSt) (l : List Frame) : State :=
  let f := x.floor
  let s := (((s.placeFloor f l).readySlots f).spares f).setFld nocState f 0
  let s := s.modFloor f fun y => { y with offWhy := 0, fenceRaised := false }
  let s := (s.setFld cfgFloorState f 2).setFld cfgDigest f (x.digest.toNat % 2 ^ 48)
  let s : State := { s with cfg := { s.cfg with floors := tput 0 s.cfg.floors f x.digest } }
  s.settleForks.endLoad x stOk (loadReply x.len (x.digest.toNat % 2 ^ 64) ((s.tim.clk - x.fenceAt) / 1000))

/-- LOAD_PASS2_DONE (R486, R488): pass 2 has read the source again on the held floor. -/
def execLoadPass2Done (img : List Byte) (fails : Bool) (s : State) : Out :=
  match s.cfg.load with
  | none => .next s
  | some x =>
    if !x.pass2 ∨ s.fld nocState x.floor ≠ 2 then .next s
    else
      let m := (img ++ List.replicate (x.len - img.length) 0#8).take x.len
      if fails then .next (s.loadFailed x (img.take x.len) 1)
      else if imageDigest m ≠ x.digest then .next (s.loadFailed x m 0)
      else match imageFrames kFloor m with
        | some l => .next (s.loadOpen x l)
        | none => .next (s.loadFailed x m 0)

/-! ### Autonomous load (R480) -/

/-- AUTOLOAD (R480): the next step from the flash directory: 0 the manifest, 1 the guard image, 2 a floor image, in ascending
floor number, 3 no more entries. A missing manifest or guard image fails. -/
def execAutoload (kind : Fin 4) (floor : FloorNo) (entry : Fin 63) (img : List Byte) (fails : Bool) (s : State) : Out :=
  let n := s.cfg.auto
  if n = 0 ∨ s.cfg.load.isSome then .next s
  else if n = 1 ∧ kind = 0 then
    let (st, s) := s.loadManifest img fails
    .next (s.autoStep 0xFF entry st 2)
  else if n = 2 ∧ kind = 1 then
    let (st, _, s) := s.loadGuard img fails
    .next (s.autoStep 0xFF entry st 3)
  else if 3 ≤ n ∧ kind = 2 ∧ n ≤ 3 + floor.val then
    match s.floorLoadFault floor with
    | some st => .next (s.autoStep floor entry st (4 + floor.val))
    | none => .next (s.startLoad none floor entry 0)
  else if 3 ≤ n ∧ kind = 3 then .next (s.autoEnd 2)
  else .next s

/-! ### LOAD_STATUS and MANIFEST_READ (R502) -/

/-- LOAD_STATUS (R502). The register table has no CFG_LTIME for the guard image, so the time in its reply is a free value (open
points: log 84). -/
def execLoadStatus (c : Cmd) (f : Nat) (s : State) : Out :=
  .next (s.runCmd c 0x1002 (leBytes 1 f) false fun s =>
    if f = 0xFF then
      let (x, s) := s.fresh64
      s.reply c 0x1002 stOk (leBytes 8 (s.reg .CFG_GUARD 0) ++ leBytes 8 x.toNat)
    else if 31 < f then s.badParam c 0x1002 0
    else s.reply c 0x1002 stOk (leBytes 8 (s.reg .CFG_FLOOR f) ++ leBytes 8 (s.reg .CFG_LTIME f)))

/-- MANIFEST_READ (R502). -/
def execManifestRead (c : Cmd) (off len : Nat) (s : State) : Out :=
  .next (s.runCmd c 0x1005 (leBytes 2 off ++ leBytes 2 len) false fun s =>
    if len = 0 ∨ 1008 < len then s.badParam c 0x1005 2
    else if 1839 < off then s.badParam c 0x1005 0
    else if 1840 < off + len then s.badParam c 0x1005 2
    else if s.cfg.manifest == [] then s.reply c 0x1005 stBusy []
    else s.reply c 0x1005 stOk ((s.cfg.manifest.drop off).take len))

/-! ### SLOT_LOAD (R145 to R149) -/

def opSlotLoad : Nat := 0x1003

/-- The slot is not free for a load (R145, R147, R430). -/
def State.slotBusy (s : State) (t k : Nat) : Bool :=
  let st := s.sstate t k
  st == stLoading || st == stActive || st == stSuspended || (s.slot t k).task.isSome || (s.slot t k).moving

/-- The staged copy: of the tile's own store, with a mark when a byte cannot be corrected, or of host memory. -/
def State.staged (s : State) (t src a len : Nat) (img : List Byte) (fails : Bool) : List Byte × Bool × State :=
  if src = 0 then
    let l := s.peekN t (a % 0x80000) len
    (l.map (·.1), l.any (·.2), s.noteRead t (a % 0x80000) len 5 0xFF)
  else (sourced 0 len img, fails, s)

/-- A slot image needs a trailer (R146). -/
def State.trailed (s : State) : Bool := manSigned s.cfg.manifest || s.dev.fuses.msigreq

/-- Head and frames of a slot image, without its trailer. -/
def slotBody (img : List Byte) (trailed : Bool) : List Byte := if trailed then img.take (numAt img 8 4) else img

/-- The trailer is missing or fails (R146). -/
def State.trailerBad (s : State) (img : List Byte) : Bool :=
  s.trailed && (let t := img.drop (numAt img 8 4)
    t.length != 192 || t.take 96 != (s.cfg.manifest.drop 1648).take 96 ||
      !Config.ecdsaP384 (t.take 96) (slotBody img true) (t.drop 96))

/-- The image is not for this slot, or not of the manifest in force (R145). -/
def State.slotForeign (s : State) (t k : Nat) (img : List Byte) : Bool :=
  s.cfg.manifest == [] || numAt img 24 2 != t || numAt img 26 1 != k || numAt img 5 1 != t / 16 ||
    numAt img 16 8 != s.reg .CFG_MANIFEST 0 || s.trailerBad img

/-- What a slot load starts from: the slot's records, constants, select lane and lees as an image that writes nothing leaves
them (open points: log 79). -/
def State.blankSlot (s : State) (t k : Nat) : State :=
  let r := tileFrame t + k * 0x800
  let s : State := { s with cfs := s.cfs.filter fun p => !decide (r ≤ p.1 ∧ p.1 < r + 0x220) }
  let s := (List.range 16).foldl (fun s c =>
    (s.setReg .TIL_K0 (128 * t + 16 * k + c) 0).setReg .TIL_K1 (128 * t + 16 * k + c) 0) s
  s.setReg .TIL_SLN (8 * t + k) 0

/-- Slots of the tile other than `k` that are not EMPTY (open points: log 80). -/
def State.otherSlots (s : State) (t k : Nat) : List Nat := (List.range 8).filter fun j => j != k && s.sstate t j != stEmpty

/-- A frame of a slot image writes into a lees range of the tile (R146). -/
def State.leesHit (s : State) (t k : Nat) (g : Frame) : Bool :=
  decide (g.addr / 0x80000 = t) && decide (g.addr < 0x10000000) &&
    (k :: s.otherSlots t k).any fun j =>
      let (b, n) := s.leesSpan t j
      decide (g.addr % 0x80000 < b + n ∧ b < g.addr % 0x80000 + g.data.length)

/-- The frames of a slot image on the blank slot (open points: log 79). -/
def State.placeSlot (s : State) (t k : Nat) (l : List Frame) : State := (s.blankSlot t k).writeFrames l

/-- The images of the tile's slot loads under way placed, so that their lees count (R136). -/
def State.placeLoading (s : State) (t : Nat) : State :=
  (s.tile t).loading.foldl (fun s x => s.placeSlot t x.2.1 ((imageFrames kSlot x.2.2).getD [])) s

/-- A slot image checked in the order of R145; it may not be for a guard slot. -/
def State.checkSlot (s : State) (t k : Nat) (img : List Byte) : Checked :=
  if s.slotForeign t k img then .bad stMismatch []
  else if (s.guardOf t k).isSome then .bad stBadParam (leBytes 2 2)
  else s.checkFrames (.slot t k) kSlot (slotBody img s.trailed) fun l =>
    let n := (s.placeLoading t).placeSlot t k l
    if n.leesBad t k (s.otherSlots t k) ∨ n.winBad t k ∨ l.any (n.leesHit t k) then some (badImage (placeBytes (t, k, 0xFF)))
    else (n.slotBad t k).map fun c => badImage (placeBytes (t, k, c))

/-- Tokens of the slot's own stages and latches discarded (R149). -/
def State.dropSlotTokens (s : State) (t k : Nat) : State :=
  { s with
    stages := s.stages.filter fun p => !(decide (p.1 < 2 ^ 21) && p.1 / 4096 == t && p.1 / 32 % 8 == k)
    cells := s.cells.filter fun p => !(p.1 / 128 == t && p.1 / 16 % 8 == k) }

/-- The parameters of SLOT_LOAD outside their ranges (R145) (open points: log 85). -/
def slotLoadParFault (t k src a len : Nat) : Option Nat :=
  if 511 < t then some 0
  else if 7 < k then some 2
  else if 1 < src then some 3
  else if src = 0 ∧ a / 0x80000 ≠ t then some 4
  else if len < 64 ∨ 0x80000 + 192 < len ∨ (src = 0 ∧ 0x80000 < a % 0x80000 + len) then some 12
  else none

/-- SLOT_LOAD past its parameter checks: the statuses of R145 in order, then the slot is LOADING (open points: log 85). -/
def State.slotLoadCmd (s : State) (c : Cmd) (t k src a len : Nat) (img : List Byte) (fails : Bool) : State :=
  let f := t / 16
  if s.domainOff f ∨ s.cfg.load.any (·.floor == f) then s.reply c opSlotLoad stDomainOff []
  else if s.slotBusy t k then s.reply c opSlotLoad stBusy []
  else
    let (m, bad, s) := s.staged t src a len img fails
    if bad then s.reply c opSlotLoad stFault []
    else match s.checkSlot t k m with
      | .bad st d => s.reply c opSlotLoad st d
      | .good _ =>
        let s := ((s.await c opSlotLoad (.slotLoad t k) 0).dropSlotTokens t k).setSstate t k stLoading
        let s := s.endAgent (.slot t k)
        s.modTile t fun x => { x with loading := x.loading ++ [(c, k, slotBody m s.trailed)] }

/-- SLOT_LOAD (R145 to R147, R149). -/
def execSlotLoad (c : Cmd) (t k src a len : Nat) (img : List Byte) (fails : Bool) (s : State) : Out :=
  .next (s.runCmd c opSlotLoad (leBytes 2 t ++ leBytes 1 k ++ leBytes 1 src ++ leBytes 8 a ++ leBytes 4 len) false fun s =>
    match slotLoadParFault t k src a len with
    | some o => s.badParam c opSlotLoad o
    | none => s.slotLoadCmd c t k src a len img fails)

/-- The image written into the slot, IDLE with its new IMG (R131, R146, R164). -/
def State.slotLoaded (s : State) (t k : Nat) (img : List Byte) : State :=
  let s := s.placeSlot t k ((imageFrames kSlot img).getD [])
  let s := s.setFld slotImg (8 * t + k) (numAt img 28 2)
  ((s.readySlot t k (numAt img 30 4) false).modTile t fun x => { x with icache := [] }).settleForks

/-- SLOT_LOAD_DONE (R148) (open points: log 85). -/
def execSlotLoadDone (t : TileNo) (k : SlotNo) (s : State) : Out :=
  match (s.tile t).loading.find? fun x => x.2.1 == k.val with
  | none => .next s
  | some x =>
    let s := s.modTile t fun y => { y with loading := y.loading.erase x }
    let s := s.slotLoaded t k x.2.2
    .next (s.finish (.slotLoad t k) stOk (leBytes 8 ((imageDigest x.2.2).toNat % 2 ^ 64)))

end Sys2Proof.Machine
end

