-- ==== Sys2Proof/Machine/Freeze.lean ====
section
/-! DEFINITION. Freezing and thawing a floor, read-back, and the test access port (chapter "Power-up, configuration and
read-back", R492 to R499, R132). -/

namespace Sys2Proof.Machine

open Sys2Proof

def opFreeze : Nat := 0xB001
def opReadback : Nat := 0xB002
def opThaw : Nat := 0xB003

/-! ### Freeze (R492) -/

/-- A floor that is frozen. -/
def State.frozen (s : State) (f : Nat) : Bool := s.fld cfgFloorState f == 3
/-- A floor whose freeze is pending. -/
def State.freezing (s : State) (f : Nat) : Bool := s.fld cfgFloorState f == 5

/-- A freeze of an OPEN floor is pending from now: at the next step of the batch, or at once. A pending freeze that comes at once stays so
(open points: log 46, log 87). -/
def State.startFreeze (s : State) (f : Nat) (batch : Option Nat) : State :=
  if s.freezing f then (match batch with
    | some _ => s
    | none => s.setFrz f { s.frz f with batch := none })
  else (s.setFrz f { batch := batch, since := s.tim.clk, prev := s.fld cfgFloorState f }).setFld cfgFloorState f 5

/-- Why a freeze may not start (R314, R491, R502). -/
def State.freezeFault (s : State) (f b imm : Nat) : Option Nat :=
  if s.domainOff f then some stDomainOff
  else if s.cfg.load.any (·.floor == f) then some stBusy
  else if imm = 0 ∧ !s.flag bctlEn b then some stBusy
  else none

/-- FLOOR_FREEZE (R492, R502) (open points: log 87). -/
def execFloorFreeze (c : Cmd) (f b imm timeout : Nat) (s : State) : Out :=
  .next (s.runCmd c opFreeze (leBytes 1 f ++ leBytes 1 b ++ leBytes 1 imm ++ leBytes 2 timeout) false fun s =>
    if 31 < f then s.badParam c opFreeze 0
    else if 1 < imm then s.badParam c opFreeze 2
    else if s.frozen f then s.reply c opFreeze stOk []
    else match s.freezeFault f b imm with
      | some st => s.reply c opFreeze st []
      | none =>
        (s.startFreeze f (if imm = 0 then some b else none)).waitCmd c opFreeze (.freeze f) (if imm = 0 then timeout else 0))

/-- The step event that a pending freeze waits for is at the hub. -/
def State.stepAtHub (s : State) (f b : Nat) : Bool :=
  s.net.any fun p => s.arrived p && p.op == .step && p.dest == f && p.addr == b && decide ((s.frz f).since ≤ p.sent)

/-- FREEZE_TAKE_EFFECT (R492): not during a turning move; with IMM = 0 when the step event is at the hub, before its activations
(open points: log 87). -/
def execFreezeTakeEffect (f : FloorNo) (s : State) : Out :=
  if s.freezing f && (s.grav f).move.isNone && (match (s.frz f).batch with
      | none => true
      | some b => s.stepAtHub f b) then
    .next (((s.setFrz f { s.frz f with batch := none }).setFld cfgFloorState f 3).finish (.freeze f) stOk [])
  else .next s

/-- A pending freeze is withdrawn. -/
def State.withdrawFreeze (s : State) (f : Nat) : State :=
  (s.setFld cfgFloorState f (s.frz f).prev).setFrz f .init

/-- FREEZE_TIMEOUT (R492) (open points: log 87). -/
def execFreezeTimeout (f : FloorNo) (s : State) : Out :=
  if s.freezing f && (s.frz f).batch.isSome then
    let late := s.cmds.filter fun x => x.wait == .freeze f && x.deadline.any fun d => decide (d ≤ s.tim.clk)
    if late.isEmpty then .next s
    else
      let s : State := { s with cmds := s.cmds.filter fun x => !late.contains x }
      let s := late.foldl (fun s x => s.reply x.cmd x.op stTimeout []) s
      .next (if s.waitsFor (.freeze f) then s else s.withdrawFreeze f)
  else .next s

/-- A floor runs again, or its pending freeze is withdrawn (R495) (open points: log 87). -/
def State.thaw (s : State) (f : Nat) : State :=
  if s.frozen f then s.withdrawFreeze f
  else if s.freezing f then (s.withdrawFreeze f).finish (.freeze f) stAborted []
  else s

/-- FLOOR_THAW (R495). -/
def execFloorThaw (c : Cmd) (f : Nat) (s : State) : Out :=
  .next (s.runCmd c opThaw (leBytes 1 f) false fun s =>
    if 31 < f then s.badParam c opThaw 0 else (s.thaw f).reply c opThaw stOk [])

/-! ### Read-back (R132, R494) -/

/-- Byte `i` of a number. -/
def byteOf (n i : Nat) : Nat := n / 2 ^ (8 * i) % 256

/-- Byte `i` of a list of words. -/
def wordsByte (l : List Word) (i : Nat) : Nat := byteOf (l.getD (i / 4) 0#32).toNat (i % 4)

/-- Byte `o` of the bank of slot `k` (R132). -/
def State.bankByte (s : State) (t k o : Nat) : Nat :=
  let x := s.slot t k
  let i := 8 * t + k
  if o < 64 then wordsByte x.globals o
  else if o < 448 then
    let n := (o - 64) / 64
    if n < s.fld leesHdepth i then wordsByte (x.frames.getD n []) (o % 64) else 0
  else if o < 452 then byteOf (x.pc % 0x80000) (o - 448)
  else if o = 452 then s.fld leesHdepth i
  else if o = 454 ∨ o = 455 then byteOf (s.fld leesSpilled i) (o - 454)
  else if 456 ≤ o ∧ o < 460 then byteOf x.flags.toNat (o - 456)
  else if o = 460 then s.sstate t k
  else if o = 462 ∨ o = 463 then byteOf (x.task.getD 0xFFFF) (o - 462)
  else 0

/-- History word `j` of a cell, and its poison; a .D pair's upper halves belong to the odd cell (R67, R70)
(open points: log 86). -/
def State.histWord (s : State) (t k c j : Nat) : Nat × Bool :=
  let (h, p) := (s.cell t k c).hist.getD j (0#64, false)
  let (h', p') := (s.cell t k (c - 1)).hist.getD j (0#64, false)
  let g := decodeCfg (s.cellCfg t k (c - 1))
  if c % 2 = 1 ∧ g.fmt = fmtD then (h'.toNat / 2 ^ 32, p') else (h.toNat % 2 ^ 32, p)

/-- Poison map bit `n` of a slot. -/
def State.poisonBit (s : State) (t k n : Nat) : Bool :=
  let c := n / 9
  if 16 ≤ c then false else if n % 9 = 0 then (s.cell t k c).latch.psn else (s.histWord t k c (n % 9 - 1)).2

/-- Byte `o` of the frame of a tile (R494). -/
def State.tileByte (s : State) (t o : Nat) : Nat :=
  let a := tileFrame t + o
  if o < 0x4000 then
    let k := o / 0x800
    let r := o % 0x800
    if r < 0x200 then
      let i := 128 * t + 16 * k + r / 32
      if r % 32 < 16 then s.cfsByte a
      else if r % 32 < 20 then byteOf (s.reg .TIL_K0 i) (r % 4)
      else if r % 32 < 24 then byteOf (s.reg .TIL_K1 i) (r % 4)
      else 0
    else if r < 0x20A then s.cfsByte a
    else 0
  else if o < 0x5000 then s.bankByte t ((o - 0x4000) / 0x200) (o % 0x200)
  else if o < 0x6200 then
    let k := (o - 0x5000) / 0x240
    let q := (o - 0x5000) % 0x240
    let c := q / 0x24
    let b := q % 0x24
    if b < 4 then byteOf (s.cell t k c).latch.v.toNat b else byteOf (s.histWord t k c ((b - 4) / 4)).1 (b % 4)
  else if 0x6200 ≤ o ∧ o < 0x6300 then
    let k := (o - 0x6200) / 0x20
    let b := o % 0x20
    ((List.range 8).map fun j => b2n (s.poisonBit t k (8 * b + j)) * 2 ^ j).sum
  else 0

/-- Byte `a` of configuration frame space as read-back gives it (open points: log 86). -/
def State.readbackByte (s : State) (a : Nat) : Byte :=
  BitVec.ofNat 8 (if a < floorFrame 0 then s.tileByte ((a - tileFrame 0) / 0x10000) ((a - tileFrame 0) % 0x10000) else s.cfsByte a)

/-- The floor of a byte of R494; none outside its frames (open points: log 86). -/
def frameFloor (a : Nat) : Option Nat :=
  if tileFrame 0 ≤ a ∧ a < floorFrame 0 then some ((a - tileFrame 0) / 0x100000)
  else if floorFrame 0 ≤ a ∧ a < floorFrame 32 then some ((a - floorFrame 0) / 0x10000)
  else none

/-- READBACK (R494, R502) (open points: log 86). -/
def execReadback (c : Cmd) (a len : Nat) (s : State) : Out :=
  .next (s.runCmd c opReadback (leBytes 5 a ++ leBytes 2 len) false fun s =>
    let l := (List.range len).map (a + ·)
    if (frameFloor a).isNone then s.badParam c opReadback 0
    else if len % 4 ≠ 0 ∨ len < 4 ∨ 1000 < len ∨ l.any (fun x => (frameFloor x).isNone) then s.badParam c opReadback 5
    else if l.any (fun x => (frameFloor x).any fun f => !s.frozen f) then s.reply c opReadback stBusy []
    else s.reply c opReadback stOk (l.map s.readbackByte))

/-! ### Test access port (R496 to R499) -/

def jtagEn : Fld := ⟨.CFG_JTAG, 0, 0⟩

/-- The private instructions and EXTEST act (R497). -/
def State.jtagOn (s : State) : Bool := !bit (s.reg .DEV_FUSE 0) 1 || s.flag jtagEn 0

/-- The unit at a local address as CFGDATA reads it, without a side effect; none gives VALID = 0 (open points: log 88). -/
def State.jtagUnit (s : State) (a : Nat) : Option Nat :=
  match frameFloor a with
  | some f => if s.frozen f then some (leNat ((List.range 4).map fun i => s.readbackByte (a + i))) else none
  | none =>
    if isRegSpace a ∧ (nodeOf a).isSome then
      match regAt a with
      | some (r, i, high) => some (if high then s.regView r i / 2 ^ 32 else s.regView r i % 2 ^ 32)
      | none => some 0
    else none

/-- CFGDATA (R496) (open points: log 88). -/
def execCfgdata (s : State) : Out :=
  if s.jtagOn then
    let a := s.dev.jaddr
    let v := match s.jtagUnit a with
      | some v => v % 2 ^ 32 + 2 ^ 32
      | none => 0
    .next { s with dev := { s.dev with jdata := v, jaddr := (a + 4) % 2 ^ 40 } }
  else .next s

/-- CFGADDR (R496): the address is 4-byte aligned (open points: log 88). -/
def execCfgaddr (a : LocalAddr) (s : State) : Out :=
  if s.jtagOn then .next { s with dev := { s.dev with jaddr := a.toNat / 4 * 4 } } else .next s

/-- FRZCTL (R495, R496): as the command, with IMM = 1 (open points: log 88). -/
def execFrzctl (v : BitVec 8) (s : State) : Out :=
  let f := v.toNat % 32
  if !s.jtagOn then .next s
  else if !v.getLsbD 7 then .next (s.thaw f)
  else if s.frozen f ∨ (s.freezeFault f 0 1).isSome then .next s
  else .next (s.startFreeze f none)

/-- eFuse bits programmed: a bit once 1 stays 1; the key hash only while KHSET = 0 (R498, R499). -/
def Fuses.program (x : Fuses) (v : BitVec 400) : Fuses :=
  let key := v.setWidth 384
  { x with
    key := if x.khset then x.key else x.key ||| key
    khset := x.khset || decide (key ≠ 0)
    jlock := x.jlock || v.getLsbD 384
    msigreq := x.msigreq || v.getLsbD 385
    altdis := x.altdis || v.getLsbD 386 }

def bootBsel : Fld := ⟨.DEV_BOOT, 14, 12⟩

/-- The fuse contents as FUSEPGM captures them (R499). -/
def Fuses.captured (x : Fuses) : Nat :=
  x.key.toNat + 2 ^ 384 * b2n x.jlock + 2 ^ 385 * b2n x.msigreq + 2 ^ 386 * b2n x.altdis

/-- FUSEPGM (R499): only in provisioning mode; the scan captures the fuses and then programs them. The DEV registers follow at
the next rise of RESET_N (R498) (open points: log 88). -/
def execFusepgm (v : BitVec 400) (s : State) : Out :=
  if s.jtagOn ∧ s.dev.resetN ∧ s.fld bootBsel 0 = 7 then
    .next { s with dev := { s.dev with fuses := s.dev.fuses.program v, jdata := s.dev.fuses.captured } }
  else .next s

/-- What IDCODE captures: the silicon revision, the part and the maker (R496). -/
def State.idcode (s : State) : Nat := bits (s.reg .DEV_ID 0) 7 0 % 16 * 2 ^ 28 + 0x8192 * 2 ^ 12 + 0x5A5 * 2 + 1

/-- EXTEST (R496): every field pin from the boundary scan register; none when the instruction is left (open points: log 88). -/
def execExtest (pins : Option (List (Nat × Bool))) (s : State) : Out :=
  if pins.isNone ∨ s.jtagOn then .next { s with dev := { s.dev with pins := pins } } else .next s

end Sys2Proof.Machine
end

