-- ==== Sys2Proof/Machine/Grader.lean ====
section
/-! DEFINITION. The grader of a floor hub (R77 to R82). -/

namespace Sys2Proof.Machine

open Sys2Proof

def grdEn : Fld := ⟨.GRD_JOB, 63, 63⟩
def grdMode : Fld := ⟨.GRD_JOB, 62, 61⟩
def grdKey : Fld := ⟨.GRD_JOB, 60, 59⟩
def grdDesc : Fld := ⟨.GRD_JOB, 58, 58⟩
def grdIdxin : Fld := ⟨.GRD_JOB, 57, 57⟩
def grdTopn : Fld := ⟨.GRD_JOB, 53, 43⟩
def grdOq : Fld := ⟨.GRD_JOB, 26, 18⟩
def grdIq : Fld := ⟨.GRD_JOB, 17, 9⟩
def grdLastn : Fld := ⟨.GRD_STATUS, 26, 16⟩
def grdPsn : Fld := ⟨.GRD_STATUS, 5, 5⟩
def grdTrunc : Fld := ⟨.GRD_STATUS, 4, 4⟩
def grdJobNo : Fld := ⟨.GRD_STATUS, 2, 1⟩
def grdBusy : Fld := ⟨.GRD_STATUS, 0, 0⟩

/-- A key with its index and poison. -/
structure GKey where
  key : Word
  idx : Nat
  pos : Nat
  psn : Bool
  deriving DecidableEq, Repr

/-- A key as a number in the order of its format (R78): 1 INT32, 2 FP32 in the total order, else unsigned. -/
def keyOrd (fmt : Nat) (w : Word) : Nat :=
  if fmt = 1 then (w ^^^ 0x80000000#32).toNat
  else if fmt = 2 then (if w.getLsbD 31 then (~~~w).toNat else w.toNat + 2 ^ 31)
  else w.toNat

/-- A key put in front of every later key that must follow it: the sort is stable (R78). -/
def gradeIns (fmt : Nat) (desc : Bool) (x : GKey) : List GKey → List GKey
  | [] => [x]
  | y :: l =>
    let a := keyOrd fmt x.key
    let b := keyOrd fmt y.key
    if (if desc then decide (b ≤ a) else decide (a ≤ b)) then x :: y :: l else y :: gradeIns fmt desc x l

def gradeSort (fmt : Nat) (desc : Bool) (l : List GKey) : List GKey := l.foldr (gradeIns fmt desc) []

/-- The truncation word of R227. -/
def isTrunc (w : QWord) : Bool := w.data == 0#32 && !w.sop && w.eop && w.psn

/-- Pairs of key and index words (R78 IDXIN). -/
def pairKeys : Nat → List QWord → List GKey
  | n, k :: i :: l => ⟨k.data, i.data.toNat % 65536, n, k.psn⟩ :: pairKeys (n + 1) l
  | _, _ => []

/-- The keys of an input item, without its truncation word. -/
def itemKeys (idxin : Bool) (ws : List QWord) : List GKey :=
  if idxin then pairKeys 0 ws else ws.zipIdx.map fun p => ⟨p.1.data, p.2, p.2, p.1.psn⟩

/-- Output data words of a job with their poison (R78, R79). `keys` in input order, `srt` in sort order. -/
def gradeOut (mode topn : Nat) (keys srt : List GKey) : List (Word × Bool) :=
  let n := keys.length
  let m := if topn = 0 ∨ n ≤ topn then n else topn
  if mode = 1 then keys.map fun k =>
      let r := srt.findIdx fun y => y.pos == k.pos
      (BitVec.ofNat 32 (if topn ≠ 0 ∧ topn ≤ r then 0xFFFF else r), false)
  else if mode = 2 then (srt.take m).flatMap fun k => [(k.key, k.psn), (BitVec.ofNat 32 k.idx, k.psn)]
  else (srt.take m).map fun k => (BitVec.ofNat 32 k.idx, k.psn)

/-- The output item framed; a truncated job poisons its last word (R78, R79). -/
def frameOut (trunc : Bool) (l : List (Word × Bool)) : List QWord :=
  let n := l.length
  l.zipIdx.map fun p => mkWord p.1.1 (p.2 == 0) (p.2 + 1 == n) (p.1.2 || (trunc && p.2 + 1 == n))

/-- The whole item at the head of a queue popped by agent `a`, with the bank swaps this allows; at most 4,097 words. -/
def State.popItem (s : State) (q : Nat) (a : Agent) : Nat → List QWord × State
  | 0 => ([], s)
  | n + 1 =>
    let s := if s.swapReady q then s.swap q else s
    match s.popWord q a with
    | none => ([], s)
    | some (w, s') =>
      if w.eop then ([w], s')
      else
        let (l, s'') := s'.popItem q a n
        (w :: l, s'')

/-- Input queue of job `j`. -/
def State.jobIq (s : State) (f j : Nat) : Nat := 512 * f + s.fld grdIq (4 * f + j)

/-- A job is ready: enabled, with a complete item that no other consumer has begun at the head of its queue (R77, R82). -/
def State.jobReady (s : State) (f j : Nat) : Bool :=
  let q := s.jobIq f j
  s.flag grdEn (4 * f + j) && s.itemEnds q ≠ [] && (s.queue q).olock.isNone && !(s.queue q).dropping &&
    (s.qOpen q || s.qDraining q)

/-- Why an item is truncated (R79, R542): 0 too many keys, 1 a truncation word, 2 an odd count of words. -/
def truncCause (idxin : Bool) (ws : List QWord) : Option Nat :=
  let tr := ws.getLast?.any isTrunc
  let body := if tr then ws.dropLast else ws
  let n := if idxin then body.length / 2 else body.length
  if 1024 < n then some 0 else if tr then some 1 else if idxin ∧ body.length % 2 = 1 then some 2 else none

/-- Job `j` started: the item taken, sorted, its output ready (R77 to R79). -/
def State.startJob (s : State) (f j : Nat) : State :=
  let i := 4 * f + j
  let idxin := s.flag grdIdxin i
  let fmt := s.fld grdKey i
  let desc := s.flag grdDesc i
  let mode := s.fld grdMode i
  let topn := s.fld grdTopn i
  let oq := 512 * f + s.fld grdOq i
  let (ws, s) := s.popItem (s.jobIq f j) (.grader f j) 4097
  let cause := truncCause idxin ws
  let body := if ws.getLast?.any isTrunc then ws.dropLast else ws
  let keys := (itemKeys idxin body).take 1024
  let out := frameOut cause.isSome (gradeOut mode topn keys (gradeSort fmt desc keys))
  let s := if keys.any (·.psn) then s.setFld grdPsn f 1 else s
  let s := match cause with
    | some c => (s.setFld grdTrunc f 1).raise 0x2301 0xE (f + 256 * j) (keys.length + 65536 * c)
    | none => s
  let s := (s.setFld grdBusy f 1).setFld grdJobNo f j
  s.modFloor f fun x => { x with grader := some { job := j, oq := oq, out := out, keys := keys.length } }

/-- GRADER_JOB_START (R77): the lowest-numbered ready job, when the grader is idle. -/
def execGraderJobStart (f : FloorNo) (s : State) : Out :=
  if (s.floor f).grader.isSome then .next s
  else match (List.range 4).find? (s.jobReady f) with
    | none => .next s
    | some j => .next (s.startJob f j)

/-- Output words pushed until the queue is full: the words left. -/
def State.pushOut (s : State) (q : Nat) (a : Agent) : List QWord → List QWord × State
  | [] => ([], s)
  | w :: l =>
    let (ok, s') := s.pushWord q a none w.data w.sop w.eop w.psn
    if ok then s'.pushOut q a l else (w :: l, s')

/-- GRADER_JOB_DONE (R80, R81): the output item is written; a full queue stalls the grader. The beats taken are a free value
(log 8). -/
def execGraderJobDone (f : FloorNo) (s : State) : Out :=
  match (s.floor f).grader with
  | none => .next s
  | some r =>
    let (rest, s) := s.pushOut r.oq (.grader f r.job) r.out
    if rest = [] then
      let (b, s) := s.fresh64
      let s := ((s.setFld grdBusy f 0).setFld grdLastn f r.keys).bump .GRD_DONE f
      .next ((s.setReg .GRD_LAST_BEATS f (b.toNat % 2 ^ 32)).modFloor f fun x => { x with grader := none })
    else .next (s.modFloor f fun x => { x with grader := some { r with out := rest } })

end Sys2Proof.Machine
end

