-- ==== Sys2Proof/Machine/RegAccess.lean ====
section
/-! DEFINITION. Register accesses as commands: a write by a view (R15), REG_READ and REG_WRITE (R457). -/

namespace Sys2Proof.Machine

open Sys2Proof

/-- REGISTER_WRITE (R15 to R18, R39, R42, R460): an access that is not accepted or not allowed changes nothing
(open points: log 47). -/
def execRegisterWrite (view : ViewNo) (a : LocalAddr) (wide : Bool) (v : DWord) (s : State) : Out :=
  let n := a.toNat
  if !isRegSpace n ∨ (nodeOf n).isNone ∨ !regAccess n (if wide then 8 else 4) then .next s
  else if !unitReached view (s.owns view) n true ∨ s.unitOff n then .next s
  else .next (s.writeUnit view n wide (if wide then v.toNat else v.toNat % 2 ^ 32))

/-- The units of a range: address, and whether a whole 64-bit register starts there. -/
def regUnits (a n : Nat) : List (Nat × Bool) :=
  (List.range n).filterMap fun j =>
    let x := a + 4 * j
    match regAt x with
    | some (_, _, true) => none
    | some (r, _, false) => some (x, r.info.wide)
    | none => some (x, false)

/-- What is wrong with the range of a register command (R457): the offset of the parameter; none when it may run. -/
def rangeBad (a n : Nat) : Option Nat :=
  let inside : Bool := (List.range n).all fun j => isRegSpace (a + 4 * j) && (nodeOf (a + 4 * j)).isSome
  let first : Bool := match regAt a with
    | some (_, _, true) => true
    | _ => false
  let last : Bool := match regAt (a + 4 * (n - 1)) with
    | some (r, _, false) => r.info.wide
    | _ => false
  if a % 4 != 0 || !inside || first || last then some 0 else none

/-- The checks of R457 and R314, then the accesses. -/
def State.regCmd (s : State) (c : Cmd) (op a n : Nat) (write : Bool) (body : State → State) : State :=
  match rangeBad a n with
  | some o => s.badParam c op o
  | none =>
    let l := (List.range n).map (a + 4 * ·)
    if !l.all fun x => unitReached c.view (s.cmdOwns c) x write then s.reply c op stNoPriv []
    else if l.any s.unitOff then s.reply c op stDomainOff []
    else body s

/-- The bytes of the units read, and the state after the reads, in ascending order. -/
def State.readUnits (s : State) (l : List (Nat × Bool)) : List Byte × State :=
  l.foldl (fun (acc : List Byte × State) u =>
    let (v, s) := acc.2.readUnit u.1 u.2
    (acc.1 ++ leBytes (if u.2 then 8 else 4) v, s)) ([], s)

/-- REG_READ (R456, R457) (open points: log 47). -/
def execRegRead (c : Cmd) (a n : Nat) (s : State) : Out :=
  .next (s.runCmd c 0xC001 (leBytes 5 a ++ leBytes 2 n) true fun s =>
    if n = 0 ∨ 252 < n then s.badParam c 0xC001 5
    else s.regCmd c 0xC001 a n false fun s =>
      let (d, s) := s.readUnits (regUnits a n)
      s.reply c 0xC001 stOk d)

/-- The units written with the data words, in ascending order. -/
def State.writeUnits (s : State) (view a : Nat) (l : List (Nat × Bool)) (data : List Word) : State :=
  l.foldl (fun s u =>
    let j := (u.1 - a) / 4
    let lo := (data.getD j 0#32).toNat
    s.writeUnit view u.1 u.2 (if u.2 then lo + 2 ^ 32 * (data.getD (j + 1) 0#32).toNat else lo)) s

/-- REG_WRITE (R456, R457) (open points: log 47). -/
def execRegWrite (c : Cmd) (a pad : Nat) (data : List Word) (s : State) : Out :=
  let n := data.length
  .next (s.runCmd c 0xC002 (leBytes 5 a ++ leBytes 2 n ++ leBytes 1 pad ++ data.flatMap fun w => leBytes 4 w.toNat) true fun s =>
    if n = 0 ∨ 250 < n then s.badParam c 0xC002 5
    else if pad ≠ 0 then s.badParam c 0xC002 7
    else s.regCmd c 0xC002 a n true fun s =>
      (s.writeUnits c.view a (regUnits a n) data).reply c 0xC002 stOk [])

end Sys2Proof.Machine
end

