-- ==== Sys2Proof/Machine/Startup.lean ====
section
/-! DEFINITION. Reset and boot (chapter "Power-up, configuration and read-back", R469 to R480, R498, R500). -/

namespace Sys2Proof.Machine

open Sys2Proof

def bootStage : Fld := ⟨.DEV_BOOT, 31, 28⟩
def bootCode : Fld := ⟨.DEV_BOOT, 23, 16⟩
def bootAlt : Fld := ⟨.DEV_BOOT, 15, 15⟩

/-- The reset state (R471), with what lies outside the device or RESET_N does not touch: waiting commands, messages sent, host
memory, straps and board levels, the eFuses, the rim clock (open points: log 89). -/
def State.resetState (s : State) : State :=
  { State.reset with
    pending := s.pending, free := s.free, hostMem := s.hostMem, irqs := s.irqs
    dev := { DevSt.init with safePol := s.dev.safePol, fuses := s.dev.fuses, supply := s.dev.supply }
    tim := { TimeSt.init with clk := s.tim.clk }
    trip := { TripSt.init with pinLow := s.trip.pinLow, keeper := s.tim.clk }
    twin := { TwinSt.init with actIn := s.twin.actIn } }

/-- RESET_ASSERT (R471): the pins go to their states under R470 (open points: log 89). -/
def execResetAssert (s : State) : Out := .next s.resetState.refreshGates

/-- What READY drives: low until it is released; `none` is high-impedance (R470, R476). -/
def State.readyPin (s : State) : Option Bool := if s.flag devReady 0 then none else some false

/-- What FAULT_N drives, open-drain: low while a bit of DEV_FAULT is 1, nothing in reset (R470, R546). -/
def State.faultPin (s : State) : Option Bool := if s.dev.resetN && s.devFault != 0 then some false else none

/-- The DEV registers that mirror the eFuses (R498, R500) (open points: log 4). -/
def State.mirrorFuses (s : State) : State :=
  let x := s.dev.fuses
  let s := (s.setReg .DEV_EFUSE_ID 0 x.id.toNat).setReg .DEV_FUSE 0
    (b2n x.khset + 2 * b2n x.jlock + 4 * b2n x.msigreq + 8 * b2n x.altdis)
  (List.range 6).foldl (fun s k => s.setReg .DEV_KEYHASH k (x.key.toNat / 2 ^ (64 * k) % 2 ^ 64)) s

/-- RESET_RELEASE (R472): SAFE_POL stays as it stands from now (open points: log 89). -/
def execResetRelease (bootsel : BitVec 3) (s : State) : Out :=
  if s.dev.resetN then .next s
  else
    .next ((State.mirrorFuses { s with dev := { s.dev with resetN := true } }).setFld bootBsel 0 bootsel.toNat)

/-! ### Boot (R474, R475) -/

/-- Largest Drefel copy. -/
def copyMax : Nat := 2 * 1024 * 1024

/-- What is wrong with a Drefel copy: CODE 3 BADKEY, 4 BADSIG, 5 TOOLONG, in the order of R474; 0 when it passes
(open points: log 11, log 12). -/
def State.copyFault (s : State) (l : List Byte) : Nat :=
  let key := (l.drop 32).take 96
  let body := numAt l 4 4
  if Config.sha384 key ≠ s.dev.fuses.key then 3
  else if !Config.ecdsaP384 key (l.take 128 ++ (l.drop 256).take body) ((l.drop 128).take 96) then 4
  else if copyMax - 256 < body then 5
  else 0

/-- CODE of a boot read (R475): 2 NODIR, 6 FLASH_ERR, or the failing check. -/
def State.bootFault (s : State) : BootRead → Nat
  | .none => 2
  | .failed => 6
  | .copy l => s.copyFault l

/-- No copy passes: the keeper halts and FAULT_N is asserted (R475, R547). -/
def State.bootHalt (s : State) : State :=
  let t : State := { s with dev := { s.dev with halted := true } }
  (t.setReg .DEV_FAULT 0 (s.reg .DEV_FAULT 0 ||| 32)).faultEdge s

/-- Drefel runs from a copy: FWRUN, its version, every floor at code 40, calibration under way (R476) (open points: log 12). -/
def State.bootRun (s : State) (copyB : Bool) (l : List Byte) : State :=
  let s := (s.setFld devFwrun 0 1).setReg .DEV_FWVER 0 (numAt l 0 4)
  let s := (s.setFld bootStage 0 5).setFld bootAlt 0 (b2n copyB)
  let s := (List.range 32).foldl (fun s f => s.setCode f 40) s
  if copyB then s.raise 0x9101 0 0 0 else s

/-- The boot ROM may read this copy now. -/
def State.bootReady (s : State) (copyB : Bool) : Bool :=
  s.dev.resetN && s.tim.pll && s.fld bootBsel 0 != 7 && !s.dev.halted && !s.flag devFwrun 0 && copyB == s.dev.copyA

/-- BOOT_COPY_VERIFY (R474, R475) (open points: log 12, log 89). -/
def execBootCopyVerify (copyB : Bool) (r : BootRead) (s : State) : Out :=
  if !s.bootReady copyB then .next s
  else if !bit (s.reg .DEV_FUSE 0) 0 then .next ((s.setFld bootCode 0 1).bootHalt)
  else
    let n := s.bootFault r
    if n = 0 then (match r with
      | .copy l => .next (s.bootRun copyB l)
      | _ => .next s)
    else if copyB then .next s.bootHalt
    else
      let s := s.setFld bootCode 0 n
      if n ≠ 2 ∧ bit (s.reg .DEV_FUSE 0) 3 then .next s.bootHalt
      else .next { s with dev := { s.dev with copyA := true } }

/-! ### Power-up (R476 to R479) -/

/-- The default plan of R307 in both banks of every router (R306), nodes 0 to 32 (open points: log 51). -/
def State.initRoutes (s : State) : State :=
  ((List.range Reg.NOC_RT.info.n2).filter fun i => i % 64 < 33).foldl (fun s i => s.setReg .NOC_RT i (defaultRoute (i / 128) (i % 64))) s

/-- MEMORY_INIT_DONE (R476) (open points: log 51). -/
def execMemoryInitDone (s : State) : Out :=
  if s.flag devFwrun 0 ∧ !s.dev.memDone then
    let s := ((List.range 32).foldl State.initFloorMem s).initRoutes
    .next { s with dev := { s.dev with memDone := true } }
  else .next s

/-- KILN_CALIBRATION_DONE (R476, R479): a floor that kiln cannot confirm is left OFF. -/
def execKilnCalibrationDone (f : FloorNo) (ok : Bool) (clo : Fin 51) (lost : BitVec 16) (s : State) : Out :=
  if s.flag devFwrun 0 && !s.flag devReady 0 && !bit s.dev.calDone f then
    let s : State := { s with dev := { s.dev with calDone := s.dev.calDone + 2 ^ f.val } }
    let s := s.calibrated f ok clo lost.toNat
    .next (if ok then s else (s.setFld nocState f 3).setFld grvVnow f 0)
  else .next s

/-- READY (R476, R449): with BOOTSEL 0 the autonomous load begins (R480) (open points: log 89). -/
def execReady (s : State) : Out :=
  if s.flag devFwrun 0 && !s.flag devReady 0 && s.dev.memDone && s.dev.calDone == 2 ^ 32 - 1 then
    let s := (s.setFld devReady 0 1).setFld bootStage 0 6
    let s : State := { s with irqs := s.irqs ++ [(0, 5)] }
    .next (if s.fld bootBsel 0 = 0 then State.setFld { s with cfg := { s.cfg with auto := 1 } } cfgAuto 0 1 else s)
  else .next s

end Sys2Proof.Machine
end

