-- ==== Sys2Proof/Machine/Time.lean ====
section
/-! DEFINITION. The commands of the timebase (chapter "Timebase, capture and racking"). -/

namespace Sys2Proof.Machine

open Sys2Proof

/-- The TIME_SETs that wait for the edge are applied in the order in which they started, or reply BUSY (R327)
(open points: log 56). -/
def State.timeSetEdge (s : State) : State :=
  let l := s.tim.setTo
  let s := { s with tim := { s.tim with setTo := [] } }
  if s.timeBusy then s.finish .timeSet stBusy [] else (l.foldl (fun s x => s.timeSet x.2) s).finish .timeSet stOk []

/-- PPS_IN_EDGE (R323, R327). -/
def execPpsInEdge (rising : Bool) (s : State) : Out :=
  if !s.tim.running ∨ rising = s.flag tmbPpspol 0 then .next s
  else
    let s := s.timeSetEdge
    .next (if s.fld tmbSrcact 0 = 1 then s.ppsEdge else s)

/-- PPS_MISSING (R323): the window of R322 has passed without an edge. -/
def execPpsMissing (s : State) : Out :=
  if s.fld tmbSrcact 0 = 1 ∧ !s.flag tmbHoldover 0 ∧ s.tim.lastEdge.any fun (e : Int) => decide (e + (second + 10000 : Nat) < (s.tim.now : Int)) then
    .next (({ s with tim := { s.tim with edgeOk := false } }.setLock false).setFld tmbHoldover 0 1 |>.raise 0x5203 0 0 0)
  else .next s

/-- TIME_FENCED (R324). -/
def execTimeFenced (s : State) : Out :=
  if s.tim.running ∧ !s.timeFenced ∧ s.fenceDue then
    .next (((s.setFld tmbFenced 0 1).bump .TMB_FENCE_CNT 0).raise 0x5201 0 0 0)
  else .next s

/-- TIME_RESTORED (R324). -/
def execTimeRestored (s : State) : Out :=
  if s.timeFenced ∧ s.flag tmbLock 0 ∧ s.pherr.natAbs ≤ s.reg .TMB_FENCE_NS 0 % 65536 then
    .next ((s.setFld tmbFenced 0 0).raise 0x5202 0 0 0)
  else .next s

/-- PPS_OUT_PULSE (R325, R326): the output rises in the rim clock in which device time reaches a whole second, and falls
1 ms later. -/
def execPpsOutPulse (level : Bool) (s : State) : Out :=
  let k := s.tim.now / second
  if level then
    if s.tim.running ∧ s.flag tmbPpsoen 0 ∧ !s.tim.ppsOut ∧ s.tim.ppsRose ≤ k ∧ s.tim.now % second < max 1 s.tim.adv then
      .next { s with tim := { s.tim with ppsOut := true, ppsRose := k + 1, ppsUp := s.tim.dev } }
    else .next s
  else if s.tim.ppsOut ∧ s.tim.ppsUp + 1000000 ≤ s.tim.dev then
    .next { s with tim := { s.tim with ppsOut := false } }
  else .next s

/-- RIM_PLL_LOCK (R321): device time starts at 0 after RESET_N; a later lock restores LOCK where
the source's other condition holds (R322). -/
def execRimPllLock (s : State) : Out :=
  if !s.dev.resetN then .next s
  else
    let s := { s with tim := { s.tim with pll := true, running := true } }
    .next (if s.lockDue then s.setLock true else s)

/-- RIM_PLL_LOCK_LOSS (R322). -/
def execRimPllLockLoss (s : State) : Out := .next ({ s with tim := { s.tim with pll := false } }.setLock false)

def State.timeSetCmd (s : State) (c : Cmd) (time : Nat) (at_ : Nat) : State :=
  if 1 < at_ then s.badParam c 0x5001 8
  else if s.timeBusy then s.reply c 0x5001 stBusy []
  else if s.fld tmbSrcact 0 = 2 then s.badParam c 0x5001 0
  else if at_ = 0 then (s.timeSet time).reply c 0x5001 stOk []
  else { s with tim := { s.tim with setTo := s.tim.setTo ++ [(c, time)] } }.waitCmd c 0x5001 .timeSet 2000000

/-- TIME_SET (R327, R352). -/
def execTimeSet (c : Cmd) (time : DWord) (at_ : Nat) (s : State) : Out :=
  .next (s.runCmd c 0x5001 (leBytes 8 time.toNat ++ leBytes 1 at_) false fun s => s.timeSetCmd c time.toNat at_)

/-- A TIME_SET has waited its 2 s (R327). -/
def State.setExpired (s : State) (x : InProg) : Bool :=
  decide (x.wait = .timeSet) && x.deadline.any fun d => decide (d ≤ s.tim.clk)

/-- TIME_SET_PPS_TIMEOUT (R327): those whose 2 s are over reply TIMEOUT, the others wait on. -/
def execTimeSetPpsTimeout (s : State) : Out :=
  let out := s.cmds.filter s.setExpired
  let s := { s with
    cmds := s.cmds.filter fun x => !out.contains x
    tim := { s.tim with setTo := s.tim.setTo.filter fun p => !out.any fun x => x.cmd == p.1 } }
  .next (out.foldl (fun s x => s.reply x.cmd x.op stTimeout []) s)

/-- TIME_READ (R352). -/
def execTimeRead (c : Cmd) (s : State) : Out :=
  .next (s.runCmd c 0x5002 [] false fun s => s.reply c 0x5002 stOk
    (leBytes 8 s.tim.now ++ leBytes 4 (s.reg .TMB_STATUS 0) ++ leBytes 4 (s.reg .TMB_PHERR 0)))

end Sys2Proof.Machine
end

