-- ==== Sys2Proof/Machine/Dispatch.lean ====
section
/-! DEFINITION. The dispatch: one arm per command, each one call of its meaning. -/

namespace Sys2Proof.Machine

open Sys2Proof

/-- The effect of a command on everything but the queue of waiting commands. -/
def exec (i : Instr) (s : State) : Host.Outcome State Fault Refusal :=
  match i with
  | .registerWrite view a wide v => Sys2Proof.Machine.execRegisterWrite view a wide v s
  | .wireTokenTransfer w slot => Sys2Proof.Machine.execWireTokenTransfer w slot s
  | .boundaryTokenRelease w slot far => Sys2Proof.Machine.execBoundaryTokenRelease w slot far s
  | .cellFire t c => Sys2Proof.Machine.execCellFire t c s
  | .cellResultEmit t c slot => Sys2Proof.Machine.execCellResultEmit t c slot s
  | .expressInject f edge l pos => Sys2Proof.Machine.execExpressInject f edge l pos s
  | .bridgeSend f k => Sys2Proof.Machine.execBridgeSend f k s
  | .bridgeReceive p => Sys2Proof.Machine.execBridgeReceive p s
  | .schedSwitch t => Sys2Proof.Machine.execSchedSwitch t s
  | .guardCauseDeliver t cause g => Sys2Proof.Machine.execGuardCauseDeliver t cause g s
  | .guardEntry t g => Sys2Proof.Machine.execGuardEntry t g s
  | .spillWriteComplete t => Sys2Proof.Machine.execSpillWriteComplete t s
  | .leesFillComplete t => Sys2Proof.Machine.execLeesFillComplete t s
  | .slotLoad c t slot src a len img readFails => Sys2Proof.Machine.execSlotLoad c t slot src a len img readFails s
  | .slotLoadDone t slot => Sys2Proof.Machine.execSlotLoadDone t slot s
  | .slotReset c t slot => Sys2Proof.Machine.execSlotReset c t slot s
  | .illegalInstruction t w => Sys2Proof.Machine.execIllegalInstruction t w s
  | .add t rd ra rb => Sys2Proof.Machine.execAdd t rd ra rb s
  | .sub t rd ra rb => Sys2Proof.Machine.execSub t rd ra rb s
  | .mul t rd ra rb => Sys2Proof.Machine.execMul t rd ra rb s
  | .and_ t rd ra rb => Sys2Proof.Machine.execAnd t rd ra rb s
  | .or_ t rd ra rb => Sys2Proof.Machine.execOr t rd ra rb s
  | .xor_ t rd ra rb => Sys2Proof.Machine.execXor t rd ra rb s
  | .shl t rd ra rb => Sys2Proof.Machine.execShl t rd ra rb s
  | .shr t rd ra rb => Sys2Proof.Machine.execShr t rd ra rb s
  | .sar t rd ra rb => Sys2Proof.Machine.execSar t rd ra rb s
  | .slt t rd ra rb => Sys2Proof.Machine.execSlt t rd ra rb s
  | .sltu t rd ra rb => Sys2Proof.Machine.execSltu t rd ra rb s
  | .addi t rd ra imm => Sys2Proof.Machine.execAddi t rd ra imm s
  | .andi t rd ra imm => Sys2Proof.Machine.execAndi t rd ra imm s
  | .ori t rd ra imm => Sys2Proof.Machine.execOri t rd ra imm s
  | .shi t rd ra kind k => Sys2Proof.Machine.execShi t rd ra kind k s
  | .lui t rd imm => Sys2Proof.Machine.execLui t rd imm s
  | .adr t rd imm => Sys2Proof.Machine.execAdr t rd imm s
  | .ldb t rd ra imm => Sys2Proof.Machine.execLdb t rd ra imm s
  | .ldbu t rd ra imm => Sys2Proof.Machine.execLdbu t rd ra imm s
  | .ldh t rd ra imm => Sys2Proof.Machine.execLdh t rd ra imm s
  | .ldhu t rd ra imm => Sys2Proof.Machine.execLdhu t rd ra imm s
  | .ldw t rd ra imm => Sys2Proof.Machine.execLdw t rd ra imm s
  | .stb t rs ra imm => Sys2Proof.Machine.execStb t rs ra imm s
  | .sth t rs ra imm => Sys2Proof.Machine.execSth t rs ra imm s
  | .stw t rs ra imm => Sys2Proof.Machine.execStw t rs ra imm s
  | .loadResultReturn t tag => Sys2Proof.Machine.execLoadResultReturn t tag s
  | .lineBufferDrain t => Sys2Proof.Machine.execLineBufferDrain t s
  | .icacheFill t => Sys2Proof.Machine.execIcacheFill t s
  | .qpush t r q ind nb sop eop psn => Sys2Proof.Machine.execQpush t r q ind nb sop eop psn s
  | .qpop t r q ind nb => Sys2Proof.Machine.execQpop t r q ind nb s
  | .qdrop t q ind => Sys2Proof.Machine.execQdrop t q ind s
  | .qlvl t r q ind => Sys2Proof.Machine.execQlvl t r q ind s
  | .jmp t off => Sys2Proof.Machine.execJmp t off s
  | .call t off => Sys2Proof.Machine.execCall t off s
  | .jr t ra => Sys2Proof.Machine.execJr t ra s
  | .ret t ra => Sys2Proof.Machine.execRet t ra s
  | .br t ra rb cond off => Sys2Proof.Machine.execBr t ra rb cond off s
  | .loop t rd imm => Sys2Proof.Machine.execLoop t rd imm s
  | .waitQne t ra ind q => Sys2Proof.Machine.execWaitQne t ra ind q s
  | .waitQspc t ra ind q => Sys2Proof.Machine.execWaitQspc t ra ind q s
  | .waitTime t ra => Sys2Proof.Machine.execWaitTime t ra s
  | .waitTicks t ra imm => Sys2Proof.Machine.execWaitTicks t ra imm s
  | .waitFpinv t => Sys2Proof.Machine.execWaitFpinv t s
  | .waitConditionMet t slot => Sys2Proof.Machine.execWaitConditionMet t slot s
  | .yield t => Sys2Proof.Machine.execYield t s
  | .signal t ra => Sys2Proof.Machine.execSignal t ra s
  | .cancel t ra => Sys2Proof.Machine.execCancel t ra s
  | .rdtime t rd => Sys2Proof.Machine.execRdtime t rd s
  | .raise t src set => Sys2Proof.Machine.execRaise t src set s
  | .fence t m q idx => Sys2Proof.Machine.execFence t m q idx s
  | .trap t imm => Sys2Proof.Machine.execTrap t imm s
  | .rdfl t rd => Sys2Proof.Machine.execRdfl t rd s
  | .clrfl t lp qp fr => Sys2Proof.Machine.execClrfl t lp qp fr s
  | .triggerTqne k => Sys2Proof.Machine.execTriggerTqne k s
  | .delayExpiry f => Sys2Proof.Machine.execDelayExpiry f s
  | .stepStart b => Sys2Proof.Machine.execStepStart b s
  | .pktStep p => Sys2Proof.Machine.execPktStep p s
  | .batchDeadlineCheck b => Sys2Proof.Machine.execBatchDeadlineCheck b s
  | .dispatchDecision f => Sys2Proof.Machine.execDispatchDecision f s
  | .pktDispatch p => Sys2Proof.Machine.execPktDispatch p s
  | .flowRelease f n => Sys2Proof.Machine.execFlowRelease f n s
  | .taskDescWrite view k off data => Sys2Proof.Machine.execTaskDescWrite view k off data s
  | .taskArm c k keep => Sys2Proof.Machine.execTaskArm c k keep s
  | .taskSignal c k n => Sys2Proof.Machine.execTaskSignal c k n s
  | .taskCancel c k => Sys2Proof.Machine.execTaskCancel c k s
  | .taskDisableDrain c k timeout => Sys2Proof.Machine.execTaskDisableDrain c k timeout s
  | .taskDisableAbort c k timeout => Sys2Proof.Machine.execTaskDisableAbort c k timeout s
  | .taskDrainDone k => Sys2Proof.Machine.execTaskDrainDone k s
  | .taskStatus c k => Sys2Proof.Machine.execTaskStatus c k s
  | .batchEnable c b => Sys2Proof.Machine.execBatchEnable c b s
  | .batchDisableDrain c b timeout => Sys2Proof.Machine.execBatchDisableDrain c b timeout s
  | .batchDisableAbort c b timeout => Sys2Proof.Machine.execBatchDisableAbort c b timeout s
  | .batchDrainDone b => Sys2Proof.Machine.execBatchDrainDone b s
  | .disableDrainTimeout ring tag => Sys2Proof.Machine.execDisableDrainTimeout ring tag s
  | .tmbBctlEnSet view b v => Sys2Proof.Machine.execTmbBctlEnSet view b v s
  | .tmbBctlEnClear view b v => Sys2Proof.Machine.execTmbBctlEnClear view b v s
  | .pktSignal p => Sys2Proof.Machine.execPktSignal p s
  | .pktCancel p => Sys2Proof.Machine.execPktCancel p s
  | .bankSwap q => Sys2Proof.Machine.execBankSwap q s
  | .truncationWordStore q => Sys2Proof.Machine.execTruncationWordStore q s
  | .queCfgEnableWrite view q v => Sys2Proof.Machine.execQueCfgEnableWrite view q v s
  | .queCfgDisableWrite view q v => Sys2Proof.Machine.execQueCfgDisableWrite view q v s
  | .cmdpathLockTimeout q => Sys2Proof.Machine.execCmdpathLockTimeout q s
  | .pushPortStore f k => Sys2Proof.Machine.execPushPortStore f k s
  | .popPortOffer f k => Sys2Proof.Machine.execPopPortOffer f k s
  | .queuePush c q words tags => Sys2Proof.Machine.execQueuePush c q words tags s
  | .queuePop c q n => Sys2Proof.Machine.execQueuePop c q n s
  | .queueDrop c q => Sys2Proof.Machine.execQueueDrop c q s
  | .queueFlush c q => Sys2Proof.Machine.execQueueFlush c q s
  | .queueDisableDrain c q timeout => Sys2Proof.Machine.execQueueDisableDrain c q timeout s
  | .queueDisableAbort c q timeout => Sys2Proof.Machine.execQueueDisableAbort c q timeout s
  | .queueDrainDone q => Sys2Proof.Machine.execQueueDrainDone q s
  | .queueStatus c q => Sys2Proof.Machine.execQueueStatus c q s
  | .graderJobStart f => Sys2Proof.Machine.execGraderJobStart f s
  | .graderJobDone f => Sys2Proof.Machine.execGraderJobDone f s
  | .pktRd p => Sys2Proof.Machine.execPktRd p s
  | .pktWr p => Sys2Proof.Machine.execPktWr p s
  | .pktCfgwr p => Sys2Proof.Machine.execPktCfgwr p s
  | .pktQpush p => Sys2Proof.Machine.execPktQpush p s
  | .pktQpop p => Sys2Proof.Machine.execPktQpop p s
  | .pktQdrop p => Sys2Proof.Machine.execPktQdrop p s
  | .pktQlvl p => Sys2Proof.Machine.execPktQlvl p s
  | .parkedRequestComplete f p => Sys2Proof.Machine.execParkedRequestComplete f p s
  | .parkFullResend idx tag => Sys2Proof.Machine.execParkFullResend idx tag s
  | .responseArrival p => Sys2Proof.Machine.execResponseArrival p s
  | .routerForward p err badPar => Sys2Proof.Machine.execRouterForward p err badPar s
  | .snpInv p => Sys2Proof.Machine.execSnpInv p s
  | .snpInvAck p => Sys2Proof.Machine.execSnpInvAck p s
  | .routePlan c changes => Sys2Proof.Machine.execRoutePlan c changes s
  | .routeCommit c order timeout => Sys2Proof.Machine.execRouteCommit c order timeout s
  | .commitDrainTimeout => Sys2Proof.Machine.execCommitDrainTimeout s
  | .routeRead c r bank => Sys2Proof.Machine.execRouteRead c r bank s
  | .floorPowerOffDrain c f timeout => Sys2Proof.Machine.execFloorPowerOffDrain c f timeout s
  | .floorPowerOffAbort c f timeout => Sys2Proof.Machine.execFloorPowerOffAbort c f timeout s
  | .floorDrained f => Sys2Proof.Machine.execFloorDrained f s
  | .floorDrainTimeout f => Sys2Proof.Machine.execFloorDrainTimeout f s
  | .floorOff f => Sys2Proof.Machine.execFloorOff f s
  | .floorPowerOn c f => Sys2Proof.Machine.execFloorPowerOn c f s
  | .floorPowerOnDone f ok clo lost => Sys2Proof.Machine.execFloorPowerOnDone f ok clo lost s
  | .nocStats c first n => Sys2Proof.Machine.execNocStats c first n s
  | .nocStatClear view v => Sys2Proof.Machine.execNocStatClear view v s
  | .correctionWriteback t => Sys2Proof.Machine.execCorrectionWriteback t s
  | .scrubLine t => Sys2Proof.Machine.execScrubLine t s
  | .eccFlipArm view v => Sys2Proof.Machine.execEccFlipArm view v s
  | .pageRetire c t page => Sys2Proof.Machine.execPageRetire c t page s
  | .pageCopyCommit t => Sys2Proof.Machine.execPageCopyCommit t s
  | .memRead c a len => Sys2Proof.Machine.execMemRead c a len s
  | .memWrite c a data => Sys2Proof.Machine.execMemWrite c a data s
  | .memInit c t first n => Sys2Proof.Machine.execMemInit c t first n s
  | .pageStatus c t => Sys2Proof.Machine.execPageStatus c t s
  | .logRead c log n adv => Sys2Proof.Machine.execLogRead c log n adv s
  | .logRecordWrite log => Sys2Proof.Machine.execLogRecordWrite log s
  | .logTailWrite view log v => Sys2Proof.Machine.execLogTailWrite view log v s
  | .ppsInEdge rising => Sys2Proof.Machine.execPpsInEdge rising s
  | .ppsMissing => Sys2Proof.Machine.execPpsMissing s
  | .timeFenced => Sys2Proof.Machine.execTimeFenced s
  | .timeRestored => Sys2Proof.Machine.execTimeRestored s
  | .ppsOutPulse level => Sys2Proof.Machine.execPpsOutPulse level s
  | .rimPllLock => Sys2Proof.Machine.execRimPllLock s
  | .timeSet c time at_ => Sys2Proof.Machine.execTimeSet c time at_ s
  | .timeSetPpsTimeout => Sys2Proof.Machine.execTimeSetPpsTimeout s
  | .timeRead c => Sys2Proof.Machine.execTimeRead c s
  | .rackPortWord p => Sys2Proof.Machine.execRackPortWord p s
  | .rackRelease l => Sys2Proof.Machine.execRackRelease l s
  | .rackDeadlineCheck l => Sys2Proof.Machine.execRackDeadlineCheck l s
  | .rackPut c l te fine r v psn => Sys2Proof.Machine.execRackPut c l te fine r v psn s
  | .rackClear c first n => Sys2Proof.Machine.execRackClear c first n s
  | .laneDisableDrain c first n timeout => Sys2Proof.Machine.execLaneDisableDrain c first n timeout s
  | .laneDisableAbort c first n timeout => Sys2Proof.Machine.execLaneDisableAbort c first n timeout s
  | .laneDrainDone first n => Sys2Proof.Machine.execLaneDrainDone first n s
  | .rackStatus c first n => Sys2Proof.Machine.execRackStatus c first n s
  | .sampleReady n => Sys2Proof.Machine.execSampleReady n s
  | .streamDeliver n => Sys2Proof.Machine.execStreamDeliver n s
  | .sdFilterOutput idx bits => Sys2Proof.Machine.execSdFilterOutput idx bits s
  | .sdComparatorChange idx bits => Sys2Proof.Machine.execSdComparatorChange idx bits s
  | .sdStuck idx bits => Sys2Proof.Machine.execSdStuck idx bits s
  | .adcFrameReceive p lanes => Sys2Proof.Machine.execAdcFrameReceive p lanes s
  | .adcClockLoss p => Sys2Proof.Machine.execAdcClockLoss p s
  | .adcCnvPulse p level => Sys2Proof.Machine.execAdcCnvPulse p level s
  | .adcTrain c p pattern => Sys2Proof.Machine.execAdcTrain c p pattern s
  | .encEdge n a b z => Sys2Proof.Machine.execEncEdge n a b z s
  | .encSample n a => Sys2Proof.Machine.execEncSample n a s
  | .encSerialDone n bits => Sys2Proof.Machine.execEncSerialDone n bits s
  | .carrierPeriodStart c => Sys2Proof.Machine.execCarrierPeriodStart c s
  | .gateEdgeHoldEnd g => Sys2Proof.Machine.execGateEdgeHoldEnd g s
  | .vlFrameDelayed l => Sys2Proof.Machine.execVlFrameDelayed l s
  | .vlSafeRepeat l => Sys2Proof.Machine.execVlSafeRepeat l s
  | .vlUplinkFrame n body cut errs => Sys2Proof.Machine.execVlUplinkFrame n body cut errs s
  | .vlRxUp n errs => Sys2Proof.Machine.execVlRxUp n errs s
  | .vlDown n errs => Sys2Proof.Machine.execVlDown n errs s
  | .vlWatchdog n => Sys2Proof.Machine.execVlWatchdog n s
  | .gpioEdge k level => Sys2Proof.Machine.execGpioEdge k level s
  | .ioSupply k => Sys2Proof.Machine.execIoSupply k s
  | .ioSupplyOk k => Sys2Proof.Machine.execIoSupplyOk k s
  | .streamDisableDrain c first n timeout => Sys2Proof.Machine.execStreamDisableDrain c first n timeout s
  | .streamDisableAbort c first n timeout => Sys2Proof.Machine.execStreamDisableAbort c first n timeout s
  | .tripPinEdge n low => Sys2Proof.Machine.execTripPinEdge n low s
  | .tripSafeInput high => Sys2Proof.Machine.execTripSafeInput high s
  | .trpMaskWrite view n w v => Sys2Proof.Machine.execTrpMaskWrite view n w v s
  | .tripClear c lines => Sys2Proof.Machine.execTripClear c lines s
  | .tripClearSettle lines => Sys2Proof.Machine.execTripClearSettle lines s
  | .tripForce c lines => Sys2Proof.Machine.execTripForce c lines s
  | .tripStatus c lines => Sys2Proof.Machine.execTripStatus c lines s
  | .tripSnapshot c line => Sys2Proof.Machine.execTripSnapshot c line s
  | .tripFrameRepeat m => Sys2Proof.Machine.execTripFrameRepeat m s
  | .tripFrameReceive m bits => Sys2Proof.Machine.execTripFrameReceive m bits s
  | .hostWatchdogKick view v => Sys2Proof.Machine.execHostWatchdogKick view v s
  | .hostWatchdog => Sys2Proof.Machine.execHostWatchdog s
  | .keeperWatchdog => Sys2Proof.Machine.execKeeperWatchdog s
  | .gravityTrim tb pest => Sys2Proof.Machine.execGravityTrim tb pest s
  | .kilnConfirm f ok taps lost => Sys2Proof.Machine.execKilnConfirm f ok taps lost s
  | .kilnTapChange f => Sys2Proof.Machine.execKilnTapChange f s
  | .kilnWatchEnd f => Sys2Proof.Machine.execKilnWatchEnd f s
  | .klnRetreat f => Sys2Proof.Machine.execKlnRetreat f s
  | .kilnSdPhaseStep idx up narrow => Sys2Proof.Machine.execKilnSdPhaseStep idx up narrow s
  | .thermalSensorRead sensor temp => Sys2Proof.Machine.execThermalSensorRead sensor temp s
  | .pmbusPoll core sram => Sys2Proof.Machine.execPmbusPoll core sram s
  | .turnTrigger t cause => Sys2Proof.Machine.execTurnTrigger t cause s
  | .turnMoveStart t => Sys2Proof.Machine.execTurnMoveStart t s
  | .turnCommit t => Sys2Proof.Machine.execTurnCommit t s
  | .grvLimits c f tbmax rsv prio => Sys2Proof.Machine.execGrvLimits c f tbmax rsv prio s
  | .grvStatus c first n => Sys2Proof.Machine.execGrvStatus c first n s
  | .turnMove c t slots timeout => Sys2Proof.Machine.execTurnMove c t slots timeout s
  | .turnReturn c t pass => Sys2Proof.Machine.execTurnReturn c t pass s
  | .klnRecal c f => Sys2Proof.Machine.execKlnRecal c f s
  | .ringDoorbell v w => Sys2Proof.Machine.execRingDoorbell v w s
  | .ringEnable v w => Sys2Proof.Machine.execRingEnable v w s
  | .ringDisable v w => Sys2Proof.Machine.execRingDisable v w s
  | .commandFetch v slot fails => Sys2Proof.Machine.execCommandFetch v slot fails s
  | .replyWrite v fails => Sys2Proof.Machine.execReplyWrite v fails s
  | .msixCoalesceTimeout v => Sys2Proof.Machine.execMsixCoalesceTimeout v s
  | .pcieReset => Sys2Proof.Machine.execPcieReset s
  | .vfFlr v => Sys2Proof.Machine.execVfFlr v s
  | .devInfo c => Sys2Proof.Machine.execDevInfo c s
  | .nop c data => Sys2Proof.Machine.execNop c data s
  | .viewGrant c kind first n view => Sys2Proof.Machine.execViewGrant c kind first n view s
  | .viewRevoke c kind first n => Sys2Proof.Machine.execViewRevoke c kind first n s
  | .viewTable c kind first n => Sys2Proof.Machine.execViewTable c kind first n s
  | .guardDoorbell c t g => Sys2Proof.Machine.execGuardDoorbell c t g s
  | .hostqBind c p q dir view => Sys2Proof.Machine.execHostqBind c p q dir view s
  | .hostqDisableDrain c p timeout => Sys2Proof.Machine.execHostqDisableDrain c p timeout s
  | .hostqDisableAbort c p timeout => Sys2Proof.Machine.execHostqDisableAbort c p timeout s
  | .hmwSet c seg en fn addr => Sys2Proof.Machine.execHmwSet c seg en fn addr s
  | .regRead c a n => Sys2Proof.Machine.execRegRead c a n s
  | .regWrite c a pad data => Sys2Proof.Machine.execRegWrite c a pad data s
  | .forwardedCommand c op params back => Sys2Proof.Machine.execForwardedCommand c op params back s
  | .forwardTimeout ring tag => Sys2Proof.Machine.execForwardTimeout ring tag s
  | .hqPushWrite h view off ws whole => Sys2Proof.Machine.execHqPushWrite h view off ws whole s
  | .hqPortTransfer h => Sys2Proof.Machine.execHqPortTransfer h s
  | .hqPopRead h view off wide => Sys2Proof.Machine.execHqPopRead h view off wide s
  | .hmwCompletion p res data => Sys2Proof.Machine.execHmwCompletion p res data s
  | .resetAssert => Sys2Proof.Machine.execResetAssert s
  | .resetRelease bootsel => Sys2Proof.Machine.execResetRelease bootsel s
  | .bootCopyVerify copyB r => Sys2Proof.Machine.execBootCopyVerify copyB r s
  | .memoryInitDone => Sys2Proof.Machine.execMemoryInitDone s
  | .kilnCalibrationDone f ok clo lost => Sys2Proof.Machine.execKilnCalibrationDone f ok clo lost s
  | .ready => Sys2Proof.Machine.execReady s
  | .autoload kind floor entry img fails => Sys2Proof.Machine.execAutoload kind floor entry img fails s
  | .imageLoadManifest c floor src entry a len img fails => Sys2Proof.Machine.execImageLoadManifest c floor src entry a len img fails s
  | .imageLoadGuard c floor src entry a len img fails => Sys2Proof.Machine.execImageLoadGuard c floor src entry a len img fails s
  | .imageLoadFloor c floor src entry a len => Sys2Proof.Machine.execImageLoadFloor c floor src entry a len s
  | .loadPass1Done img fails => Sys2Proof.Machine.execLoadPass1Done img fails s
  | .loadPass2Done img fails => Sys2Proof.Machine.execLoadPass2Done img fails s
  | .loadStatus c f => Sys2Proof.Machine.execLoadStatus c f s
  | .manifestRead c off len => Sys2Proof.Machine.execManifestRead c off len s
  | .floorFreeze c f b imm timeout => Sys2Proof.Machine.execFloorFreeze c f b imm timeout s
  | .freezeTakeEffect f => Sys2Proof.Machine.execFreezeTakeEffect f s
  | .readback c a len => Sys2Proof.Machine.execReadback c a len s
  | .floorThaw c f => Sys2Proof.Machine.execFloorThaw c f s
  | .cfgdata => Sys2Proof.Machine.execCfgdata s
  | .cfgaddr a => Sys2Proof.Machine.execCfgaddr a s
  | .frzctl v => Sys2Proof.Machine.execFrzctl v s
  | .fusepgm v => Sys2Proof.Machine.execFusepgm v s
  | .extest pins => Sys2Proof.Machine.execExtest pins s
  | .linkEnable m v => Sys2Proof.Machine.execLinkEnable m v s
  | .linkTrained m ok => Sys2Proof.Machine.execLinkTrained m ok s
  | .linkRetry m => Sys2Proof.Machine.execLinkRetry m s
  | .linkReplay m => Sys2Proof.Machine.execLinkReplay m s
  | .linkRetrain m => Sys2Proof.Machine.execLinkRetrain m s
  | .linkDown m => Sys2Proof.Machine.execLinkDown m s
  | .linkEqStep m k tx up => Sys2Proof.Machine.execLinkEqStep m k tx up s
  | .sideSlotReceive m slot => Sys2Proof.Machine.execSideSlotReceive m slot s
  | .mashRecordReceive m r held => Sys2Proof.Machine.execMashRecordReceive m r held s
  | .gatewayPacketEntry m p src hops => Sys2Proof.Machine.execGatewayPacketEntry m p src hops s
  | .sysRequestTimeout id => Sys2Proof.Machine.execSysRequestTimeout id s
  | .xchPush m k => Sys2Proof.Machine.execXchPush m k s
  | .timeServiceExchange m delay off hops => Sys2Proof.Machine.execTimeServiceExchange m delay off hops s
  | .timeMaster sdn ecnt pinned => Sys2Proof.Machine.execTimeMaster sdn ecnt pinned s
  | .linkStatus c l => Sys2Proof.Machine.execLinkStatus c l s
  | .linkDisableDrain c l timeout => Sys2Proof.Machine.execLinkDisableDrain c l timeout s
  | .linkDisableAbort c l timeout => Sys2Proof.Machine.execLinkDisableAbort c l timeout s
  | .mashStatus c => Sys2Proof.Machine.execMashStatus c s
  | .join c epoch links align => Sys2Proof.Machine.execJoin c epoch links align s
  | .sysRoute c changes => Sys2Proof.Machine.execSysRoute c changes s
  | .timePin c sdn cap => Sys2Proof.Machine.execTimePin c sdn cap s
  | .twinCtl c mode role link batch hbovr => Sys2Proof.Machine.execTwinCtl c mode role link batch hbovr s
  | .twinHbCheck seen => Sys2Proof.Machine.execTwinHbCheck seen s
  | .twinTakeover => Sys2Proof.Machine.execTwinTakeover s
  | .twinDualActive => Sys2Proof.Machine.execTwinDualActive s
  | .twinActInput high => Sys2Proof.Machine.execTwinActInput high s
  | .trnDeferred t => Sys2Proof.Machine.execTrnDeferred t s
  | .turnMoveTimeout t => Sys2Proof.Machine.execTurnMoveTimeout t s
  | .routeCommitTimeout => Sys2Proof.Machine.execRouteCommitTimeout s
  | .freezeTimeout f => Sys2Proof.Machine.execFreezeTimeout f s
  | .rimPllLockLoss => Sys2Proof.Machine.execRimPllLockLoss s
  | .systemLockLoss => Sys2Proof.Machine.execSystemLockLoss s
  | .sdStuckClear idx bits => Sys2Proof.Machine.execSdStuckClear idx bits s
  | .adcClockReturn p => Sys2Proof.Machine.execAdcClockReturn p s
  | .pwmLevelChange g => Sys2Proof.Machine.execPwmLevelChange g s
  | .pwmMidPeriodUpdate g => Sys2Proof.Machine.execPwmMidPeriodUpdate g s
  | .safePolChange v => Sys2Proof.Machine.execSafePolChange v s
  | .keeperWatchdogService => Sys2Proof.Machine.execKeeperWatchdogService s
  | .managementCommandReceive m c op params => Sys2Proof.Machine.execManagementCommandReceive m c op params s
  | .adcTrainDone p pass => Sys2Proof.Machine.execAdcTrainDone p pass s
  | .klnRecalDone f ok clo lost => Sys2Proof.Machine.execKlnRecalDone f ok clo lost s

end Sys2Proof.Machine
end

