-- ==== Sys2Proof/Machine/Tick.lean ====
section
/-! DEFINITION. What the block does when no command waits: one rim clock passes (log 9). -/

namespace Sys2Proof.Machine

open Sys2Proof

/-- How far device time moves in one rim clock: 1, and 0 or 2 where the rate correction slews it (R321 to R323); in holdover
the last correction goes on. -/
def State.advanceTime (s : State) : State :=
  let t := s.tim
  let steered := decide (s.fld tmbSrcact 0 = 1 ∨ s.fld tmbSrcact 0 = 2) && decide (t.slewDir ≠ 0)
  let slew := steered && decide (t.slewEvery ≤ t.slew + 1)
  let d := if slew then (if 0 < t.slewDir then 2 else 0) else 1
  { s with tim := { t with
      now := (t.now + d) % 2 ^ 64, dev := t.dev + d, adv := d, slew := if slew then 0 else t.slew + 1 } }

/-- One rim clock without a command: the clock counts, device time advances while it runs, and a route commit that waits for
an empty network completes (R308, R321) (open points: log 9). -/
def State.tick (s : State) : State :=
  let s := { s with tim := { s.tim with clk := s.tim.clk + 1 } }
  (if s.tim.running then s.advanceTime else s).commitTick

end Sys2Proof.Machine
end

