-- ==== Sys2Proof/WellFormed.lean ====
section
/-! DEFINITION. What a command must be for a sender to be able to form it, beyond what its operand types say. -/

namespace Sys2Proof

/-- An even register names a 64-bit pair (R175, R180). -/
def evenReg (r : SReg) : Bool := r.val % 2 == 0

/-- An indirect queue number names a register in its low five bits (R154). -/
def qOk (q : Fin 16384) (ind : Bool) : Bool := !ind || decide (q.val < 32)

/-- A command of a ring, or one that another device forwarded, which has no ring here (R442, R453). -/
def cmdOk (c : Cmd) : Bool := c.remote == 0 || (decide (c.remote ≤ 4096) && c.ring.val == 0)

/-- A packet's fields fit the layouts of R296 and R299 to R302. -/
def pktOk (p : Pkt) : Bool :=
  decide (p.dest < 64 ∧ p.src < 1024 ∧ p.tag < 256 ∧ p.size < 8 ∧ p.view < 16 ∧ p.dsdn < 4096 ∧ p.addr < 2 ^ 40 ∧
    p.data.length ≤ 64)

/-- A mash record's fields fit R517. -/
def mashOk (r : MashRec) : Bool :=
  decide (r.sdn < 4096 ∧ r.mhash < 2 ^ 64 ∧ r.major < 256 ∧ r.minor < 256 ∧ r.rev < 256 ∧ r.msdn < 4096 ∧ r.ecnt < 2 ^ 16 ∧
    r.hops < 64 ∧ r.member < 2 ^ 32 ∧ r.twin < 8)

/-- The command can be formed. Parameters of command packets are plain numbers: those outside their range are well formed and
answered BAD_PARAM (R444, R445). -/
def wellFormed : Instr → Bool
  | .registerWrite _ _ _ _ => true
  | .wireTokenTransfer _ _ => true
  | .boundaryTokenRelease _ _ _ => true
  | .cellFire _ _ => true
  | .cellResultEmit _ _ _ => true
  | .expressInject _ _ _ _ => true
  | .bridgeSend _ _ => true
  | .bridgeReceive p => pktOk p
  | .schedSwitch _ => true
  | .guardCauseDeliver _ _ _ => true
  | .guardEntry _ _ => true
  | .spillWriteComplete _ => true
  | .leesFillComplete _ => true
  | .slotLoad c _ _ _ _ _ _ _ => cmdOk c
  | .slotLoadDone _ _ => true
  | .slotReset c _ _ => cmdOk c
  | .illegalInstruction t w => (decodeSeq t w).isNone
  | .add _ _ _ _ => true
  | .sub _ _ _ _ => true
  | .mul _ _ _ _ => true
  | .and_ _ _ _ _ => true
  | .or_ _ _ _ _ => true
  | .xor_ _ _ _ _ => true
  | .shl _ _ _ _ => true
  | .shr _ _ _ _ => true
  | .sar _ _ _ _ => true
  | .slt _ _ _ _ => true
  | .sltu _ _ _ _ => true
  | .addi _ _ _ _ => true
  | .andi _ _ _ _ => true
  | .ori _ _ _ _ => true
  | .shi _ _ _ _ _ => true
  | .lui _ _ _ => true
  | .adr _ _ _ => true
  | .ldb _ _ _ _ => true
  | .ldbu _ _ _ _ => true
  | .ldh _ _ _ _ => true
  | .ldhu _ _ _ _ => true
  | .ldw _ _ _ _ => true
  | .stb _ _ _ _ => true
  | .sth _ _ _ _ => true
  | .stw _ _ _ _ => true
  | .loadResultReturn _ _ => true
  | .lineBufferDrain _ => true
  | .icacheFill _ => true
  | .qpush _ _ q ind _ _ _ _ => qOk q ind
  | .qpop _ _ q ind _ => qOk q ind
  | .qdrop _ q ind => qOk q ind
  | .qlvl _ _ q ind => qOk q ind
  | .jmp _ _ => true
  | .call _ _ => true
  | .jr _ _ => true
  | .ret _ _ => true
  | .br _ _ _ _ _ => true
  | .loop _ _ _ => true
  | .waitQne _ ra ind _ => ind || ra.val == 0
  | .waitQspc _ ra ind _ => ind || ra.val == 0
  | .waitTime _ ra => evenReg ra
  | .waitTicks _ ra imm => imm == 0#16 || ra.val == 0
  | .waitFpinv _ => true
  | .waitConditionMet _ _ => true
  | .yield _ => true
  | .signal _ _ => true
  | .cancel _ _ => true
  | .rdtime _ rd => evenReg rd
  | .raise _ _ _ => true
  | .fence _ _ _ _ => true
  | .trap _ _ => true
  | .rdfl _ _ => true
  | .clrfl _ _ _ _ => true
  | .triggerTqne _ => true
  | .delayExpiry _ => true
  | .stepStart _ => true
  | .pktStep p => pktOk p
  | .batchDeadlineCheck _ => true
  | .dispatchDecision _ => true
  | .pktDispatch p => pktOk p
  | .flowRelease _ _ => true
  | .taskDescWrite _ _ off data => decide (0 < data.length) && decide (off.val + data.length ≤ 64)
  | .taskArm c _ _ => cmdOk c
  | .taskSignal c _ _ => cmdOk c
  | .taskCancel c _ => cmdOk c
  | .taskDisableDrain c _ _ => cmdOk c
  | .taskDisableAbort c _ _ => cmdOk c
  | .taskDrainDone _ => true
  | .taskStatus c _ => cmdOk c
  | .batchEnable c _ => cmdOk c
  | .batchDisableDrain c _ _ => cmdOk c
  | .batchDisableAbort c _ _ => cmdOk c
  | .batchDrainDone _ => true
  | .disableDrainTimeout _ _ => true
  | .tmbBctlEnSet _ _ _ => true
  | .tmbBctlEnClear _ _ _ => true
  | .pktSignal p => pktOk p
  | .pktCancel p => pktOk p
  | .bankSwap _ => true
  | .truncationWordStore _ => true
  | .queCfgEnableWrite _ _ _ => true
  | .queCfgDisableWrite _ _ _ => true
  | .cmdpathLockTimeout _ => true
  | .pushPortStore _ _ => true
  | .popPortOffer _ _ => true
  | .queuePush c _ words tags => cmdOk c && words.length == tags.length
  | .queuePop c _ _ => cmdOk c
  | .queueDrop c _ => cmdOk c
  | .queueFlush c _ => cmdOk c
  | .queueDisableDrain c _ _ => cmdOk c
  | .queueDisableAbort c _ _ => cmdOk c
  | .queueDrainDone _ => true
  | .queueStatus c _ => cmdOk c
  | .graderJobStart _ => true
  | .graderJobDone _ => true
  | .pktRd p => pktOk p
  | .pktWr p => pktOk p
  | .pktCfgwr p => pktOk p
  | .pktQpush p => pktOk p
  | .pktQpop p => pktOk p
  | .pktQdrop p => pktOk p
  | .pktQlvl p => pktOk p
  | .parkedRequestComplete _ p => pktOk p
  | .parkFullResend _ _ => true
  | .responseArrival p => pktOk p
  | .routerForward p _ _ => pktOk p
  | .snpInv p => pktOk p
  | .snpInvAck p => pktOk p
  | .routePlan c _ => cmdOk c
  | .routeCommit c _ _ => cmdOk c
  | .commitDrainTimeout => true
  | .routeRead c _ _ => cmdOk c
  | .floorPowerOffDrain c _ _ => cmdOk c
  | .floorPowerOffAbort c _ _ => cmdOk c
  | .floorDrained _ => true
  | .floorDrainTimeout _ => true
  | .floorOff _ => true
  | .floorPowerOn c _ => cmdOk c
  | .floorPowerOnDone _ _ _ _ => true
  | .nocStats c _ _ => cmdOk c
  | .nocStatClear _ _ => true
  | .correctionWriteback _ => true
  | .scrubLine _ => true
  | .eccFlipArm _ _ => true
  | .pageRetire c _ _ => cmdOk c
  | .pageCopyCommit _ => true
  | .memRead c _ _ => cmdOk c
  | .memWrite c _ _ => cmdOk c
  | .memInit c _ _ _ => cmdOk c
  | .pageStatus c _ => cmdOk c
  | .logRead c _ _ _ => cmdOk c
  | .logRecordWrite _ => true
  | .logTailWrite _ _ _ => true
  | .ppsInEdge _ => true
  | .ppsMissing => true
  | .timeFenced => true
  | .timeRestored => true
  | .ppsOutPulse _ => true
  | .rimPllLock => true
  | .timeSet c _ _ => cmdOk c
  | .timeSetPpsTimeout => true
  | .timeRead c => cmdOk c
  | .rackPortWord p => pktOk p
  | .rackRelease _ => true
  | .rackDeadlineCheck _ => true
  | .rackPut c _ _ _ _ _ _ => cmdOk c
  | .rackClear c _ _ => cmdOk c
  | .laneDisableDrain c _ _ _ => cmdOk c
  | .laneDisableAbort c _ _ _ => cmdOk c
  | .laneDrainDone _ _ => true
  | .rackStatus c _ _ => cmdOk c
  | .sampleReady _ => true
  | .streamDeliver _ => true
  | .sdFilterOutput _ _ => true
  | .sdComparatorChange _ _ => true
  | .sdStuck _ _ => true
  | .adcFrameReceive _ lanes => decide (lanes.length ≤ 16)
  | .adcClockLoss _ => true
  | .adcCnvPulse _ _ => true
  | .adcTrain c _ _ => cmdOk c
  | .encEdge _ _ _ _ => true
  | .encSample _ _ => true
  | .encSerialDone _ _ => true
  | .carrierPeriodStart _ => true
  | .gateEdgeHoldEnd _ => true
  | .vlFrameDelayed _ => true
  | .vlSafeRepeat _ => true
  | .vlUplinkFrame _ _ _ _ => true
  | .vlRxUp _ _ => true
  | .vlDown _ _ => true
  | .vlWatchdog _ => true
  | .gpioEdge _ _ => true
  | .ioSupply _ => true
  | .ioSupplyOk _ => true
  | .streamDisableDrain c _ _ _ => cmdOk c
  | .streamDisableAbort c _ _ _ => cmdOk c
  | .tripPinEdge _ _ => true
  | .tripSafeInput _ => true
  | .trpMaskWrite _ _ _ _ => true
  | .tripClear c _ => cmdOk c
  | .tripClearSettle _ => true
  | .tripForce c _ => cmdOk c
  | .tripStatus c _ => cmdOk c
  | .tripSnapshot c _ => cmdOk c
  | .tripFrameRepeat _ => true
  | .tripFrameReceive _ _ => true
  | .hostWatchdogKick _ _ => true
  | .hostWatchdog => true
  | .keeperWatchdog => true
  | .gravityTrim _ _ => true
  | .kilnConfirm _ _ _ _ => true
  | .kilnTapChange _ => true
  | .kilnWatchEnd _ => true
  | .klnRetreat _ => true
  | .kilnSdPhaseStep _ _ _ => true
  | .thermalSensorRead _ _ => true
  | .pmbusPoll _ _ => true
  | .turnTrigger _ _ => true
  | .turnMoveStart _ => true
  | .turnCommit _ => true
  | .grvLimits c _ _ _ _ => cmdOk c
  | .grvStatus c _ _ => cmdOk c
  | .turnMove c _ _ _ => cmdOk c
  | .turnReturn c _ _ => cmdOk c
  | .klnRecal c _ => cmdOk c
  | .ringDoorbell _ _ => true
  | .ringEnable _ _ => true
  | .ringDisable _ _ => true
  | .commandFetch _ slot _ => slot.length == 1024
  | .replyWrite _ _ => true
  | .msixCoalesceTimeout _ => true
  | .pcieReset => true
  | .vfFlr _ => true
  | .devInfo c => cmdOk c
  | .nop c _ => cmdOk c
  | .viewGrant c _ _ _ _ => cmdOk c
  | .viewRevoke c _ _ _ => cmdOk c
  | .viewTable c _ _ _ => cmdOk c
  | .guardDoorbell c _ _ => cmdOk c
  | .hostqBind c _ _ _ _ => cmdOk c
  | .hostqDisableDrain c _ _ => cmdOk c
  | .hostqDisableAbort c _ _ => cmdOk c
  | .hmwSet c _ _ _ _ => cmdOk c
  | .regRead c _ _ => cmdOk c
  | .regWrite c _ _ _ => cmdOk c
  | .forwardedCommand c _ _ _ => cmdOk c
  | .forwardTimeout _ _ => true
  | .hqPushWrite _ _ _ _ _ => true
  | .hqPortTransfer _ => true
  | .hqPopRead _ _ _ _ => true
  | .hmwCompletion p _ _ => pktOk p
  | .resetAssert => true
  | .resetRelease _ => true
  | .bootCopyVerify _ _ => true
  | .memoryInitDone => true
  | .kilnCalibrationDone _ _ _ _ => true
  | .ready => true
  | .autoload _ _ _ _ _ => true
  | .imageLoadManifest c _ _ _ _ _ _ _ => cmdOk c
  | .imageLoadGuard c _ _ _ _ _ _ _ => cmdOk c
  | .imageLoadFloor c _ _ _ _ _ => cmdOk c
  | .loadPass1Done _ _ => true
  | .loadPass2Done _ _ => true
  | .loadStatus c _ => cmdOk c
  | .manifestRead c _ _ => cmdOk c
  | .floorFreeze c _ _ _ _ => cmdOk c
  | .freezeTakeEffect _ => true
  | .readback c _ _ => cmdOk c
  | .floorThaw c _ => cmdOk c
  | .cfgdata => true
  | .cfgaddr _ => true
  | .frzctl _ => true
  | .fusepgm _ => true
  | .extest _ => true
  | .linkEnable _ _ => true
  | .linkTrained _ _ => true
  | .linkRetry _ => true
  | .linkReplay _ => true
  | .linkRetrain _ => true
  | .linkDown _ => true
  | .linkEqStep _ _ _ _ => true
  | .sideSlotReceive _ _ => true
  | .mashRecordReceive _ r _ => mashOk r
  | .gatewayPacketEntry _ p _ _ => pktOk p
  | .sysRequestTimeout _ => true
  | .xchPush _ _ => true
  | .timeServiceExchange _ _ _ _ => true
  | .timeMaster _ _ _ => true
  | .linkStatus c _ => cmdOk c
  | .linkDisableDrain c _ _ => cmdOk c
  | .linkDisableAbort c _ _ => cmdOk c
  | .mashStatus c => cmdOk c
  | .join c _ _ _ => cmdOk c
  | .sysRoute c _ => cmdOk c
  | .timePin c _ _ => cmdOk c
  | .twinCtl c _ _ _ _ _ => cmdOk c
  | .twinHbCheck _ => true
  | .twinTakeover => true
  | .twinDualActive => true
  | .twinActInput _ => true
  | .trnDeferred _ => true
  | .turnMoveTimeout _ => true
  | .routeCommitTimeout => true
  | .freezeTimeout _ => true
  | .rimPllLockLoss => true
  | .systemLockLoss => true
  | .sdStuckClear _ _ => true
  | .adcClockReturn _ => true
  | .pwmLevelChange _ => true
  | .pwmMidPeriodUpdate _ => true
  | .safePolChange _ => true
  | .keeperWatchdogService => true
  | .managementCommandReceive _ c _ _ => cmdOk c
  | .adcTrainDone _ _ => true
  | .klnRecalDone _ _ _ _ => true

end Sys2Proof
end

