-- ==== Sys2Proof/Safety.lean ====
section
/-! DEFINITION. The terms that statements use: the invariant of the state's tables, a command that completes, what a step leaves
alone. -/

namespace Sys2Proof

open Sys2Proof.Machine

/-! ### The invariant -/

/-- The bank of a slot: sixteen globals, six frames of sixteen registers (R117). -/
def bankOk (x : SlotSt) : Bool := x.globals.length == 16 && x.frames.length == 6 && x.frames.all (·.length == 16)

/-- Every table of the state is in canonical form (numbers rising, no entry equal to what an unlisted number reads as), every
bank has its registers, every task its eight words. -/
structure Canon (s : State) : Prop where
  regs : rising s.regs = true
  once : twf false s.once = true
  frzs : twf .init s.frzs = true
  gravs : twf .init s.gravs = true
  turns : twf .init s.turns = true
  rings : twf .init s.rings = true
  hports : twf .init s.hports = true
  hmwAt : twf 0 s.hmwAt = true
  links : twf .init s.links = true
  store : twf 0#13 s.store = true
  written : twf false s.written = true
  sharers : twf [] s.sharers = true
  tiles : twf .init s.tiles = true
  slots : twf .init s.slots = true
  cells : twf .init s.cells = true
  stages : twf none s.stages = true
  floors : twf .init s.floors = true
  tasks : twf .init s.tasks = true
  batches : twf .init s.batches = true
  cfs : twf 0#8 s.cfs = true
  moved : twf 0 s.moved = true
  pool : twf 0#36 s.pool = true
  queues : twf .empty s.queues = true
  lanes : twf .init s.lanes = true
  rports : twf .init s.rports = true
  streams : twf .init s.streams = true
  sds : twf .init s.sds = true
  adcs : twf .init s.adcs = true
  encs : twf .init s.encs = true
  gates : twf .init s.gates = true
  cars : twf .init s.cars = true
  vls : twf .init s.vls = true
  hostMem : twf 0#8 s.hostMem = true
  owners : twf 0 s.owners = true
  banks : ∀ p ∈ s.slots, bankOk p.2 = true
  words : ∀ p ∈ s.tasks, p.2.w.length = 8

/-- The tables that hold memories are in canonical form: tile stores, queue memory, configuration frames, host memory. -/
def memoriesOk (s : State) : Bool :=
  twf 0#13 s.store && twf 0#36 s.pool && twf 0#8 s.cfs && twf 0#8 s.hostMem

/-- Every waiting command can be formed by a sender. -/
def pendingOk (s : State) : Bool := s.pending.all wellFormed

/-! ### Completion -/

/-- `exec` answers a next state, and `P` holds of it. -/
def Completes (i : Instr) (s : State) (P : State → Prop) : Prop := ∃ u, exec i s = .next u ∧ P u

/-- A command packet may start on this device now and passes the checks of R444 and R478 that all commands share. -/
structure Accepted (s : State) (c : Cmd) (op : Nat) (params : List Byte) (tenant : Bool) : Prop where
  start : s.mayStart c op params = true
  target : tgtBad c = false
  ring : c.ring = 0 ∨ c.view = c.ring
  view : tenant = true ∨ c.view = 0
  ready : s.flag devReady 0 = true
  here : c.remote = 0
  live : s.orphans.contains c = false

/-- The final reply of `c` with this status and these result bytes is the newest one (R445). -/
def Replies (s u : State) (c : Cmd) (op status : Nat) (data : List Byte) : Prop :=
  u.replies = s.replies ++ [{ cmd := c, op := op, status := status, interim := false, data := data }]

/-- The command waits for `w`, with its PENDING reply when PACK asks for one (R448), and has not replied. -/
def WaitsFor (s u : State) (c : Cmd) (op : Nat) (w : CmdWait) (timeout : Nat) : Prop :=
  u.cmds = s.cmds ++ [{ cmd := c, op := op, wait := w, deadline := if timeout = 0 then none else some (s.tim.clk + timeout * 1000) }] ∧
  u.replies = s.replies ++ (if c.pack then [{ cmd := c, op := op, status := stPending, interim := true, data := [] }] else [])

/-- Everything but `fetched`, `replies` and `cmds` is as before: what a command that only reads may change. -/
def OnlyAnswers (s u : State) : Prop := u = { s with fetched := u.fetched, replies := u.replies, cmds := u.cmds }

/-! ### Frames of the sequencer -/

/-- Beside the bank of slot `k` of tile `t` only the order of that tile's instruction cache may differ: every other slot, every
device register, every byte of memory, queue, log and everything else is unchanged. -/
structure OnlyBank (s u : State) (t k : Nat) : Prop where
  rest : u = { s with slots := u.slots, tiles := u.tiles }
  slots : ∀ j, j ≠ 8 * t + k → tget .init u.slots j = tget .init s.slots j
  tiles : ∀ j, j ≠ t → u.tile j = s.tile j
  tile : u.tile t = { s.tile t with icache := (u.tile t).icache }

/-- Register `rd` holds `v`, the program counter has moved to the next instruction (R154), every other register of the current frame,
the older frames, the flags and the rest of the bank stay. -/
structure WritesReg (s u : State) (t k : Nat) (rd : SReg) (v : Word) : Prop where
  value : u.gpr t k rd = v
  others : ∀ r, r ≠ rd → u.gpr t k r = s.gpr t k r
  pc : u.pc t k = (s.pc t k + 4) % 0x80000
  bank : u.slot t k = { s.slot t k with globals := (u.slot t k).globals, frames := (u.slot t k).frames, pc := (u.slot t k).pc }
  older : (u.slot t k).frames.drop 1 = (s.slot t k).frames.drop 1
  only : OnlyBank s u t k

/-- Only the program counter of the slot has changed, to `pc`. -/
structure JumpsTo (s u : State) (t k pc : Nat) : Prop where
  bank : u.slot t k = { s.slot t k with pc := pc }
  only : OnlyBank s u t k

/-! ### Tokens on wires -/

/-- Driver `w` in slot `k` offers `tok` to stage `x` in slot `kx` alone; the stage is free, runs, and something reads it. -/
structure CanMove (s : State) (w : Wire) (k : Nat) (x : Wire) (kx : Nat) (tok : Tok) : Prop where
  offered : s.offered w k (.wire x kx) = some tok
  only : s.readers w k = [.wire x kx]
  free : s.held x kx = none
  on : s.stageOn x kx = true
  read : s.readers x kx ≠ []
  apart : wireKey x kx ≠ wireKey w k

/-- The token stands at stage `x` and no longer at `w`; every other token and everything else stay. -/
structure Moved (s u : State) (w : Wire) (k : Nat) (x : Wire) (kx : Nat) (tok : Tok) : Prop where
  there : u.held x kx = some { tok := tok, served := [] }
  gone : u.held w k = none
  others : ∀ w' k', wireKey w' k' ≠ wireKey w k → wireKey w' k' ≠ wireKey x kx → u.held w' k' = s.held w' k'
  only : u = { s with stages := u.stages }

/-! ### Commands that waited, events, queues -/

/-- Every command that waited for `w` is answered with this status, in order, and no other (R221, R447). -/
structure Finishes (s u : State) (w : CmdWait) (status : Nat) (data : List Byte) : Prop where
  waiting : u.cmds = s.cmds.filter fun x => x.wait ≠ w
  told : (∀ x ∈ s.cmds, x.wait = w → x.cmd.remote = 0 ∧ s.orphans.contains x.cmd = false) →
    u.replies = s.replies ++ (s.cmds.filter fun x => x.wait = w).map fun x =>
      { cmd := x.cmd, op := x.op, status := status, interim := false, data := data }

/-- A record of event `code` at `loc` waits for its log, behind the records that waited before. -/
def Logs (s u : State) (code loc : Nat) : Prop := ∃ l, u.logQ = s.logQ ++ l ∧ ∃ r ∈ l, r.code = code ∧ r.loc = loc

/-- Queue `q` is OPEN, has room, and no item, truncation, skip, drop or parity injection is open in it. -/
structure CanPush (s : State) (q : Nat) : Prop where
  isOpen : s.qOpen q = true
  lock : (s.queue q).ilock = none
  skips : (s.queue q).skips = []
  skip : (s.queue q).skip = false
  wait : (s.queue q).truncWait = false
  drop : (s.queue q).dropping = false
  room : s.qFull q = false
  inj : s.flag quePinj q = false

/-- Queue `q` is OPEN and has room, and producer `a` is in the middle of an item there that can go on. -/
structure CanGoOn (s : State) (q : Nat) (a : Agent) : Prop where
  isOpen : s.qOpen q = true
  lock : (s.queue q).ilock = some a
  unstaged : (s.queue q).fl = none
  short : (s.queue q).itemLen < 4095
  skips : (s.queue q).skips = []
  skip : (s.queue q).skip = false
  wait : (s.queue q).truncWait = false
  drop : (s.queue q).dropping = false
  room : s.qFull q = false
  inj : s.flag quePinj q = false

/-- Words of the item at the head of the queue: to its end where the end is stored, else all that are there (R243). -/
def headItem (s : State) (q : Nat) : Nat :=
  ((s.queue q).words.takeWhile fun e => !s.entEop q e).length + (if s.itemEnds q = [] then 0 else 1)

/-- The rest of the item at the head is discarded and counted; the output lock is given up where the item's end is stored, and
else stays while later words of the item are discarded too (R243). -/
structure DropsItem (s u : State) (q : Nat) : Prop where
  counted : u.reg .QUE_DROP_WORDS (q / 512) = min 0xFFFFFFFF (s.reg .QUE_DROP_WORDS (q / 512) + headItem s q)
  level : (u.queue q).level + headItem s q = (s.queue q).level
  ended : s.itemEnds q ≠ [] → (u.queue q).olock = none ∧ (u.queue q).dropping = false
  later : s.itemEnds q = [] → (u.queue q).olock = (s.queue q).olock ∧ (u.queue q).dropping = true

/-- Word `w` is a word of the queue, and the last one where no released item waits for the end of another producer's. -/
def HoldsLast (s u : State) (q : Nat) (w : QWord) : Prop :=
  ∃ e ∈ (u.queue q).words, u.entWord q e = w ∧ ((s.queue q).late = [] → (u.queue q).words.getLast? = some e)

/-- The queue holds one word more, behind the others: `w`. -/
def Stored (s u : State) (q : Nat) (w : QWord) : Prop := (u.queue q).level = (s.queue q).level + 1 ∧ HoldsLast s u q w

/-- The head word `w` of the queue is poppable for `a`, and its parity is sound. -/
structure CanPop (s : State) (q : Nat) (a : Agent) (w : QWord) : Prop where
  may : s.poppable q a = true
  head : (s.queue q).drain.head?.map (s.entWord q) = some w
  sound : parityBad w = false

/-! ### Packets -/

/-- The packet has left the network and its answer, an RSP with this status and result, is in it (R300). -/
def Answers (s u : State) (p : Pkt) (status result : Nat) : Prop :=
  ∃ x, u.net = s.net.erase p ++ [x] ∧ x.op = .rsp ∧ x.status = status ∧ x.result = result ∧ x.tag = p.tag ∧ x.src = p.src ∧
    x.dest = initNode p.src

/-- The bytes of `n` at `off` of tile `t` read without an ECC error. -/
def cleanRead (s : State) (t off n : Nat) : Prop := ∀ i, i < n → (s.peek t (off + i)).1.kind = 0

end Sys2Proof
end

