-- ==== Sys2Proof/Certificates/Slice0/Obligations.lean ====
section
/-! DEFINITION. The statements for the provers. Each docstring says what its statement claims and which rules of spec/ it rests
on. -/

open Sys2Proof Sys2Proof.Machine

/-- With a command at the front of the queue, a step is exec of that command on the state with the queue's rest; nothing is put
around it (log 9). Rests on 15_startup_config.md, 14_commands.md. -/
def Obligations.StepRunsFrontCommand : Prop :=
  ∀ (c : Instr) (rest : List Instr) (s : State),
    step { s with pending := c :: rest } = exec c { s with pending := rest }

/-- With no command waiting, a step answers a next state in which the rim clock has counted 1, the queue is still empty, and
device time has not moved when it does not run; while it runs unsteered it has advanced by 1 (R321). That the empty queue
passes one rim clock is the model's choice (log 9). Rests on R321. -/
def Obligations.IdleStepIsOneRimClock : Prop :=
  ∀ s : State, s.pending = [] →
    ∃ u, step s = .next u ∧ u.tim.clk = s.tim.clk + 1 ∧ u.pending = [] ∧
      (s.tim.running = false → u.tim.now = s.tim.now) ∧
      (s.tim.running = true → s.fld tmbSrcact 0 = 0 → s.noc.draining = false → u.tim.now = (s.tim.now + 1) % 2 ^ 64)

/-- Right after reset no command waits, nothing is in the network, no reply or command is under way, every register reads the
Reset column of its table, the eight slots of every tile are EMPTY (R118), no trip line is latched or enabled (R395), no
queue holds a word, and no store byte has been written (R271); every table of that state is in canonical form (Canon, which
O4 says every step keeps). Values of log 2 and 3 are the model's choice. Rests on R471, R118, R271, R395,
15_startup_config.md. -/
def Obligations.ResetState : Prop :=
  State.reset.pending = [] ∧ State.reset.net = [] ∧ State.reset.cmds = [] ∧ State.reset.replies = [] ∧
    (∀ r i, State.reset.reg r i = r.resetVal i % 2 ^ 64) ∧
    (∀ t k, State.reset.sstate t k = stEmpty) ∧
    (∀ q, (State.reset.queue q).level = 0) ∧
    (∀ t off, State.reset.fresh (State.reset.phys t off) = true ∧ (State.reset.peek t off).1.data = 0#8) ∧
    State.reset.flag devReady 0 = false ∧ State.reset.flag devFwrun 0 = false ∧ State.reset.cfg.manifest = [] ∧
    State.reset.dev.guardIn = false ∧ (∀ n, State.reset.reg .TRP_MASK n = 0) ∧ State.reset.tim.running = false ∧ Canon State.reset

/-- From every state whose tables are in canonical form (numbers rising, nothing listed that equals what an unlisted number
reads as, banks of sixteen globals and six frames of sixteen, tasks of eight words), a step that answers a next state leaves
them so. Rests on R117, R189, R270, 04_contexts.md. -/
def Obligations.StepKeepsCanon : Prop :=
  ∀ s u : State, Canon s → step s = .next u → Canon u

/-- exec of any command leaves the queue of waiting commands as it is, so a step takes exactly the command at the front and
keeps the order of the rest. Rests on 14_commands.md. -/
def Obligations.CommandsLeaveTheQueue : Prop :=
  (∀ (c : Instr) (s u : State), exec c s = .next u → u.pending = s.pending) ∧
    ∀ s u : State, step s = .next u → u.pending = s.pending.tail

/-- Every command answers a next state in every state: no rule of the spec stops the block, so none faults or is refused. Rests
on 17_errors.md. -/
def Obligations.EveryCommandAnswers : Prop :=
  ∀ (c : Instr) (s : State), ∃ u, exec c s = .next u

/-- Every well-formed tile sequencer instruction, with every operand at every value, decodes back from its encoded word; and
every word that decodes stands for a well-formed instruction whose encoding is that word, but for FENCE, whose imm16[15:3]
select nothing (R154 to R157, R175, R182). Rests on R154, R155, R156, R157, R175, R182. -/
def Obligations.SequencerWordsRoundTrip : Prop :=
  (∀ (i : Instr) (w : Word), wellFormed i = true → encodeSeq i = some w → ∃ t, decodeSeq t w = some i) ∧
    ∀ (t : TileNo) (w : Word) (i : Instr), decodeSeq t w = some i → wellFormed i = true ∧
      (encodeSeq i = some w ∨ (seqOp w = 0x36 ∧ encodeSeq i = some (w &&& 0xFC000007#32)))

/-- Words written out bit by bit from R154, R156, R157 and R175 decode to the instructions they stand for, among them the worked
words of the spec (ADDI f0, g3, 100; QPOP f0, Q9250; SLT f1, g2, f0; BR NE f1, g3, +3; LOOP g4, -3; RET f7; RAISE 5; YIELD),
and words that break R155 decode to none. Rests on R154, R155, R156, R157, R175. -/
def Obligations.DecodedWords : Prop :=
  ∀ t : TileNo,
    decodeSeq t 0x32030064#32 = some (.addi t 16 3 0x64#16) ∧
    decodeSeq t 0x86121100#32 = some (.qpop t 16 9250 false false) ∧
    decodeSeq t 0x26228000#32 = some (.slt t 17 2 16) ∧
    decodeSeq t 0xB2232003#32 = some (.br t 17 3 1 3#13) ∧
    decodeSeq t 0xB480FFFD#32 = some (.loop t 4 0xFFFD#16) ∧
    decodeSeq t 0xAC170000#32 = some (.ret t 23) ∧
    decodeSeq t 0xD4008005#32 = some (.raise t 5 true) ∧
    decodeSeq t 0xC4000000#32 = some (.yield t) ∧
    decodeSeq t 0x00221800#32 = some (.add t 1 2 3) ∧
    decodeSeq t 0x702A0008#32 = some (.ldw t 1 10 8#16) ∧
    decodeSeq t 0xC1000010#32 = none ∧
    decodeSeq t 0x00221801#32 = none ∧ decodeSeq t 0x2C000000#32 = none ∧ decodeSeq t 0xD0200000#32 = none

/-- ADD, SUB, MUL, AND, OR, XOR, SHL, SHR, SAR, SLT, SLTU, ADDI, ANDI, ORI, SHI (all four kinds), LUI, ADR and RDFL, when they
issue, complete: rd receives the result of R156 modulo 2^32 (a shift count is rb[4:0]; ADR adds 4 times the signed immediate
to the program counter; RDFL copies the sequencer flags), the program counter moves to the next word, and every other
register of the frame, the older frames, the flags, every other slot, every device register, every byte of memory and
everything else are unchanged. Rests on R153, R154, R156. -/
def Obligations.RegisterAndImmediateArithmetic : Prop :=
  ∀ (s : State) (t : TileNo) (k : Nat) (rd ra rb : SReg) (m : BitVec 16) (n : Fin 32), Canon s →
    (∀ p ∈ [(Instr.add t rd ra rb, s.gpr t k ra + s.gpr t k rb),
            (Instr.sub t rd ra rb, s.gpr t k ra - s.gpr t k rb),
            (Instr.mul t rd ra rb, s.gpr t k ra * s.gpr t k rb),
            (Instr.and_ t rd ra rb, s.gpr t k ra &&& s.gpr t k rb),
            (Instr.or_ t rd ra rb, s.gpr t k ra ||| s.gpr t k rb),
            (Instr.xor_ t rd ra rb, s.gpr t k ra ^^^ s.gpr t k rb),
            (Instr.shl t rd ra rb, s.gpr t k ra <<< ((s.gpr t k rb).toNat % 32)),
            (Instr.shr t rd ra rb, s.gpr t k ra >>> ((s.gpr t k rb).toNat % 32)),
            (Instr.sar t rd ra rb, (s.gpr t k ra).sshiftRight ((s.gpr t k rb).toNat % 32)),
            (Instr.slt t rd ra rb, if (s.gpr t k ra).toInt < (s.gpr t k rb).toInt then 1#32 else 0#32),
            (Instr.sltu t rd ra rb, if (s.gpr t k ra).toNat < (s.gpr t k rb).toNat then 1#32 else 0#32)],
      s.issue t p.1 [rd, ra, rb] = some k → Completes p.1 s fun u => WritesReg s u t k rd p.2) ∧
    (∀ p ∈ [(Instr.addi t rd ra m, s.gpr t k ra + m.signExtend 32),
            (Instr.andi t rd ra m, s.gpr t k ra &&& m.setWidth 32),
            (Instr.ori t rd ra m, s.gpr t k ra ||| m.setWidth 32),
            (Instr.shi t rd ra 0 n, s.gpr t k ra <<< n.val),
            (Instr.shi t rd ra 1 n, s.gpr t k ra >>> n.val),
            (Instr.shi t rd ra 2 n, (s.gpr t k ra).sshiftRight n.val),
            (Instr.shi t rd ra 3 n, (s.gpr t k ra).rotateLeft n.val)],
      s.issue t p.1 [rd, ra] = some k → Completes p.1 s fun u => WritesReg s u t k rd p.2) ∧
    ∀ p ∈ [(Instr.lui t rd m, BitVec.ofNat 32 (m.toNat * 65536)),
           (Instr.adr t rd m, BitVec.ofInt 32 ((s.pc t k : Int) + 4 * m.toInt)),
           (Instr.rdfl t rd, (s.slot t k).flags)],
      s.issue t p.1 [rd] = some k → Completes p.1 s fun u => WritesReg s u t k rd p.2

/-- When they issue, JMP goes to PC + 4 x off26, JR to the word that ra names, BR to PC + 4 x off13 exactly when its condition
(equal, not equal, less, not less, signed and unsigned) holds and to the next word otherwise, LOOP lowers its counter by 1
and goes to PC + 4 x imm16 exactly when the counter is then not 0, each modulo 512 KiB; nothing else changes. Rests on R154,
R156, R157, R173, R174. -/
def Obligations.JumpsAndLoops : Prop :=
  ∀ (s : State) (t : TileNo) (k : Nat) (ra rb : SReg), Canon s →
    (∀ off : BitVec 26, s.issue t (.jmp t off) [] = some k → Completes (.jmp t off) s fun u =>
      JumpsTo s u t k (((s.pc t k : Int) + 4 * off.toInt) % 0x80000).toNat) ∧
    (s.issue t (.jr t ra) [ra] = some k → (s.gpr t k ra).toNat % 4 = 0 → Completes (.jr t ra) s fun u =>
      JumpsTo s u t k ((s.gpr t k ra).toNat % 0x80000)) ∧
    (∀ off : BitVec 13,
      ∀ p ∈ [((0 : Fin 6), s.gpr t k ra = s.gpr t k rb), (1, s.gpr t k ra ≠ s.gpr t k rb),
             (2, (s.gpr t k ra).toInt < (s.gpr t k rb).toInt), (3, (s.gpr t k rb).toInt ≤ (s.gpr t k ra).toInt),
             (4, (s.gpr t k ra).toNat < (s.gpr t k rb).toNat), (5, (s.gpr t k rb).toNat ≤ (s.gpr t k ra).toNat)],
        s.issue t (.br t ra rb p.1 off) [ra, rb] = some k →
        Completes (.br t ra rb p.1 off) s fun u =>
          (p.2 → JumpsTo s u t k (((s.pc t k : Int) + 4 * off.toInt) % 0x80000).toNat) ∧
          (¬ p.2 → JumpsTo s u t k ((s.pc t k + 4) % 0x80000))) ∧
    (∀ m : BitVec 16, s.issue t (.loop t ra m) [ra] = some k → Completes (.loop t ra m) s fun u =>
      u.gpr t k ra = s.gpr t k ra - 1#32 ∧ (∀ r, r ≠ ra → u.gpr t k r = s.gpr t k r) ∧
      (u.slot t k).flags = (s.slot t k).flags ∧ OnlyBank s u t k ∧
      u.pc t k = if s.gpr t k ra = 1#32 then (s.pc t k + 4) % 0x80000
        else (((s.pc t k : Int) + 4 * m.toInt) % 0x80000).toNat)

/-- With fewer than six frames in hardware, CALL goes to PC + 4 x off26; the callee's f0 to f7 are the caller's f8 to f15 and
its f8 to f15 are zero, HDEPTH rises by 1 and the globals and flags stay. With more than one frame in hardware, RET goes to
the word ra names; f0 to f7 are again the caller's own and its f8 to f15 receive the returning frame's f0 to f7, HDEPTH
falls by 1 (R133, R134). Rests on R133, R134, R156. -/
def Obligations.CallAndReturnFrames : Prop :=
  ∀ (s : State) (t : TileNo) (k : Nat), Canon s → k < 8 →
    (∀ off : BitVec 26, s.issue t (.call t off) frameRegs = some k → s.fld leesHdepth (8 * t + k) < 6 →
      Completes (.call t off) s fun u =>
        u.pc t k = (((s.pc t k : Int) + 4 * off.toInt) % 0x80000).toNat ∧
        (∀ i : Fin 8, u.gpr t k (Fin.ofNat 32 (16 + i)) = s.gpr t k (Fin.ofNat 32 (24 + i)) ∧
          u.gpr t k (Fin.ofNat 32 (24 + i)) = 0#32) ∧
        (∀ i : Fin 16, u.gpr t k (Fin.ofNat 32 i) = s.gpr t k (Fin.ofNat 32 i)) ∧
        (u.slot t k).frames.drop 1 = (s.slot t k).frames.take 5 ∧ (u.slot t k).flags = (s.slot t k).flags ∧
        u.fld leesHdepth (8 * t + k) = s.fld leesHdepth (8 * t + k) + 1 ∧
        u = { s with slots := u.slots, tiles := u.tiles, regs := u.regs }) ∧
    (∀ ra : SReg, s.issue t (.ret t ra) (ra :: frameRegs) = some k → 1 < s.fld leesHdepth (8 * t + k) →
      (s.gpr t k ra).toNat % 4 = 0 → Completes (.ret t ra) s fun u =>
        u.pc t k = (s.gpr t k ra).toNat % 0x80000 ∧
        (∀ i : Fin 8, u.gpr t k (Fin.ofNat 32 (16 + i)) = (((s.slot t k).frames.getD 1 []).getD i 0#32) ∧
          u.gpr t k (Fin.ofNat 32 (24 + i)) = s.gpr t k (Fin.ofNat 32 (16 + i))) ∧
        (∀ i : Fin 16, u.gpr t k (Fin.ofNat 32 i) = s.gpr t k (Fin.ofNat 32 i)) ∧
        (u.slot t k).flags = (s.slot t k).flags ∧
        u.fld leesHdepth (8 * t + k) = s.fld leesHdepth (8 * t + k) - 1 ∧
        u = { s with slots := u.slots, tiles := u.tiles, regs := u.regs })

/-- LDB, LDBU, LDH, LDHU and LDW from the own store, aligned, outside every lees, from a written line that neither the data
cache nor the line buffer holds and whose bytes decode without error, complete: the result that will return to rd holds the
bytes from EA on, little-endian and extended as R156 says, with no error mark; the program counter moves on; no register and
no byte of any tile store changes. Rests on R156, R158, R160, R161, R162. -/
def Obligations.LoadsFromTheOwnStore : Prop :=
  ∀ (s : State) (t : TileNo) (k : Nat) (rd ra : SReg) (m : BitVec 16), Canon s →
    ∀ p ∈ [(Instr.ldb t rd ra m, 1, true), (Instr.ldbu t rd ra m, 1, false), (Instr.ldh t rd ra m, 2, true),
           (Instr.ldhu t rd ra m, 2, false), (Instr.ldw t rd ra m, 4, false)],
      s.issue t p.1 [rd, ra] = some k →
      let ea := (s.gpr t k ra + m.signExtend 32).toNat
      ea % p.2.1 = 0 → ea < 0x80000 → s.inLees t ea p.2.1 = false → s.cached t (t * 0x80000 + ea) = none →
      (s.tile t).lineBuf = none → s.fresh (s.phys t ea) = false →
      (∀ x ∈ List.range 64, (s.peek t (ea / 64 * 64 + x)).1.kind = 0) →
      Completes p.1 s fun u =>
        (∃ o ∈ (u.tile t).outst, o.slot = k ∧ o.kind = .load ∧ o.rd = rd.val ∧ o.done = true ∧ o.ue = false ∧ o.fresh = false ∧
          o.status = 0 ∧
          o.bits = extend p.2.1 p.2.2 (leNat ((List.range p.2.1).map fun i => (s.peek t (ea + i)).1.data))) ∧
        u.pc t k = (s.pc t k + 4) % 0x80000 ∧ (∀ r, u.gpr t k r = s.gpr t k r) ∧
        u.store = s.store ∧ u.written = s.written ∧ (∀ t' off, u.peek t' off = s.peek t' off)

/-- STB, STH and STW to the own store, aligned and outside every lees, with the line buffer empty, complete: the buffer holds
exactly the low bytes of rs at EA, and no byte of any store changes yet. LINE_BUFFER_DRAIN of an own-store line empties the
buffer and writes each of its bytes where it belongs. LOAD_RESULT_RETURN of an error-free result writes its register and no
other of the slot. ICACHE_FILL of an error-free written line outside every lees puts that line first in the instruction
cache and counts a miss. Rests on R156, R158, R163, R161, R162, R164. -/
def Obligations.StoresAndResults : Prop :=
  ∀ (s : State) (t : TileNo), Canon s →
    (∀ (k : Nat) (rs ra : SReg) (m : BitVec 16), ∀ p ∈ [(Instr.stb t rs ra m, 1), (Instr.sth t rs ra m, 2), (Instr.stw t rs ra m, 4)],
      s.issue t p.1 [rs, ra] = some k →
      let ea := (s.gpr t k ra + m.signExtend 32).toNat
      ea % p.2 = 0 → ea < 0x80000 → s.inLees t ea p.2 = false → (s.tile t).lineBuf = none →
      Completes p.1 s fun u =>
        (∃ b, (u.tile t).lineBuf = some b ∧ b.spill = false ∧ b.window = false ∧ b.base = ea / 64 * 64 ∧ b.slot = k ∧
          b.bytes = (List.range p.2).map fun i => ((ea + i) % 64, BitVec.ofNat 8 ((s.gpr t k rs).toNat / 2 ^ (8 * i)))) ∧
        u.pc t k = (s.pc t k + 4) % 0x80000 ∧ (∀ r, u.gpr t k r = s.gpr t k r) ∧
        u = { s with slots := u.slots, tiles := u.tiles }) ∧
    (∀ b : LineBuf, (s.tile t).lineBuf = some b → b.spill = false → b.window = false →
      Completes (.lineBufferDrain t) s fun u =>
        (u.tile t).lineBuf = none ∧ u.slots = s.slots ∧ u.cells = s.cells ∧ u.queues = s.queues ∧
        (s.flag flipArm 0 = false → (b.bytes.map (·.1)).Nodup → (∀ x ∈ b.bytes, b.base + x.1 < 0x80000) →
          ∀ x ∈ b.bytes, (u.peek t (b.base + x.1)).1.data = x.2 ∧ (u.peek t (b.base + x.1)).1.kind = 0)) ∧
    (∀ (tag : Nat) (o : Outst), (s.tile t).outst.find? (fun o => o.tag == tag && o.kind == .load && o.done) = some o →
      s.floorRuns (t / 16) = true → o.status = 0 → o.ue = false → o.fresh = false →
      Completes (.loadResultReturn t tag) s fun u =>
        u.gpr t o.slot (Fin.ofNat 32 o.rd) = o.bits ∧
        (∀ r, r ≠ Fin.ofNat 32 o.rd → u.gpr t o.slot r = s.gpr t o.slot r) ∧
        (∀ x ∈ (u.tile t).outst, x.tag ≠ o.tag) ∧ u = { s with slots := u.slots, tiles := u.tiles }) ∧
    (∀ k : Nat, s.active t = some k → s.floorRuns (t / 16) = true → s.fetchWord t k = none →
      s.inLees t (s.pc t k / 64 * 64) 64 = false → s.fresh (s.phys t (s.pc t k / 64 * 64)) = false →
      (∀ x ∈ List.range 64, (s.peek t (s.pc t k / 64 * 64 + x)).1.kind = 0) →
      Completes (.icacheFill t) s fun u =>
        (u.tile t).icache.head? = some ⟨s.pc t k / 64 * 64, (List.range 64).map fun i => (s.peek t (s.pc t k / 64 * 64 + i)).1.data⟩ ∧
        (u.tile t).icache.length ≤ 64 ∧ u.slots = s.slots ∧ u.store = s.store)

/-- On the tile's own floor and on a queue the slot may use: QPUSH to an OPEN queue with room, opening an item or going on in
the slot's own, stores one word, whose data is r with the tags of the instruction and valid parity; QPOP of a poppable word
of sound parity puts its data in r and its tags in the flags and takes it from the queue; QDROP of a slot that holds the
output lock discards and counts the rest of the item and gives up the lock where its end is stored, of one that holds none
changes no queue; QLVL puts the level in r; the non-blocking QPUSH to a full queue and QPOP of an empty one only set EM. On
another floor each sends one request packet to the queue's node. Each moves the program counter on. Rests on R168, R169,
R170, R226, R243, R250. -/
def Obligations.SequencerQueueAccess : Prop :=
  ∀ (s : State) (t : TileNo) (k : Nat) (r : SReg) (n : Fin 16384) (ind : Bool), Canon s → k < 8 →
    let q := s.seqQueue t k n ind
    s.slotOwns t k 1 q = true →
    (∀ nb sop eop psn : Bool, s.issue t (.qpush t r n ind nb sop eop psn) (r :: indRegs n ind) = some k →
      (q / 512 = t / 16 → s.qOpen q = true → (s.queue q).skips = [] → (s.queue q).skip = false → (s.queue q).truncWait = false →
        (s.queue q).dropping = false → s.qFull q = false → s.flag quePinj q = false →
        ((sop = true ∧ (s.queue q).ilock = none ∧ s.stageOf t k q = none) ∨
         (sop = false ∧ (s.queue q).ilock = some (.slot t k) ∧ (s.queue q).fl = none ∧ (s.queue q).itemLen < 4095)) →
        Completes (.qpush t r n ind nb sop eop psn) s fun u => Stored s u q (mkWord (s.gpr t k r) sop eop psn) ∧
          (u.queue q).ilock = (if eop then none else some (.slot t k)) ∧ u.pc t k = (s.pc t k + 4) % 0x80000 ∧
          (nb = true → u.seqFlag t k flEM = false) ∧ ∀ x, u.gpr t k x = s.gpr t k x) ∧
      (q / 512 = t / 16 → (s.queue q).skips = [] → (s.queue q).ilock ≠ some (.slot t k) → (s.queue q).dropping = false →
        s.qFull q = true → nb = true → Completes (.qpush t r n ind nb sop eop psn) s fun u => u.queues = s.queues ∧
          u.seqFlag t k flEM = true ∧ u.pc t k = (s.pc t k + 4) % 0x80000 ∧ ∀ x, u.gpr t k x = s.gpr t k x)) ∧
    (∀ (nb : Bool) (e : Ent), q / 512 = t / 16 → s.issue t (.qpop t r n ind nb) (r :: indRegs n ind) = some k →
      s.poppable q (.slot t k) = true → (s.queue q).drain.head? = some e → parityBad (s.entWord q e) = false →
      (s.entWord q e).psn = false →
      Completes (.qpop t r n ind nb) s fun u =>
        u.gpr t k r = (s.entWord q e).data ∧ u.seqFlag t k flSOP = (s.entWord q e).sop ∧
        u.seqFlag t k flEOP = (s.entWord q e).eop ∧ u.seqFlag t k flWP = false ∧
        u.pc t k = (s.pc t k + 4) % 0x80000 ∧ (u.queue q).drain = (s.queue q).drain.tail ∧
        ∀ x, x ≠ r → u.gpr t k x = s.gpr t k x) ∧
    (q / 512 = t / 16 → s.issue t (.qpop t r n ind true) (r :: indRegs n ind) = some k → s.poppable q (.slot t k) = false →
      Completes (.qpop t r n ind true) s fun u => u.queues = s.queues ∧ u.seqFlag t k flEM = true ∧
        u.pc t k = (s.pc t k + 4) % 0x80000 ∧ ∀ x, u.gpr t k x = s.gpr t k x) ∧
    (q / 512 = t / 16 → s.issue t (.qdrop t n ind) (indRegs n ind) = some k →
      ((s.queue q).olock = some (.slot t k) → (s.queue q).dropping = false → Completes (.qdrop t n ind) s fun u =>
        DropsItem s u q ∧ u.pc t k = (s.pc t k + 4) % 0x80000 ∧ ∀ x, u.gpr t k x = s.gpr t k x) ∧
      ((s.queue q).olock ≠ some (.slot t k) → Completes (.qdrop t n ind) s fun u =>
        JumpsTo s u t k ((s.pc t k + 4) % 0x80000))) ∧
    (q / 512 = t / 16 → s.issue t (.qlvl t r n ind) (r :: indRegs n ind) = some k →
      Completes (.qlvl t r n ind) s fun u => WritesReg s u t k r (BitVec.ofNat 32 (s.queue q).level)) ∧
    (q / 512 ≠ t / 16 → s.netFree t = true → ((s.tile t).outst.any fun o => o.slot == k && o.kind == .qpush && o.queue == q) = false →
      ∀ nb sop eop psn : Bool, ∀ p ∈ [(Instr.qpush t r n ind nb sop eop psn, POp.qpush, r :: indRegs n ind),
          (Instr.qpop t r n ind nb, POp.qpop, r :: indRegs n ind), (Instr.qdrop t n ind, POp.qdrop, indRegs n ind),
          (Instr.qlvl t r n ind, POp.qlvl, r :: indRegs n ind)],
        s.issue t p.1 p.2.2 = some k → Completes p.1 s fun u => u.queues = s.queues ∧ u.pc t k = (s.pc t k + 4) % 0x80000 ∧
          (∀ x, u.gpr t k x = s.gpr t k x) ∧ ∃ x, u.net = s.net ++ [x] ∧ x.op = p.2.1 ∧ x.dest = q / 512 ∧ x.addr = q ∧ x.src = t.val ∧
            (p.2.1 = .qpush → x.data = (leBytes 4 (s.gpr t k r).toNat).map some ∧ x.sop = sop ∧ x.eop = eop ∧ x.psn = b2n psn) ∧
            ∃ o ∈ (u.tile t).outst, o.tag = x.tag ∧ o.slot = k ∧ o.done = false)

/-- WAIT QNE of a queue with a poppable word, WAIT QSPC of a queue with room, WAIT TIME of a time that has come, WAIT TICKS of 0
and WAIT FPINV with IV set, in a slot that has not been told to cancel, complete by moving the program counter on and
nothing else (R175, R176); a data slot's WAIT TIME of a time to come gives up the tile with the program counter past it and
the slot SUSPENDED. Rests on R175, R176, R118. -/
def Obligations.WaitsThatHold : Prop :=
  ∀ (s : State) (t : TileNo) (k : Nat) (ra : SReg), Canon s → k < 8 → s.cancelled t k = false →
    let next := (s.pc t k + 4) % 0x80000
    (∀ (ind : Bool) (n : Fin 16384), s.slotOwns t k 1 (s.waitQ t k ra ind n) = true → s.waitQ t k ra ind n / 512 = t / 16 →
      (s.issue t (.waitQne t ra ind n) (if ind then [ra] else []) = some k → s.poppable (s.waitQ t k ra ind n) (.slot t k) = true →
        Completes (.waitQne t ra ind n) s fun u => JumpsTo s u t k next) ∧
      (s.issue t (.waitQspc t ra ind n) (if ind then [ra] else []) = some k → s.roomFor (s.waitQ t k ra ind n) (.slot t k) = true →
        Completes (.waitQspc t ra ind n) s fun u => JumpsTo s u t k next)) ∧
    (s.issue t (.waitTime t ra) [ra, regUp ra] = some k →
      let n := (s.gpr t k ra).toNat + 2 ^ 32 * (s.gpr t k (regUp ra)).toNat
      (n ≤ s.tim.now → Completes (.waitTime t ra) s fun u => JumpsTo s u t k next) ∧
      (s.tim.now < n → s.guardOf t k = none → Completes (.waitTime t ra) s fun u =>
        u.pc t k = next ∧ (u.slot t k).susp = .waiting (.time n) ∧ u.sstate t k = stSuspended ∧ u.active t = none ∧
        ∀ x, u.gpr t k x = s.gpr t k x)) ∧
    (s.issue t (.waitTicks t ra 0#16) [ra] = some k → s.gpr t k ra = 0#32 →
      Completes (.waitTicks t ra 0#16) s fun u => JumpsTo s u t k next) ∧
    (s.issue t (.waitFpinv t) [] = some k → bit (s.reg .TIL_FPX (8 * t + k)) 0 = true →
      Completes (.waitFpinv t) s fun u => JumpsTo s u t k next)

/-- YIELD of a data slot not told to cancel gives up the tile, SUSPENDED with the program counter past it; SIGNAL and CANCEL of
a task the slot may use send one packet for task ra[14:0] to its home floor; RDTIME writes the two halves of one time not
below the last one the tile read; FENCE with no work outstanding moves on (and with I empties the instruction cache); CLRFL
clears exactly the named flags among LP, QP and FR; TRAP, and a word that decodes to no instruction, in a data slot record
0x3213 and 0x3210 and end the activation; a met WAIT marks its slot ready. Rests on R153, R155, R175, R176, R177, R179,
R180, R182, R184. -/
def Obligations.YieldingTasksTimeAndTraps : Prop :=
  ∀ (s : State) (t : TileNo) (k : Nat), Canon s → k < 8 →
    (s.issue t (.yield t) [] = some k → s.guardOf t k = none → s.cancelled t k = false →
      Completes (.yield t) s fun u => u.pc t k = (s.pc t k + 4) % 0x80000 ∧ u.sstate t k = stSuspended ∧ u.active t = none ∧
        (u.slot t k).susp = .yielded) ∧
    (∀ ra : SReg, s.slotOwns t k 2 ((s.gpr t k ra).toNat % 32768) = true →
      ∀ p ∈ [(Instr.signal t ra, POp.signal), (Instr.cancel t ra, POp.cancel)], s.issue t p.1 [ra] = some k →
        Completes p.1 s fun u => u.pc t k = (s.pc t k + 4) % 0x80000 ∧
          ∃ x, u.net = s.net ++ [x] ∧ x.op = p.2 ∧ x.addr = (s.gpr t k ra).toNat % 32768 ∧
            x.dest = (s.gpr t k ra).toNat % 32768 / 1024 ∧ x.src = t.val) ∧
    (∀ rd : SReg, rd.val % 2 = 0 → s.issue t (.rdtime t rd) [rd, regUp rd] = some k → s.tim.now < 2 ^ 63 →
      (s.tile t).lastTime < 2 ^ 63 →
      Completes (.rdtime t rd) s fun u => ∃ v : Nat,
        u.gpr t k rd = BitVec.ofNat 32 v ∧ u.gpr t k (regUp rd) = BitVec.ofNat 32 (v / 2 ^ 32) ∧ (s.tile t).lastTime ≤ v ∧
        (u.tile t).lastTime = v ∧ (s.tim.now - 4 ≤ v) ∧ (v ≤ s.tim.now + 4 ∨ v = (s.tile t).lastTime)) ∧
    (∀ m q i : Bool, s.issue t (.fence t m q i) [] = some k → (m = true → s.memDone t k = true) → (q = true → s.pushDone t k = true) →
      Completes (.fence t m q i) s fun u => u.pc t k = (s.pc t k + 4) % 0x80000 ∧ (i = true → (u.tile t).icache = []) ∧
        OnlyBank s u t k) ∧
    (∀ lp qp fr : Bool, s.issue t (.clrfl t lp qp fr) [] = some k → Completes (.clrfl t lp qp fr) s fun u =>
      u.seqFlag t k flLP = (!lp && s.seqFlag t k flLP) ∧ u.seqFlag t k flQP = (!qp && s.seqFlag t k flQP) ∧
      u.seqFlag t k flFR = (!fr && s.seqFlag t k flFR) ∧ (∀ n ∈ [flPF, flCX, flWP, flEOP, flSOP, flEM], u.seqFlag t k n = s.seqFlag t k n) ∧
      u.pc t k = (s.pc t k + 4) % 0x80000 ∧ (∀ r, u.gpr t k r = s.gpr t k r) ∧ OnlyBank s u t k) ∧
    (∀ m : BitVec 16, s.issue t (.trap t m) [] = some k → s.guardOf t k = none →
      Completes (.trap t m) s fun u => (∃ r ∈ u.logQ, r.code = 0x3213 ∧ r.loc = locTile t k 0xFF) ∧ (u.slot t k).task = none) ∧
    (∀ w : Word, s.active t = some k → s.floorRuns (t / 16) = true → s.fetchWord t k = some w → decodeSeq t w = none →
      s.guardOf t k = none →
      Completes (.illegalInstruction t w) s fun u =>
        (∃ r ∈ u.logQ, r.code = 0x3210 ∧ r.loc = locTile t k 0xFF) ∧ (u.slot t k).task = none) ∧
    (∀ (j : SlotNo) (w : WaitCond), (s.slot t j).susp = .waiting w → s.sstate t j = stSuspended → s.condHolds t j w = true →
      s.guardOf t j = none →
      Completes (.waitConditionMet t j) s fun u => (u.slot t j).susp = .met ∧
        ∀ n, (s.slot t j).task = some n → ∃ e ∈ (u.floor (t / 16)).ready, e = (s.tf tkPri n, .resume t j))

/-- LDH, LDHU and STH whose effective address is not a multiple of 2, and LDW and STW whose is not a multiple of 4, when they
issue, complete by faulting the context: 0x3211 stands in the slot's fault record with the program counter and is raised for
the slot, no byte of any tile store changes, and no request or result joins those of the tile. Rules: R160. -/
def Obligations.MisalignedAccessesFault : Prop :=
  ∀ (s : State) (t : TileNo) (k : Nat) (r ra : SReg) (m : BitVec 16), Canon s → k < 8 → s.pc t k < 0x80000 →
    ∀ p ∈ [(Instr.ldh t r ra m, 2), (Instr.ldhu t r ra m, 2), (Instr.ldw t r ra m, 4), (Instr.sth t r ra m, 2),
           (Instr.stw t r ra m, 4)],
      s.issue t p.1 [r, ra] = some k → (s.gpr t k ra + m.signExtend 32).toNat % p.2 ≠ 0 →
      Completes p.1 s fun u => Logs s u 0x3211 (locTile t k 0xFF) ∧
        u.reg .TIL_FAULT (8 * t + k) = 1 + 0x3211 * 2 ^ 16 + s.pc t k * 2 ^ 32 ∧ u.store = s.store ∧ u.written = s.written ∧
        ∀ o ∈ (u.tile t).outst, ∃ o' ∈ (s.tile t).outst, o.tag = o'.tag

/-- A REGISTER_WRITE of a whole register that the view reaches, on a floor that is not fenced, and whose write has no effect but
the store (the registers listed have one), sets each RW bit to the value written, clears each W1C bit written 1, sets each
W1S bit written 1 and leaves every other bit; every other register element and everything else stay (R15, R17, R18). A write
that the view may not make, or on a fenced floor, changes nothing (R41, R314). Rests on R15, R17, R18, R41, R314. -/
def Obligations.PlainRegisterWrites : Prop :=
  ∀ (s : State) (view : ViewNo) (a : LocalAddr) (v : DWord) (r : Reg) (i : Nat), Canon s → regAt a.toNat = some (r, i, false) →
    isRegSpace a.toNat = true → (nodeOf a.toNat).isSome = true → a.toNat % (if r.info.wide then 8 else 4) = 0 →
    ((unitReached view (s.owns view) a.toNat true = true → s.unitOff a.toNat = false →
      r ∉ [Reg.DEV_FAULT, .DEV_SYSCFG, .CMD_CBASE, .CMD_RBASE, .CMD_CFG, .CMD_DB, .ECC_SCRUB, .ECC_FLIP_CTL, .LOG_TAIL, .GRV_PCAP,
        .ALK_CTL, .TMB_CTL, .TMB_PPS_OFS, .TMB_BPER, .TMB_BPHS, .TMB_BDL, .TMB_BCTL, .RAK_LANE, .RAK_PORT, .RAK_SAFEW, .TRP_PINCTL,
        .TRP_HOSTWD, .TRP_HOSTKICK, .TRP_LINE_CFG, .TRP_GBANK, .TRP_VLINK, .TRP_LINKOUT, .TRP_MASK, .NOC_DRAIN_TO, .NOC_STAT_CTL,
        .NOC_GRT_CTL, .NOC_RT, .NOC_GRT, .FIO_MCLK, .FIO_SD, .FIO_SDTH, .FIO_ADCCFG, .FIO_ADCCNV, .FIO_ENCCFG, .FIO_ENCTIM, .FIO_GOUT,
        .FIO_CAR, .FIO_VLCFG, .FIO_GPIO, .QUE_CFG, .QUE_WM_HIGH, .QUE_WM_LOW, .SCH_CFG, .SCH_FLOW, .TIL_KPAIR] →
      Completes (.registerWrite view a r.info.wide v) s fun u =>
        (∀ b, b < (if r.info.wide then 64 else 32) → bit (u.reg r i) b =
          if bit r.info.rw b then v.getLsbD b
          else if bit r.info.w1c b && v.getLsbD b then false
          else if bit r.info.w1s b && v.getLsbD b then true else bit (s.reg r i) b) ∧
        (∀ r' i', Reg.addr r' i' ≠ Reg.addr r i → u.reg r' i' = s.reg r' i') ∧ u = { s with regs := u.regs }) ∧
     (unitReached view (s.owns view) a.toNat true = false ∨ s.unitOff a.toNat = true →
      Completes (.registerWrite view a r.info.wide v) s fun u => u = s))

/-- The first and the last element of every register name stand at their address of the register table and nowhere else is found
for it (R42), 64-bit ones at addresses aligned to 8. Rests on R42, R18. -/
def Obligations.RegisterMap : Prop :=
  ∀ r ∈ Reg.all, ∀ i ∈ [0, r.count - 1], regAt (r.addr i) = some (r, i, false) ∧ isRegSpace (r.addr i) = true ∧
    (nodeOf (r.addr i)).isSome = true ∧ r.addr i % (if r.info.wide then 8 else 4) = 0

/-- REG_READ of 1 to 252 words and REG_WRITE of 1 to 250 words over a range that R457 allows, of registers that the acting view
reaches on floors that are not fenced, reply OK: REG_READ with the values read in ascending order, for one 32-bit register
its current value, RCL fields cleared by the read (R15); REG_WRITE after one write of each unit in ascending order. A
register the view does not reach gives NO_PRIV, one on a fenced floor DOMAIN_OFF. Rests on R456, R457, R15, R460. -/
def Obligations.RegisterCommands : Prop :=
  ∀ (s : State) (c : Cmd) (a : Nat), Canon s →
    (∀ n, 1 ≤ n → n ≤ 252 → rangeBad a n = none → Accepted s c 0xC001 (leBytes 5 a ++ leBytes 2 n) true →
      let l := (List.range n).map (a + 4 * ·)
      ((l.all fun x => unitReached c.view (s.cmdOwns c) x false) = true → l.any s.unitOff = false →
        Completes (.regRead c a n) s fun u => Replies s u c 0xC001 stOk ((s.unfetch c).readUnits (regUnits a n)).1 ∧
          ∀ r i, n = 1 → regAt a = some (r, i, false) → r.info.wide = false →
            Replies s u c 0xC001 stOk (leBytes 4 (Nat.land ((s.unfetch c).regView r i) 0xFFFFFFFF)) ∧
            (∀ b, b < 32 → bit r.info.rcl b = true → bit (u.reg r i) b = false) ∧
            (r.info.rcl = 0 → OnlyAnswers s u)) ∧
      ((l.all fun x => unitReached c.view (s.cmdOwns c) x false) = false →
        Completes (.regRead c a n) s fun u => Replies s u c 0xC001 stNoPriv [] ∧ OnlyAnswers s u) ∧
      ((l.all fun x => unitReached c.view (s.cmdOwns c) x false) = true → l.any s.unitOff = true →
        Completes (.regRead c a n) s fun u => Replies s u c 0xC001 stDomainOff [] ∧ OnlyAnswers s u)) ∧
    ∀ data : List Word, 1 ≤ data.length → data.length ≤ 250 → rangeBad a data.length = none →
      Accepted s c 0xC002 (leBytes 5 a ++ leBytes 2 data.length ++ leBytes 1 0 ++ data.flatMap fun w => leBytes 4 w.toNat) true →
      let l := (List.range data.length).map (a + 4 * ·)
      (l.all fun x => unitReached c.view (s.cmdOwns c) x true) = true → l.any s.unitOff = false →
        Completes (.regWrite c a 0 data) s fun u =>
          u = ((s.unfetch c).writeUnits c.view a (regUnits a data.length) data).reply c 0xC002 stOk []

/-- A switch on its way to a tile on a floor that runs, no guard slot active or pending, the tile not stopped, makes its slot
the ACTIVE one, a new activation at its image's entry point, and leaves the slot that ran SUSPENDED as preempted.
GUARD_CAUSE_DELIVER of a notice under way sets the cause's bit and, for an enabled guard slot that is not FAULTED in a tile
not stopped, makes the guard pending. GUARD_ENTRY of a guard that may enter makes its slot ACTIVE, an IDLE one at its entry
point, takes its pending mark and suspends and records the slot that ran as the return slot. Rests on R120, R121, R122,
R123, R124, R125, R126, R118. -/
def Obligations.ContextSwitches : Prop :=
  ∀ (s : State) (t : TileNo), Canon s →
    (∀ r : SwitchReq, (s.tile t).switchReq = some r → r.slot < 8 → s.floorRuns (t / 16) = true → s.guardBusy t = false →
      s.flag ctxStop t = false → Completes (.schedSwitch t) s fun u =>
        u.active t = some r.slot ∧ u.sstate t r.slot = stActive ∧ (u.tile t).switchReq = none ∧
        (r.new_ = true → u.pc t r.slot = (s.slot t r.slot).entry ∧ (u.slot t r.slot).task = some r.task) ∧
        (∀ a, s.active t = some a → a ≠ r.slot → u.sstate t a = stSuspended ∧ (u.slot t a).susp = .preempted) ∧
        ∀ x, u.gpr t r.slot x = s.gpr t r.slot x) ∧
    (∀ (cause : Fin 16) (g : Fin 2) (n : Nat × Nat × Nat),
      (s.notices.find? fun n => n.1 = t.val ∧ n.2.1 = cause.val ∧ s.noticeGuard n = some g.val) = some n →
      Completes (.guardCauseDeliver t cause g) s fun u =>
        u.notices = s.notices.erase n ∧ bit (u.reg .TIL_GCAUSE (2 * t + g)) cause = true ∧
        (s.flag ctxStop t = false → ∀ k, s.guardSlot t g = some k → s.sstate t k ≠ stFaulted → u.pendOf t g = true) ∧
        u = { s with notices := u.notices, regs := u.regs }) ∧
    (∀ (g : Fin 2) (k : Nat), s.guardSlot t g = some k → s.mayEnter t g k = true → s.active t ≠ some k →
      Completes (.guardEntry t g) s fun u =>
        u.active t = some k ∧ u.sstate t k = stActive ∧ u.pendOf t g = false ∧ u.retOf t g = s.active t ∧
        u.pc t k = (if s.sstate t k = stIdle then (s.slot t k).entry else s.pc t k) ∧
        (∀ a, s.active t = some a → u.sstate t a = stSuspended) ∧ ∀ x, u.gpr t k x = s.gpr t k x)

/-- SPILL_WRITE_COMPLETE frees the line buffer that held a spilled frame. LEES_FILL_COMPLETE of a running slot whose frame reads
without an uncorrectable byte ends the RET: the caller's frame with the returning f0 to f7 in its f8 to f15, the program
counter at the return address, SPILLED lower by 1. SLOT_RESET of a FAULTED, STOPPED or IDLE slot replies OK: the slot is
IDLE at its entry point with every register 0, one frame in hardware, none spilled and no fault record; a slot in any other
state gives BUSY and nothing changes. Rests on R134, R138, R139, R141, R131, R150. -/
def Obligations.SpillsFillsAndSlotReset : Prop :=
  ∀ (s : State) (t : TileNo), Canon s →
    (∀ b : LineBuf, (s.tile t).lineBuf = some b → b.spill = true → Completes (.spillWriteComplete t) s fun u =>
      (u.tile t).lineBuf = none ∧ u.slots = s.slots ∧ u.regs = (if s.flag flipArm 0 then u.regs else s.regs)) ∧
    (∀ k, (s.tile t).fillWait = some k → s.runs t k = true → (s.tile t).lineBuf.any (·.spill) = false →
      let a := s.spillAt t k (s.fld leesSpilled (8 * t + k) - 1)
      ((s.peekN t a 64).any (·.2)) = false → k < 8 → 0 < s.fld leesSpilled (8 * t + k) →
      Completes (.leesFillComplete t) s fun u =>
        (u.slot t k).frames = returnTo ((s.slot t k).frames.headD []) (frameOf ((s.peekN t a 64).map (·.1))) ::
          (s.slot t k).frames.drop 1 ∧
        u.pc t k = (s.slot t k).retPending.getD (s.pc t k) ∧ (u.slot t k).retPending = none ∧ (u.tile t).fillWait = none ∧
        u.fld leesSpilled (8 * t + k) = s.fld leesSpilled (8 * t + k) - 1) ∧
    (∀ (c : Cmd) (k : Nat), k < 8 → Accepted s c 0x1004 (leBytes 2 t ++ leBytes 1 k) false →
      (s.slotResettable t k = true → Completes (.slotReset c t k) s fun u =>
        Replies s u c 0x1004 stOk [] ∧ u.sstate t k = stIdle ∧ u.pc t k = (s.slot t k).entry ∧ (∀ x, u.gpr t k x = 0#32) ∧
        u.fld leesHdepth (8 * t + k) = 1 ∧ u.fld leesSpilled (8 * t + k) = 0 ∧ u.reg .TIL_FAULT (8 * t + k) = 0 ∧
        (u.slot t k).task = none) ∧
      (s.slotResettable t k = false → Completes (.slotReset c t k) s fun u => Replies s u c 0x1004 stBusy [] ∧ OnlyAnswers s u))

/-- A token that one routing stage alone reads, the stage being free and running, moves there by WIRE_TOKEN_TRANSFER, across a
tile boundary by BOUNDARY_TOKEN_RELEASE, onto an express lane by EXPRESS_INJECT, and nothing else changes. BRIDGE_SEND with
fewer than four words outstanding takes the word its lane offers and sends one posted packet with it, its poison, floor and
port of its record. BRIDGE_RECEIVE on an OPEN floor whose lanes read the port drives the word there and takes the packet.
Rests on R84, R95, R99, R101, R105, R107, R108. -/
def Obligations.TokensMoveAlongWires : Prop :=
  ∀ (s : State), Canon s →
    (∀ (w : Wire) (k : SlotNo) (x : Wire) (kx : Nat) (tok : Tok), s.stageReaders w (wireSlot w k) = [(x, kx)] →
      (wireTile x).isSome = true → CanMove s w (wireSlot w k) x kx tok →
      Completes (.wireTokenTransfer w k) s fun u => Moved s u w (wireSlot w k) x kx tok) ∧
    (∀ (w : Wire) (k : SlotNo) (far : TileNo) (x : Wire) (kx : Nat) (tok : Tok), s.stageReaders w k = [(x, kx)] →
      wireTile x = some far.val → CanMove s w k x kx tok →
      Completes (.boundaryTokenRelease w k far) s fun u => Moved s u w k x kx tok) ∧
    (∀ (f : FloorNo) (e : Fin 4) (l : Fin 16) (p : Fin 4) (w : Wire) (tok : Tok),
      s.stageSource 0 (.lane f e l p) = some w → CanMove s w (s.stageSlot 0 (.lane f e l p)) (.lane f e l p) 0 tok →
      Completes (.expressInject f e l p) s fun u => Moved s u w (s.stageSlot 0 (.lane f e l p)) (.lane f e l p) 0 tok) ∧
    (∀ (f : FloorNo) (n : Fin 16) (w : Wire) (tok : Tok), portLane f (s.bsRec f n) = some w → s.offered w 0 (.bs f n) = some tok →
      tget 0 (s.floor f).bsCredit n < 4 → Completes (.bridgeSend f n) s fun u =>
        (∃ x, u.net = s.net ++ [x] ∧ x.op = .bridge ∧ x.dest = bits (s.bsRec f n) 54 49 ∧ x.addr = bits (s.bsRec f n) 48 41 ∧
          x.data = (leBytes 4 tok.v.toNat).map some ∧ x.psn = b2n tok.psn) ∧
        (twf 0 (s.floor f).bsCredit = true → tget 0 (u.floor f).bsCredit n = tget 0 (s.floor f).bsCredit n + 1) ∧
        u.offered w 0 (.bs f n) = none) ∧
    (∀ p : Pkt, s.arrived p = true → p.op = .bridge → p.dest < 32 → s.floorOpen p.dest = true → p.addr < 16 →
      bit (s.popRec p.dest p.addr) 63 = false →
      let w := Wire.brecv (Fin.ofNat 32 p.dest) (Fin.ofNat 16 p.addr)
      s.stageReaders w 0 ≠ [] → s.held w 0 = none → Completes (.bridgeReceive p) s fun u =>
        u.held w 0 = some { tok := ⟨BitVec.ofNat 32 (leNat (p.data.map (·.getD 0#8))), p.psn % 2 = 1⟩, served := [] } ∧
        u.net = s.net.erase p)

/-- A cell of the running slot whose operand set is complete accepts it behind those it holds, its latch and history as before,
and none of the ports it reads is offered that token again (R47). CELL_RESULT_EMIT of a cell with EMODE 0 that is no pair
leaves the computed word in the latch and offers it on Y, and P under PINV when PEN = 1; with EMODE 1 and E = 0 it emits
nothing and its latch and history stay (R52). Rests on R47, R48, R52. -/
def Obligations.CellsFireAndEmit : Prop :=
  ∀ (s : State) (t : TileNo) (c : CellNo), Canon s →
    (∀ (k : Nat) (o : OpSet), s.active t = some k → s.runs t k = true → s.fireSet t k c = some o →
      Completes (.cellFire t c) s fun u =>
        u.cell t k c = { s.cell t k c with ops := (s.cell t k c).ops ++ [o] } ∧
        (∀ p ∈ firePorts (decodeCfg (s.cellCfg t k c)), ∀ w, s.portWire k t c p = some w →
          u.offered w (wireSlot w k) (.port t c k p) = none) ∧
        u = { s with cells := u.cells, stages := u.stages }) ∧
    (∀ (k : SlotNo) (o : OpSet) (rest : List OpSet), (s.cell t k c).ops = o :: rest → s.fld nocState (t / 16) ≤ 1 →
      s.outFree t k c = true →
      let g := decodeCfg (s.cellCfg t k c)
      (g.emode = 0 → g.fmt ≠ fmtD → s.readers (.y t c) k ≠ [] → Completes (.cellResultEmit t c k) s fun u =>
        let r := (s.compute t k c g o (of32 (s.cell t k c).latch.v) (s.cell t k c).latch.psn (s.cell t k c).hist).1
        u.cell t k c = { latch := ⟨r.y.setWidth 32, r.psn⟩, hist := r.hist, ops := rest } ∧
        u.held (.y t c) k = some { tok := ⟨r.y.setWidth 32, r.psn⟩, served := [] } ∧
        (g.pen = true → s.readers (.p t c) k ≠ [] → ∃ h, u.held (.p t c) k = some h ∧
          h.tok.v = BitVec.ofNat 32 (b2n (r.p ^^ g.pinv)))) ∧
      (g.emode = 1 → o.e = false → Completes (.cellResultEmit t c k) s fun u =>
        u.cell t k c = { s.cell t k c with ops := rest } ∧ u = { s with cells := u.cells }))

/-- In .I without SAT, ADD, SUB, MUL, FMA and NEG wrap modulo 2^32; with SAT, ADD saturates to 0x7FFF_FFFF or 0x8000_0000, and
in .Q QADD saturates whatever SAT holds (R55, R56). The count of SHL, SHR, SAR, ROT, QSHL and QSHR is IMM5 when BSRC = 0b11
and B[4:0] otherwise, so B[31:5] never matters (R65). CMPLT gives all ones or zero by the condition under PINV, SEL2 the
word that E selects, COUNT wraps to 0 with P = 1 when it reaches a K0 other than 0 (R64 to R67). Rules: R65. -/
def Obligations.CellResults : Prop :=
  ∀ (s : State) (t k c : Nat) (g : CellCfg) (o : OpSet) (y0 : DWord) (p0 : Bool) (hist : List (DWord × Bool)),
    let y := (s.compute t k c g o y0 p0 hist).1.y.setWidth 32
    let p := (s.compute t k c g o y0 p0 hist).1.p
    let a := w32 o.a
    let b := w32 o.b
    (g.fmt = fmtI → g.sat = false →
      (g.opc = opAdd → y = a + b) ∧ (g.opc = opSub → y = a - b) ∧ (g.opc = opMul → y = a * b) ∧
      (g.opc = opFma → y = a * b + w32 o.c) ∧ (g.opc = opNeg → y = -a)) ∧
    ((g.fmt = fmtI ∧ g.sat = true ∧ g.opc = opAdd) ∨ (g.fmt = fmtQ ∧ g.opc = opQadd) →
      y.toInt = max (-2147483648) (min 2147483647 (a.toInt + b.toInt)) ∧
      (p = true ↔ y.toInt ≠ a.toInt + b.toInt)) ∧
    (let n : Nat := if g.bsrc = 3 then g.imm5 else b.toNat % 32;
      (g.opc = opShl → y = a <<< n) ∧ (g.opc = opShr → y = a >>> n) ∧ (g.opc = opSar → y = a.sshiftRight n) ∧
      (g.opc = opRot → y = a.rotateLeft n) ∧
      (g.fmt = fmtQ → g.opc = opQshl → y.toInt = max (-2147483648) (min 2147483647 (a.toInt * 2 ^ n))) ∧
      (g.fmt = fmtQ → g.opc = opQshr → y = BitVec.ofInt 32 (roundFix a.toInt n g.rnd)) ∧
      ∀ b' : DWord, (g.bsrc = 3 ∨ (w32 b').toNat % 32 = b.toNat % 32) →
        g.opc ∈ [opShl, opShr, opSar, opRot, opQshl, opQshr] →
        (s.compute t k c g { o with b := b' } y0 p0 hist).1.y = (s.compute t k c g o y0 p0 hist).1.y) ∧
    (g.fmt = fmtI ∨ g.fmt = fmtQ → g.opc = opCmplt →
      y = (if decide (a.toInt < b.toInt) ^^ g.pinv then 0xFFFFFFFF#32 else 0#32)) ∧
    (g.opc = opSel2 → y = if o.e then b else a) ∧
    (g.opc = opCount → g.fmt = fmtI → g.sat = false → g.csrc ≠ 0 →
      (w32 y0 + 1#32 = w32 o.k0 ∧ w32 o.k0 ≠ 0#32 → y = 0#32 ∧ p = true) ∧
      (¬ (w32 y0 + 1#32 = w32 o.k0 ∧ w32 o.k0 ≠ 0#32) → y = w32 y0 + 1#32 ∧ p = false))

/-- A task that is ARMED or FAULTED with PEND below 255 gains one pending activation: by TRIGGER_TQNE when TQNE is set and its
queue holds an uncredited item, by DELAY_EXPIRY when its entry heads the floor's delay list and has expired (the entry is
gone), by a PKT_SIGNAL that has arrived at its home floor when TSIG is set. A PKT_CANCEL that has arrived empties PEND and
leaves an ARMED or FAULTED task CANCELLED, a DRAINING one DRAINING. FLOW_RELEASE of a closed hole with the number NEXTREL
frees its entry and advances NEXTREL. Rests on R191, R208, R209, R216, R179, R218, R214, R215. -/
def Obligations.TriggersSignalsAndCancels : Prop :=
  ∀ (s : State), Canon s →
    (∀ k : TaskNo, (s.tf tkState k = 1 ∨ s.tf tkState k = 4) → s.tf tkPend k < 255 →
      (s.tf tkTqne k = 1 → 0 < s.uncredited (s.tqOf k) → Completes (.triggerTqne k) s fun u =>
        u.tf tkPend k = s.tf tkPend k + 1 ∧ u.uncredited (s.tqOf k) = s.uncredited (s.tqOf k) - 1) ∧
      (∀ (f : FloorNo) (e : Nat) (rest : List (Nat × DlyUser)), (s.floor f).delay = (e, .task k) :: rest → e ≤ s.tim.now →
        Completes (.delayExpiry f) s fun u => u.tf tkPend k = s.tf tkPend k + 1 ∧
          ((s.floor f).dlyWait = [] → (u.floor f).delay = rest)) ∧
      (∀ p : Pkt, s.arrived p = true → p.op = .signal → p.dest < 32 → s.fenced p = false → p.addr % 32768 = k →
        homeFloor k = p.dest → s.tf tkTsig k = 1 → Completes (.pktSignal p) s fun u =>
          u.tf tkPend k = s.tf tkPend k + 1 ∧ u.net = s.net.erase p)) ∧
    (∀ (k : TaskNo) (p : Pkt), s.arrived p = true → p.op = .cancel → p.dest < 32 → s.fenced p = false → p.addr % 32768 = k →
      homeFloor k = p.dest → (s.tf tkState k = 1 ∨ s.tf tkState k = 4 ∨ s.tf tkState k = 2) →
      Completes (.pktCancel p) s fun u => u.tf tkPend k = 0 ∧ u.tf tkState k = (if s.tf tkState k = 2 then 2 else 3) ∧
        u.reg .SCH_READY_LOST (homeFloor k) = min 0xFFFFFFFF (s.reg .SCH_READY_LOST (homeFloor k) + s.tf tkPend k)) ∧
    (∀ (f : FloorNo) (n : Fin 64) (e : SeqEnt),
      ((s.floor f).seq.find? fun e => e.flow == n.val && e.closed && e.num == some (s.fld flowRel (64 * f.val + n.val))) = some e →
      e.hole = true → Completes (.flowRelease f n) s fun u =>
        (u.floor f).seq = (s.floor f).seq.filter (· ≠ e) ∧
        u.fld flowInuse (64 * f.val + n.val) = s.fld flowInuse (64 * f.val + n.val) - 1 ∧
        u.fld flowRel (64 * f.val + n.val) = (s.fld flowRel (64 * f.val + n.val) + 1) % 65536 ∧ u.queues = s.queues)

/-- DISPATCH_DECISION on a floor not drained or off skips resume entries whose tile is not available. A new entry whose task has
no DISPATCH on its way, a place under R196 and, with a flow, a free sequence entry: on the home floor a switch to that tile
and slot is on its way, the slot belongs to the task, PEND falls and RUN and SCH_DISPATCH rise by 1, and the task remembers
the tile (R189, R196, R212); on another floor a DISPATCH request goes to it and the counts stay (R199). A resume entry whose
tile is available leaves the list and a switch to its slot is on its way. A DISPATCH request that finds the tile available
and its slot free is answered OK and the switch is on its way; one that finds the tile not available, or that no record
explains, is answered BUSY; its OK at the home floor counts the dispatch (R199). Rests on R189, R193, R194, R196, R199,
R212. -/
def Obligations.DispatchDecisions : Prop :=
  ∀ (s : State), Canon s →
    (∀ (f : FloorNo) (ahead rest : List (Nat × Ready)) (p : Nat), s.fld nocState f ≤ 1 →
      (∀ e ∈ ahead, ∃ t i, e.2 = .resume t i ∧ s.available t e.1 = false) →
      (∀ k t i, (s.floor f).ready = ahead ++ (p, .new k) :: rest → homeFloor k = f →
        (s.floor f).dispatches.any (·.task = k) = false → (s.tf tkFlowen k = 0 ∨ s.seqFree k = true) → s.place k = some (t, i) →
        (t / 16 = f → 0 < s.tf tkPend k → s.tf tkRun k < 15 → (s.task k).early = 0 → Completes (.dispatchDecision f) s fun u =>
          (∃ r, (u.tile t).switchReq = some r ∧ r.slot = i ∧ r.task = k ∧ r.new_ = true) ∧ (u.slot t i).task = some k ∧
          (s.tf tkFlowen k = 0 → (u.slot t i).flow = none) ∧
          (s.tf tkFlowen k = 1 → (u.slot t i).flow = some (s.floor f).nextSeqId ∧ ∃ e ∈ (u.floor f).seq,
            e.id = (s.floor f).nextSeqId ∧ e.flow = s.tf tkFlow k ∧ e.num = none ∧ e.closed = false) ∧
          u.tf tkPend k = s.tf tkPend k - 1 ∧ u.tf tkRun k = s.tf tkRun k + 1 ∧ u.tf tkLtv k = 1 ∧ u.tf tkLfloor k = t / 16 ∧
          u.tf tkLtile k = t % 16 ∧ u.reg .SCH_DISPATCH f = min 0xFFFFFFFF (s.reg .SCH_DISPATCH f + 1)) ∧
        (t / 16 ≠ f → (s.floor f).dispatches.length < 32 → Completes (.dispatchDecision f) s fun u =>
          (∃ x, u.net = s.net ++ [x] ∧ x.op = .dispatch ∧ x.dest = t / 16 ∧ x.addr = k ∧ x.src = 512 + f.val ∧
            ∃ d ∈ (u.floor f).dispatches, d.tag = x.tag ∧ d.task = k ∧ d.tile = t ∧ d.slot = i) ∧
          u.tasks = s.tasks ∧ u.slots = s.slots)) ∧
      (∀ t i, (s.floor f).ready = ahead ++ (p, .resume t i) :: rest → t / 16 = f → s.available t p = true →
        (s.slot t i).moving = false → Completes (.dispatchDecision f) s fun u =>
          (∃ r, (u.tile t).switchReq = some r ∧ r.slot = i ∧ r.new_ = false) ∧
          (u.floor f).ready = ((s.floor f).ready.filter (·.2 ≠ .resume t i)) ∧
          u.reg .SCH_DISPATCH f = min 0xFFFFFFFF (s.reg .SCH_DISPATCH f + 1))) ∧
    (∀ p : Pkt, s.arrived p = true → p.op = .dispatch → p.dest < 32 →
      (s.fenced p = true → Completes (.pktDispatch p) s fun u => Answers s u p stDomainOff 0 ∧ u = { s with net := u.net }) ∧
      (s.fenced p = false → p.data ≠ [] → Completes (.pktDispatch p) s fun u => Answers s u p stBadParam 0) ∧
      (s.fenced p = false → p.data = [] →
        (∀ d, s.dispatchOf p = some d →
          (s.available d.tile (s.tf tkPri d.task) = true → s.slotFree d.tile (s.tf tkImg d.task) d.slot = true →
            Completes (.pktDispatch p) s fun u => Answers s u p stOk 0 ∧
              (∃ r, (u.tile d.tile).switchReq = some r ∧ r.slot = d.slot ∧ r.task = d.task ∧ r.new_ = true) ∧
              (u.slot d.tile d.slot).task = some d.task ∧ (u.slot d.tile d.slot).flow = d.flow) ∧
          (s.available d.tile (s.tf tkPri d.task) = false → Completes (.pktDispatch p) s fun u =>
            Answers s u p stBusy 0 ∧ u = { s with net := u.net })) ∧
        (s.dispatchOf p = none → Completes (.pktDispatch p) s fun u =>
          Answers s u p stBusy 0 ∧ u = { s with net := u.net }))) ∧
    ∀ (p : Pkt) (f : FloorNo) (d : Dispatch), s.arrived p = true → p.op = .rsp → p.src = 512 + f.val → p.status = stOk →
      (s.floor f).dispatches.find? (·.tag == p.tag) = some d → d.lost = false → 0 < s.tf tkPend d.task → s.tf tkRun d.task < 15 →
      (s.task d.task).early = 0 → homeFloor d.task = f → Completes (.responseArrival p) s fun u => u.net = s.net.erase p ∧
        u.tf tkPend d.task = s.tf tkPend d.task - 1 ∧ u.tf tkRun d.task = s.tf tkRun d.task + 1 ∧
        u.tf tkLfloor d.task = d.tile / 16 ∧ u.tf tkLtile d.task = d.tile % 16 ∧
        u.reg .SCH_DISPATCH f = min 0xFFFFFFFF (s.reg .SCH_DISPATCH f + 1)

/-- TASK_DESC_WRITE by an owner on an OPEN floor stores each byte of W0 to W3 of a DISABLED task under the writable bits, and on
a task that is not DISABLED stores nothing, counts and raises 0x3103 (R189). On a task that the acting view owns and whose
floor is OPEN: TASK_ARM of a sound and owned descriptor that is DISABLED, CANCELLED or FAULTED makes it ARMED, without TQNE
with no pending activation unless KEEP is 1; TASK_SIGNAL of n adds n activations to an ARMED or FAULTED task with TSIG while
PEND stays at most 255; TASK_CANCEL empties PEND; TASK_STATUS returns W4 to W7 and changes nothing. Each replies OK. Rests
on R189, R192, R222, R218. -/
def Obligations.TaskCommands : Prop :=
  ∀ (s : State), Canon s →
    (∀ (view : ViewNo) (k : TaskNo) (off : Fin 64) (data : List Byte), s.owns view 2 k = true → s.floorOpen (homeFloor k) = true →
      (s.tf tkState k = 0 → Completes (.taskDescWrite view k off data) s fun u =>
        (∀ j b, data[j]? = some b → off.val + j < 32 →
          bits ((u.task k).w.getD ((off.val + j) / 8) 0#64).toNat (8 * ((off.val + j) % 8) + 7) (8 * ((off.val + j) % 8)) =
            Nat.land b.toNat (descMask ((off.val + j) / 8) / 2 ^ (8 * ((off.val + j) % 8)) % 256)) ∧
        u = { s with tasks := u.tasks } ∧ ∀ k', k' ≠ k → u.task k' = s.task k') ∧
      (s.tf tkState k ≠ 0 → data ≠ [] → off.val < 32 → Completes (.taskDescWrite view k off data) s fun u =>
        u.tasks = s.tasks ∧ Logs s u 0x3103 k ∧
        u.reg .SCH_DESC_REJ (homeFloor k) = min 0xFFFFFFFF (s.reg .SCH_DESC_REJ (homeFloor k) + 1))) ∧
    ∀ (c : Cmd) (k : Nat), k ≤ 32767 → s.cmdOwns c 2 k = true → s.floorOpen (homeFloor k) = true →
      (∀ keep, keep ≤ 1 → Accepted s c 0x2001 (leBytes 2 k ++ leBytes 1 keep) true → s.descBad k = false →
        s.descOwned c.view k = true → s.tf tkState k ≠ 2 → s.tf tkState k ≠ 1 → Completes (.taskArm c k keep) s fun u =>
          Replies s u c 0x2001 stOk [] ∧ u.tf tkState k = 1 ∧
          (s.tf tkTqne k = 0 → u.tf tkPend k = if keep = 1 then s.tf tkPend k else 0)) ∧
      (∀ n, 1 ≤ n → n ≤ 255 → Accepted s c 0x2002 (leBytes 2 k ++ leBytes 1 n) true → s.tf tkTsig k = 1 →
        (s.tf tkState k = 1 ∨ s.tf tkState k = 4) → s.tf tkPend k + n ≤ 255 → Completes (.taskSignal c k n) s fun u =>
          Replies s u c 0x2002 stOk [] ∧ u.tf tkPend k = s.tf tkPend k + n) ∧
      (Accepted s c 0x2003 (leBytes 2 k) true → (s.tf tkState k = 1 ∨ s.tf tkState k = 4 ∨ s.tf tkState k = 2) →
        Completes (.taskCancel c k) s fun u =>
          Replies s u c 0x2003 stOk [] ∧ u.tf tkPend k = 0 ∧ u.tf tkState k = (if s.tf tkState k = 2 then 2 else 3)) ∧
      (Accepted s c 0x2005 (leBytes 2 k) true → Completes (.taskStatus c k) s fun u =>
        Replies s u c 0x2005 stOk (((s.task k).w.drop 4).flatMap fun w => leBytes 8 w.toNat) ∧ OnlyAnswers s u)

/-- TASK_DISABLE DRAIN of a task that is not DISABLED makes it DRAINING and waits; TASK_DRAIN_DONE of a DRAINING task with
nothing pending or running makes it DISABLED and answers every command that waited OK; TASK_DISABLE ABORT with no drain
pending leaves it DISABLED with nothing pending and replies OK at once; either on a DISABLED task replies OK and changes
nothing. DISABLE_DRAIN_TIMEOUT of a drain past its deadline answers TIMEOUT, and the object goes on draining (R221). Rests
on R221, R190. -/
def Obligations.TasksDrainAndAbort : Prop :=
  ∀ (s : State), Canon s →
    (∀ (c : Cmd) (k timeout : Nat), k ≤ 32767 → s.cmdOwns c 2 k = true → s.floorOpen (homeFloor k) = true →
      (Accepted s c 0x2004 (leBytes 2 k ++ leBytes 1 0 ++ leBytes 2 timeout) true →
        (s.tf tkState k ≠ 0 → Completes (.taskDisableDrain c k timeout) s fun u =>
          WaitsFor s u c 0x2004 (.taskDrain k) timeout ∧ u.tf tkState k = 2) ∧
        (s.tf tkState k = 0 → Completes (.taskDisableDrain c k timeout) s fun u =>
          Replies s u c 0x2004 stOk [] ∧ OnlyAnswers s u)) ∧
      (Accepted s c 0x2004 (leBytes 2 k ++ leBytes 1 1 ++ leBytes 2 timeout) true → c.pack = false →
        s.waitsFor (.taskDrain k) = false →
        (s.tf tkState k ≠ 0 → Completes (.taskDisableAbort c k timeout) s fun u =>
          Replies s u c 0x2004 stOk [] ∧ u.tf tkState k = 0 ∧ u.tf tkPend k = 0) ∧
        (s.tf tkState k = 0 → Completes (.taskDisableAbort c k timeout) s fun u =>
          Replies s u c 0x2004 stOk [] ∧ OnlyAnswers s u))) ∧
    (∀ k : TaskNo, s.tf tkState k = 2 → s.tf tkPend k = 0 → s.tf tkRun k = 0 → Completes (.taskDrainDone k) s fun u =>
      Finishes s u (.taskDrain k) stOk [] ∧ u.tf tkState k = 0) ∧
    (∀ (ring : ViewNo) (tag : Word) (x : InProg) (d : Nat),
      s.cmds.find? (fun y => decide (y.cmd.ring = ring ∧ y.cmd.tag = tag)) = some x → s.cmds.filter (fun y => y.wait = x.wait) = [x] →
      ((∃ k, x.wait ∈ [CmdWait.taskDrain k, .batchDrain k, .queueDrain k, .floorOff k, .portDrain k, .linkDrain k]) ∨
        ∃ f n, x.wait ∈ [CmdWait.laneDrain f n, .streamDrain f n]) →
      x.deadline = some d → d ≤ s.tim.clk → x.cmd.remote = 0 → s.orphans.contains x.cmd = false →
      Completes (.disableDrainTimeout ring tag) s fun u => u.cmds = s.cmds.filter (fun y => y.wait ≠ x.wait) ∧
        Replies s u x.cmd x.op stTimeout [] ∧ u.waitsFor x.wait = true ∧
        u = { s with replies := u.replies, cmds := u.cmds, drains := u.drains })

/-- STEP_START of an enabled batch whose next step has come, device time running, advances TMB_BNEXT by the period, remembers
the step, and sends a step event to each of the 32 floors. A PKT_STEP that has arrived, no freeze waiting for it, gives each
ARMED member of the floor (with OVR each idle one) one activation. BATCH_DEADLINE_CHECK at the deadline counts an overrun
and raises 0x3301 exactly when a member is pending or running. BATCH_ENABLE and a write of EN = 1 enable a disabled batch
whose period, phase and deadline R203 allows, else set ERR; BATCH_DISABLE and a write of EN = 0 stop it. Rests on R202,
R203, R204, R206, R221, R222. -/
def Obligations.BatchesStep : Prop :=
  ∀ (s : State) (b : BatchNo), Canon s →
    (s.tim.running = true → s.flag bctlEn b = true → s.reg .TMB_BNEXT b ≤ s.tim.now →
      s.reg .TMB_BNEXT b + s.reg .TMB_BPER b < 2 ^ 64 → Completes (.stepStart b) s fun u =>
        u.reg .TMB_BNEXT b = s.reg .TMB_BNEXT b + s.reg .TMB_BPER b ∧ (u.batch b).step = some (s.reg .TMB_BNEXT b) ∧
        ∀ f, f < 32 → ∃ x ∈ u.net, x.op = .step ∧ x.dest = f ∧ x.addr = b) ∧
    (∀ (p : Pkt) (k : TaskNo), s.arrived p = true → p.op = .step → p.dest < 32 → s.freezeFirst p = false → s.fenced p = false →
      k.val ∈ s.members p.addr → homeFloor k = p.dest → s.tf tkState k = 1 → s.tf tkPend k < 255 →
      Completes (.pktStep p) s fun u => u.net = s.net.erase p ∧
        u.tf tkPend k = (if s.flag bctlOvr p.addr = true ∧ (s.tf tkPend k ≠ 0 ∨ s.tf tkRun k ≠ 0) then s.tf tkPend k
          else s.tf tkPend k + 1)) ∧
    (∀ t, s.flag bctlEn b = true → (s.batch b).step = some t → t + s.reg .TMB_BDL b ≤ s.tim.now →
      Completes (.batchDeadlineCheck b) s fun u => (u.batch b).step = none ∧
        ((∀ k ∈ s.members b, s.tf tkPend k = 0 ∧ s.tf tkRun k = 0) → u.logQ = s.logQ ∧ u.regs = s.regs) ∧
        ((∃ k ∈ s.members b, s.tf tkPend k ≠ 0 ∨ s.tf tkRun k ≠ 0) → Logs s u 0x3301 b ∧
          u.fld ⟨.TMB_BOVR, 15, 0⟩ b = min 65535 (s.fld ⟨.TMB_BOVR, 15, 0⟩ b + 1))) ∧
    (∀ (c : Cmd), Accepted s c 0x2006 (leBytes 1 b) true → s.cmdOwns c 3 b = true → s.waitsFor (.batchDrain b) = false →
      s.flag bctlEn b = false →
      (s.batchRefused b = false → Completes (.batchEnable c b) s fun u => Replies s u c 0x2006 stOk [] ∧ u.flag bctlEn b = true ∧
        u.flag bctlErr b = false ∧
        u.reg .TMB_BNEXT b = firstAt (s.tim.now + 1000) (s.reg .TMB_BPER b) (s.reg .TMB_BPHS b) % 2 ^ 64) ∧
      (s.batchRefused b = true → Completes (.batchEnable c b) s fun u => Replies s u c 0x2006 stBadParam [0#8, 0#8] ∧
        u.flag bctlEn b = false ∧ u.flag bctlErr b = true)) ∧
    (∀ (c : Cmd) (timeout : Nat), s.cmdOwns c 3 b = true → s.flag bctlEn b = true →
      (Accepted s c 0x2007 (leBytes 1 b ++ leBytes 1 0 ++ leBytes 2 timeout) true →
        Completes (.batchDisableDrain c b timeout) s fun u => WaitsFor s u c 0x2007 (.batchDrain b) timeout ∧
          u.flag bctlEn b = false ∧ u.reg .TMB_BNEXT b = 0 ∧ (u.batch b).step = none) ∧
      (Accepted s c 0x2007 (leBytes 1 b ++ leBytes 1 1 ++ leBytes 2 timeout) true → c.pack = false →
        s.waitsFor (.batchDrain b) = false → Completes (.batchDisableAbort c b timeout) s fun u =>
          Replies s u c 0x2007 stOk [] ∧ u.flag bctlEn b = false ∧
          ∀ k ∈ s.members b, s.tf tkState k = 1 → u.tf tkState k = 3 ∧ u.tf tkPend k = 0)) ∧
    (s.waitsFor (.batchDrain b) = true → s.batchIdle b = true → Completes (.batchDrainDone b) s fun u =>
      Finishes s u (.batchDrain b) stOk []) ∧
    (∀ (view : ViewNo) (v : Word), s.owns view 3 b = true →
      (v.getLsbD 31 = true → s.flag bctlEn b = false → s.batchRefused b = false → Completes (.tmbBctlEnSet view b v) s fun u =>
        u.flag bctlEn b = true ∧ u.flag bctlErr b = false ∧ u.fld bctlRset b = bits v.toNat 23 16) ∧
      (v.getLsbD 31 = false → s.flag bctlEn b = true → Completes (.tmbBctlEnClear view b v) s fun u =>
        u.flag bctlEn b = false ∧ u.reg .TMB_BNEXT b = 0 ∧ u.fld bctlRset b = bits v.toNat 23 16))

/-- BANK_SWAP of a queue with an empty draining bank, whose filling bank holds words and a whole item, CUT words of one, or is
full, or whose output lock is held, gives consumers the words that were filling and changes nothing else (R238).
TRUNCATION_WORD_STORE of a waiting truncation word with room stores the word of R227 at the end of its item, among the
visible words or the staged ones, and releases the lock, which a producer to skip keeps; of an item being dropped the word
is discarded and counted. QUE_CFG with EN = 1 by the owner on an OPEN floor opens a DISABLED queue that R230 does not
refuse, empty; with EN = 0 an OPEN queue becomes DRAINING with its words kept. QUEUE_DRAIN_DONE of a queue that has drained
makes it DISABLED and answers the commands that waited. CMDPATH_LOCK_TIMEOUT after 1 ms ends the item of the command path
with a truncation word, frees the lock and raises 0x2203. Rests on R227, R229, R230, R238, R239, R241, R249, R255. -/
def Obligations.QueueEngineSteps : Prop :=
  ∀ (s : State) (q : QueueNo), Canon s →
    ((s.queue q).drain = [] → (s.queue q).fill ≠ [] →
      ((∃ e ∈ (s.queue q).fill, s.entEop q e = true) ∨ (s.queue q).olock ≠ none ∨
        (0 < s.fld queCut q ∧ s.fld queCut q ≤ s.openCount q (s.queue q).fill) ∨ s.bankSize q ≤ (s.queue q).fill.length) →
      Completes (.bankSwap q) s fun u =>
      (u.queue q).drain = (s.queue q).fill ∧ (u.queue q).words = (s.queue q).words ∧ ((s.queue q).rel = [] → (u.queue q).fill = []) ∧
        u = { s with queues := u.queues }) ∧
    (∀ a, (s.queue q).truncWait = true → s.qFull q = false → (s.queue q).ilock = some a →
      Completes (.truncationWordStore q) s fun u =>
        (u.queue q).truncWait = false ∧ (u.queue q).ilock = (if (s.queue q).skip then some a else none) ∧
        ((s.queue q).fl = none → (s.queue q).dropping = false → (u.queue q).level = (s.queue q).level ∧
          HoldsLast s u q (mkWord 0#32 false true true)) ∧
        (∀ i, (s.queue q).fl = some i → (u.queue q).level = (s.queue q).level ∧
          ∃ e, (u.queue q).staged = (s.queue q).staged ++ [(i, e)] ∧ u.entWord q e = mkWord 0#32 false true true) ∧
        ((s.queue q).fl = none → (s.queue q).dropping = true → (u.queue q).dropping = false ∧ (u.queue q).olock = none ∧
          u.reg .QUE_DROP_WORDS (q / 512) = min 0xFFFFFFFF (s.reg .QUE_DROP_WORDS (q / 512) + 1))) ∧
    (∀ (view : ViewNo) (v : DWord), s.owns view 1 q = true → s.floorOpen (q / 512) = true →
      (v.getLsbD 63 = true → s.fld queState q = 0 → (s.cfgFields view q v.toNat).enableRefused q = false →
        Completes (.queCfgEnableWrite view q v) s fun u => u.qOpen q = true ∧ u.queue q = .empty ∧
          u.fld queCut q = bits v.toNat 35 24 ∧ u.flag queErr q = false) ∧
      (v.getLsbD 63 = false → s.qOpen q = true → Completes (.queCfgDisableWrite view q v) s fun u =>
        u.qDraining q = true ∧ u.queues = s.queues)) ∧
    (s.drainReady q = true → Completes (.queueDrainDone q) s fun u =>
      Finishes s u (.queueDrain q) stOk [] ∧ u.fld queState q = 0 ∧ u.queue q = .empty) ∧
    (∀ v, (s.queue q).ilock = some (.cmdPath v) → (s.queue q).lastAcc + 1000000 ≤ s.tim.dev → (s.queue q).skip = false →
      (s.queue q).truncWait = false → (s.queue q).dropping = false → s.qFull q = false →
      Completes (.cmdpathLockTimeout q) s fun u => (u.queue q).ilock = none ∧ Logs s u 0x2203 q ∧
        HoldsLast s u q (mkWord 0#32 false true true))

/-- PUSH_PORT_STORE at the start of an item, its lane offering a word to the port and its queue open with room, stores that word
with SOP (and EOP when the item length is 1), valid parity and its poison, counts it within the item, and has taken the
token. POP_PORT_OFFER of a record that pops, its lanes free and read, drives the queue's sound head word onto them with its
poison and takes it from the queue (R258). Rests on R257, R258, R228. -/
def Obligations.FabricQueuePorts : Prop :=
  ∀ (s : State) (f : FloorNo) (n : Fin 16), Canon s →
    (∀ (w : Wire) (tok : Tok), portLane f (s.qiRec f n) = some w → s.offered w 0 (.qi f n) = some tok →
      tget 0 (s.floor f).qiCount n = 0 → CanPush s (512 * f.val + bits (s.qiRec f n) 54 46) →
      Completes (.pushPortStore f n) s fun u =>
        Stored s u (512 * f.val + bits (s.qiRec f n) 54 46) (mkWord tok.v true (decide (bits (s.qiRec f n) 45 34 = 0)) tok.psn) ∧
        u.offered w 0 (.qi f n) = none) ∧
    (∀ x : QWord, bit (s.popRec f n) 63 = true → s.held (.brecv f n) 0 = none → s.readers (.brecv f n) 0 ≠ [] →
      CanPop s (512 * f.val + bits (s.popRec f n) 62 54) (.popPort f n) x →
      Completes (.popPortOffer f n) s fun u =>
        u.held (.brecv f n) 0 = some { tok := ⟨x.data, x.psn⟩, served := [] } ∧
        (u.queue (512 * f.val + bits (s.popRec f n) 62 54)).drain = (s.queue (512 * f.val + bits (s.popRec f n) 62 54)).drain.tail)

/-- On a queue that the acting view owns, on an OPEN floor: QUEUE_PUSH of 1 to 200 words replies OK with the count accepted, and
of one word with SOP to a queue with room stores it with its tags; a queue that takes no new item gives BUSY. QUEUE_POP with
a sound poppable head word and n = 1 replies that word with its tags and takes it; with none poppable it replies EMPTY.
QUEUE_DROP by a path that holds no lock replies OK and changes nothing, and by one that holds it discards and counts the
rest of the item, giving up the lock where its end is stored. QUEUE_FLUSH replies the words discarded, counts them, and
leaves at most a truncation word. QUEUE_DISABLE drains or aborts (poisoning the words of a queue with no open item).
QUEUE_STATUS replies the descriptor and changes nothing. Rests on R242, R243, R246, R255, R259. -/
def Obligations.QueueCommands : Prop :=
  ∀ (s : State) (c : Cmd) (q : Nat), Canon s → q ≤ 16383 → s.cmdOwns c 1 q = true → s.floorOpen (q / 512) = true →
    (∀ (words : List Word) (tags : List Byte), 1 ≤ words.length → words.length ≤ 200 → tags.length = words.length →
      Accepted s c 0x3001 (pushParams q words tags) true →
      (s.noNewItem q (.cmdPath c.view) = false → Completes (.queuePush c q words tags) s fun u =>
        Replies s u c 0x3001 stOk (leBytes 2 ((s.unfetch c).pushWords q (.cmdPath c.view) (words.zip tags)).1) ∧
        ∀ w tag, words = [w] → tags = [tag] → tag.getLsbD 0 = true → CanPush s q →
          Replies s u c 0x3001 stOk [1#8, 0#8] ∧ Stored s u q (mkWord w true (tag.getLsbD 1) (tag.getLsbD 2))) ∧
      (s.noNewItem q (.cmdPath c.view) = true → Completes (.queuePush c q words tags) s fun u =>
        Replies s u c 0x3001 stBusy [] ∧ OnlyAnswers s u)) ∧
    (∀ n, 1 ≤ n → n ≤ 200 → Accepted s c 0x3002 (leBytes 2 q ++ leBytes 1 n) true →
      (∀ w, n = 1 → CanPop s q (.cmdPath c.view) w → Completes (.queuePop c q n) s fun u =>
        Replies s u c 0x3002 stOk ([1#8, 0#8] ++ leBytes 4 w.data.toNat ++
          [BitVec.ofNat 8 (b2n w.sop + 2 * b2n w.eop + 4 * b2n w.psn)]) ∧ (u.queue q).drain = (s.queue q).drain.tail) ∧
      (s.poppable q (.cmdPath c.view) = false → Completes (.queuePop c q n) s fun u =>
        Replies s u c 0x3002 stEmptyRd [] ∧ OnlyAnswers s u)) ∧
    (Accepted s c 0x3003 (leBytes 2 q) true →
      ((s.queue q).olock ≠ some (.cmdPath c.view) → Completes (.queueDrop c q) s fun u =>
        Replies s u c 0x3003 stOk [] ∧ OnlyAnswers s u) ∧
      ((s.queue q).olock = some (.cmdPath c.view) → (s.queue q).dropping = false →
        Completes (.queueDrop c q) s fun u => Replies s u c 0x3003 stOk [] ∧ DropsItem s u q)) ∧
    (Accepted s c 0x3004 (leBytes 2 q) true → Completes (.queueFlush c q) s fun u =>
      Replies s u c 0x3004 stOk (leBytes 4 (s.queue q).level) ∧ (u.queue q).level ≤ 1 ∧
      u.reg .QUE_DROP_WORDS (q / 512) = min 0xFFFFFFFF (s.reg .QUE_DROP_WORDS (q / 512) + (s.queue q).level)) ∧
    (∀ timeout, s.fld queState q ≠ 0 →
      (Accepted s c 0x3005 (leBytes 2 q ++ leBytes 1 0 ++ leBytes 2 timeout) true →
        Completes (.queueDisableDrain c q timeout) s fun u => WaitsFor s u c 0x3005 (.queueDrain q) timeout ∧
          (s.qOpen q = true → u.qDraining q = true)) ∧
      (Accepted s c 0x3005 (leBytes 2 q ++ leBytes 1 1 ++ leBytes 2 timeout) true → c.pack = false →
        s.waitsFor (.queueDrain q) = false → (s.queue q).ilock = none →
        Completes (.queueDisableAbort c q timeout) s fun u => Replies s u c 0x3005 stOk [] ∧ u.qDraining q = true ∧
          ∀ e ∈ (s.queue q).words, (u.entWord q e).psn = true)) ∧
    (Accepted s c 0x3006 (leBytes 2 q) true → Completes (.queueStatus c q) s fun u =>
      Replies s u c 0x3006 stOk (s.queDesc q) ∧ OnlyAnswers s u)

/-- The sort of R78 is a permutation of its keys; ascending, keys stand in the order of their format, descending in the reverse
of it, and keys that compare equal keep their input order. GRADER_JOB_START of an idle grader takes the lowest-numbered
ready job: BUSY is 1 and JOB names it. GRADER_JOB_DONE whose output words all find room ends it: the grader is idle, BUSY is
0, LASTN is the number of keys and GRD_DONE rises by 1 (R77 to R81). Rests on R77, R78, R80, R81. -/
def Obligations.GraderSortsAndJobs : Prop :=
  (∀ (fmt : Nat) (desc : Bool) (l : List GKey),
      (gradeSort fmt desc l).Perm l ∧
      (gradeSort fmt desc l).Pairwise (fun x y =>
        if desc then keyOrd fmt y.key ≤ keyOrd fmt x.key else keyOrd fmt x.key ≤ keyOrd fmt y.key) ∧
      ∀ n, (gradeSort fmt desc l).filter (fun x => keyOrd fmt x.key == n) = l.filter (fun x => keyOrd fmt x.key == n)) ∧
    ∀ (s : State) (f : FloorNo), Canon s →
      (∀ j, (s.floor f).grader = none → (List.range 4).find? (s.jobReady f) = some j → Completes (.graderJobStart f) s fun u =>
        u.flag grdBusy f = true ∧ u.fld grdJobNo f = j ∧ ∃ r, (u.floor f).grader = some r ∧ r.job = j ∧ r.keys ≤ 1024) ∧
      (∀ r, (s.floor f).grader = some r → (s.pushOut r.oq (.grader f r.job) r.out).1 = [] → r.keys < 2048 →
        Completes (.graderJobDone f) s fun u =>
          (u.floor f).grader = none ∧ u.flag grdBusy f = false ∧ u.fld grdLastn f = r.keys ∧
          u.reg .GRD_DONE f = min 0xFFFFFFFF (s.reg .GRD_DONE f + 1))

/-- An RD request that has arrived takes its place in the answers: one that a check of R295 refuses gives that status and
changes nothing else; of a tile store whose bytes read without error, a DAT packet with exactly those bytes, unpoisoned, and
no stored byte changes; of a register, its value; of a task table, the descriptor's bytes; of the host memory window, it
goes out on PCIe. Rests on R295, R297, R302, R268. -/
def Obligations.ReadPackets : Prop :=
  ∀ (s : State) (p : Pkt), Canon s → s.reqArrived p .rd = true →
    (∀ st, s.pktFault p false = some st → Completes (.pktRd p) s fun u => Answers s u p st 0 ∧ u = { s with net := u.net }) ∧
    (s.pktFault p false = none →
      (∀ t off, spaceOf p.addr = .store t off → cleanRead s t off (reqBytes p.size) → Completes (.pktRd p) s fun u =>
        (∃ x, u.net = s.net.erase p ++ [x] ∧ x.op = (if p.size = 4 then .datLine else .datShort) ∧ x.tag = p.tag ∧ x.src = p.src ∧
          x.data = (List.range (reqBytes p.size)).map (fun i => some (s.peek t (off + i)).1.data) ∧ x.psn = 0) ∧
        u.store = s.store ∧ u.written = s.written ∧ u.regs = s.regs) ∧
      (spaceOf p.addr = .regs → Completes (.pktRd p) s fun u => ∃ x, u.net = s.net.erase p ++ [x] ∧ x.op = .datShort ∧
        x.tag = p.tag ∧ x.src = p.src ∧
        x.data = (leBytes (reqBytes p.size) ((s.takePkt p).readUnit p.addr (reqBytes p.size == 8)).1).map some) ∧
      (∀ f off, spaceOf p.addr = .desc f off → Completes (.pktRd p) s fun u => u = { s with net := u.net } ∧
        ∃ x, u.net = s.net.erase p ++ [x] ∧ x.tag = p.tag ∧ x.src = p.src ∧
          x.data = (s.descBytes f off (reqBytes p.size)).map some) ∧
      (spaceOf p.addr = .host → Completes (.pktRd p) s fun u => u.hmw = s.hmw ++ [p] ∧ u.net = s.net.erase p))

/-- A WR request that passes the checks of R295, to a tile store no other tile shares, with no flip armed, is answered OK: each
enabled byte reads back as written, without error, or uncorrectable when its 4-byte word is poisoned (R299), and every other
byte of every store reads as before. A refused one gives its status and changes nothing else. A CFGWR line of the
configuration engine writes its 64 bytes to configuration frame space; any other initiator's is answered NO_PRIV and writes
nothing (R40). Rests on R40, R166, R295, R297, R299. -/
def Obligations.WritePackets : Prop :=
  ∀ (s : State) (p : Pkt), Canon s →
    (s.reqArrived p .wr = true →
      (∀ st, s.pktFault p true = some st → Completes (.pktWr p) s fun u => Answers s u p st 0 ∧ u = { s with net := u.net }) ∧
      ∀ t off, s.pktFault p true = none → spaceOf p.addr = .store t off → s.sharers = [] → s.flag flipArm 0 = false →
        Completes (.pktWr p) s fun u => Answers s u p stOk 0 ∧
          (∀ i b, p.data[i]? = some (some b) →
            (u.peek t (off + i)).1.data = b ∧ (u.peek t (off + i)).1.kind = if bit p.psn (i / 4) then 2 else 0) ∧
          (∀ t' off', off' < 0x80000 → (t' ≠ t ∨ ∀ i b, p.data[i]? = some (some b) → off' ≠ off + i) →
            (u.peek t' off').1.data = (s.peek t' off').1.data) ∧ u.regs = s.regs ∧ u.queues = s.queues ∧ u.cfs = s.cfs) ∧
    (s.reqArrived p .cfgwr = true →
      (p.src = 559 → p.size = 4 → p.data.length = 64 → p.addr % 64 = 0 → spaceOf p.addr = .frames →
        Completes (.pktCfgwr p) s fun u => Answers s u p stOk 0 ∧
          (∀ i b, p.data[i]? = some (some b) → u.cfsByte (p.addr + i) = b.toNat) ∧
          (∀ a, (a < p.addr ∨ p.addr + 64 ≤ a) → u.cfsByte a = s.cfsByte a) ∧ u.store = s.store) ∧
      (p.src ≠ 559 → s.fenced p = false → Completes (.pktCfgwr p) s fun u =>
        Answers s u p stNoPriv 0 ∧ u = { s with net := u.net }))

/-- On an OPEN floor, for a queue of that floor that the request's view owns, nothing parked: a QPUSH with SOP to a queue with
room stores its word and is answered OK; a QPOP of a sound poppable word is answered with that word and takes it; a QPOP
that cannot complete is parked when blocking and the park has room, answered EMPTY when not; a QDROP of an agent that holds
the output lock discards and counts the rest of the item, of one that holds none changes no queue, and each is answered OK;
a QLVL is answered with the level. The longest parked QPOP completes once its word is there, a QPUSH once it has room. Each
of the four is answered DOMAIN_OFF on a fenced floor, BAD_PARAM with a wrong length or floor, NO_PRIV without the queue
(R297, R304). Rests on R236, R243, R250, R297, R300, R304. -/
def Obligations.QueuePackets : Prop :=
  ∀ (s : State) (p : Pkt), Canon s →
    (∀ x ∈ [(Instr.pktQpush p, POp.qpush), (Instr.pktQpop p, POp.qpop), (Instr.pktQdrop p, POp.qdrop), (Instr.pktQlvl p, POp.qlvl)],
      s.queueArrived p x.2 = true →
        (s.fenced p = true → Completes x.1 s fun u => Answers s u p stDomainOff 0 ∧ u = { s with net := u.net }) ∧
        (s.fenced p = false → (lenOk p = false ∨ p.addr / 512 ≠ p.dest) → Completes x.1 s fun u =>
          Answers s u p stBadParam 0 ∧ u = { s with net := u.net }) ∧
        (s.fenced p = false → lenOk p = true → p.addr / 512 = p.dest → s.pktOwns p p.addr = false → Completes x.1 s fun u =>
          Answers s u p stNoPriv 0 ∧ u = { s with net := u.net })) ∧
    (p.dest < 32 → s.fenced p = false → lenOk p = true → p.addr / 512 = p.dest → s.pktOwns p p.addr = true →
      (s.floor p.dest).park = [] →
      (s.queueArrived p .qpush = true → CanPush s p.addr → p.sop = true → (p.src < 512 → s.stageOf p.src p.result p.addr = none) →
        Completes (.pktQpush p) s fun u => Answers s u p stOk 0 ∧
          Stored s u p.addr (mkWord (pktWord p) true p.eop (p.psn % 2 == 1))) ∧
      (s.queueArrived p .qpop = true →
        (∀ w, CanPop s p.addr (pktAgent p) w → Completes (.pktQpop p) s fun u =>
          (∃ x, u.net = s.net.erase p ++ [x] ∧ x.op = .popWord ∧ x.tag = p.tag ∧ x.src = p.src ∧
            x.data = (leBytes 4 w.data.toNat).map some ∧ x.sop = w.sop ∧ x.eop = w.eop ∧ x.psn = b2n w.psn) ∧
          (u.queue p.addr).drain = (s.queue p.addr).drain.tail) ∧
        (s.poppable p.addr (pktAgent p) = false → p.nb = false → Completes (.pktQpop p) s fun u =>
          (u.floor p.dest).park = [p] ∧ u.net = s.net.erase p ∧ u.queues = s.queues) ∧
        (s.poppable p.addr (pktAgent p) = false → p.nb = true → Completes (.pktQpop p) s fun u =>
          Answers s u p stEmptyRd 0 ∧ u = { s with net := u.net })) ∧
      (s.queueArrived p .qdrop = true →
        ((s.queue p.addr).olock = some (pktAgent p) → (s.queue p.addr).dropping = false → Completes (.pktQdrop p) s fun u =>
          Answers s u p stOk 0 ∧ DropsItem s u p.addr) ∧
        ((s.queue p.addr).olock ≠ some (pktAgent p) → Completes (.pktQdrop p) s fun u =>
          Answers s u p stOk 0 ∧ u = { s with net := u.net })) ∧
      (s.queueArrived p .qlvl = true → Completes (.pktQlvl p) s fun u =>
        Answers s u p stOk (s.queue p.addr).level ∧ u = { s with net := u.net })) ∧
    (∀ (f : FloorNo) (rest : List Pkt) (w : QWord), (s.floor f).park = p :: rest → p.op = .qpop → p.addr < 16384 →
      CanPop s p.addr (pktAgent p) w → Completes (.parkedRequestComplete f p) s fun u =>
        (u.floor f).park = rest ∧ (u.queue p.addr).drain = (s.queue p.addr).drain.tail ∧
        ∃ x, u.net = s.net ++ [x] ∧ x.op = .popWord ∧ x.tag = p.tag ∧ x.data = (leBytes 4 w.data.toNat).map some) ∧
    (∀ (f : FloorNo) (rest : List Pkt), (s.floor f).park = p :: rest → p.op = .qpush → p.addr < 16384 → CanPush s p.addr →
      p.sop = true → (p.src < 512 → s.stageOf p.src p.result p.addr = none) → Completes (.parkedRequestComplete f p) s fun u =>
        (u.floor f).park = rest ∧ Stored s u p.addr (mkWord (pktWord p) true p.eop (p.psn % 2 == 1)) ∧
        ∃ x, u.net = s.net ++ [x] ∧ x.op = .rsp ∧ x.status = stOk ∧ x.tag = p.tag ∧ x.src = p.src)

/-- SNP_INV that has arrived drops the tile's copy of the line and acknowledges to the owning tile. SNP_INV_ACK of the last
acknowledgement a write waits for answers that write OK. An answer that has arrived at a tile is taken by the request with
its tag: a QLVL's result enters its register; a load's data becomes its result, and returns later; an answer that nothing
waits for is discarded and counted (R315). A tile's request that a full park refused is made again with its tag (R304).
Rests on R166, R301, R303, R304, R315. -/
def Obligations.SnoopsAndAnswers : Prop :=
  ∀ (s : State) (p : Pkt), Canon s →
    (s.arrived p = true → p.op = .inv → p.dest < 32 → Completes (.snpInv p) s fun u =>
      (∀ c ∈ (u.tile (p.dest * 16 + p.result % 16)).dcache,
        c.addr ≠ (p.addr / 8192 * 0x80000 + p.addr % 8192 * 64) / 64 * 64) ∧
      ∃ x, u.net = s.net.erase p ++ [x] ∧ x.op = .invAck ∧ x.dest = p.src / 16 ∧ x.tag = p.tag ∧
        x.src = p.dest * 16 + p.result % 16) ∧
    (∀ w, s.arrived p = true → p.op = .invAck → p.dest < 32 → (s.tile (p.dest * 16 + p.result % 16)).wrWait = [([p.tag], w)] →
      Completes (.snpInvAck p) s fun u => (u.tile (p.dest * 16 + p.result % 16)).wrWait = [] ∧
        ∃ x, u.net = s.net.erase p ++ [x] ∧ x.op = .rsp ∧ x.status = stOk ∧ x.tag = w.tag ∧ x.src = w.src) ∧
    (s.arrived p = true → pktAnswer p = true → p.src < 512 →
      (∀ o, ((s.tile p.src).outst.find? fun o => o.tag == p.tag && !o.done) = some o →
        (o.kind = .qlvl → p.status = 0 → Completes (.responseArrival p) s fun u =>
          u.gpr p.src o.slot (Fin.ofNat 32 o.rd) = BitVec.ofNat 32 p.result ∧
          (∀ r, r ≠ Fin.ofNat 32 o.rd → u.gpr p.src o.slot r = s.gpr p.src o.slot r) ∧
          (∀ x ∈ (u.tile p.src).outst, x.tag ≠ o.tag) ∧ u.net = s.net.erase p) ∧
        (o.kind = .load → Completes (.responseArrival p) s fun u => u.slots = s.slots ∧ u.net = s.net.erase p ∧
          ∃ x ∈ (u.tile p.src).outst, x.tag = o.tag ∧ x.done = true ∧ x.status = p.status ∧ x.rd = o.rd ∧
            x.bits = extend o.size o.sext (dataNum p (if p.data.length = 64 then o.addr % 64 else 0) o.size))) ∧
      (((s.tile p.src).outst.find? fun o => o.tag == p.tag && !o.done) = none → Completes (.responseArrival p) s fun u =>
        u.net = s.net.erase p ∧ u.tiles = s.tiles ∧ u.slots = s.slots ∧
        u.reg .NOC_LATE_DROP 0 = min 0xFFFFFFFF (s.reg .NOC_LATE_DROP 0 + 1))) ∧
    (∀ (i : Fin 560) (tag : Nat) (o : Outst), i.val < 512 →
      ((s.tile i).outst.find? fun o => o.tag == tag && o.resend) = some o → Completes (.parkFullResend i tag) s fun u =>
        ∃ x, u.net = s.net ++ [x] ∧ x.tag = o.tag ∧ x.addr = o.queue ∧ x.dest = o.queue / 512 ∧ x.src = i.val ∧
          x.op = (if o.kind = .qpush then .qpush else .qpop))

/-- The next packet of its flow at a router, not leaving a fenced floor, takes the hop that the active table's entry for its
node and network names: to the next router, unless that is the powered-down floor it is for, or to its node. A head with an
uncorrectable error is dropped, counted and raises 0x4301. A request that finds no valid entry is answered NO_ROUTE at the
router; a word with bad parity arrives poisoned (R298, R306, R309). Rests on R298, R306, R309, R314. -/
def Obligations.RoutersForward : Prop :=
  ∀ (s : State) (p : Pkt) (bad : Nat), Canon s → p.local_ = false → p.router < 100 → s.isNext p = true →
    ((leaving p p.router = false ∨ s.floorOpen p.router = true) →
      (∀ r' (err : Fin 3), err ≠ 2 → hopOf s.activeBank p.router p.dest (pktNet p) = .router r' →
        ¬ (r' < 32 ∧ s.floorDown r' = true ∧ p.dest = r') → Completes (.routerForward p err bad) s fun u =>
          ∃ m, u.net = s.net.erase p ++ [{ p with router := r', psn := m }] ∧
            ∀ i, bit m i = (bit p.psn i || (decide (i < dataWords p) && bit bad i))) ∧
      (hopOf s.activeBank p.router p.dest (pktNet p) = .here → Completes (.routerForward p 0 0) s fun u =>
        u.net = s.net.erase p ++ [{ p with local_ := true }]) ∧
      (hopOf s.activeBank p.router p.dest (pktNet p) = .none → isRequest p = true → Completes (.routerForward p 0 0) s fun u =>
        Answers s u p stNoRoute 0)) ∧
    Completes (.routerForward p 2 bad) s fun u => u.net = s.net.erase p ∧ Logs s u 0x4301 p.router ∧
      u.reg .NOC_HDR_UE 0 = min 0xFFFFFFFF (s.reg .NOC_HDR_UE 0 + 1)

/-- ROUTE_PLAN of changes that R310 allows, with no plan or commit running, writes the additions into the inactive bank, waits
and starts the first commit. ROUTE_COMMIT of a sound inactive bank with ORDER = 0 swaps the banks and replies OK; with ORDER
= 1 it waits while injection stops; after 2 us the drain timeout swaps all the same with OOO set and the commands that
waited reply OK; its own timeout replies TIMEOUT and the commit goes on. ROUTE_READ returns the 64 entries of a bank,
NOC_STATS the records; both change nothing. A write of CLR zeroes every statistics record. Rests on R308, R310, R313, R318,
R319. -/
def Obligations.RoutePlansAndStatistics : Prop :=
  ∀ (s : State), Canon s →
    (∀ (c : Cmd) (l : List (Nat × Nat × Nat × Nat)), Accepted s c 0x4001 (changeBytes l) false → l.length ≤ 250 → changeFault l = none →
      let first := (l.filter fun x => !isRemoval x).foldl changeTable s.activeBank
      tableFault first s.floorDown = none → tableFault ((l.filter isRemoval).foldl changeTable first) s.floorDown = none →
      s.routing = false → Completes (.routePlan c l) s fun u => WaitsFor s u c 0x4001 (.routePlan 0) 0 ∧ u.noc.draining = true ∧
        u.noc.planStep = 1 ∧ u.fld nocActive 0 = s.fld nocActive 0 ∧
        ∀ r e, r < 53 → e < 64 → u.bank (1 - s.fld nocActive 0) r e = first r e % 2 ^ 64) ∧
    (∀ (c : Cmd) (timeout : Nat), s.routing = false → tableFault (s.bank (1 - s.fld nocActive 0)) s.floorDown = none →
      (Accepted s c 0x4002 (leBytes 1 0 ++ leBytes 2 timeout) false → c.pack = false → Completes (.routeCommit c 0 timeout) s fun u =>
        Replies s u c 0x4002 stOk [] ∧ u.fld nocActive 0 = 1 - s.fld nocActive 0) ∧
      (Accepted s c 0x4002 (leBytes 1 1 ++ leBytes 2 timeout) false → Completes (.routeCommit c 1 timeout) s fun u =>
        WaitsFor s u c 0x4002 .routeCommit timeout ∧ u.noc.draining = true ∧ u.flag nocPend 0 = true ∧
        u.fld nocActive 0 = s.fld nocActive 0)) ∧
    (s.noc.draining = true → s.netEmpty = false → s.noc.since + 2000 ≤ s.tim.clk → s.noc.planStep = 0 →
      Completes .commitDrainTimeout s fun u => Finishes s u .routeCommit stOk [] ∧ u.fld nocActive 0 = 1 - s.fld nocActive 0 ∧
        u.flag nocOoo 0 = true ∧ u.noc.draining = false) ∧
    (∀ x, (s.cmds.find? fun x => x.wait = .routeCommit ∧ x.deadline.any (· ≤ s.tim.clk)) = some x → x.cmd.remote = 0 →
      s.orphans.contains x.cmd = false → Completes .routeCommitTimeout s fun u =>
        u.cmds = s.cmds.erase x ∧ Replies s u x.cmd x.op stTimeout [] ∧ OnlyAnswers s u) ∧
    (∀ (c : Cmd) (r bank : Nat), r ≤ 52 → bank ≤ 1 → Accepted s c 0x4003 (leBytes 1 r ++ leBytes 1 bank) false →
      Completes (.routeRead c r bank) s fun u =>
        Replies s u c 0x4003 stOk ((List.range 64).flatMap fun e => leBytes 4 (s.bank bank r e)) ∧ OnlyAnswers s u) ∧
    (∀ (c : Cmd) (first n : Nat), 1 ≤ n → n ≤ 15 → first + n ≤ 560 → Accepted s c 0x4006 (leBytes 2 first ++ leBytes 1 n) false →
      Completes (.nocStats c first n) s fun u =>
        Replies s u c 0x4006 stOk ((List.range n).flatMap fun i => s.statRec (first + i)) ∧ OnlyAnswers s u) ∧
    (∀ v : Word, v.getLsbD 31 = true → Completes (.nocStatClear 0 v) s fun u =>
      ∀ i, i < 560 → u.reg .NOC_ISTAT_BYTES i = 0 ∧ u.reg .NOC_ISTAT_PKTS i = 0 ∧ u.reg .NOC_ISTAT_NPDONE i = 0 ∧
        u.reg .NOC_ISTAT_MAXLAT i = 0 ∧ ∀ k, k < 8 → u.reg .NOC_ISTAT_HIST (8 * i + k) = 0)

/-- FLOOR_POWER_OFF of an OPEN floor that is not loading or frozen and that no other node's traffic crosses fences it and waits,
parked requests answered; with ABORT the drain timeout counts as 0. A drained floor becomes DRAINED; the drain timeout does
so too, counting and raising 0x4202. A DRAINED floor of a power-off becomes OFF with its tiles at their initial state and
its voltage code 0. FLOOR_POWER_ON of an OFF floor makes it POWERING at code 40 and waits; when kiln confirms it, it is
FENCED with every store byte as never written and the command replies OK, else it is OFF again and the command replies FAULT
(R315 to R318). Rests on R314, R315, R316, R317, R318. -/
def Obligations.FloorsGoOffAndOn : Prop :=
  ∀ (s : State), Canon s →
    (∀ (c : Cmd) (f timeout : Nat), f ≤ 31 → s.floorBusy f = false → s.floorOpen f = true → s.routedThrough f = false →
      (Accepted s c 0x4004 (leBytes 1 f ++ leBytes 1 0 ++ leBytes 2 timeout) false →
        Completes (.floorPowerOffDrain c f timeout) s fun u => WaitsFor s u c 0x4004 (.floorOff f) timeout ∧ u.fld nocState f = 1 ∧
          (u.floor f).park = [] ∧ (u.floor f).drainTo0 = false ∧ u.net.length = s.net.length + (s.floor f).park.length) ∧
      (Accepted s c 0x4004 (leBytes 1 f ++ leBytes 1 1 ++ leBytes 2 timeout) false → s.poweringOff f = false →
        Completes (.floorPowerOffAbort c f timeout) s fun u => WaitsFor s u c 0x4004 (.floorOff f) timeout ∧ u.fld nocState f = 1 ∧
          (u.floor f).park = [] ∧ (u.floor f).drainTo0 = true)) ∧
    (∀ f : FloorNo,
      (s.draining f = true → s.drained f = true → (s.floor f).offWhy = 1 → Completes (.floorDrained f) s fun u =>
        u.fld nocState f = 2 ∧ u = { s with regs := u.regs }) ∧
      (s.draining f = true → s.drained f = false → s.copying f = false → (s.floor f).offWhy = 1 →
        (s.floor f).fencedAt + (if (s.floor f).drainTo0 then 0 else s.reg .NOC_DRAIN_TO 0 % 65536 * 1000) ≤ s.tim.clk →
        Completes (.floorDrainTimeout f) s fun u => u.fld nocState f = 2 ∧ Logs s u 0x4202 f ∧ (u.floor f).park = [] ∧
          u.reg .NOC_ABORTED 0 = min 0xFFFFFFFF (s.reg .NOC_ABORTED 0 + (s.unanswered f).length)) ∧
      (s.fld nocState f = 2 → (s.floor f).offWhy = 1 → Completes (.floorOff f) s fun u => u.fld nocState f = 3 ∧
        u.fld grvVnow f = 0 ∧ (∀ x ∈ u.cmds, x.wait ≠ .floorOff f) ∧
        ∀ t, t / 16 = f → u.tile t = .init ∧ u.reg .TIL_CTX t = 0 ∧ ∀ k, k < 8 → u.slot t k = .init) ∧
      (∀ (ok : Bool) (clo : Fin 51) (lost : BitVec 16), s.fld nocState f = 4 → Completes (.floorPowerOnDone f ok clo lost) s fun u =>
        u.fld nocState f = (if ok then 1 else 3) ∧ Finishes s u (.floorOn f) (if ok then stOk else stFault) [] ∧
        ∀ t off, t / 16 = f.val → (u.peek t off).2 = true)) ∧
    (∀ (c : Cmd) (f : Nat), f ≤ 31 → s.fld nocState f = 3 → Accepted s c 0x4005 (leBytes 1 f) false →
      Completes (.floorPowerOn c f) s fun u => WaitsFor s u c 0x4005 (.floorOn f) 0 ∧ u.fld nocState f = 4 ∧ u.code f = 40)

/-- A stored byte is decoded as R266 says: with s the recomputed check bits c0 to c3 XOR the stored ones and q the XOR of all 13
bits, the data stand when s = 0 (with q = 1 as correctable), the bit at position s is inverted for s of 1 to 12 with q = 1,
and the rest is uncorrectable; this is what a reader of a written line sees. A byte stored with its check bits decodes to
itself without error; with any one of its 13 bits flipped, to itself as correctable; with any two flipped it is
uncorrectable; a byte stored poisoned is uncorrectable (R279). Rules: R266. -/
def Obligations.EccCode : Prop :=
  (∀ b : BitVec 13,
      let d : Nat → Bool := b.getLsbD
      let x : List Nat → Bool := fun l => l.foldl (fun a i => a ^^ d i) false
      let n := b2n (x [0, 1, 3, 4, 6, 8]) + 2 * b2n (x [0, 2, 3, 5, 6, 9]) + 4 * b2n (x [1, 2, 3, 7, 10]) + 8 * b2n (x [4, 5, 6, 7, 11])
      let q := x [0, 1, 2, 3, 4, 5, 6, 7, 8, 9, 10, 11, 12]
      (n = 0 → (eccDecode b).data = b.setWidth 8 ∧ (eccDecode b).kind = if q then 1 else 0) ∧
      (1 ≤ n → n ≤ 12 → q = true → (eccDecode b).kind = 1 ∧ ∀ i : Fin 8,
        (eccDecode b).data.getLsbD i = (d i ^^ decide ([3, 5, 6, 7, 9, 10, 11, 12].getD i 0 = n))) ∧
      ((13 ≤ n ∨ (1 ≤ n ∧ q = false)) → (eccDecode b).kind = 2)) ∧
    (∀ d : Byte, eccDecode (eccEncode d) = { data := d, kind := 0, syn := 0, q := false } ∧ (eccDecode (eccPoison d)).kind = 2 ∧
      ∀ i : Fin 13, ((eccDecode (eccEncode d ^^^ (1#13 <<< i.val))).data = d ∧ (eccDecode (eccEncode d ^^^ (1#13 <<< i.val))).kind = 1) ∧
        ∀ j : Fin 13, i < j → (eccDecode (eccEncode d ^^^ (1#13 <<< i.val) ^^^ (1#13 <<< j.val))).kind = 2) ∧
    ∀ (s : State) (t off : Nat), s.fresh (s.phys t off) = false →
      (s.peek t off).1 = eccDecode (tget 0#13 s.store (s.phys t off))

/-- CORRECTION_WRITEBACK of the oldest write-back, no other write having reached its line, stores each corrected byte with valid
check bits. SCRUB_LINE, enabled and with power, moves on by one line; a written line without error is left as it is, and a
fresh line has no error left (R274). ECC_FLIP_ARM by the privileged view arms the mask for its tile. PAGE_RETIRE of a page
of an OPEN floor with a spare page free and no copy under way waits and starts the copy. PAGE_COPY_COMMIT makes the spare
page the page's place, every byte of the page reading as before, and answers OK with the entry (R279, R280). Rests on R269,
R274, R277, R279, R280. -/
def Obligations.WriteBacksScrubsAndCopies : Prop :=
  ∀ (s : State) (t : TileNo), Canon s →
    (∀ (w : WriteBack) (rest : List WriteBack), (s.tile t).writeBacks = w :: rest → w.stale = false → (w.bytes.map (·.1)).Nodup →
      Completes (.correctionWriteback t) s fun u => (u.tile t).writeBacks = rest ∧
        (∀ p ∈ w.bytes, tget 0#13 u.store (w.line + p.1) = eccEncode p.2) ∧ u = { s with store := u.store, tiles := u.tiles }) ∧
    (s.flag scrubEn 0 = true → s.fld nocState (t / 16) < 3 → (s.tile t).scrubAt < 8191 → (s.tile t).copy = none →
      Completes (.scrubLine t) s fun u => (u.tile t).scrubAt = (s.tile t).scrubAt + 1 ∧
        (s.fresh (s.phys t ((s.tile t).scrubAt * 64)) = false → cleanRead s t ((s.tile t).scrubAt * 64) 64 →
          u = { s with tiles := u.tiles }) ∧
        (s.fresh (s.phys t ((s.tile t).scrubAt * 64)) = true →
          ∀ i, i < 64 → (eccDecode (tget 0#13 u.store (s.phys t ((s.tile t).scrubAt * 64) + i))).kind = 0)) ∧
    (∀ v : Word, v.getLsbD 31 = true → Completes (.eccFlipArm 0 v) s fun u =>
      u.flag flipArm 0 = true ∧ u.fld flipTile 0 = v.toNat % 512 ∧ u = { s with regs := u.regs }) ∧
    (∀ (c : Cmd) (page k : Nat), page ≤ 127 → Accepted s c 0x9004 (leBytes 2 t ++ leBytes 1 page) false →
      s.floorOpen (t / 16) = true → (s.tile t).copy = none → s.freeSpare t = some k → Completes (.pageRetire c t page) s fun u =>
        WaitsFor s u c 0x9004 (.pageCopy t) 0 ∧ (u.tile t).copy = some { entry := k, page := page } ∧
        u.flag remapCopy (4 * t + k) = true ∧ u.store = s.store) ∧
    (∀ c : PageCopy, (s.tile t).copy = some c → c.entry < 4 → c.page < 128 → s.flag remapV (4 * t + c.entry) = false →
      Completes (.pageCopyCommit t) s fun u => (u.tile t).copy = none ∧
        Finishes s u (.pageCopy t) stOk (leBytes 1 c.entry ++ leBytes 2 (s.pageErrors (physByte t (s.physPage t c.page) 0) 2).length) ∧
        u.physPage t c.page = 128 + c.entry ∧ Logs s u 0x1007 (locTile t 0xFF 0xFF) ∧
        ∀ o, o < 4096 → (u.peek t (c.page * 4096 + o)).1.data = (s.peek t (c.page * 4096 + o)).1.data)

/-- On an OPEN floor, over a range within one tile store that the acting view owns and, for a tenant, outside every lees:
MEM_READ of 1 to 512 bytes replies them with their poison map, and changes nothing when they read without error; MEM_WRITE
of 1 to 992 bytes, no flip armed, makes exactly those bytes read as written and leaves every other byte of every store.
MEM_INIT of a tile not in use marks its lines fresh; PAGE_STATUS replies the remap entries and counters and changes nothing
(R273, R285). Rests on R270, R273, R285. -/
def Obligations.MemoryCommands : Prop :=
  ∀ (s : State) (c : Cmd), Canon s →
    (∀ t off, off < 0x80000 → t < 512 → s.cmdOwns c 0 t = true → s.floorOpen (t / 16) = true →
      (∀ len, 1 ≤ len → len ≤ 512 → off + len ≤ 0x80000 → (c.view = 0 ∨ s.inLees t off len = false) →
        Accepted s c 0x9001 (leBytes 5 (t * 0x80000 + off) ++ leBytes 2 len) true →
        Completes (.memRead c (t * 0x80000 + off) len) s fun u =>
          Replies s u c 0x9001 stOk ((s.peekN t off len).map (·.1) ++ poisonMap ((s.peekN t off len).map (·.2))) ∧
          (cleanRead s t off len → OnlyAnswers s u)) ∧
      (∀ data : List Byte, 1 ≤ data.length → data.length ≤ 992 → off + data.length ≤ 0x80000 →
        (c.view = 0 ∨ s.inLees t off data.length = false) → s.flag flipArm 0 = false →
        Accepted s c 0x9002 (leBytes 5 (t * 0x80000 + off) ++ leBytes 2 data.length ++ data) true →
        Completes (.memWrite c (t * 0x80000 + off) data) s fun u => Replies s u c 0x9002 stOk [] ∧
          (∀ i b, data[i]? = some b → (u.peek t (off + i)).1 = { data := b, kind := 0, syn := 0, q := false }) ∧
          (∀ t' o, o < 0x80000 → (t' ≠ t ∨ o < off ∨ off + data.length ≤ o) → (u.peek t' o).1.data = (s.peek t' o).1.data) ∧
          u.queues = s.queues ∧ u.cfs = s.cfs ∧ u.slots = s.slots)) ∧
    (∀ t first n, t ≤ 511 → 1 ≤ n → first + n ≤ 8192 → s.tileInUse t = false →
      Accepted s c 0x9003 (leBytes 2 t ++ leBytes 2 first ++ leBytes 2 n) false → Completes (.memInit c t first n) s fun u =>
        Replies s u c 0x9003 stOk [] ∧ u.store = s.store ∧
        ∀ o, first * 64 ≤ o → o < (first + n) * 64 → u.fresh (u.phys t o) = true) ∧
    (∀ t, t ≤ 511 → Accepted s c 0x9005 (leBytes 2 t) false → Completes (.pageStatus c t) s fun u =>
      Replies s u c 0x9005 stOk ((List.range 4).flatMap (fun k => leBytes 4 (s.reg .TIL_REMAP (4 * t + k))) ++
        leBytes 4 (s.reg .TIL_ECC_CE t) ++ leBytes 4 (s.reg .TIL_ECC_UE t)) ∧ OnlyAnswers s u)

/-- LOG_RECORD_WRITE takes the first waiting record of its log: with fewer than 64 held it is written at HEAD, HEAD and COUNT
advance, and the host is told when COUNT was 0; with 64 it is dropped, counted in LOG_DROP and marked in OVF. A write of
TAIL within what the log holds moves TAIL there and lowers COUNT. LOG_READ replies COUNT and up to n records from TAIL on,
advancing TAIL past them when asked, else changing nothing (R282, R285). Rests on R282, R285, R449. -/
def Obligations.LogsAreRings : Prop :=
  ∀ (s : State) (d : Fin 3), Canon s →
    (∀ r, (s.logQ.find? fun r => r.log = d.val) = some r →
      (s.fld logCount d < 64 → Completes (.logRecordWrite d) s fun u =>
        u.logQ = s.logQ.erase r ∧ u.fld logCount d = s.fld logCount d + 1 ∧ u.fld logHead d = (s.fld logHead d + 1) % 64 ∧
        (∀ w, w < 4 → u.reg .LOG_REC (256 * d + 4 * s.fld logHead d + w) = recNum r / 2 ^ (64 * w) % 2 ^ 64) ∧
        u.irqs = s.irqs ++ (if s.fld logCount d = 0 then [(0, 1)] else [])) ∧
      (s.fld logCount d = 64 → Completes (.logRecordWrite d) s fun u =>
        u.logQ = s.logQ.erase r ∧ u.fld logCount d = 64 ∧ u.flag logOvf d = true ∧
        u.reg .LOG_DROP d = min 0xFFFFFFFF (s.reg .LOG_DROP d + 1) ∧ u.irqs = s.irqs)) ∧
    (∀ v : Word, (v.toNat % 64 + 64 - s.fld logTail d) % 64 ≤ s.fld logCount d → Completes (.logTailWrite 0 d v) s fun u =>
      u.fld logTail d = v.toNat % 64 ∧ u.fld logCount d = s.fld logCount d - (v.toNat % 64 + 64 - s.fld logTail d) % 64 ∧
      u = { s with regs := u.regs }) ∧
    (∀ (c : Cmd) (n adv : Nat), 1 ≤ n → n ≤ 31 → adv ≤ 1 → Accepted s c 0x9006 (leBytes 1 d ++ leBytes 1 n ++ leBytes 1 adv) false →
      Completes (.logRead c d n adv) s fun u =>
        Replies s u c 0x9006 stOk (leBytes 1 (s.fld logCount d) ++
          (List.range (min n (s.fld logCount d))).flatMap (s.recBytes d)) ∧
        (adv = 0 → OnlyAnswers s u) ∧
        (adv = 1 → u.fld logTail d = (s.fld logTail d + min n (s.fld logCount d)) % 64 ∧
          u.fld logCount d = s.fld logCount d - min n (s.fld logCount d)))

/-- Device time runs from the first RIM_PLL_LOCK after RESET_N; losing the PLL clears LOCK. In PPS mode an active edge is
stamped within 2 ns of now and its phase error follows from that stamp; a missing edge sets HOLDOVER, clears LOCK and raises
0x5203. The fence of R324 sets FENCED, counts and raises 0x5201, and 0x5202 as it ends. PPS_OUT rises and falls as R325
says. TIME_SET with no batch enabled, no rack entry and no delay entry sets device time at once and replies OK, or waits for
the next active edge, which sets it; with something pending it replies BUSY; after 2 s without an edge it replies TIMEOUT.
TIME_READ replies time and status and changes nothing. Rests on R321, R322, R323, R324, R325, R327, R352. -/
def Obligations.TimebaseEvents : Prop :=
  ∀ (s : State), Canon s →
    (s.dev.resetN = true → Completes .rimPllLock s fun u => u.tim.running = true ∧ u.tim.pll = true ∧ u.tim.now = s.tim.now ∧
      (s.fld tmbSrcact 0 = 0 → u.flag tmbLock 0 = true)) ∧
    Completes .rimPllLockLoss s (fun u => u.tim.pll = false ∧ u.flag tmbLock 0 = false ∧ u.tim.now = s.tim.now) ∧
    (∀ rising, s.tim.running = true → rising ≠ s.flag tmbPpspol 0 →
      (s.fld tmbSrcact 0 = 1 → s.tim.setTo = [] → s.tim.now < 2 ^ 63 → Completes (.ppsInEdge rising) s fun u =>
        s.tim.now - 2 ≤ u.reg .TMB_PPS_LAST 0 ∧ u.reg .TMB_PPS_LAST 0 ≤ s.tim.now + 2 ∧
        u.reg .TMB_PHERR 0 = word32 (phaseError (u.reg .TMB_PPS_LAST 0) (s.reg .TMB_PPS_OFS 0)) ∧
        u.tim.lastEdge = some (s.tim.now : Int) ∧ (s.tim.lastEdge = none → u.flag tmbLock 0 = false)) ∧
      (∀ c v, s.fld tmbSrcact 0 ≠ 1 → s.tim.setTo = [(c, v)] → s.timeBusy = false → Completes (.ppsInEdge rising) s fun u =>
        u.tim.now = v ∧ u.tim.setTo = [] ∧ Finishes s u .timeSet stOk [])) ∧
    (∀ e : Int, s.fld tmbSrcact 0 = 1 → s.flag tmbHoldover 0 = false → s.tim.lastEdge = some e →
      e + (second + 10000 : Nat) < (s.tim.now : Int) →
      Completes .ppsMissing s fun u => u.flag tmbHoldover 0 = true ∧ u.flag tmbLock 0 = false ∧ Logs s u 0x5203 0) ∧
    (s.tim.running = true → s.timeFenced = false → s.fenceDue = true → Completes .timeFenced s fun u => u.timeFenced = true ∧
      u.reg .TMB_FENCE_CNT 0 = min 0xFFFFFFFF (s.reg .TMB_FENCE_CNT 0 + 1) ∧ Logs s u 0x5201 0) ∧
    (s.timeFenced = true → s.flag tmbLock 0 = true → s.pherr.natAbs ≤ s.reg .TMB_FENCE_NS 0 % 65536 →
      Completes .timeRestored s fun u => u.timeFenced = false ∧ Logs s u 0x5202 0) ∧
    (s.tim.running = true → s.flag tmbPpsoen 0 = true → s.tim.ppsOut = false → s.tim.ppsRose ≤ s.tim.now / second →
      s.tim.now % second < max 1 s.tim.adv → Completes (.ppsOutPulse true) s fun u => u.tim.ppsOut = true ∧ u.tim.ppsUp = s.tim.dev ∧ u.tim.now = s.tim.now ∧ u = { s with tim := u.tim }) ∧
    (s.tim.ppsOut = true → s.tim.ppsUp + 1000000 ≤ s.tim.dev → Completes (.ppsOutPulse false) s fun u =>
      u = { s with tim := { s.tim with ppsOut := false } }) ∧
    (∀ (c : Cmd) (time : DWord),
      (Accepted s c 0x5001 (leBytes 8 time.toNat ++ leBytes 1 0) false → s.fld tmbSrcact 0 ≠ 2 →
        (s.timeBusy = false → Completes (.timeSet c time 0) s fun u => Replies s u c 0x5001 stOk [] ∧ u.tim.now = time.toNat) ∧
        (s.timeBusy = true → Completes (.timeSet c time 0) s fun u => Replies s u c 0x5001 stBusy [] ∧ OnlyAnswers s u)) ∧
      (Accepted s c 0x5001 (leBytes 8 time.toNat ++ leBytes 1 1) false → s.fld tmbSrcact 0 ≠ 2 → s.timeBusy = false →
        Completes (.timeSet c time 1) s fun u => u.tim.setTo = s.tim.setTo ++ [(c, time.toNat)] ∧ u.tim.now = s.tim.now ∧
          ∃ x, u.cmds = s.cmds ++ [x] ∧ x.cmd = c ∧ x.wait = .timeSet ∧ x.deadline = some (s.tim.clk + 2000000000)) ∧
      (Accepted s c 0x5002 [] false → Completes (.timeRead c) s fun u => Replies s u c 0x5002 stOk
        (leBytes 8 s.tim.now ++ leBytes 4 (s.reg .TMB_STATUS 0) ++ leBytes 4 (s.reg .TMB_PHERR 0)) ∧ OnlyAnswers s u)) ∧
    (∀ x, s.cmds.filter s.setExpired = [x] → x.cmd.remote = 0 → s.orphans.contains x.cmd = false →
      Completes .timeSetPpsTimeout s fun u => u.cmds = s.cmds.filter (fun y => y ≠ x) ∧
        u.tim.setTo = s.tim.setTo.filter (fun p => p.1 ≠ x.cmd) ∧ Replies s u x.cmd x.op stTimeout [])

/-- A word at a FIXSET rack port whose lane NEXT is enabled, bound, not draining, in the port's range, with a step to time it,
in time, with room and no entry for that time, is racked in release order and NEXT advances. RACK_PUT of an explicitly timed
entry under the same conditions racks it and replies OK; one that is late is counted and refused. RACK_RELEASE at the
release time of a sound entry makes its value the lane's last one and removes it; of a poisoned entry counts a miss.
RACK_DEADLINE_CHECK with an entry there clears CONSEC, without one counts a miss and queues its action (R333 to R346). Rests
on R333, R335, R338, R339, R341, R342, R346, R352. -/
def Obligations.RacksAcceptAndRelease : Prop :=
  ∀ (s : State), Canon s →
    (∀ (p : Pkt) (r : Nat), s.arrived p = true → p.op = .bridge → p.dest = 32 → p.addr < 32 → s.pairBusy p.addr = false →
      s.portModeOf (p.addr / 2 * 2) ≠ some 2 → s.portModeOf p.addr = some 1 →
      let l := s.fld portNext p.addr
      s.portRange p.addr l = true → l ≤ 783 → s.flag laneEn l = true → s.flag laneBound l = true → (s.lane l).drain = false →
      s.setTime l = some r → s.tim.now + s.fld laneGuard l ≤ r → (∀ e ∈ (s.lane l).rack, e.r ≠ r) → (s.lane l).rack.length < 4 →
      Completes (.rackPortWord p) s fun u => u.net = s.net.erase p ∧
        (u.lane l).rack = rackIns
          { r := r, fine := s.fld portFine p.addr, val := BitVec.ofNat 32 (leNat (p.data.map (·.getD 0#8))),
            psn := decide (p.psn % 2 = 1), setT := true, port := p.addr, clk := s.tim.clk } (s.lane l).rack ∧
        u.fld portNext p.addr = if l = s.fld portHi p.addr then s.fld portLo p.addr else l + 1) ∧
    (∀ (c : Cmd) (l fine : Nat) (r : DWord) (v : Word), l ≤ 783 → fine ≤ 7 → s.cmdOwns c 4 l = true → s.flag laneEn l = true →
      (s.lane l).drain = false →
      Accepted s c 0x5003 (leBytes 2 l ++ leBytes 1 1 ++ leBytes 1 fine ++ leBytes 8 r.toNat ++ leBytes 4 v.toNat ++ leBytes 1 0) true →
      (s.tim.now + s.fld laneGuard l ≤ r.toNat → (∀ e ∈ (s.lane l).rack, e.r ≠ r.toNat) → (s.lane l).rack.length < 4 →
        Completes (.rackPut c l 1 fine r v 0) s fun u => Replies s u c 0x5003 stOk [] ∧
          (u.lane l).rack = rackIns { r := r.toNat, fine := fine, val := v, psn := false, setT := false, port := 0xFF, clk := s.tim.clk } (s.lane l).rack ∧
          ∀ l', l' ≠ l → u.lane l' = s.lane l') ∧
      (r.toNat < s.tim.now + s.fld laneGuard l → Completes (.rackPut c l 1 fine r v 0) s fun u =>
        Replies s u c 0x5003 stBadParam [4#8, 0#8] ∧ u.lanes = s.lanes ∧
        u.reg .RAK_LATE 0 = min 0xFFFFFFFF (s.reg .RAK_LATE 0 + 1))) ∧
    (∀ (l : LaneNo) (e : Entry) (rest : List Entry), (s.lane l).rack = e :: rest → (s.lane l).misses = [] → e.r ≤ s.tim.now →
      (e.psn = false → (s.timeFenced = false ∨ s.flag laneSys l = false ∨ e.setT = true) → Completes (.rackRelease l) s fun u =>
        (u.lane l).rack = rest ∧ (u.lane l).last = some e.val ∧ (u.lane l).safe = false) ∧
      (e.psn = true → Completes (.rackRelease l) s fun u => (u.lane l).rack = rest ∧ (u.lane l).last = (s.lane l).last ∧
        u.fld lstatMisses l = min 65535 (s.fld lstatMisses l + 1) ∧ u.fld lstatConsec l = min 15 (s.fld lstatConsec l + 1) ∧
        (l.val < 512 ∨ 560 ≤ l.val → u.reg .RAK_PSN 0 = min 0xFFFFFFFF (s.reg .RAK_PSN 0 + 1)))) ∧
    (∀ (l : LaneNo) (r b t : Nat), s.checksDue l = [(r, b, t)] →
      ((∃ e, (s.lane l).rack.find? (fun e => e.r == r) = some e ∧ e.psn = false) →
        (s.timeFenced = false ∨ s.flag laneSys l = false) → Completes (.rackDeadlineCheck l) s fun u =>
          u.fld lstatConsec l = 0 ∧ (u.lane l).rack = (s.lane l).rack ∧ (u.lane l).misses = (s.lane l).misses) ∧
      ((s.lane l).rack.find? (fun e => e.r == r) = none → Completes (.rackDeadlineCheck l) s fun u =>
        (u.lane l).misses = (s.lane l).misses ++ [(r, s.flag laneAct l)] ∧ (u.lane l).rack = (s.lane l).rack ∧
        u.fld lstatMisses l = min 65535 (s.fld lstatMisses l + 1) ∧ u.fld lstatConsec l = min 15 (s.fld lstatConsec l + 1)))

/-- Over a range of lanes that the acting view owns: RACK_CLEAR zeroes CONSEC, ends a STICKY hold and replies OK; LANE_DISABLE
DRAIN with some lane on stops their intake and waits; ABORT, no drain of them pending, turns them off with empty racks and
replies OK at once; LANE_DRAIN_DONE of a drained range turns them off and answers OK; RACK_STATUS replies the records and
changes nothing (R343, R351, R352). Over a range of streams with one on and a sample left, no other DRAIN waiting:
STREAM_DISABLE DRAIN stops the intake of every stream of the range and waits; ABORT turns them off with nothing buffered and
replies OK. ADC_TRAIN of an enabled port with its clock waits, of one without replies BUSY; at its end, when every lane
passed, each lane's DLY is the centre of its widest run and the reply gives each range, else the reply is FAULT (R387).
Rests on R221, R343, R351, R352, R387. -/
def Obligations.LanesAndStreamsDisable : Prop :=
  ∀ (s : State) (c : Cmd) (first n : Nat), Canon s →
    (rangeFault first n 784 784 = none → s.ownsLanes c first n = true →
      (Accepted s c 0x5004 (leBytes 2 first ++ leBytes 2 n) true → Completes (.rackClear c first n) s fun u =>
        Replies s u c 0x5004 stOk [] ∧ ∀ i, i < n → u.fld lstatConsec (first + i) = 0 ∧ (u.lane (first + i)).sticky = false) ∧
      (∀ timeout, ((List.range n).all fun i => !s.flag laneEn (first + i)) = false →
        (Accepted s c 0x5005 (leBytes 2 first ++ leBytes 2 n ++ leBytes 1 0 ++ leBytes 2 timeout) true →
          Completes (.laneDisableDrain c first n timeout) s fun u => WaitsFor s u c 0x5005 (.laneDrain first n) timeout ∧
            (∀ i, i < n → (u.lane (first + i)).drain = true) ∧ u.regs = s.regs) ∧
        (Accepted s c 0x5005 (leBytes 2 first ++ leBytes 2 n ++ leBytes 1 1 ++ leBytes 2 timeout) true → c.pack = false →
          s.cmds.any (fun x => drainsLane first n x.wait) = false → Completes (.laneDisableAbort c first n timeout) s fun u =>
            Replies s u c 0x5005 stOk [] ∧
            ∀ i, i < n → u.flag laneEn (first + i) = false ∧ (u.lane (first + i)).rack = [] ∧ (u.lane (first + i)).safe = true))) ∧
    (s.waitsFor (.laneDrain first n) = true → first + n ≤ 784 →
      (∀ i, i < n → (s.lane (first + i)).rack = [] ∧ (s.lane (first + i)).misses = []) →
      Completes (.laneDrainDone first n) s fun u => Finishes s u (.laneDrain first n) stOk [] ∧
        ∀ i, i < n → u.flag laneEn (first + i) = false) ∧
    (rangeFault first n 64 784 = none → s.ownsLanes c first n = true → Accepted s c 0x5006 (leBytes 2 first ++ leBytes 1 n) true →
      Completes (.rackStatus c first n) s fun u => Replies s u c 0x5006 stOk (((List.range n).map fun i =>
        leBytes 8 (s.reg .RAK_LANE (first + i)) ++ leBytes 4 (s.lstatView (first + i))).flatten) ∧ OnlyAnswers s u) ∧
    (∀ (c : Cmd) (first n timeout : Nat), rangeFault first n 496 496 = none → (∃ i, i < n ∧ s.flag strmEn (first + i) = true) →
      (∀ x ∈ s.cmds, ∀ f k, x.wait ≠ .streamDrain f k) →
      (Accepted s c 0x6001 (leBytes 2 first ++ leBytes 2 n ++ leBytes 1 0 ++ leBytes 2 timeout) false →
        (∃ i, i < n ∧ s.streamEmpty (first + i) = false) → Completes (.streamDisableDrain c first n timeout) s fun u =>
          WaitsFor s u c 0x6001 (.streamDrain first n) timeout ∧ (∀ i, i < n → (u.stream (first + i)).drain = true) ∧
          (∀ i, (i < first ∨ first + n ≤ i) → u.stream i = s.stream i) ∧ u.regs = s.regs) ∧
      (Accepted s c 0x6001 (leBytes 2 first ++ leBytes 2 n ++ leBytes 1 1 ++ leBytes 2 timeout) false → c.pack = false →
        (∀ i q, i < n → (s.queue q).ilock ≠ some (.field (first + i))) → Completes (.streamDisableAbort c first n timeout) s fun u => Replies s u c 0x6001 stOk [] ∧
          ∀ i, i < n → u.flag strmEn (first + i) = false ∧ u.streamEmpty (first + i) = true)) ∧
    (∀ (c : Cmd) (p : Fin 16) (pattern : Word), Accepted s c 0x6002 (leBytes 1 p ++ leBytes 4 pattern.toNat) false →
      ((s.flag adcEn p && s.flag adcClk p) = true → Completes (.adcTrain c p pattern) s fun u =>
        WaitsFor s u c 0x6002 (.adcTrain p) 0) ∧
      ((s.flag adcEn p && s.flag adcClk p) = false → Completes (.adcTrain c p pattern) s fun u =>
        Replies s u c 0x6002 stBusy [] ∧ OnlyAnswers s u)) ∧
    (∀ (p : Fin 16) (pass : List (BitVec 64)), s.waitsFor (.adcTrain p) = true → pass.length = s.fld adcLanes p + 1 →
      (∀ rs : List (Nat × Nat × Nat), pass.map passRange = rs.map some → Completes (.adcTrainDone p pass) s fun u =>
        Finishes s u (.adcTrain p) stOk (rs.flatMap fun r => leBytes 1 r.1 ++ leBytes 1 r.2.1) ∧
        ∀ l r, rs[l]? = some r → u.fld (adcDly l) p = r.2.2) ∧
      (none ∈ pass.map passRange → Completes (.adcTrainDone p pass) s fun u => Finishes s u (.adcTrain p) stFault []))

/-- A TRIP pin going low or the SAFE input going high, stable for PINFILT, RAISE by a guard slot or a data slot that owns the
source, and the Keeper watchdog 10 ms after its last service assert their source: it is live and seen, and each enabled
line, not latched, whose mask holds it latches, with the source in TRP_CAPS, the time within 2 ns, 0x7101 and the host
interrupt. The opposite levels take the source away. A RAISE that the data slot may not make faults it with 0x3212. No line
latches before a guard image is loaded. Rests on R390, R391, R392, R393, R395, R402, R403, R404. -/
def Obligations.TripSourcesLatchLines : Prop :=
  ∀ (s : State), Canon s →
    (∀ (n : LineNo), ∀ p ∈ [(Instr.tripPinEdge n true, 544 + n.val, s.pinStable n (s.fld trpPinfilt 0)),
          (Instr.tripSafeInput true, 556, s.pinStable 12 (s.fld trpPinfilt 0)),
          (Instr.keeperWatchdog, 848, decide (s.trip.keeper + 10000000 ≤ s.tim.clk))],
      p.2.2 = true → s.srcLive p.2.1 = false → Completes p.1 s fun u => u.srcLive p.2.1 = true ∧
        bit (u.reg .TRP_SRCSEEN (p.2.1 / 32)) (p.2.1 % 32) = true ∧
        ∀ l : Nat, l < 12 →
          (s.dev.guardIn = true → s.flag lineEn l = true → s.inMask l p.2.1 = true → s.latched l = false → s.tim.now < 2 ^ 63 →
            u.latched l = true ∧ u.reg .TRP_CAPS l = 2 ^ 31 + p.2.1 ∧ s.tim.now - 2 ≤ u.reg .TRP_CAPT l ∧
            u.reg .TRP_CAPT l ≤ s.tim.now + 2 ∧ Logs s u 0x7101 l ∧ (0, 3) ∈ u.irqs) ∧
          (s.dev.guardIn = false → u.latched l = s.latched l)) ∧
    (∀ (n : LineNo), s.tripDrive n = false → s.pinStable n (s.fld trpPinfilt 0) = true →
      Completes (.tripPinEdge n false) s fun u => u.srcLive (544 + n) = false) ∧
    (s.pinStable 12 (s.fld trpPinfilt 0) = true → Completes (.tripSafeInput false) s fun u =>
      u.srcLive 556 = false ∧ u = { s with regs := u.regs, trip := u.trip }) ∧
    Completes .keeperWatchdogService s (fun u => u.srcLive 848 = false ∧ u.trip.keeper = s.tim.clk ∧
      u = { s with regs := u.regs, trip := u.trip }) ∧
    (s.srcLive 848 = false → s.trip.keeper + 10000000 ≤ s.tim.clk → Completes .keeperWatchdog s fun u => Logs s u 0x7202 0 ∧ bit (u.reg .DEV_FAULT 0) 1 = true) ∧
    (∀ (t : TileNo) (k : Nat) (src : Fin 64) (set : Bool), k < 8 → s.issue t (.raise t src set) [] = some k →
      ((s.guardOf t k ≠ none ∨ bit (s.reg .TIL_RAISE t) src = true) → Completes (.raise t src set) s fun u =>
        u.srcLive (576 + src) = set ∧ u.pc t k = (s.pc t k + 4) % 0x80000 ∧
        ∀ l : Nat, l < 12 → s.dev.guardIn = true → s.flag lineEn l = true → s.inMask l (576 + src) = true → set = true →
          s.srcLive (576 + src) = false → u.latched l = true) ∧
      (s.guardOf t k = none → bit (s.reg .TIL_RAISE t) src = false → Completes (.raise t src set) s fun u =>
        Logs s u 0x3212 (locTile t k 0xFF) ∧ (u.slot t k).task = none ∧ u.srcLive (576 + src) = s.srcLive (576 + src)))

/-- A privileged TRP_MASK write is stored and latches an enabled line at once when an asserted level source stands in it.
TRIP_CLEAR starts the settle wait of its lines, which stay latched; at its end lines without an asserted level source, and
without one that asserts in that rim clock, clear and the command replies OK. TRIP_FORCE of enabled lines latches them with
source 1023. TRIP_STATUS and TRIP_SNAPSHOT reply and change nothing. A trip frame taken on a HELD or FULL link drives its 12
sources, on a MASHING link only TRIPRX; a frame with a bit set is repeated. A kick restarts the host watchdog and takes
source 849 away; its expiry asserts it and raises 0x7201 (R395 to R407). Rests on R395, R399, R400, R401, R402, R407, R525. -/
def Obligations.TripCommands : Prop :=
  ∀ (s : State), Canon s →
    (∀ (n : LineNo) (w : Fin 32) (v : Word), Completes (.trpMaskWrite 0 n w v) s fun u =>
      u.reg .TRP_MASK (32 * n + w) = v.toNat ∧
      (s.dev.guardIn = true → s.flag lineEn n = true →
        (∃ k, k < 1024 ∧ k / 32 = w.val ∧ s.srcLive k = true ∧ edgeSource k = false ∧ bit v.toNat (k % 32) = true) → u.latched n = true)) ∧
    (∀ (c : Cmd) (lines : Nat), lines ≤ 4095 →
      (Accepted s c 0x7001 (leBytes 2 lines) false → Completes (.tripClear c lines) s fun u =>
        (∃ x, u.cmds = s.cmds ++ [x] ∧ x.cmd = c ∧ x.wait = .tripClear lines ∧ x.deadline = none) ∧
        ∀ n, n < 12 → u.latched n = s.latched n ∧ (bit lines n = true → s.latched n = true → u.settling n = true ∧
          u.tripDrive n = false)) ∧
      (Accepted s c 0x7002 (leBytes 2 lines) false → s.dev.guardIn = true → (∀ n ∈ linesOf lines, s.flag lineEn n = true) →
        Completes (.tripForce c lines) s fun u => Replies s u c 0x7002 stOk [] ∧
          ∀ n ∈ linesOf lines, u.latched n = true ∧ (s.latched n = false → u.reg .TRP_CAPS n = 2 ^ 31 + 1023)) ∧
      (Accepted s c 0x7003 (leBytes 2 lines) false → Completes (.tripStatus c lines) s fun u =>
        Replies s u c 0x7003 stOk (leBytes 4 s.trpStatus ++ ((linesOf lines).map fun n =>
          leBytes 8 (s.reg .TRP_CAPT n) ++ leBytes 4 (s.reg .TRP_CAPS n) ++ leBytes 2 (s.fld lineTag n)).flatten) ∧ OnlyAnswers s u)) ∧
    (∀ (lines : Fin 4096) (l end_ : Nat), s.trip.clears = [(lines.val, l, end_)] → end_ ≤ s.tim.clk → l < 4096 →
      (∀ n ∈ linesOf l, s.blockers n = []) → Completes (.tripClearSettle lines) s fun u => u.trip.clears = [] ∧
        (∀ n, n < 12 → u.latched n = (s.latched n && !bit l n)) ∧
        ∀ x, s.cmds.find? (fun x => x.wait = .tripClear lines) = some x → x.cmd.remote = 0 → s.orphans.contains x.cmd = false →
          u.cmds = s.cmds.erase x ∧ Replies s u x.cmd x.op stOk (leBytes 2 lines)) ∧
    (∀ (c : Cmd) (line : Nat), line ≤ 11 → Accepted s c 0x7004 (leBytes 1 line) false → Completes (.tripSnapshot c line) s fun u =>
      Replies s u c 0x7004 stOk (((List.range 32).map fun w => leBytes 4 (s.reg .TRP_SNAP (32 * line + w))).flatten ++
        ((List.range 32).map fun w => leBytes 4 (s.reg .TRP_SRCSEEN w)).flatten) ∧ OnlyAnswers s u) ∧
    (∀ (m : LinkNo), s.carriesTrips m = true → s.frameBits m ≠ 0 → (tget (0, 0) s.trip.frames m).2 + 999 ≤ s.tim.clk →
      (twf (0, 0) s.trip.frames = true) → Completes (.tripFrameRepeat m) s fun u =>
        tget (0, 0) u.trip.frames m = (s.frameBits m, s.tim.clk + 1) ∧ u = { s with trip := u.trip }) ∧
    (∀ (m : LinkNo) (b : BitVec 12),
      (s.fld alkState m = 3 ∨ s.fld alkState m = 4 → Completes (.tripFrameReceive m b) s fun u =>
        u.fld ⟨.ALK_STATUS, 11, 0⟩ m = b.toNat ∧ ∀ n, n < 12 → u.srcLive (704 + 12 * m + n) = b.getLsbD n) ∧
      (s.fld alkState m = 2 → Completes (.tripFrameReceive m b) s fun u =>
        u.fld ⟨.ALK_STATUS, 11, 0⟩ m = b.toNat ∧ (∀ n, u.srcLive n = s.srcLive n) ∧ u = { s with regs := u.regs })) ∧
    (∀ v : Word, Completes (.hostWatchdogKick 0 v) s fun u => u.trip.kick = s.tim.clk ∧ u.srcLive 849 = false) ∧
    (s.flag hostWdEn 0 = true → s.trip.kick + s.fld hostWdPeriod 0 * 1000 ≤ s.tim.clk → s.srcLive 849 = false →
      Completes .hostWatchdog s fun u => u.srcLive 849 = true ∧ Logs s u 0x7201 0)

/-- SAMPLE_READY buffers the oldest sample made, or discards and counts it when two are buffered. STREAM_DELIVER hands the next
word of the first buffered sample to its first or second destination, a bridge port or an open queue with room, when no
other stream is ahead and none has handed a word in this rim clock. A sampled sigma-delta bit enters the history; at a
boundary the main filter's output becomes a sample, a crossing sets HI with its source, the 128th equal bit sets STUCK and
raises 0x6102, the next different bit clears it. A good ADC frame gives one sample per channel, a bad one counts. CNV rises
and falls. A quadrature edge counts up or down; ENC_SAMPLE samples the count or starts a transfer; its end gives the
position (R359 to R371). Rests on R359, R360, R361, R364, R365, R366, R367, R369, R370, R371. -/
def Obligations.FieldInputsSample : Prop :=
  ∀ (s : State), Canon s →
    (∀ (n : Fin 496) (m : Sample) (ms : List Sample), (s.stream n).made = m :: ms → Completes (.sampleReady n) s fun u =>
      (u.stream n).made = ms ∧
      ((s.stream n).buf.length < 2 → (u.stream n).buf = (s.stream n).buf ++ [{ m with ready := s.tim.clk }] ∧
        u = { s with streams := u.streams }) ∧
      (2 ≤ (s.stream n).buf.length → (u.stream n).buf = (s.stream n).buf ∧
        u.reg .FIO_SLOST n = min 0xFFFFFFFF (s.reg .FIO_SLOST n + 1))) ∧
    (∀ (n : Fin 496) (m : Sample) (ms : List Sample) (w : Tok) (bridge sop eop : Bool) (dest : Nat), (s.stream n).buf = m :: ms →
      s.dev.handed ≠ s.tim.clk + 1 → s.streamBehind n = false →
      (∀ x ∈ s.cmds, ∀ f k, x.wait ≠ .streamDrain f k) → (∀ f k, .streamDrain f k ∉ s.drains) →
      ((m.d1[(s.stream n).sent]? = some w ∧ bridge = s.flag strmK1 n ∧ dest = s.fld strmDest1 n ∧
          sop = ((s.stream n).sent == 0) ∧ eop = ((s.stream n).sent + 1 == m.d1.length)) ∨
        (m.d1.length ≤ (s.stream n).sent ∧ m.d2.head? = some w ∧ bridge = s.flag strmK2 n ∧ dest = s.fld strmDest2 n ∧
          sop = true ∧ eop = true)) →
      let left := fun (u : State) => if m.d1.length + m.d2.length ≤ (s.stream n).sent + 1
        then (u.stream n).buf = ms ∧ (u.stream n).sent = 0
        else (u.stream n).buf = m :: ms ∧ (u.stream n).sent = (s.stream n).sent + 1
      (bridge = true → Completes (.streamDeliver n) s fun u => left u ∧
        ∃ x, u.net = s.net ++ [x] ∧ x.op = .bridge ∧ x.dest = dest / 16 % 32 ∧ x.addr = dest % 16 ∧
          x.data = (leBytes 4 w.v.toNat).map some ∧ x.psn = b2n w.psn) ∧
      (bridge = false → s.floorOpen (dest / 512) = true →
        (if sop then CanPush s dest else CanGoOn s dest (.field n)) → Completes (.streamDeliver n) s fun u => left u ∧
          Stored s u dest (mkWord w.v sop eop w.psn) ∧ (u.queue dest).ilock = (if eop then none else some (.field n)))) ∧
    (∀ (i : Fin 256) (b : Bool), s.sdRuns i = true → s.sdFits i [b] = true → (s.sd i).hist ≠ [] →
      let h := b :: (s.sd i).hist.map (·.1)
      (s.sdBoundary i (s.sdEdge i) = true → s.flag strmEn i = true → (s.stream i).drain = false →
        let y := sincOut (s.sdK i) (s.fld sdDec i) (h.take 768)
        Completes (.sdFilterOutput i [b]) s fun u => (u.sd i).hist.map (·.1) = h.take 768 ∧
          ∃ m psn, (u.stream i).made = (s.stream i).made ++ [m] ∧ m.d1.head? =
            some ⟨if s.flag sdFmt i then ratioF32 y (s.fld sdDec i ^ s.sdK i) else BitVec.ofInt 32 y, psn⟩) ∧
      (s.flag thFen i = true → s.flag thHi i = false → max 1 (s.fld thNcons i) ≤ (s.sd i).hiN + 1 →
        (BitVec.ofNat 16 (s.reg .FIO_SDTH i / 65536)).toInt < sincOut 2 (s.fld thFm i) h →
        Completes (.sdComparatorChange i [b]) s fun u => u.flag thHi i = true ∧ u.srcLive i = true) ∧
      (s.flag sdSten i = true → s.flag sdStuck i = false → (s.sd i).run = 127 → (s.sd i).hist.head?.map (·.1) = some b →
        Completes (.sdStuck i [b]) s fun u => u.flag sdStuck i = true ∧ Logs s u 0x6102 (1 + 256 * i.val) ∧
          ∀ x ∈ (u.sd i).hist.take 128, x.2 = true) ∧
      (s.flag sdStuck i = true → (s.sd i).hist.head?.map (·.1) = some (!b) →
        Completes (.sdStuckClear i [b]) s fun u => u.flag sdStuck i = false ∧ (u.sd i).run = 1)) ∧
    (∀ (p : Fin 16) (lanes : List (List Bool)), s.flag adcEn p = true → s.waitsFor (.adcTrain p) = false →
      let (n, word, ch) := s.adcShape p
      ((lanes.length = n ∧ ∀ l ∈ lanes, l.length * n = ch * word) → Completes (.adcFrameReceive p lanes) s fun u =>
        u.flag adcClk p = true ∧ u.fld adcFrerr p = s.fld adcFrerr p ∧
        ∀ c, c < ch → s.flag strmEn (256 + 8 * p + c) = true → (s.stream (256 + 8 * p + c)).drain = false →
          ∃ m, (u.stream (256 + 8 * p + c)).made = (s.stream (256 + 8 * p + c)).made ++ [m] ∧
            m.d1.head? = some ⟨channelWord lanes n word c (s.flag adcSigned p), false⟩) ∧
      (lanes.length ≠ n → Completes (.adcFrameReceive p lanes) s fun u => u.flag adcClk p = true ∧ u.streams = s.streams ∧
        u.fld adcFrerr p = min 65535 (s.fld adcFrerr p + 1))) ∧
    (∀ (p : Fin 16), s.flag adcEn p = true →
      ((s.adc p).lost = false → Completes (.adcClockLoss p) s fun u => u.flag adcClk p = false ∧ (u.adc p).lost = true ∧
        Logs s u 0x6104 (2 + 256 * p.val)) ∧
      Completes (.adcClockReturn p) s fun u => u.flag adcClk p = true ∧ (u.adc p).lost = false ∧
        u = { s with regs := u.regs, adcs := u.adcs }) ∧
    (∀ (p : Fin 16) (t : Nat), lastAt s.tim.now (s.fld cnvPer p) (s.fld cnvPhs p) = some t → s.flag cnvEn p = true →
      (s.adc p).cnv = false → (s.adc p).rose ≠ t + 1 → s.tim.now < t + s.fld cnvWid p →
      Completes (.adcCnvPulse p true) s fun u => (u.adc p).cnv = true ∧ u = { s with adcs := u.adcs }) ∧
    (∀ (p : Fin 16), (s.adc p).cnv = true → (s.adc p).rose + s.fld cnvWid p ≤ s.tim.now + 1 →
      Completes (.adcCnvPulse p false) s fun u => (u.adc p).cnv = false ∧ u = { s with adcs := u.adcs }) ∧
    (∀ (n : Fin 32), s.encRuns n = true →
      (s.flag encMode n = false →
        (∀ z, (s.flag encZclr n && z && !(s.enc n).z) = false →
          ∀ p ∈ [((false, false), (true, false)), ((true, false), (true, true)), ((true, true), (false, true)),
              ((false, true), (false, false))],
            (((s.enc n).a, (s.enc n).b) = p.1 → Completes (.encEdge n p.2.1 p.2.2 z) s fun u =>
              u.reg .FIO_ENCPOS n = (s.reg .FIO_ENCPOS n + 1) % 2 ^ 32 ∧ ((u.enc n).a, (u.enc n).b) = p.2) ∧
            (((s.enc n).a, (s.enc n).b) = p.2 → Completes (.encEdge n p.1.1 p.1.2 z) s fun u =>
              u.reg .FIO_ENCPOS n = (s.reg .FIO_ENCPOS n + 0xFFFFFFFF) % 2 ^ 32 ∧ ((u.enc n).a, (u.enc n).b) = p.1)) ∧
        (s.flag encZclr n = true → (s.enc n).z = false → ∀ a b, Completes (.encEdge n a b true) s fun u =>
          u.reg .FIO_ENCPOS n = 0 ∧ ((u.enc n).a, (u.enc n).b, (u.enc n).z) = (a, b, true))) ∧
      (∀ t, lastAt s.tim.now (s.fld encPer n) (s.fld encPhs n) = some t → (s.enc n).last ≠ t + 1 →
        (s.flag encMode n = false → s.flag strmEn (384 + n) = true → (s.stream (384 + n)).drain = false → ∀ a,
          Completes (.encSample n a) s fun u => (u.enc n).bad = false ∧ (u.enc n).last = t + 1 ∧ ∃ m,
            (u.stream (384 + n)).made = (s.stream (384 + n)).made ++ [m] ∧
            m.d1.head? = some ⟨BitVec.ofNat 32 (s.reg .FIO_ENCPOS n), (s.enc n).bad⟩) ∧
        (s.flag encMode n = true → (s.enc n).busy = none → ∀ a, Completes (.encSample n a) s fun u =>
          (u.enc n).busy = some t ∧ u.flag encLine n = !a ∧ u.streams = s.streams)) ∧
      (∀ (t : Nat) (l : List Bool), (s.enc n).busy = some t → l.length = s.fld encBits n + 1 + s.fld encPar n →
        let raw := l.take (s.fld encBits n + 1)
        Completes (.encSerialDone n l) s fun u => (u.enc n).busy = none ∧
          u.reg .FIO_ENCPOS n = bitsNat (if s.flag encGray n then grayBits false raw else raw)))

/-- A carrier period starts on time and its outputs take their shadows; the level of a PWM output changes at a compare point and
reaches an unheld pin; a mid-period update takes the shadow; a held edge passes at its end. A safe polarity while RESET_N is
low drives unclaimed banks. A delayed valve-link frame is sent with CRC and counts, a held link repeats safe frames. A good
uplink frame gives ECHO and a sample and clears WDOG, a frame cut short counts; UP follows the receiver; a silent uplink
sets WDOG and its source. An accepted GPIO level is read and drives its source; a bank supply outside its range clears VOK
and raises 0x6401 (R356, R357, R372 to R385). Rests on R356, R357, R372, R374, R375, R376, R377, R378, R379, R380, R382,
R385. -/
def Obligations.FieldOutputsAndValveLinks : Prop :=
  ∀ (s : State), Canon s →
    (∀ (c : Fin 32) (t : Nat), (s.car c).next = some t → s.flag carEn c = true → t ≤ s.tim.now →
      Completes (.carrierPeriodStart c) s fun u => (u.car c).start = some (s.tim.clk - (s.tim.now - t)) ∧
        (u.car c).per = s.fld carPer c ∧ ∀ g : Nat, g < 512 → s.fld goutMode g = 1 → s.fld goutCar g = c →
          (u.gate g).cmp = (s.gate g).shadow.or (s.gate g).cmp ∧ (u.gate g).shadow = none) ∧
    (∀ (g : Fin 512) (st : Nat), (s.car (s.fld goutCar g)).start = some st → s.fld goutMode g = 1 →
      let lv := s.pwmAt g (8 * (s.tim.clk - st) + 7)
      lv ≠ (s.gate g).pwm → Completes (.pwmLevelChange g) s fun u => (u.gate g).pwm = lv ∧
        (s.gateForced g = none → s.pairOf g = 0 → s.fld goutMinp g = 0 → (s.gate g).mpAt ≤ 8 * st → s.dev.pins = none →
          (s.gate g).hold = false → (s.gate g).mp = (s.gate g).lvl → u.gatePin g = some (lv ^^ s.flag goutPol g))) ∧
    (∀ (g : Fin 512) (st : Nat) (w : Word), (s.car (s.fld goutCar g)).start = some st → (s.gate g).shadow = some w →
      s.fld goutMode g = 1 → s.flag goutUpd g = true → s.flag carCntr (s.fld goutCar g) = true →
      (s.gate g).shadowAt ≤ 8 * st + (s.car (s.fld goutCar g)).per * 4 →
      8 * st + (s.car (s.fld goutCar g)).per * 4 ≤ 8 * s.tim.clk + 7 →
      Completes (.pwmMidPeriodUpdate g) s fun u => (u.gate g).cmp = some w ∧ (u.gate g).shadow = none) ∧
    (∀ (g : Fin 512) (e : Nat), s.gateHoldEnd g = some e → e ≤ 8 * s.tim.clk + 7 →
      (s.gateLevel2 g ≠ (s.gate g).mp → s.midPulse g = false → (s.gate g).mpAt + s.fld goutMinp g ≤ e →
        Completes (.gateEdgeHoldEnd g) s fun u => (u.gate g).mp = s.gateLevel2 g ∧ (u.gate g).mpAt = e) ∧
      ((s.gate g).mp = true → (s.gate g).lvl = false → s.gateLevel2 g = true → s.gateForced (partner g) = none →
        (s.gate (partner g)).mp = false → s.gateLevel2 (partner g) = false →
        Completes (.gateEdgeHoldEnd g) s fun u => (u.gate g).lvl = true ∧
          (s.dev.pins = none → u.gatePin g = some (!s.flag goutPol g)))) ∧
    (s.dev.resetN = false → ∀ v : BitVec 16, Completes (.safePolChange v) s fun u => u.dev = { s.dev with safePol := v.toNat } ∧
      ∀ g : Nat, g < 512 → s.claimed (g / 32) = false → s.dev.pins = none → u.gatePin g = some (v.getLsbD (g / 32))) ∧
    (∀ (l : Fin 48), s.vlTx l = true →
      (∀ (safe : Bool) (ins : Word) (ws : List (Bool × Word)), (s.vl l).waiting = (safe, ins) :: ws → s.linkHeld l = false →
        (s.vl l).endAt + 16 ≤ s.tim.clk → Completes (.vlFrameDelayed l) s fun u => (u.vl l).waiting = ws ∧
          (u.vl l).frame = u.vlFrame l safe ins ∧ (u.vl l).frame.length = 32 ∧ crc16 ((u.vl l).frame.drop 1) = 0 ∧
          (u.vl l).startAt = s.tim.clk ∧ (u.vl l).endAt = s.tim.clk + 256 ∧ u.fld vlSeq l = (s.fld vlSeq l + 1) % 64 ∧
          u.reg .FIO_VLDLYD l = min 0xFFFFFFFF (s.reg .FIO_VLDLYD l + 1)) ∧
      (s.linkHeld l = true → (s.vl l).safeAt + 1024 ≤ s.tim.clk → Completes (.vlSafeRepeat l) s fun u =>
        (u.vl l).frame = u.vlFrame l true 0 ∧ (u.vl l).safeAt = s.tim.clk ∧ (u.vl l).startAt = s.tim.clk)) ∧
    (∀ (n : Fin 48), s.flag vlEn n = true →
      (s.flag vlUp n = true → ∀ (body : List Byte) (errs : Nat),
        (∀ (seq cnt : Byte) (rest : List Byte), body = seq :: cnt :: rest → 1 ≤ cnt.toNat → cnt.toNat ≤ 32 →
          rest.length = 2 + 4 * cnt.toNat → crc16 body = 0 → Completes (.vlUplinkFrame n body false errs) s fun u =>
            u.fld vlEcho n = seq.toNat % 64 ∧ u.flag vlWdog n = false ∧ u.srcLive (656 + n) = false ∧
            (u.vl n).good = s.tim.clk ∧ u.reg .FIO_VLCODE n = min 0xFFFFFFFF (s.reg .FIO_VLCODE n + errs)) ∧
        Completes (.vlUplinkFrame n body true errs) s fun u =>
          u.reg .FIO_VLCRC n = min 0xFFFFFFFF (s.reg .FIO_VLCRC n + 1) ∧ u.streams = s.streams ∧ u.vls = s.vls) ∧
      (s.flag vlUp n = false → ∀ errs, Completes (.vlRxUp n errs) s fun u => u.flag vlUp n = true) ∧
      (s.fld vlUwd n ≠ 0 → s.flag vlWdog n = false → (s.vl n).good + s.fld vlUwd n * 1000 ≤ s.tim.clk →
        Completes (.vlWatchdog n) s fun u => u.flag vlWdog n = true ∧ u.srcLive (656 + n) = true ∧
          Logs s u 0x6303 (5 + 256 * n.val))) ∧
    (∀ (n : Fin 48) (errs : Nat), s.flag vlUp n = true → Completes (.vlDown n errs) s fun u => u.flag vlUp n = false ∧
      Logs s u 0x6302 (5 + 256 * n.val)) ∧
    (∀ (k : Fin 32) (level : Bool), s.claimed 21 = true → s.gpioIn k ≠ level → s.pinStable (16 + k) (s.fld gpioFilt k) = true →
      Completes (.gpioEdge k level) s fun u => u.gpioIn k = level ∧
      (s.fld gpioEdge k = 3 → s.flag strmEn (464 + k) = true → (s.stream (464 + k)).drain = false → ∃ m,
        (u.stream (464 + k)).made = (s.stream (464 + k)).made ++ [m] ∧
        m.d1.head? = some ⟨BitVec.ofNat 32 (b2n level), false⟩) ∧ u.srcLive (512 + k) = (level == s.flag gpioTrpol k) ∧
      ∀ j : Fin 32, j ≠ k → u.gpioIn j = s.gpioIn j) ∧
    (∀ (k : Fin 22), s.claimed k = true →
      (s.flag bankVok k = true → Completes (.ioSupply k) s fun u => u.flag bankVok k = false ∧
        Logs s u 0x6401 (6 + 256 * k.val)) ∧
      Completes (.ioSupplyOk k) s fun u => u.flag bankVok k = true ∧ u = { s with regs := u.regs, dev := u.dev })

/-- At a trim of a new 2 us slot within the power cap, an OPEN floor held for a lost margin goes to code 50, in the critical
state to CLO, under MAN up to two codes toward VSET, and one slower than its target two codes up; GRV_PEST is stored. A
confirmed code becomes CLO and the floor is ready, a refused one backs off 1 ms; each tap change counts down; the watch
ends; a near-miss raises CLO and the code by one (to 50 with LIVE = 0) and counts. SPH moves one step, and a narrow eye
raises 0x8203 once. A reading at GRV_THERM asserts THERM_N and raises 0x8401, one at TCRIT sets TCRIT and holds open floors
at CLO. PMBus answers are kept. GRV_LIMITS, GRV_STATUS, KLN_RECAL and its end act and reply (R409 to R423, R434). Rests on
R410, R412, R413, R414, R416, R417, R418, R419, R421, R422, R423, R434. -/
def Obligations.GravityAndKiln : Prop :=
  ∀ (s : State), Canon s →
    (∀ (tb : List Nat) (pest : Nat), s.flag devReady 0 = true → s.tim.now / 2000 ≠ s.sup.lastTrim → pest ≤ s.fld grvCap 0 →
      Completes (.gravityTrim tb pest) s fun u => u.sup.lastTrim = s.tim.now / 2000 ∧ u.reg .GRV_PEST 0 = min pest 0xFFFF ∧
        ∀ f, f < 32 → s.floorOpen f = true →
          (s.heldAt50 f = true → u.code f = 50) ∧
          (s.heldAt50 f = false → s.sup.crit = true →
            (s.code f ≤ s.clo f ∨ (s.flag klnLive 0 = true ∧ (s.grav f).move = none)) → u.code f = min 50 (s.clo f)) ∧
          (s.heldAt50 f = false → s.sup.crit = false →
            (s.flag grvMan f = true → s.code f < max (min 50 (s.fld grvVset f)) (s.clo f) →
              u.code f = min 50 (min (max (min 50 (s.fld grvVset f)) (s.clo f)) (s.code f + 2))) ∧
            (s.flag grvMan f = false → s.flag grvEn 0 = true → ∀ t, s.target f = some t → t < tb.getD f 0 →
              u.code f = min 50 (s.code f + 2)) ∧
            (s.flag grvMan f = false → s.flag grvEn 0 = false → u.code f = s.code f))) ∧
    (∀ (f : FloorNo) (c : Nat), (s.grav f).phase = .asked c → c ≤ 50 →
      (Completes (.kilnConfirm f true 0 none) s fun u => u.clo f = c ∧ (u.grav f).phase = .ready ∧
        (s.floorOpen f = true → u.code f = s.code f) ∧
        ((s.fld nocState f = 1 ∨ s.fld nocState f = 2) → u.code f = min 50 (max 40 c))) ∧
      (∀ taps, Completes (.kilnConfirm f false taps none) s fun u => (u.grav f).phase = .idle ∧ u.regs = s.regs ∧
        (u.grav f).backoff = some (c, s.tim.clk + 1000000, s.floorTemp f))) ∧
    (∀ (f : FloorNo) (c n : Nat), (s.grav f).phase = .taps c n → s.flag klnLive 0 = true → c ≤ 50 →
      Completes (.kilnTapChange f) s fun u =>
        (n ≤ 1 → u.clo f = c ∧ (u.grav f).phase = .ready) ∧ (1 < n → (u.grav f).phase = .taps c (n - 1) ∧ u.regs = s.regs)) ∧
    (∀ f : FloorNo, (s.grav f).phase = .watch → Completes (.kilnWatchEnd f) s fun u =>
      (u.grav f).phase = .idle ∧ u = { s with gravs := u.gravs }) ∧
    (∀ f : FloorNo, s.fld nocState f < 3 → Completes (.klnRetreat f) s fun u => u.clo f = min 50 (s.code f + 1) ∧
      u.code f = (if s.flag klnLive 0 then min 50 (s.code f + 1) else 50) ∧
      u.fld klnNear f = min 65535 (s.fld klnNear f + 1) ∧ (u.grav f).phase = .idle) ∧
    (∀ (i : Fin 256) (up narrow : Bool), s.flag klnSden 0 = true → s.flag ⟨.FIO_SD, 53, 53⟩ i = true → s.flag sdEn i = true →
      (tget 0 s.sup.phAt i = 0 ∨ tget 0 s.sup.phAt i + 1023 ≤ s.sdEdge i) →
      Completes (.kilnSdPhaseStep i up narrow) s fun u =>
        u.fld sdSph i = (if up then min 255 (s.fld sdSph i + 1) else s.fld sdSph i - 1) ∧
        (narrow = true → tget false s.sup.eyes i = false → twf false s.sup.eyes = true → tget false u.sup.eyes i = true ∧
          Logs s u 0x8203 (1 + 256 * i.val))) ∧
    (∀ (n : Fin 547) (v : BitVec 8), twf 0 s.sup.temps = true → Completes (.thermalSensorRead n v) s fun u =>
      u.temp n = v.toInt ∧ (∀ m : Nat, m ≠ n → u.temp m = s.temp m) ∧
      ((s.fld grvTherm 0 : Int) ≤ v.toInt → s.sup.thermN = false → u.sup.thermN = true ∧ Logs s u 0x8401 0) ∧
      ((s.fld grvTcrit 0 : Int) ≤ v.toInt → s.sup.crit = false → u.sup.crit = true ∧ Logs s u 0x8402 0 ∧
        bit (u.reg .DEV_FAULT 0) 2 = true ∧ ∀ f, f < 32 → s.floorOpen f = true →
          (s.code f ≤ s.clo f ∨ (s.flag klnLive 0 = true ∧ (s.grav f).move = none)) → u.code f = min 50 (s.clo f))) ∧
    (∀ core sram : Option Word, Completes (.pmbusPoll core sram) s fun u =>
      u = { s with sup := { s.sup with core := core, sram := sram } }) ∧
    (∀ (c : Cmd) (f tbmax rsv prio : Nat), f ≤ 31 → prio ≤ 15 →
      Accepted s c 0x8001 (leBytes 1 f ++ leBytes 2 tbmax ++ leBytes 2 rsv ++ leBytes 1 prio) false →
      Completes (.grvLimits c f tbmax rsv prio) s fun u => Replies s u c 0x8001 stOk [] ∧ u.fld grvTbmax f = tbmax % 65536 ∧
        u.fld grvRsv f = rsv % 65536 ∧ u.fld grvPrio f = prio ∧ u.fld grvVset f = s.fld grvVset f) ∧
    (∀ (c : Cmd) (first n : Nat), 1 ≤ n → n ≤ 32 → first + n ≤ 32 → Accepted s c 0x8002 (leBytes 1 first ++ leBytes 1 n) false →
      Completes (.grvStatus c first n) s fun u => OnlyAnswers s u ∧ Replies s u c 0x8002 stOk ((List.range n).flatMap fun i =>
        leBytes 8 (s.reg .GRV_FSTAT (first + i)) ++ leBytes 8 (s.reg .KLN_FLOOR (first + i)))) ∧
    (∀ (c : Cmd) (f : Nat), f ≤ 31 → Accepted s c 0x8005 (leBytes 1 f) false →
      ((s.fld nocState f = 1 ∨ s.fld nocState f = 2) → Completes (.klnRecal c f) s fun u => WaitsFor s u c 0x8005 (.recal f) 0) ∧
      (s.floorOpen f = true → Completes (.klnRecal c f) s fun u => Replies s u c 0x8005 stBusy [] ∧ OnlyAnswers s u)) ∧
    (∀ (f : FloorNo) (clo : Fin 51), s.waitsFor (.recal f) = true →
      (Completes (.klnRecalDone f true clo 0#16) s fun u => Finishes s u (.recal f) stOk [] ∧ u.clo f = clo ∧
        u.flag klnCalok f = true ∧ u.fld klnMloss f = 0) ∧
      (Completes (.klnRecalDone f false clo 0#16) s fun u => Finishes s u (.recal f) stFault [] ∧ u.flag klnCalok f = false ∧
        Logs s u 0x8202 (locTile (16 * f) 0xFF 0xFF)))

/-- A thermal or fault trigger of a WORK tile with a free spare makes it TURNING with its data slots to move; with no spare it
raises 0x8303. The lowest slot still to move starts its move when every condition of R427 holds; while one does not, the
deferral is counted once and reported once after TRN_DEFMAX. TURN_COMMIT gives the spare the slot's contents, empties the
source's slot, counts and raises 0x8301. TURN_MOVE of a WORK tile with data slots waits, of one with none replies OK; its
timeout replies TIMEOUT and keeps the moves. TURN_RETURN of an empty tile makes it SPARE, of a WORK tile is BUSY, of a
RETIRED tile that fails is FAULT. The turn patch of a slot is what Config.turnPatch reads in it (log 30). Rests on R201,
R424, R426, R427, R428, R429, R430, R434. -/
def Obligations.TilesTurn : Prop :=
  ∀ (s : State) (t : TileNo), Canon s →
    (∀ cause : Fin 3, s.triggerDue t cause = true → s.tstate t = 0 → (s.turn t).evac = none → s.dataSlots t ≠ [] →
      (∀ b, s.freeSpareTile (t / 16) = some b → Completes (.turnTrigger t cause) s fun u => u.tstate t = 2 ∧
        ∃ e, (u.turn t).evac = some e ∧ e.spare = b ∧ e.cause = cause ∧ e.since = s.tim.clk ∧ e.left = s.dataSlots t) ∧
      (s.freeSpareTile (t / 16) = none → Completes (.turnTrigger t cause) s fun u => u.tstate t = 0 ∧
        (u.turn t).evac = none ∧ Logs s u 0x8303 (t / 16))) ∧
    (∀ (e : Evac) (k : Nat) (ks : List Nat), (s.turn t).evac = some e → e.left = k :: ks →
      (∀ w, s.moveFate t k e.spare = .start w → Completes (.turnMoveStart t) s fun u =>
        (u.grav (t / 16)).move = some { tile := t, slot := k, spare := e.spare, start := s.tim.clk, words := w } ∧
        (u.slot t k).moving = true ∧ (u.slot e.spare k).moving = true ∧ u.flag grvMove (t / 16) = true ∧
        u = { s with slots := u.slots, gravs := u.gravs, regs := u.regs }) ∧
      (s.moveFate t k e.spare = .defer → (s.slot t k).moving = false → Completes (.trnDeferred t) s fun u =>
        u.slots = s.slots ∧ (e.defd.contains k = false →
          u.reg .TRN_DEFERS 0 = min 0xFFFFFFFF (s.reg .TRN_DEFERS 0 + 1)) ∧
        (e.late.contains k = false → e.since + s.reg .TRN_DEFMAX 0 * 1000 ≤ s.tim.clk → Logs s u 0x8302 (locTile t k 0xFF)))) ∧
    (∀ (m : Move) (p : Config.TurnPatch), (s.grav (t / 16)).move = some m → m.tile = t.val → m.spare < 512 → m.spare ≠ t.val →
      m.slot < 8 → s.turnPatch m.tile m.slot = some p → (s.slot t m.slot).flags.getLsbD 7 = false →
      Completes (.turnCommit t) s fun u => u.slot m.spare m.slot = { s.slot t m.slot with moving := false } ∧
        u.slot t m.slot = .init ∧ (u.grav (t / 16)).move = none ∧ Logs s u 0x8301 (locTile t m.slot 0xFF) ∧
        u.reg .TRN_MOVES 0 = min 0xFFFFFFFF (s.reg .TRN_MOVES 0 + 1)) ∧
    (∀ (c : Cmd) (slots timeout : Nat), Accepted s c 0x8003 (leBytes 2 t ++ leBytes 1 slots ++ leBytes 2 timeout) false →
      let l := (s.dataSlots t).filter fun k => slots = 0 ∨ bit slots k
      (l ≠ [] → s.tstate t = 0 → (s.turn t).evac = none → (s.freeSpareTile (t / 16)).isSome = true →
        Completes (.turnMove c t slots timeout) s fun u => WaitsFor s u c 0x8003 (.turnMove t slots) timeout ∧ u.tstate t = 2) ∧
      (l = [] → Completes (.turnMove c t slots timeout) s fun u => Replies s u c 0x8003 stOk [] ∧ OnlyAnswers s u)) ∧
    (∀ (x : InProg) (n : Nat), x ∈ s.cmds → x.wait = .turnMove t n → x.deadline.any (· ≤ s.tim.clk) = true →
      (∀ y ∈ s.cmds, y ≠ x → ∀ m, y.wait ≠ .turnMove t m) → x.cmd.remote = 0 → s.orphans.contains x.cmd = false →
      Completes (.turnMoveTimeout t) s fun u => u.cmds = s.cmds.erase x ∧ Replies s u x.cmd x.op stTimeout [] ∧
        OnlyAnswers s u) ∧
    (∀ (c : Cmd) (pass : Bool), Accepted s c 0x8004 (leBytes 2 t) false →
      (s.dataSlots t = [] → (s.tstate t = 1 ∨ s.tstate t = 2 ∨ (s.tstate t = 3 ∧ pass = true)) →
        Completes (.turnReturn c t pass) s fun u => Replies s u c 0x8004 stOk [] ∧ u.tstate t = 1 ∧ (u.turn t).evac = none ∧
          (s.tstate t = 3 → bit (u.fld klnMloss (t / 16)) (t % 16) = false)) ∧
      (s.tstate t = 0 → Completes (.turnReturn c t pass) s fun u => Replies s u c 0x8004 stBusy [] ∧ OnlyAnswers s u) ∧
      (s.dataSlots t = [] → s.tstate t = 3 → pass = false → Completes (.turnReturn c t pass) s fun u =>
        Replies s u c 0x8004 stFault [] ∧ OnlyAnswers s u))

/-- A doorbell within a sized ring sets TAIL; another stops the ring with ERR and 0xB101. EN = 1 on a stopped ring clears ERR
and the indices, EN = 0 stops fetching. The fetch of a sound packet takes it, of one with a bad header replies its status, a
failed read sets ERR. The oldest reply is written at RTAIL with its phase and RTAIL advances; a coalescing timeout signals.
PCIe and function resets stop the rings. DEV_INFO and NOP reply. A command for another device is sent, its reply is written
when it returns, NO_ROUTE when no link leads there, TIMEOUT after 100 ms; one from another device is taken or refused (R440
to R456). Rests on R440, R441, R444, R445, R446, R449, R451, R452, R453, R456. -/
def Obligations.HostRings : Prop :=
  ∀ (s : State), Canon s →
    (∀ (v : ViewNo) (w : Word),
      let ahead := (w.toNat % 65536 + 65536 - s.reg .CMD_CHEAD v) % 65536
      ((s.ring v).sized = true → ahead ≤ s.ringSlots v → Completes (.ringDoorbell v w) s fun u =>
        (u.ring v).tail = w.toNat % 65536 ∧ u = { s with rings := u.rings }) ∧
      (((s.ring v).sized = false ∨ s.ringSlots v < ahead) → Completes (.ringDoorbell v w) s fun u =>
        u.flag ringErr v = true ∧ Logs s u 0xB101 (v + 256 * 255)) ∧
      (w.getLsbD 31 = true → s.flag ringEn v = false → Completes (.ringEnable v w) s fun u => u.flag ringEn v = true ∧
        u.flag ringErr v = false ∧ u.reg .CMD_CHEAD v = 0 ∧ u.reg .CMD_RTAIL v = 0 ∧ u.reg .CMD_RHEAD v = 0 ∧
        (u.ring v).tail = 0 ∧ (s.inflight v = 0 → (u.ring v).sized = true ∧
          u.fld ringLog2n v = max 4 (min 12 (bits w.toNat 19 16)))) ∧
      (w.getLsbD 31 = false → s.flag ringEn v = true → Completes (.ringDisable v w) s fun u => u.flag ringEn v = false ∧
        u.cmds = s.cmds ∧ u.fetched = s.fetched)) ∧
    (∀ (v : ViewNo) (slot : List Byte), slot.length = 1024 → s.othersTurn v = false →
      s.ringReady v (if bit (numAt slot 2 1) 2 then 2 else 1) = true →
      let c := packetCmd v (s.reg .CMD_CHEAD v) slot
      let ps := (slot.drop 16).take (numAt slot 8 2)
      (∀ y, layoutOf (numAt slot 0 2) = some y → s.headerFault c slot = none → paramFault y ps = none →
        Completes (.commandFetch v slot false) s fun u => u.reg .CMD_CHEAD v = (s.reg .CMD_CHEAD v + 1) % 65536 ∧
          u.fetched = s.fetched ++ [{ cmd := c, op := numAt slot 0 2, params := cleanParams (numAt slot 0 2) ps }] ∧
          u.replies = s.replies) ∧
      (∀ st d, s.headerFault c slot = some (st, d) → s.orphans.contains c = false → Completes (.commandFetch v slot false) s fun u =>
        Replies s u c (numAt slot 0 2) st d ∧ u.fetched = s.fetched ∧ u.reg .CMD_CHEAD v = (s.reg .CMD_CHEAD v + 1) % 65536 ∧
        u.reg .CMD_REJECTED 0 = min 0xFFFFFFFF (s.reg .CMD_REJECTED 0 + 1)) ∧
      (Completes (.commandFetch v slot true) s fun u => u.flag ringErr v = true ∧ Logs s u 0xB102 (v + 256 * 255))) ∧
    (∀ (v : ViewNo) (r : Reply), s.replies.find? (fun r => ofRing v r.cmd) = some r →
      (∀ x ∈ s.cmds, ∀ k f n, x.wait ≠ .viewRevoke k f n) →
      let t := s.reg .CMD_RTAIL v
      Completes (.replyWrite v false) s fun u => u.replies = s.replies.erase r ∧ u.reg .CMD_RTAIL v = (t + 1) % 65536 ∧
        ∀ i b, (replyBytes r (t / s.ringSlots v % 2 == 0))[i]? = some b →
          u.hostByte (s.reg .CMD_RBASE v + 1024 * (t % s.ringSlots v) + i) = b) ∧
    (∀ v : ViewNo, (s.ring v).unsig ≠ 0 → (s.ring v).unsigAt + s.reg .CMD_COAL v / 65536 * 1000 ≤ s.tim.clk →
      Completes (.msixCoalesceTimeout v) s fun u => u.irqs = s.irqs ++ [(v.val, 0)] ∧ (u.ring v).unsig = 0) ∧
    Completes .pcieReset s (fun u => (∀ v, v < 16 → u.flag ringEn v = false ∧ u.reg .CMD_CHEAD v = 0 ∧ u.reg .CMD_RTAIL v = 0 ∧
      u.reg .CMD_RHEAD v = 0 ∧ (u.ring v).tail = 0) ∧ ∀ h, h < 64 → u.flag hqEn h = false) ∧
    (∀ v : ViewNo, v ≠ 0 → Completes (.vfFlr v) s fun u => u.flag ringEn v = false ∧ u.reg .CMD_CHEAD v = 0 ∧ (u.ring v).tail = 0 ∧
      ∀ w : ViewNo, w ≠ v → u.flag ringEn w = s.flag ringEn w ∧ u.reg .CMD_CHEAD w = s.reg .CMD_CHEAD w) ∧
    (∀ c : Cmd, Accepted s c 0x0001 [] true → Completes (.devInfo c) s fun u => OnlyAnswers s u ∧ Replies s u c 0x0001 stOk
      (leBytes 4 (s.reg .DEV_ID 0) ++ leBytes 4 (s.reg .DEV_FWVER 0) ++ leBytes 8 (s.reg .DEV_EFUSE_ID 0) ++
        leBytes 8 (s.reg .CFG_MANIFEST 0) ++ leBytes 2 (s.fld sysSdn 0) ++ leBytes 1 c.view ++ leBytes 5 0)) ∧
    (∀ (c : Cmd) (data : List Byte), Accepted s c 0x0002 data true → data.length ≤ 1008 → Completes (.nop c data) s fun u =>
      Replies s u c 0x0002 stOk data ∧ OnlyAnswers s u) ∧
    (∀ (c : Cmd) (op : Nat) (params : List Byte), s.tgtOther c = true → c.remote = 0 → s.orphans.contains c = false →
      ((∀ x ∈ s.cmds, x.cmd ≠ c) → s.isTurn c op params = true → tgtBad c = false → c.view = 0 → c.ring = 0 →
        s.flag devReady 0 = true →
        ((s.sysLink (tgtSdn c) false).isSome = true → Completes (.forwardedCommand c op params none) s fun u =>
          WaitsFor s u c op (.forwarded (tgtSdn c)) 100000) ∧
        (s.sysLink (tgtSdn c) false = none → Completes (.forwardedCommand c op params none) s fun u =>
          Replies s u c op stNoRoute [] ∧ OnlyAnswers s u)) ∧
      (∀ x st data, s.cmds.find? (fun x => x.cmd = c ∧ x.op = op ∧ x.wait = .forwarded (tgtSdn c)) = some x →
        Completes (.forwardedCommand c op params (some (st, data))) s fun u =>
          u.cmds = s.cmds.erase x ∧ Replies s u c op st data ∧ OnlyAnswers s u)) ∧
    (∀ (x : InProg) (n : Nat), x ∈ s.cmds → x.wait = .forwarded n → x.deadline.any (· ≤ s.tim.clk) = true →
      (∀ y ∈ s.cmds, y ≠ x → y.cmd.tag ≠ x.cmd.tag) → x.cmd.remote = 0 → s.orphans.contains x.cmd = false →
      Completes (.forwardTimeout x.cmd.ring x.cmd.tag) s fun u => u.cmds = s.cmds.erase x ∧
        Replies s u x.cmd x.op stTimeout [] ∧ OnlyAnswers s u) ∧
    (∀ (m : LinkNo) (c : Cmd) (op : Nat) (params : List Byte), s.linkUp m = true → s.flag devFwrun 0 = true → c.remote ≠ 0 →
      c.ring = 0 → c.view = 0 → tgtSys c = true → s.tgtOther c = false → s.orphans.contains c = false →
      (∀ y, layoutOf op = some y → paramFault y params = none → Completes (.managementCommandReceive m c op params) s fun u =>
        u = { s with fetched := s.fetched ++ [{ cmd := c, op := op, params := cleanParams op params }] }) ∧
      (layoutOf op = none → Completes (.managementCommandReceive m c op params) s fun u => u = { s with mgmt := s.mgmt ++
        [{ cmd := c, op := op, status := stBadOpcode, interim := false, data := [] }] }))

/-- VIEW_GRANT of free resources sets their owner and no other's; one owned by another view makes it BUSY. VIEW_REVOKE with
nothing of the old owner pending frees them, else it waits. VIEW_TABLE replies the owners. GUARD_DOORBELL notifies the named
guard. HOSTQ_BIND opens a free port; a push port takes a word written at its page with the tags of its address, hands it to
its queue; a pop port takes its queue's word, HQ_POP takes it from there; a full FIFO counts HQ_ERR. HOSTQ_DISABLE drains or
aborts. HMW_SET writes a segment. A completed window access answers with the bytes read, or writes host memory; a failed one
answers NO_ROUTE (R123, R456 to R465). Rests on R123, R456, R457, R458, R459, R461, R462, R463, R464, R465. -/
def Obligations.ViewsAndHostPorts : Prop :=
  ∀ (s : State), Canon s →
    (∀ (c : Cmd) (kind first n : Nat), kind ≤ 5 → 1 ≤ n → first + n ≤ kindSize kind →
      (∀ view, 1 ≤ view → view ≤ 15 → s.revokePending kind first n = false →
        Accepted s c 0x0003 (rangeParams kind first n ++ leBytes 1 view) false →
        ((∀ i, i < n → s.ownerOf kind (first + i) = 0 ∨ s.ownerOf kind (first + i) = view) →
          Completes (.viewGrant c kind first n view) s fun u => Replies s u c 0x0003 stOk [] ∧
            (∀ i, i < n → u.ownerOf kind (first + i) = view) ∧
            ∀ k i, i < 65536 → (k ≠ kind ∨ i < first ∨ first + n ≤ i) → u.ownerOf k i = s.ownerOf k i) ∧
        ((∃ i, i < n ∧ s.ownerOf kind (first + i) ≠ 0 ∧ s.ownerOf kind (first + i) ≠ view) →
          Completes (.viewGrant c kind first n view) s fun u => Replies s u c 0x0003 stBusy [] ∧ OnlyAnswers s u)) ∧
      (Accepted s c 0x0004 (rangeParams kind first n) false → (∀ x ∈ s.cmds, ∀ k f m, x.wait ≠ .viewRevoke k f m) →
        (s.revokeBlocked kind first n = false → (∀ q v, (s.queue q).ilock ≠ some (.cmdPath v)) →
          Completes (.viewRevoke c kind first n) s fun u => Replies s u c 0x0004 stOk [] ∧ u.cmds = s.cmds ∧
            ∀ i, i < n → u.ownerOf kind (first + i) = 0) ∧
        (s.revokeBlocked kind first n = true → Completes (.viewRevoke c kind first n) s fun u => u.owners = s.owners ∧
          u.replies = s.replies ∧ u.cmds = s.cmds ++ [{ cmd := c, op := 0x0004, wait := .viewRevoke kind first n, deadline := none }])) ∧
      (n ≤ 1008 → Accepted s c 0x0005 (rangeParams kind first n) false → Completes (.viewTable c kind first n) s fun u =>
        Replies s u c 0x0005 stOk ((List.range n).map fun i => BitVec.ofNat 8 (s.ownerOf kind (first + i))) ∧ OnlyAnswers s u)) ∧
    (∀ (c : Cmd) (t g : Nat), t ≤ 511 → g ≤ 1 → Accepted s c 0x0006 (leBytes 2 t ++ leBytes 1 g) false →
      (s.guardSlot t g).isSome = true → bit (s.reg .TIL_GEN (2 * t + g)) 12 = true → s.floorOpen (t / 16) = true →
      Completes (.guardDoorbell c t g) s fun u => Replies s u c 0x0006 stOk [] ∧ u.notices = s.notices ++ [(t, 12, g)]) ∧
    (∀ (c : Cmd) (p q dir view : Nat), p ≤ 63 → q ≤ 16383 → dir ≤ 1 → view ≤ 15 → s.flag hqEn p = false →
      (view = 0 ∨ (s.ownerOf 1 q = view ∧ s.revoked 1 q = false)) →
      Accepted s c 0x0007 (leBytes 1 p ++ leBytes 2 q ++ leBytes 1 dir ++ leBytes 1 view) false →
      Completes (.hostqBind c p q dir view) s fun u => Replies s u c 0x0007 stOk [] ∧ u.flag hqEn p = true ∧
        u.fld hqQueue p = q ∧ u.fld hqDir p = dir ∧ u.fld hqView p = view ∧ (u.hport p).fifo = []) ∧
    (∀ (c : Cmd) (p timeout : Nat), p ≤ 63 → s.cmdOwns c 5 p = true → s.flag hqEn p = true →
      (Accepted s c 0x0008 (leBytes 1 p ++ leBytes 1 0 ++ leBytes 2 timeout) true → (s.hport p).fifo ≠ [] →
        Completes (.hostqDisableDrain c p timeout) s fun u => WaitsFor s u c 0x0008 (.portDrain p) timeout ∧
          (u.hport p).drain = true ∧ u.flag hqEn p = true) ∧
      (Accepted s c 0x0008 (leBytes 1 p ++ leBytes 1 1 ++ leBytes 2 timeout) true → c.pack = false →
        s.waitsFor (.portDrain p) = false → s.hqMid p = false → Completes (.hostqDisableAbort c p timeout) s fun u =>
          Replies s u c 0x0008 stOk [] ∧ u.flag hqEn p = false ∧ (u.hport p).fifo = [])) ∧
    (∀ (h : Fin 64) (view : ViewNo), s.hqSees view h = true → s.flag hqEn h = true →
      (s.flag hqDir h = false → (s.hport h).drain = false → ∀ (w : Word) (g : Nat), g < 8 →
        ((s.hport h).fifo.length < 256 → Completes (.hqPushWrite h view (BitVec.ofNat 12 (0x100 + 4 * g)) [w] true) s fun u =>
          (u.hport h).fifo = (s.hport h).fifo ++ [mkWord w (bit g 0) (bit g 1) (bit g 2)]) ∧
        (256 ≤ (s.hport h).fifo.length → Completes (.hqPushWrite h view (BitVec.ofNat 12 (0x100 + 4 * g)) [w] true) s fun u =>
          (u.hport h).fifo = (s.hport h).fifo ∧ (u.hport h).err = min 0xFFFFFFFF ((s.hport h).err + 1))) ∧
      (s.flag hqDir h = true → (s.hport h).drain = false → Completes (.hqPopRead h view 0x200 true) s fun u =>
        (u.hport h).fifo = (s.hport h).fifo.tail)) ∧
    (∀ (h : Fin 64), s.flag hqEn h = true → s.floorOpen (s.fld hqQueue h / 512) = true →
      (∀ w rest, s.flag hqDir h = false → (s.hport h).fifo = w :: rest → w.sop = true → CanPush s (s.fld hqQueue h) →
        Completes (.hqPortTransfer h) s fun u => (u.hport h).fifo = rest ∧
          Stored s u (s.fld hqQueue h) (mkWord w.data true w.eop w.psn)) ∧
      (∀ w, s.flag hqDir h = true → (s.hport h).fifo.length < 256 → (s.hport h).drain = false →
        CanPop s (s.fld hqQueue h) (.hostPort h) w → Completes (.hqPortTransfer h) s fun u =>
          (u.hport h).fifo = (s.hport h).fifo ++ [w] ∧
          (u.queue (s.fld hqQueue h)).drain = (s.queue (s.fld hqQueue h)).drain.tail)) ∧
    (∀ (c : Cmd) (seg en fn : Nat) (addr : DWord), seg ≤ 31 → en ≤ 1 → fn ≤ 15 → addr.toNat % 2 ^ 30 = 0 →
      Accepted s c 0x0009 (leBytes 1 seg ++ leBytes 1 en ++ leBytes 1 fn ++ leBytes 8 addr.toNat) false →
      Completes (.hmwSet c seg en fn addr) s fun u => Replies s u c 0x0009 stOk [] ∧
        u.reg .CMD_HMW seg = en * 2 ^ 63 + fn * 2 ^ 59 + addr.toNat / 2 ^ 30) ∧
    (∀ (p : Pkt) (data : List Byte), s.hmw.contains p = true →
      (p.op = .rd → data.length = reqBytes p.size → Completes (.hmwCompletion p 0 data) s fun u => u.hmw = s.hmw.erase p ∧
        ∃ x, u.net = s.net ++ [x] ∧ x.tag = p.tag ∧ x.src = p.src ∧ x.data = data.map some ∧ x.psn = 0) ∧
      (p.op = .wr → Completes (.hmwCompletion p 0 data) s fun u => u.hmw = s.hmw.erase p ∧
        (∃ x, u.net = s.net ++ [x] ∧ x.op = .rsp ∧ x.status = stOk ∧ x.tag = p.tag) ∧
        ∀ i b, p.data[i]? = some (some b) →
          u.hostByte (s.reg .CMD_HMW (p.addr / 2 ^ 30 % 32) % 2 ^ 34 * 2 ^ 30 + p.addr % 2 ^ 30 + i) = b) ∧
      (∀ res : Fin 3, res ≠ 0 → Completes (.hmwCompletion p res data) s fun u => u.hmw = s.hmw.erase p ∧
        (∃ x, u.net = s.net ++ [x] ∧ x.op = .rsp ∧ x.status = stNoRoute ∧ x.tag = p.tag) ∧
        (res = 2 → tget 0 s.hmwAt (p.addr / 2 ^ 30 % 32) = 0 →
          ∃ r ∈ u.logQ, r.code = 0xB301 ∧ r.loc % 256 = s.fld hmwFn (p.addr / 2 ^ 30 % 32))))

/-- RESET_N low returns every register to its reset value, its rise mirrors the fuses and the strap. Boot without a key halts
with CODE 1, goes on to copy B when copy A has no directory, and runs a sound copy. Memory initialisation leaves every store
byte unwritten and the default routes; a confirmed floor gets its CLO, another is OFF; READY follows. A fitting manifest
comes into force; a sound guard image is loaded; a floor load starts, fences the floor after pass 1, opens it with the image
after pass 2, or faults; the autonomous load ends after its last entry. LOAD_STATUS and MANIFEST_READ reply. A sound slot
image makes its slot LOADING, then IDLE with its IMG and entry (R145 to R148, R471 to R502). Rests on R145, R148, R471,
R472, R474, R475, R476, R479, R484, R486, R488, R490. -/
def Obligations.ResetBootAndLoads : Prop :=
  ∀ (s : State), Canon s →
    Completes .resetAssert s (fun u => u.regs = State.reset.regs ∧ u.net = [] ∧ u.cmds = [] ∧ u.replies = [] ∧ u.store = [] ∧
      u.written = [] ∧ u.slots = [] ∧ u.tasks = [] ∧ u.queues = [] ∧ u.lanes = [] ∧ u.dev.resetN = false ∧
      u.hostMem = s.hostMem ∧ u.dev.fuses = s.dev.fuses ∧ u.pending = s.pending) ∧
    (s.dev.resetN = false → ∀ b : BitVec 3, Completes (.resetRelease b) s fun u => u.dev.resetN = true ∧
      u.fld bootBsel 0 = b.toNat ∧ u.reg .DEV_EFUSE_ID 0 = s.dev.fuses.id.toNat ∧
      ∀ k, k < 6 → u.reg .DEV_KEYHASH k = s.dev.fuses.key.toNat / 2 ^ (64 * k) % 2 ^ 64) ∧
    (∀ copyB : Bool, s.bootReady copyB = true →
      (bit (s.reg .DEV_FUSE 0) 0 = false → ∀ r, Completes (.bootCopyVerify copyB r) s fun u => u.dev.halted = true ∧
        u.fld bootCode 0 = 1 ∧ bit (u.reg .DEV_FAULT 0) 5 = true ∧ u.flag devFwrun 0 = false) ∧
      (bit (s.reg .DEV_FUSE 0) 0 = true → copyB = false → Completes (.bootCopyVerify copyB .none) s fun u =>
        u.fld bootCode 0 = 2 ∧ u.dev = { s.dev with copyA := true }) ∧
      (∀ l, bit (s.reg .DEV_FUSE 0) 0 = true → s.copyFault l = 0 → Completes (.bootCopyVerify copyB (.copy l)) s fun u =>
        u.flag devFwrun 0 = true ∧ u.reg .DEV_FWVER 0 = numAt l 0 4 ∧ u.fld bootStage 0 = 5 ∧ u.flag bootAlt 0 = copyB ∧
        ∀ f, f < 32 → u.code f = 40)) ∧
    (s.flag devFwrun 0 = true → s.dev.memDone = false → Completes .memoryInitDone s fun u => u.dev = { s.dev with memDone := true } ∧
      (∀ t off, t < 512 → u.fresh (u.phys t off) = true ∧ (u.peek t off).1.data = 0#8) ∧
      ∀ b r e, b < 2 → r < 53 → e < 33 → u.bank b r e = defaultRoute r e) ∧
    (∀ (f : FloorNo) (clo : Fin 51) (lost : BitVec 16), s.flag devFwrun 0 = true → s.flag devReady 0 = false →
      bit s.dev.calDone f = false →
      (Completes (.kilnCalibrationDone f true clo 0#16) s fun u => u.clo f = clo ∧ u.flag klnCalok f = true ∧
        bit u.dev.calDone f = true) ∧
      (Completes (.kilnCalibrationDone f false clo lost) s fun u => u.fld nocState f = 3 ∧ u.code f = 0 ∧
        u.flag klnCalok f = false ∧ bit u.dev.calDone f = true)) ∧
    (s.flag devFwrun 0 = true → s.flag devReady 0 = false → s.dev.memDone = true → s.dev.calDone = 2 ^ 32 - 1 →
      Completes .ready s fun u => u.flag devReady 0 = true ∧ u.fld bootStage 0 = 6 ∧
        (s.fld bootBsel 0 = 0 → u.cfg.auto = 1 ∧ u.fld cfgAuto 0 = 1)) ∧
    (3 ≤ s.cfg.auto → s.cfg.load = none → ∀ floor entry img fails, Completes (.autoload 3 floor entry img fails) s fun u =>
      u.cfg.auto = 0 ∧ u.fld cfgAuto 0 = 2) ∧
    (∀ (c : Cmd) (kind floor src entry : Nat) (a : DWord) (len : Nat) (img : List Byte), c.pack = false →
      Accepted s c 0x1001 (imageParams kind floor src entry a len) false → imageParFault floor src entry kind = none →
      s.loadBusy = false → s.fld cfgAuto 0 ≠ 1 →
      (kind = 0 → s.manifestFits (sourced src len img) = true → Completes (.imageLoadManifest c floor src entry a len img false) s
        fun u => u.cfg = { s.cfg with manifest := sourced src len img } ∧ u.reg .CFG_MANIFEST 0 = manifestHash (sourced src len img) ∧
          Replies s u c 0x1001 stOk (loadReply (sourced src len img).length (manifestHash (sourced src len img)) 0)) ∧
      (kind = 1 → ∀ l, s.checkGuard (sourced src len img) = .good l → Completes (.imageLoadGuard c floor src entry a len img false) s
        fun u => u.dev.guardIn = true ∧ u.cfg.guard = imageDigest (sourced src len img) ∧ u.fld guardState 0 = 2 ∧
          (l = [] → Replies s u c 0x1001 stOk (loadReply (sourced src len img).length
            ((imageDigest (sourced src len img)).toNat % 2 ^ 64) 0))) ∧
      (kind = 2 → s.floorLoadFault floor = none → (src = 0 → 64 ≤ len ∧ len ≤ 0x1000000) →
        Completes (.imageLoadFloor c floor src entry a len) s fun u => WaitsFor s u c 0x1001 (.imageLoad floor) 0 ∧
          u.fld cfgFloorState floor = 1 ∧ ∃ x, u.cfg.load = some x ∧ x.floor = floor ∧ x.pass2 = false ∧ x.cmd = some c)) ∧
    (∀ (x : LoadSt) (c : Cmd) (img : List Byte), s.cfg.load = some x → x.cmd = some c → x.floor < 32 →
      (x.pass2 = false →
        (∀ l, s.checkFloor x.floor (if x.len = 0 then img else sourced 0 x.len img) = .good l →
          Completes (.loadPass1Done img false) s fun u => u.fld nocState x.floor = 1 ∧
            ∃ y, u.cfg.load = some y ∧ y.pass2 = true ∧ y.floor = x.floor) ∧
        (Completes (.loadPass1Done img true) s fun u => Finishes s u (.imageLoad x.floor) stFault [] ∧ u.cfg.load = none ∧
          u.fld nocState x.floor = s.fld nocState x.floor ∧ u.fld cfgLstat x.floor = stFault ∧ u.store = s.store)) ∧
      (x.pass2 = true → s.fld nocState x.floor = 2 →
        (∀ l, img.length = x.len → imageDigest img = x.digest → imageFrames kFloor img = some l →
          Completes (.loadPass2Done img false) s fun u => u.floorOpen x.floor = true ∧ u.fld cfgFloorState x.floor = 2 ∧
            u.cfg.load = none ∧ u.fld cfgDigest x.floor = x.digest.toNat % 2 ^ 48 ∧ u.waitsFor (.imageLoad x.floor) = false ∧
            (l = [] → Finishes s u (.imageLoad x.floor) stOk
              (loadReply x.len (x.digest.toNat % 2 ^ 64) ((s.tim.clk - x.fenceAt) / 1000)))) ∧
        (Completes (.loadPass2Done img true) s fun u => u.fld nocState x.floor = 1 ∧ u.fld cfgFloorState x.floor = 4 ∧
          u.cfg.load = none ∧ Finishes s u (.imageLoad x.floor) stFault [] ∧ Logs s u 0x9202 (x.floor + 256 * x.entry)))) ∧
    (∀ (c : Cmd) (f : Nat), f ≤ 31 → Accepted s c 0x1002 (leBytes 1 f) false → Completes (.loadStatus c f) s fun u =>
      Replies s u c 0x1002 stOk (leBytes 8 (s.reg .CFG_FLOOR f) ++ leBytes 8 (s.reg .CFG_LTIME f)) ∧ OnlyAnswers s u) ∧
    (∀ c : Cmd, Accepted s c 0x1002 (leBytes 1 0xFF) false → Completes (.loadStatus c 0xFF) s fun u =>
      ∃ d : DWord, Replies s u c 0x1002 stOk (leBytes 8 (s.reg .CFG_GUARD 0) ++ leBytes 8 d.toNat)) ∧
    (∀ (c : Cmd) (off len : Nat), 1 ≤ len → len ≤ 1008 → off + len ≤ 1840 → s.cfg.manifest ≠ [] →
      Accepted s c 0x1005 (leBytes 2 off ++ leBytes 2 len) false → Completes (.manifestRead c off len) s fun u =>
        Replies s u c 0x1005 stOk ((s.cfg.manifest.drop off).take len) ∧ OnlyAnswers s u) ∧
    (∀ (c : Cmd) (t k a len : Nat) (img : List Byte) (l : List Frame), slotLoadParFault t k 1 a len = none →
      Accepted s c 0x1003 (leBytes 2 t ++ leBytes 1 k ++ leBytes 1 1 ++ leBytes 8 a ++ leBytes 4 len) false →
      s.floorOpen (t / 16) = true → s.cfg.load = none → s.slotBusy t k = false →
      s.checkSlot t k (sourced 0 len img) = .good l → s.guardOf t k = none →
      Completes (.slotLoad c t k 1 a len img false) s fun u => WaitsFor s u c 0x1003 (.slotLoad t k) 0 ∧ u.sstate t k = stLoading ∧
        (u.tile t).loading = (s.tile t).loading ++ [(c, k, slotBody (sourced 0 len img) s.trailed)]) ∧
    (∀ (t : TileNo) (k : SlotNo) (c : Cmd) (img : List Byte), (s.tile t).loading = [(c, k.val, img)] →
      Completes (.slotLoadDone t k) s fun u => u.sstate t k = stIdle ∧ (u.tile t).icache = [] ∧
        u.pc t k = numAt img 30 4 ∧ u.fld slotImg (8 * t.val + k.val) = numAt img 28 2 ∧ u.waitsFor (.slotLoad t k) = false ∧
        ((imageFrames kSlot img).getD [] = [] → (u.tile t).loading = [] ∧
          Finishes s u (.slotLoad t k) stOk (leBytes 8 ((imageDigest img).toNat % 2 ^ 64))))

/-- FLOOR_FREEZE of an OPEN floor that is not loading and not freezing makes the freeze pending and waits, of a frozen floor
replies OK; a pending freeze without a batch and without a move takes effect and answers OK; its timeout withdraws it with
TIMEOUT. READBACK of a frozen floor replies the bytes and changes nothing. FLOOR_THAW gives the floor its state back. With
the port on: CFGADDR sets the address, CFGDATA reads a register there and steps by 4, FRZCTL freezes at once or thaws,
EXTEST takes the field pins, FUSEPGM in provisioning mode sets fuse bits and clears none (R492 to R499). Rests on R492,
R494, R495, R496, R497, R498, R499. -/
def Obligations.FreezeReadbackAndTap : Prop :=
  ∀ (s : State), Canon s →
    (∀ (c : Cmd) (f b imm timeout : Nat), f ≤ 31 → imm ≤ 1 →
      Accepted s c 0xB001 (leBytes 1 f ++ leBytes 1 b ++ leBytes 1 imm ++ leBytes 2 timeout) false →
      (s.frozen f = false → s.freezing f = false → s.freezeFault f b imm = none → Completes (.floorFreeze c f b imm timeout) s fun u =>
        u.freezing f = true ∧ u.frz f = { batch := if imm = 0 then some b else none, since := s.tim.clk, prev := s.fld cfgFloorState f } ∧
        (∃ x, u.cmds = s.cmds ++ [x] ∧ x.cmd = c ∧ x.wait = .freeze f) ∧ u.replies = s.replies) ∧
      (s.frozen f = true → Completes (.floorFreeze c f b imm timeout) s fun u => Replies s u c 0xB001 stOk [] ∧ OnlyAnswers s u)) ∧
    (∀ f : FloorNo, s.freezing f = true →
      ((s.grav f).move = none → (s.frz f).batch = none → Completes (.freezeTakeEffect f) s fun u => u.frozen f = true ∧
        Finishes s u (.freeze f) stOk []) ∧
      (∀ x d, (s.frz f).batch ≠ none → s.cmds.filter (fun x => x.wait = .freeze f) = [x] → x.deadline = some d → d ≤ s.tim.clk →
        x.cmd.remote = 0 → s.orphans.contains x.cmd = false → (s.frz f).prev < 16 → Completes (.freezeTimeout f) s fun u =>
          Replies s u x.cmd x.op stTimeout [] ∧ u.fld cfgFloorState f = (s.frz f).prev ∧ u.frz f = .init)) ∧
    (∀ (c : Cmd) (a len : Nat), Accepted s c 0xB002 (leBytes 5 a ++ leBytes 2 len) false → len % 4 = 0 → 4 ≤ len → len ≤ 1000 →
      (∀ i, i < len → ∃ f, frameFloor (a + i) = some f ∧ s.frozen f = true) → Completes (.readback c a len) s fun u =>
        Replies s u c 0xB002 stOk ((List.range len).map fun i => s.readbackByte (a + i)) ∧ OnlyAnswers s u) ∧
    (∀ (c : Cmd) (f : Nat), f ≤ 31 → Accepted s c 0xB003 (leBytes 1 f) false → s.frozen f = true → (s.frz f).prev < 16 →
      Completes (.floorThaw c f) s fun u => Replies s u c 0xB003 stOk [] ∧ u.fld cfgFloorState f = (s.frz f).prev ∧
        u.frz f = .init) ∧
    (s.jtagOn = true →
      (∀ a : LocalAddr, Completes (.cfgaddr a) s fun u => u = { s with dev := { s.dev with jaddr := a.toNat / 4 * 4 } }) ∧
      (∀ r i, regAt s.dev.jaddr = some (r, i, false) → frameFloor s.dev.jaddr = none → isRegSpace s.dev.jaddr = true →
        (nodeOf s.dev.jaddr).isSome = true → Completes .cfgdata s fun u => u = { s with dev := { s.dev with
          jdata := s.regView r i % 2 ^ 32 + 2 ^ 32, jaddr := (s.dev.jaddr + 4) % 2 ^ 40 } }) ∧
      (∀ v : BitVec 8, v.getLsbD 7 = true → s.frozen (v.toNat % 32) = false → s.freezeFault (v.toNat % 32) 0 1 = none →
        Completes (.frzctl v) s fun u => u.freezing (v.toNat % 32) = true ∧ (u.frz (v.toNat % 32)).batch = none) ∧
      (∀ v : BitVec 8, v.getLsbD 7 = false → s.frozen (v.toNat % 32) = true → (s.frz (v.toNat % 32)).prev < 16 →
        Completes (.frzctl v) s fun u => u.fld cfgFloorState (v.toNat % 32) = (s.frz (v.toNat % 32)).prev) ∧
      (∀ pins : Option (List (Nat × Bool)), Completes (.extest pins) s fun u => u = { s with dev := { s.dev with pins := pins } }) ∧
      (s.dev.resetN = true → s.fld bootBsel 0 = 7 → ∀ v : BitVec 400, Completes (.fusepgm v) s fun u =>
        u = { s with dev := { s.dev with fuses := u.dev.fuses } } ∧
        (s.dev.fuses.khset = false → u.dev.fuses.key = s.dev.fuses.key ||| v.setWidth 384) ∧
        (s.dev.fuses.khset = true → u.dev.fuses.key = s.dev.fuses.key) ∧
        u.dev.fuses.jlock = (s.dev.fuses.jlock || v.getLsbD 384)))

/-- Enabling a link starts its training; training up leads to MASHING, failing to FAILED with 0xA201; a failed link retries
after 100 ms; a retrain keeps the state it must give back and fails after 10 ms. Replays, equaliser steps and bad side slots
count. A mash record leads to FULL only without a failing row and a held verdict, else to HELD with its cause. A packet for
another device is sent on by the crossbar, a request for this one enters as a proxied request of view 0, an answer ends its
request; a timeout ends request and channel. A channel pops a word and pushes it over its link. LINK_DISABLE, SYS_ROUTE,
LINK_STATUS and MASH_STATUS act and reply (R506 to R518, R536). Rests on R506, R508, R509, R510, R511, R512, R514, R515,
R516, R518, R536. -/
def Obligations.LinksComeAndGo : Prop :=
  ∀ (s : State), Canon s →
    (∀ (m : LinkNo),
      (∀ v : Word, v.getLsbD 31 = true → s.flag alkEn m = false → Completes (.linkEnable m v) s fun u => u.flag alkEn m = true ∧
        u.fld alkState m = 1 ∧ u.flag alkNrz m = v.getLsbD 30) ∧
      (s.fld alkState m = 1 →
        (s.tim.clk ≤ (s.link m).since + 50000000 → Completes (.linkTrained m true) s fun u => u.fld alkState m = 2) ∧
        (Completes (.linkTrained m false) s fun u => u.fld alkState m = 5 ∧ ∃ r ∈ u.logQ, r.code = 0xA201 ∧ r.loc % 256 = m)) ∧
      (s.fld alkState m = 5 → (s.link m).since + 100000000 ≤ s.tim.clk → Completes (.linkRetry m) s fun u =>
        u.fld alkState m = 1) ∧
      (s.carriesTrips m = true → Completes (.linkReplay m) s fun u => u = { s with regs := u.regs } ∧
        u.reg .ALK_FEC_UNC m = min 0xFFFFFFFF (s.reg .ALK_FEC_UNC m + 1) ∧
        u.reg .ALK_REPLAY m = min 0xFFFFFFFF (s.reg .ALK_REPLAY m + 1)) ∧
      (s.linkUp m = true → Completes (.linkRetrain m) s fun u => u.fld alkState m = 1 ∧
        (u.link m).from_ = some (s.fld alkState m, s.fld alkPsdn m) ∧
        u.reg .ALK_RETRAIN m = min 0xFFFFFFFF (s.reg .ALK_RETRAIN m + 1)) ∧
      ((s.link m).from_.isSome = true → (s.link m).since + 10000000 ≤ s.tim.clk → Completes (.linkDown m) s fun u =>
        u.fld alkState m = 5 ∧ (u.link m).from_ = none) ∧
      (∀ (k : Fin 4) (tx up : Bool), s.flag klnSeren 0 = true → s.linkUp m = true → twf (0, 0) (s.link m).eq = true →
        (tget (0, 0) (s.link m).eq (eqKey k tx)).2 = 0 → Completes (.linkEqStep m k tx up) s fun u =>
          tget (0, 0) (u.link m).eq (eqKey k tx) =
            ((tget (0, 0) (s.link m).eq (eqKey k tx)).1 + (if up then 1 else -1), s.tim.clk + 1)) ∧
      (∀ v : BitVec 80, s.carriesTrips m = true →
        (slotBad v = true → Completes (.sideSlotReceive m v) s fun u => u = { s with regs := u.regs } ∧
          u.reg .ALK_SLOT_ERR m = min 0xFFFFFFFF (s.reg .ALK_SLOT_ERR m + 1)) ∧
        (slotBad v = false → Completes (.sideSlotReceive m v) s fun u => (u.link m).twin = bits v.toNat 43 42 ∧
          (v.toNat / 2 ^ 72 = 0x5A → u.fld ⟨.ALK_STATUS, 11, 0⟩ m = bits v.toNat 59 48))) ∧
      (∀ (r : MashRec) (held : Bool), s.carriesTrips m = true → (s.link m).from_ = none →
        Completes (.mashRecordReceive m r held) s fun u =>
          u.fld alkState m = (if s.mashRow r = 0 ∧ held = false then 4 else 3) ∧ u.fld alkHcause m = s.mashRow r % 16 ∧
          (u.link m).peer = some r ∧
          (r.sdn = s.fld sysSdn 0 → u.fld alkState m = 3 ∧ ∃ e ∈ u.logQ, e.code = 0xA105 ∧ e.loc % 256 = m)) ∧
      (∀ (p : Pkt) (src : BitVec 12) (hops : Fin 64), s.fld alkState m = 4 →
        (∀ l, p.dsdn % 4096 ≠ s.fld sysSdn 0 → s.sysLink p.dsdn true = some l → hops.val ≤ s.fld grtMaxhop 0 →
          Completes (.gatewayPacketEntry m p src hops) s fun u =>
            u = { s with linkOut := s.linkOut ++ [⟨l, src.toNat, hops.val + 1, p⟩] }) ∧
        (∀ tag node, p.dsdn % 4096 = s.fld sysSdn 0 → pktAnswer p = false → pktPosted p = false → reqNode p = some node →
          freeTag ((s.link m).proxies.map (·.tag)) = some tag → s.channelBusy m src.toNat p = false →
          Completes (.gatewayPacketEntry m p src hops) s fun u =>
            (∃ x, u.net = s.net ++ [x] ∧ x.op = p.op ∧ x.src = 544 + m.val ∧ x.tag = tag ∧ x.view = 0 ∧ x.dest = node ∧
              x.addr = p.addr ∧ x.data = p.data) ∧
            ∃ y, (u.link m).proxies = (s.link m).proxies ++ [y] ∧ y.tag = tag ∧ y.sdn = src.toNat ∧ y.orig = p.tag) ∧
        (∀ q, p.dsdn % 4096 = s.fld sysSdn 0 → pktAnswer p = true → p.status = 0 →
          s.sysReqs.find? (fun q => q.dsdn == src.toNat && q.tag == p.tag && decide (544 + q.chan / 16 = p.src)) = some q →
          Completes (.gatewayPacketEntry m p src hops) s fun u => u.sysReqs = s.sysReqs.filter (·.id ≠ q.id)))) ∧
    (∀ (q : SysReq), s.sysReqs.find? (fun x => x.id == q.id && decide (x.sent + s.fld ⟨.DEV_SYSCFG, 30, 16⟩ 0 * 1000 ≤ s.tim.clk)) =
        some q → q.link < 12 → q.chan < 192 → Completes (.sysRequestTimeout q.id) s fun u =>
          u.sysReqs = s.sysReqs.filter (·.id ≠ q.id) ∧ u.reg .ALK_RSPTO q.link = min 0xFFFFFFFF (s.reg .ALK_RSPTO q.link + 1) ∧
          u.flag xchEn q.chan = false) ∧
    (∀ (m : LinkNo) (k : Fin 16) (w : QWord) (l tag : Nat),
      let x := 16 * m.val + k.val
      s.xchReady x = true → CanPop s (s.fld xchSq x) (.channel m k) w → s.fld xchDsdn x ≠ s.fld sysSdn 0 →
      s.sysLink (s.fld xchDsdn x) true = some l →
      freeTag ((s.sysReqs.filter fun q => q.chan / 16 == m.val).map (·.tag)) = some tag → Completes (.xchPush m k) s fun u =>
        (u.queue (s.fld xchSq x)).drain = (s.queue (s.fld xchSq x)).drain.tail ∧
        ∃ p q, u.linkOut = s.linkOut ++ [⟨l, s.fld sysSdn 0, 1, p⟩] ∧ p.op = .qpush ∧ p.addr = s.fld xchDq x ∧
          p.data = (leBytes 4 w.data.toNat).map some ∧ p.sop = w.sop ∧ p.eop = w.eop ∧ p.tag = tag ∧
          u.sysReqs = s.sysReqs ++ [q] ∧ q.link = l ∧ q.chan = x ∧ q.sent = s.tim.clk) ∧
    (∀ (c : Cmd) (l timeout : Nat), l ≤ 11 →
      (Accepted s c 0xA001 (leBytes 1 l) false → Completes (.linkStatus c l) s fun u => OnlyAnswers s u ∧ Replies s u c 0xA001 stOk
        (leBytes 4 (s.reg .ALK_STATUS l) ++ leBytes 8 (s.reg .ALK_MASH l) ++ leBytes 8 (s.reg .ALK_PEER l) ++
          leBytes 4 (s.reg .ALK_DELAY l) ++ ([Reg.ALK_FEC_CW, .ALK_FEC_UNC, .ALK_REPLAY, .ALK_SLOT_ERR, .ALK_RETRAIN,
            .ALK_RSPTO].flatMap fun r => leBytes 4 (s.reg r l)))) ∧
      (s.fld alkState l ≠ 0 → Accepted s c 0xA002 (linkDisableBytes l 0 timeout) false → s.linkIdle l = false →
        (∀ k, (s.link k).drain = false) → Completes (.linkDisableDrain c l timeout) s fun u =>
          WaitsFor s u c 0xA002 (.linkDrain l) timeout ∧ (u.link l).drain = true) ∧
      (s.fld alkState l ≠ 0 → Accepted s c 0xA002 (linkDisableBytes l 1 timeout) false → c.pack = false →
        s.waitsFor (.linkDrain l) = false → (∀ x ∈ s.cmds, ∀ n, x.wait ≠ .join n) →
        Completes (.linkDisableAbort c l timeout) s fun u => Replies s u c 0xA002 stOk [] ∧ u.fld alkState l = 0 ∧
          u.flag alkEn l = false ∧ (u.link l).peer = none)) ∧
    (∀ c : Cmd, Accepted s c 0xA003 [] false → Completes (.mashStatus c) s fun u =>
      Replies s u c 0xA003 stOk (Config.mashStatus s.mashItems) ∧ OnlyAnswers s u) ∧
    (∀ (c : Cmd) (l : List (Nat × Nat × Nat)), Accepted s c 0xA005 (sysChangeBytes l) false → l.length ≤ 200 →
      sysChangeFault l = none → s.flag grtPend 0 = false → (l.map (·.1)).Nodup → Completes (.sysRoute c l) s fun u =>
        Replies s u c 0xA005 stOk [] ∧
        (∀ x ∈ l, u.reg .NOC_GRT (4096 * u.fld grtActive 0 + x.1) = grtEntry x.2.1 x.2.2) ∧
        ∀ d, d < 4096 → d ∉ l.map (·.1) →
          u.reg .NOC_GRT (4096 * u.fld grtActive 0 + d) = s.reg .NOC_GRT (4096 * s.fld grtActive 0 + d))

/-- A time exchange on an up link is kept and gives its delay, and the parent's offset in SYSTEM; LOCK falls when no exchange is
recent. A told master that may be followed is shown, 0xA401 when it is another. TIME_PIN pins a capable SDN, 0xFFFF unpins,
another is BAD_PARAM. JOIN stores the epoch and re-runs mash-in on the up links it names. TWIN_CTL sets mode and role, HELD
when the link is not FULL. A seen heartbeat clears MISS, a missed one counts; the second missed one of a healthy standby
sets a takeover, which takes the plant with 0xA501; an active device that omitted two gives it up with 0xA502, so does the
higher SDN of two active ones. TWIN_ACT_IN sets the role in EXT (R519 to R532). Rests on R519, R520, R521, R522, R523, R526,
R527, R528, R530, R531, R532. -/
def Obligations.TimeMembershipAndTwins : Prop :=
  ∀ (s : State), Canon s →
    (∀ (m : LinkNo) (delay off : Word) (hops : Fin 16), s.linkUp m = true →
      Completes (.timeServiceExchange m delay off hops) s fun u => (u.link m).exch = some (s.tim.clk, hops.val, off) ∧
        u.reg .ALK_DELAY m = (BitVec.ofInt 32 (delay.toNat + signed16 (s.reg .ALK_ASYM m % 65536))).toNat ∧
        (s.fld tmbSrcact 0 = 2 → u.timeParent.any (fun p => p.1 == m.val) = true → u.reg .TMB_PHERR 0 = off.toNat)) ∧
    (s.fld tmbSrcact 0 = 2 → s.flag tmbLock 0 = true → s.sysLocked = false → Completes .systemLockLoss s fun u =>
      u.flag tmbLock 0 = false ∧ u.tim.lockLow = some s.tim.clk) ∧
    (∀ (sdn : BitVec 12) (ecnt : BitVec 16) (pinned : Bool), s.masterAllowed sdn.toNat pinned = true →
      Completes (.timeMaster sdn ecnt pinned) s fun u => u.flag tepV 0 = true ∧ u.fld tepMsdn 0 = sdn.toNat ∧
        u.fld tepEcnt 0 = ecnt.toNat ∧ u.flag tepPinned 0 = pinned ∧
        (s.flag tepV 0 = true → s.fld tepMsdn 0 ≠ sdn.toNat → Logs s u 0xA401 0)) ∧
    (∀ (c : Cmd) (sdn : Nat) (cap : Bool), Accepted s c 0xA006 (leBytes 2 sdn) false →
      (sdn = 0xFFFF → Completes (.timePin c sdn cap) s fun u => Replies s u c 0xA006 stOk [] ∧ u.tim = { s.tim with pin := none }) ∧
      (sdn ≤ 4095 → cap = true → Completes (.timePin c sdn cap) s fun u => Replies s u c 0xA006 stOk [] ∧
        u.tim = { s.tim with pin := some sdn }) ∧
      (sdn ≤ 4095 → cap = false → Completes (.timePin c sdn cap) s fun u => Replies s u c 0xA006 stBadParam [0#8, 0#8] ∧
        OnlyAnswers s u)) ∧
    (∀ (c : Cmd) (epoch : Word) (links : Nat), links ≤ 4095 →
      Accepted s c 0xA004 (leBytes 4 epoch.toNat ++ leBytes 2 links ++ leBytes 1 0) false →
      (∀ x ∈ s.cmds, ∀ n, x.wait ≠ .join n) → Completes (.join c epoch links 0) s fun u =>
        u.reg .DEV_MEMBER 0 = epoch.toNat ∧ (∀ m, m < 12 → bit links m = true → s.linkUp m = true → (u.link m).rerun = true) ∧
        ((∃ m, m < 12 ∧ bit links m = true ∧ s.linkUp m = true) → WaitsFor s u c 0xA004 (.join links) 0)) ∧
    (∀ (c : Cmd) (mode role link batch hbovr : Nat), mode ≤ 2 → role ≤ 1 → link ≤ 11 → batch ≤ 255 → hbovr ≤ 1 →
      s.twinStep = none → s.twin.take = none →
      Accepted s c 0xA007 (leBytes 1 mode ++ leBytes 1 role ++ leBytes 1 link ++ leBytes 1 batch ++ leBytes 1 hbovr) false →
      (s.twinCtlFault mode link batch = none → Completes (.twinCtl c mode role link batch hbovr) s fun u =>
        Replies s u c 0xA007 stOk [] ∧ u.fld twMode 0 = mode ∧ u.fld twLink 0 = link ∧ u.fld twBatch 0 = batch ∧
        u.fld twPsdn 0 = s.fld alkPsdn link ∧ u.fld twMiss 0 = 0 ∧
        u.flag twAct 0 = (if mode = 1 then decide (role = 1) else decide (mode = 2) && s.twin.actIn)) ∧
      (s.fld alkState link ≠ 4 → Completes (.twinCtl c mode role link batch hbovr) s fun u =>
        Replies s u c 0xA007 stHeld [] ∧ OnlyAnswers s u)) ∧
    (∀ t, s.twinStep = some t →
      (Completes (.twinHbCheck true) s fun u => u.fld twMiss 0 = 0 ∧ u.twin.checked = t + 1) ∧
      (Completes (.twinHbCheck false) s fun u => u.fld twMiss 0 = min 15 (s.fld twMiss 0 + 1) ∧ u.twin.checked = t + 1 ∧
        (s.fld twMiss 0 = 0 → Logs s u 0xA503 0) ∧
        (s.fld twMode 0 = 1 → s.standby = true → s.healthy = true → s.flag twInhib 0 = false → 1 ≤ s.fld twMiss 0 →
          u.twin.take = some (t + 1600))) ∧
      (s.fld twMode 0 = 1 → s.standby = false → 2 ≤ s.twin.own → ∀ seen, Completes (.twinHbCheck seen) s fun u =>
        u.standby = true ∧ u.flag twAct 0 = false ∧ Logs s u 0xA502 0)) ∧
    (∀ t, s.twin.take = some t → t ≤ s.tim.now → Completes .twinTakeover s fun u => u.standby = false ∧ u.flag twAct 0 = true ∧
      u.twin.take = none ∧ u.reg .DEV_TWCNT 0 = min 0xFFFFFFFF (s.reg .DEV_TWCNT 0 + 1) ∧ Logs s u 0xA501 0) ∧
    (s.fld twMode 0 = 1 → s.standby = false → s.fld twPsdn 0 < s.fld sysSdn 0 →
      (s.twin.actIn = true ∨ (s.link (s.fld twLink 0)).twin = 2) → Completes .twinDualActive s fun u => u.standby = true ∧
        u.flag twDual 0 = true ∧ u.flag twInhib 0 = true ∧ Logs s u 0xA502 0) ∧
    (∀ high : Bool, Completes (.twinActInput high) s fun u => u.twin = { s.twin with actIn := high } ∧
      (s.fld twMode 0 = 2 → u.flag twAct 0 = high ∧ u.standby = !high) ∧ (s.fld twMode 0 ≠ 2 → u.regs = s.regs))
end

