-- ==== Sys2Proof/Laws/State.lean ====
section
/-! SUPPORT. What each update of one component leaves of every field of the state. -/

namespace Sys2Proof.Machine

open Sys2Proof

section
variable (s : State) (t : Nat) (x : TurnSt)
@[simp] theorem State.setTurn_pending : (s.setTurn t x).pending = s.pending := rfl
@[simp] theorem State.setTurn_free : (s.setTurn t x).free = s.free := rfl
@[simp] theorem State.setTurn_regs : (s.setTurn t x).regs = s.regs := rfl
@[simp] theorem State.setTurn_once : (s.setTurn t x).once = s.once := rfl
@[simp] theorem State.setTurn_dev : (s.setTurn t x).dev = s.dev := rfl
@[simp] theorem State.setTurn_cfg : (s.setTurn t x).cfg = s.cfg := rfl
@[simp] theorem State.setTurn_frzs : (s.setTurn t x).frzs = s.frzs := rfl
@[simp] theorem State.setTurn_sup : (s.setTurn t x).sup = s.sup := rfl
@[simp] theorem State.setTurn_gravs : (s.setTurn t x).gravs = s.gravs := rfl
@[simp] theorem State.setTurn_turns : (s.setTurn t x).turns = tput .init s.turns t x := rfl
@[simp] theorem State.setTurn_rings : (s.setTurn t x).rings = s.rings := rfl
@[simp] theorem State.setTurn_lastFetch : (s.setTurn t x).lastFetch = s.lastFetch := rfl
@[simp] theorem State.setTurn_zeroLast : (s.setTurn t x).zeroLast = s.zeroLast := rfl
@[simp] theorem State.setTurn_hports : (s.setTurn t x).hports = s.hports := rfl
@[simp] theorem State.setTurn_hmw : (s.setTurn t x).hmw = s.hmw := rfl
@[simp] theorem State.setTurn_hmwAt : (s.setTurn t x).hmwAt = s.hmwAt := rfl
@[simp] theorem State.setTurn_links : (s.setTurn t x).links = s.links := rfl
@[simp] theorem State.setTurn_sysReqs : (s.setTurn t x).sysReqs = s.sysReqs := rfl
@[simp] theorem State.setTurn_nextSys : (s.setTurn t x).nextSys = s.nextSys := rfl
@[simp] theorem State.setTurn_sysTo : (s.setTurn t x).sysTo = s.sysTo := rfl
@[simp] theorem State.setTurn_linkOut : (s.setTurn t x).linkOut = s.linkOut := rfl
@[simp] theorem State.setTurn_mgmt : (s.setTurn t x).mgmt = s.mgmt := rfl
@[simp] theorem State.setTurn_twin : (s.setTurn t x).twin = s.twin := rfl
@[simp] theorem State.setTurn_tim : (s.setTurn t x).tim = s.tim := rfl
@[simp] theorem State.setTurn_store : (s.setTurn t x).store = s.store := rfl
@[simp] theorem State.setTurn_written : (s.setTurn t x).written = s.written := rfl
@[simp] theorem State.setTurn_sharers : (s.setTurn t x).sharers = s.sharers := rfl
@[simp] theorem State.setTurn_tiles : (s.setTurn t x).tiles = s.tiles := rfl
@[simp] theorem State.setTurn_slots : (s.setTurn t x).slots = s.slots := rfl
@[simp] theorem State.setTurn_cells : (s.setTurn t x).cells = s.cells := rfl
@[simp] theorem State.setTurn_stages : (s.setTurn t x).stages = s.stages := rfl
@[simp] theorem State.setTurn_floors : (s.setTurn t x).floors = s.floors := rfl
@[simp] theorem State.setTurn_tasks : (s.setTurn t x).tasks = s.tasks := rfl
@[simp] theorem State.setTurn_batches : (s.setTurn t x).batches = s.batches := rfl
@[simp] theorem State.setTurn_cfs : (s.setTurn t x).cfs = s.cfs := rfl
@[simp] theorem State.setTurn_moved : (s.setTurn t x).moved = s.moved := rfl
@[simp] theorem State.setTurn_pool : (s.setTurn t x).pool = s.pool := rfl
@[simp] theorem State.setTurn_queues : (s.setTurn t x).queues = s.queues := rfl
@[simp] theorem State.setTurn_net : (s.setTurn t x).net = s.net := rfl
@[simp] theorem State.setTurn_noc : (s.setTurn t x).noc = s.noc := rfl
@[simp] theorem State.setTurn_trip : (s.setTurn t x).trip = s.trip := rfl
@[simp] theorem State.setTurn_lanes : (s.setTurn t x).lanes = s.lanes := rfl
@[simp] theorem State.setTurn_rports : (s.setTurn t x).rports = s.rports := rfl
@[simp] theorem State.setTurn_streams : (s.setTurn t x).streams = s.streams := rfl
@[simp] theorem State.setTurn_sds : (s.setTurn t x).sds = s.sds := rfl
@[simp] theorem State.setTurn_adcs : (s.setTurn t x).adcs = s.adcs := rfl
@[simp] theorem State.setTurn_encs : (s.setTurn t x).encs = s.encs := rfl
@[simp] theorem State.setTurn_gates : (s.setTurn t x).gates = s.gates := rfl
@[simp] theorem State.setTurn_cars : (s.setTurn t x).cars = s.cars := rfl
@[simp] theorem State.setTurn_vls : (s.setTurn t x).vls = s.vls := rfl
@[simp] theorem State.setTurn_notices : (s.setTurn t x).notices = s.notices := rfl
@[simp] theorem State.setTurn_logQ : (s.setTurn t x).logQ = s.logQ := rfl
@[simp] theorem State.setTurn_fetched : (s.setTurn t x).fetched = s.fetched := rfl
@[simp] theorem State.setTurn_cmds : (s.setTurn t x).cmds = s.cmds := rfl
@[simp] theorem State.setTurn_drains : (s.setTurn t x).drains = s.drains := rfl
@[simp] theorem State.setTurn_orphans : (s.setTurn t x).orphans = s.orphans := rfl
@[simp] theorem State.setTurn_replies : (s.setTurn t x).replies = s.replies := rfl
@[simp] theorem State.setTurn_irqs : (s.setTurn t x).irqs = s.irqs := rfl
@[simp] theorem State.setTurn_hostMem : (s.setTurn t x).hostMem = s.hostMem := rfl
@[simp] theorem State.setTurn_owners : (s.setTurn t x).owners = s.owners := rfl
end

section
variable (s : State) (n : Nat) (x : StreamSt)
@[simp] theorem State.setStream_pending : (s.setStream n x).pending = s.pending := rfl
@[simp] theorem State.setStream_free : (s.setStream n x).free = s.free := rfl
@[simp] theorem State.setStream_regs : (s.setStream n x).regs = s.regs := rfl
@[simp] theorem State.setStream_once : (s.setStream n x).once = s.once := rfl
@[simp] theorem State.setStream_dev : (s.setStream n x).dev = s.dev := rfl
@[simp] theorem State.setStream_cfg : (s.setStream n x).cfg = s.cfg := rfl
@[simp] theorem State.setStream_frzs : (s.setStream n x).frzs = s.frzs := rfl
@[simp] theorem State.setStream_sup : (s.setStream n x).sup = s.sup := rfl
@[simp] theorem State.setStream_gravs : (s.setStream n x).gravs = s.gravs := rfl
@[simp] theorem State.setStream_turns : (s.setStream n x).turns = s.turns := rfl
@[simp] theorem State.setStream_rings : (s.setStream n x).rings = s.rings := rfl
@[simp] theorem State.setStream_lastFetch : (s.setStream n x).lastFetch = s.lastFetch := rfl
@[simp] theorem State.setStream_zeroLast : (s.setStream n x).zeroLast = s.zeroLast := rfl
@[simp] theorem State.setStream_hports : (s.setStream n x).hports = s.hports := rfl
@[simp] theorem State.setStream_hmw : (s.setStream n x).hmw = s.hmw := rfl
@[simp] theorem State.setStream_hmwAt : (s.setStream n x).hmwAt = s.hmwAt := rfl
@[simp] theorem State.setStream_links : (s.setStream n x).links = s.links := rfl
@[simp] theorem State.setStream_sysReqs : (s.setStream n x).sysReqs = s.sysReqs := rfl
@[simp] theorem State.setStream_nextSys : (s.setStream n x).nextSys = s.nextSys := rfl
@[simp] theorem State.setStream_sysTo : (s.setStream n x).sysTo = s.sysTo := rfl
@[simp] theorem State.setStream_linkOut : (s.setStream n x).linkOut = s.linkOut := rfl
@[simp] theorem State.setStream_mgmt : (s.setStream n x).mgmt = s.mgmt := rfl
@[simp] theorem State.setStream_twin : (s.setStream n x).twin = s.twin := rfl
@[simp] theorem State.setStream_tim : (s.setStream n x).tim = s.tim := rfl
@[simp] theorem State.setStream_store : (s.setStream n x).store = s.store := rfl
@[simp] theorem State.setStream_written : (s.setStream n x).written = s.written := rfl
@[simp] theorem State.setStream_sharers : (s.setStream n x).sharers = s.sharers := rfl
@[simp] theorem State.setStream_tiles : (s.setStream n x).tiles = s.tiles := rfl
@[simp] theorem State.setStream_slots : (s.setStream n x).slots = s.slots := rfl
@[simp] theorem State.setStream_cells : (s.setStream n x).cells = s.cells := rfl
@[simp] theorem State.setStream_stages : (s.setStream n x).stages = s.stages := rfl
@[simp] theorem State.setStream_floors : (s.setStream n x).floors = s.floors := rfl
@[simp] theorem State.setStream_tasks : (s.setStream n x).tasks = s.tasks := rfl
@[simp] theorem State.setStream_batches : (s.setStream n x).batches = s.batches := rfl
@[simp] theorem State.setStream_cfs : (s.setStream n x).cfs = s.cfs := rfl
@[simp] theorem State.setStream_moved : (s.setStream n x).moved = s.moved := rfl
@[simp] theorem State.setStream_pool : (s.setStream n x).pool = s.pool := rfl
@[simp] theorem State.setStream_queues : (s.setStream n x).queues = s.queues := rfl
@[simp] theorem State.setStream_net : (s.setStream n x).net = s.net := rfl
@[simp] theorem State.setStream_noc : (s.setStream n x).noc = s.noc := rfl
@[simp] theorem State.setStream_trip : (s.setStream n x).trip = s.trip := rfl
@[simp] theorem State.setStream_lanes : (s.setStream n x).lanes = s.lanes := rfl
@[simp] theorem State.setStream_rports : (s.setStream n x).rports = s.rports := rfl
@[simp] theorem State.setStream_streams : (s.setStream n x).streams = tput .init s.streams n x := rfl
@[simp] theorem State.setStream_sds : (s.setStream n x).sds = s.sds := rfl
@[simp] theorem State.setStream_adcs : (s.setStream n x).adcs = s.adcs := rfl
@[simp] theorem State.setStream_encs : (s.setStream n x).encs = s.encs := rfl
@[simp] theorem State.setStream_gates : (s.setStream n x).gates = s.gates := rfl
@[simp] theorem State.setStream_cars : (s.setStream n x).cars = s.cars := rfl
@[simp] theorem State.setStream_vls : (s.setStream n x).vls = s.vls := rfl
@[simp] theorem State.setStream_notices : (s.setStream n x).notices = s.notices := rfl
@[simp] theorem State.setStream_logQ : (s.setStream n x).logQ = s.logQ := rfl
@[simp] theorem State.setStream_fetched : (s.setStream n x).fetched = s.fetched := rfl
@[simp] theorem State.setStream_cmds : (s.setStream n x).cmds = s.cmds := rfl
@[simp] theorem State.setStream_drains : (s.setStream n x).drains = s.drains := rfl
@[simp] theorem State.setStream_orphans : (s.setStream n x).orphans = s.orphans := rfl
@[simp] theorem State.setStream_replies : (s.setStream n x).replies = s.replies := rfl
@[simp] theorem State.setStream_irqs : (s.setStream n x).irqs = s.irqs := rfl
@[simp] theorem State.setStream_hostMem : (s.setStream n x).hostMem = s.hostMem := rfl
@[simp] theorem State.setStream_owners : (s.setStream n x).owners = s.owners := rfl
end

section
variable (s : State) (i : Nat) (x : SdSt)
@[simp] theorem State.setSd_pending : (s.setSd i x).pending = s.pending := rfl
@[simp] theorem State.setSd_free : (s.setSd i x).free = s.free := rfl
@[simp] theorem State.setSd_regs : (s.setSd i x).regs = s.regs := rfl
@[simp] theorem State.setSd_once : (s.setSd i x).once = s.once := rfl
@[simp] theorem State.setSd_dev : (s.setSd i x).dev = s.dev := rfl
@[simp] theorem State.setSd_cfg : (s.setSd i x).cfg = s.cfg := rfl
@[simp] theorem State.setSd_frzs : (s.setSd i x).frzs = s.frzs := rfl
@[simp] theorem State.setSd_sup : (s.setSd i x).sup = s.sup := rfl
@[simp] theorem State.setSd_gravs : (s.setSd i x).gravs = s.gravs := rfl
@[simp] theorem State.setSd_turns : (s.setSd i x).turns = s.turns := rfl
@[simp] theorem State.setSd_rings : (s.setSd i x).rings = s.rings := rfl
@[simp] theorem State.setSd_lastFetch : (s.setSd i x).lastFetch = s.lastFetch := rfl
@[simp] theorem State.setSd_zeroLast : (s.setSd i x).zeroLast = s.zeroLast := rfl
@[simp] theorem State.setSd_hports : (s.setSd i x).hports = s.hports := rfl
@[simp] theorem State.setSd_hmw : (s.setSd i x).hmw = s.hmw := rfl
@[simp] theorem State.setSd_hmwAt : (s.setSd i x).hmwAt = s.hmwAt := rfl
@[simp] theorem State.setSd_links : (s.setSd i x).links = s.links := rfl
@[simp] theorem State.setSd_sysReqs : (s.setSd i x).sysReqs = s.sysReqs := rfl
@[simp] theorem State.setSd_nextSys : (s.setSd i x).nextSys = s.nextSys := rfl
@[simp] theorem State.setSd_sysTo : (s.setSd i x).sysTo = s.sysTo := rfl
@[simp] theorem State.setSd_linkOut : (s.setSd i x).linkOut = s.linkOut := rfl
@[simp] theorem State.setSd_mgmt : (s.setSd i x).mgmt = s.mgmt := rfl
@[simp] theorem State.setSd_twin : (s.setSd i x).twin = s.twin := rfl
@[simp] theorem State.setSd_tim : (s.setSd i x).tim = s.tim := rfl
@[simp] theorem State.setSd_store : (s.setSd i x).store = s.store := rfl
@[simp] theorem State.setSd_written : (s.setSd i x).written = s.written := rfl
@[simp] theorem State.setSd_sharers : (s.setSd i x).sharers = s.sharers := rfl
@[simp] theorem State.setSd_tiles : (s.setSd i x).tiles = s.tiles := rfl
@[simp] theorem State.setSd_slots : (s.setSd i x).slots = s.slots := rfl
@[simp] theorem State.setSd_cells : (s.setSd i x).cells = s.cells := rfl
@[simp] theorem State.setSd_stages : (s.setSd i x).stages = s.stages := rfl
@[simp] theorem State.setSd_floors : (s.setSd i x).floors = s.floors := rfl
@[simp] theorem State.setSd_tasks : (s.setSd i x).tasks = s.tasks := rfl
@[simp] theorem State.setSd_batches : (s.setSd i x).batches = s.batches := rfl
@[simp] theorem State.setSd_cfs : (s.setSd i x).cfs = s.cfs := rfl
@[simp] theorem State.setSd_moved : (s.setSd i x).moved = s.moved := rfl
@[simp] theorem State.setSd_pool : (s.setSd i x).pool = s.pool := rfl
@[simp] theorem State.setSd_queues : (s.setSd i x).queues = s.queues := rfl
@[simp] theorem State.setSd_net : (s.setSd i x).net = s.net := rfl
@[simp] theorem State.setSd_noc : (s.setSd i x).noc = s.noc := rfl
@[simp] theorem State.setSd_trip : (s.setSd i x).trip = s.trip := rfl
@[simp] theorem State.setSd_lanes : (s.setSd i x).lanes = s.lanes := rfl
@[simp] theorem State.setSd_rports : (s.setSd i x).rports = s.rports := rfl
@[simp] theorem State.setSd_streams : (s.setSd i x).streams = s.streams := rfl
@[simp] theorem State.setSd_sds : (s.setSd i x).sds = tput .init s.sds i x := rfl
@[simp] theorem State.setSd_adcs : (s.setSd i x).adcs = s.adcs := rfl
@[simp] theorem State.setSd_encs : (s.setSd i x).encs = s.encs := rfl
@[simp] theorem State.setSd_gates : (s.setSd i x).gates = s.gates := rfl
@[simp] theorem State.setSd_cars : (s.setSd i x).cars = s.cars := rfl
@[simp] theorem State.setSd_vls : (s.setSd i x).vls = s.vls := rfl
@[simp] theorem State.setSd_notices : (s.setSd i x).notices = s.notices := rfl
@[simp] theorem State.setSd_logQ : (s.setSd i x).logQ = s.logQ := rfl
@[simp] theorem State.setSd_fetched : (s.setSd i x).fetched = s.fetched := rfl
@[simp] theorem State.setSd_cmds : (s.setSd i x).cmds = s.cmds := rfl
@[simp] theorem State.setSd_drains : (s.setSd i x).drains = s.drains := rfl
@[simp] theorem State.setSd_orphans : (s.setSd i x).orphans = s.orphans := rfl
@[simp] theorem State.setSd_replies : (s.setSd i x).replies = s.replies := rfl
@[simp] theorem State.setSd_irqs : (s.setSd i x).irqs = s.irqs := rfl
@[simp] theorem State.setSd_hostMem : (s.setSd i x).hostMem = s.hostMem := rfl
@[simp] theorem State.setSd_owners : (s.setSd i x).owners = s.owners := rfl
end

section
variable (s : State) (p : Nat) (x : AdcSt)
@[simp] theorem State.setAdc_pending : (s.setAdc p x).pending = s.pending := rfl
@[simp] theorem State.setAdc_free : (s.setAdc p x).free = s.free := rfl
@[simp] theorem State.setAdc_regs : (s.setAdc p x).regs = s.regs := rfl
@[simp] theorem State.setAdc_once : (s.setAdc p x).once = s.once := rfl
@[simp] theorem State.setAdc_dev : (s.setAdc p x).dev = s.dev := rfl
@[simp] theorem State.setAdc_cfg : (s.setAdc p x).cfg = s.cfg := rfl
@[simp] theorem State.setAdc_frzs : (s.setAdc p x).frzs = s.frzs := rfl
@[simp] theorem State.setAdc_sup : (s.setAdc p x).sup = s.sup := rfl
@[simp] theorem State.setAdc_gravs : (s.setAdc p x).gravs = s.gravs := rfl
@[simp] theorem State.setAdc_turns : (s.setAdc p x).turns = s.turns := rfl
@[simp] theorem State.setAdc_rings : (s.setAdc p x).rings = s.rings := rfl
@[simp] theorem State.setAdc_lastFetch : (s.setAdc p x).lastFetch = s.lastFetch := rfl
@[simp] theorem State.setAdc_zeroLast : (s.setAdc p x).zeroLast = s.zeroLast := rfl
@[simp] theorem State.setAdc_hports : (s.setAdc p x).hports = s.hports := rfl
@[simp] theorem State.setAdc_hmw : (s.setAdc p x).hmw = s.hmw := rfl
@[simp] theorem State.setAdc_hmwAt : (s.setAdc p x).hmwAt = s.hmwAt := rfl
@[simp] theorem State.setAdc_links : (s.setAdc p x).links = s.links := rfl
@[simp] theorem State.setAdc_sysReqs : (s.setAdc p x).sysReqs = s.sysReqs := rfl
@[simp] theorem State.setAdc_nextSys : (s.setAdc p x).nextSys = s.nextSys := rfl
@[simp] theorem State.setAdc_sysTo : (s.setAdc p x).sysTo = s.sysTo := rfl
@[simp] theorem State.setAdc_linkOut : (s.setAdc p x).linkOut = s.linkOut := rfl
@[simp] theorem State.setAdc_mgmt : (s.setAdc p x).mgmt = s.mgmt := rfl
@[simp] theorem State.setAdc_twin : (s.setAdc p x).twin = s.twin := rfl
@[simp] theorem State.setAdc_tim : (s.setAdc p x).tim = s.tim := rfl
@[simp] theorem State.setAdc_store : (s.setAdc p x).store = s.store := rfl
@[simp] theorem State.setAdc_written : (s.setAdc p x).written = s.written := rfl
@[simp] theorem State.setAdc_sharers : (s.setAdc p x).sharers = s.sharers := rfl
@[simp] theorem State.setAdc_tiles : (s.setAdc p x).tiles = s.tiles := rfl
@[simp] theorem State.setAdc_slots : (s.setAdc p x).slots = s.slots := rfl
@[simp] theorem State.setAdc_cells : (s.setAdc p x).cells = s.cells := rfl
@[simp] theorem State.setAdc_stages : (s.setAdc p x).stages = s.stages := rfl
@[simp] theorem State.setAdc_floors : (s.setAdc p x).floors = s.floors := rfl
@[simp] theorem State.setAdc_tasks : (s.setAdc p x).tasks = s.tasks := rfl
@[simp] theorem State.setAdc_batches : (s.setAdc p x).batches = s.batches := rfl
@[simp] theorem State.setAdc_cfs : (s.setAdc p x).cfs = s.cfs := rfl
@[simp] theorem State.setAdc_moved : (s.setAdc p x).moved = s.moved := rfl
@[simp] theorem State.setAdc_pool : (s.setAdc p x).pool = s.pool := rfl
@[simp] theorem State.setAdc_queues : (s.setAdc p x).queues = s.queues := rfl
@[simp] theorem State.setAdc_net : (s.setAdc p x).net = s.net := rfl
@[simp] theorem State.setAdc_noc : (s.setAdc p x).noc = s.noc := rfl
@[simp] theorem State.setAdc_trip : (s.setAdc p x).trip = s.trip := rfl
@[simp] theorem State.setAdc_lanes : (s.setAdc p x).lanes = s.lanes := rfl
@[simp] theorem State.setAdc_rports : (s.setAdc p x).rports = s.rports := rfl
@[simp] theorem State.setAdc_streams : (s.setAdc p x).streams = s.streams := rfl
@[simp] theorem State.setAdc_sds : (s.setAdc p x).sds = s.sds := rfl
@[simp] theorem State.setAdc_adcs : (s.setAdc p x).adcs = tput .init s.adcs p x := rfl
@[simp] theorem State.setAdc_encs : (s.setAdc p x).encs = s.encs := rfl
@[simp] theorem State.setAdc_gates : (s.setAdc p x).gates = s.gates := rfl
@[simp] theorem State.setAdc_cars : (s.setAdc p x).cars = s.cars := rfl
@[simp] theorem State.setAdc_vls : (s.setAdc p x).vls = s.vls := rfl
@[simp] theorem State.setAdc_notices : (s.setAdc p x).notices = s.notices := rfl
@[simp] theorem State.setAdc_logQ : (s.setAdc p x).logQ = s.logQ := rfl
@[simp] theorem State.setAdc_fetched : (s.setAdc p x).fetched = s.fetched := rfl
@[simp] theorem State.setAdc_cmds : (s.setAdc p x).cmds = s.cmds := rfl
@[simp] theorem State.setAdc_drains : (s.setAdc p x).drains = s.drains := rfl
@[simp] theorem State.setAdc_orphans : (s.setAdc p x).orphans = s.orphans := rfl
@[simp] theorem State.setAdc_replies : (s.setAdc p x).replies = s.replies := rfl
@[simp] theorem State.setAdc_irqs : (s.setAdc p x).irqs = s.irqs := rfl
@[simp] theorem State.setAdc_hostMem : (s.setAdc p x).hostMem = s.hostMem := rfl
@[simp] theorem State.setAdc_owners : (s.setAdc p x).owners = s.owners := rfl
end

section
variable (s : State) (n : Nat) (x : EncSt)
@[simp] theorem State.setEnc_pending : (s.setEnc n x).pending = s.pending := rfl
@[simp] theorem State.setEnc_free : (s.setEnc n x).free = s.free := rfl
@[simp] theorem State.setEnc_regs : (s.setEnc n x).regs = s.regs := rfl
@[simp] theorem State.setEnc_once : (s.setEnc n x).once = s.once := rfl
@[simp] theorem State.setEnc_dev : (s.setEnc n x).dev = s.dev := rfl
@[simp] theorem State.setEnc_cfg : (s.setEnc n x).cfg = s.cfg := rfl
@[simp] theorem State.setEnc_frzs : (s.setEnc n x).frzs = s.frzs := rfl
@[simp] theorem State.setEnc_sup : (s.setEnc n x).sup = s.sup := rfl
@[simp] theorem State.setEnc_gravs : (s.setEnc n x).gravs = s.gravs := rfl
@[simp] theorem State.setEnc_turns : (s.setEnc n x).turns = s.turns := rfl
@[simp] theorem State.setEnc_rings : (s.setEnc n x).rings = s.rings := rfl
@[simp] theorem State.setEnc_lastFetch : (s.setEnc n x).lastFetch = s.lastFetch := rfl
@[simp] theorem State.setEnc_zeroLast : (s.setEnc n x).zeroLast = s.zeroLast := rfl
@[simp] theorem State.setEnc_hports : (s.setEnc n x).hports = s.hports := rfl
@[simp] theorem State.setEnc_hmw : (s.setEnc n x).hmw = s.hmw := rfl
@[simp] theorem State.setEnc_hmwAt : (s.setEnc n x).hmwAt = s.hmwAt := rfl
@[simp] theorem State.setEnc_links : (s.setEnc n x).links = s.links := rfl
@[simp] theorem State.setEnc_sysReqs : (s.setEnc n x).sysReqs = s.sysReqs := rfl
@[simp] theorem State.setEnc_nextSys : (s.setEnc n x).nextSys = s.nextSys := rfl
@[simp] theorem State.setEnc_sysTo : (s.setEnc n x).sysTo = s.sysTo := rfl
@[simp] theorem State.setEnc_linkOut : (s.setEnc n x).linkOut = s.linkOut := rfl
@[simp] theorem State.setEnc_mgmt : (s.setEnc n x).mgmt = s.mgmt := rfl
@[simp] theorem State.setEnc_twin : (s.setEnc n x).twin = s.twin := rfl
@[simp] theorem State.setEnc_tim : (s.setEnc n x).tim = s.tim := rfl
@[simp] theorem State.setEnc_store : (s.setEnc n x).store = s.store := rfl
@[simp] theorem State.setEnc_written : (s.setEnc n x).written = s.written := rfl
@[simp] theorem State.setEnc_sharers : (s.setEnc n x).sharers = s.sharers := rfl
@[simp] theorem State.setEnc_tiles : (s.setEnc n x).tiles = s.tiles := rfl
@[simp] theorem State.setEnc_slots : (s.setEnc n x).slots = s.slots := rfl
@[simp] theorem State.setEnc_cells : (s.setEnc n x).cells = s.cells := rfl
@[simp] theorem State.setEnc_stages : (s.setEnc n x).stages = s.stages := rfl
@[simp] theorem State.setEnc_floors : (s.setEnc n x).floors = s.floors := rfl
@[simp] theorem State.setEnc_tasks : (s.setEnc n x).tasks = s.tasks := rfl
@[simp] theorem State.setEnc_batches : (s.setEnc n x).batches = s.batches := rfl
@[simp] theorem State.setEnc_cfs : (s.setEnc n x).cfs = s.cfs := rfl
@[simp] theorem State.setEnc_moved : (s.setEnc n x).moved = s.moved := rfl
@[simp] theorem State.setEnc_pool : (s.setEnc n x).pool = s.pool := rfl
@[simp] theorem State.setEnc_queues : (s.setEnc n x).queues = s.queues := rfl
@[simp] theorem State.setEnc_net : (s.setEnc n x).net = s.net := rfl
@[simp] theorem State.setEnc_noc : (s.setEnc n x).noc = s.noc := rfl
@[simp] theorem State.setEnc_trip : (s.setEnc n x).trip = s.trip := rfl
@[simp] theorem State.setEnc_lanes : (s.setEnc n x).lanes = s.lanes := rfl
@[simp] theorem State.setEnc_rports : (s.setEnc n x).rports = s.rports := rfl
@[simp] theorem State.setEnc_streams : (s.setEnc n x).streams = s.streams := rfl
@[simp] theorem State.setEnc_sds : (s.setEnc n x).sds = s.sds := rfl
@[simp] theorem State.setEnc_adcs : (s.setEnc n x).adcs = s.adcs := rfl
@[simp] theorem State.setEnc_encs : (s.setEnc n x).encs = tput .init s.encs n x := rfl
@[simp] theorem State.setEnc_gates : (s.setEnc n x).gates = s.gates := rfl
@[simp] theorem State.setEnc_cars : (s.setEnc n x).cars = s.cars := rfl
@[simp] theorem State.setEnc_vls : (s.setEnc n x).vls = s.vls := rfl
@[simp] theorem State.setEnc_notices : (s.setEnc n x).notices = s.notices := rfl
@[simp] theorem State.setEnc_logQ : (s.setEnc n x).logQ = s.logQ := rfl
@[simp] theorem State.setEnc_fetched : (s.setEnc n x).fetched = s.fetched := rfl
@[simp] theorem State.setEnc_cmds : (s.setEnc n x).cmds = s.cmds := rfl
@[simp] theorem State.setEnc_drains : (s.setEnc n x).drains = s.drains := rfl
@[simp] theorem State.setEnc_orphans : (s.setEnc n x).orphans = s.orphans := rfl
@[simp] theorem State.setEnc_replies : (s.setEnc n x).replies = s.replies := rfl
@[simp] theorem State.setEnc_irqs : (s.setEnc n x).irqs = s.irqs := rfl
@[simp] theorem State.setEnc_hostMem : (s.setEnc n x).hostMem = s.hostMem := rfl
@[simp] theorem State.setEnc_owners : (s.setEnc n x).owners = s.owners := rfl
end

section
variable (s : State) (v : Nat) (x : RingSt)
@[simp] theorem State.setRing_pending : (s.setRing v x).pending = s.pending := rfl
@[simp] theorem State.setRing_free : (s.setRing v x).free = s.free := rfl
@[simp] theorem State.setRing_regs : (s.setRing v x).regs = s.regs := rfl
@[simp] theorem State.setRing_once : (s.setRing v x).once = s.once := rfl
@[simp] theorem State.setRing_dev : (s.setRing v x).dev = s.dev := rfl
@[simp] theorem State.setRing_cfg : (s.setRing v x).cfg = s.cfg := rfl
@[simp] theorem State.setRing_frzs : (s.setRing v x).frzs = s.frzs := rfl
@[simp] theorem State.setRing_sup : (s.setRing v x).sup = s.sup := rfl
@[simp] theorem State.setRing_gravs : (s.setRing v x).gravs = s.gravs := rfl
@[simp] theorem State.setRing_turns : (s.setRing v x).turns = s.turns := rfl
@[simp] theorem State.setRing_rings : (s.setRing v x).rings = tput .init s.rings v x := rfl
@[simp] theorem State.setRing_lastFetch : (s.setRing v x).lastFetch = s.lastFetch := rfl
@[simp] theorem State.setRing_zeroLast : (s.setRing v x).zeroLast = s.zeroLast := rfl
@[simp] theorem State.setRing_hports : (s.setRing v x).hports = s.hports := rfl
@[simp] theorem State.setRing_hmw : (s.setRing v x).hmw = s.hmw := rfl
@[simp] theorem State.setRing_hmwAt : (s.setRing v x).hmwAt = s.hmwAt := rfl
@[simp] theorem State.setRing_links : (s.setRing v x).links = s.links := rfl
@[simp] theorem State.setRing_sysReqs : (s.setRing v x).sysReqs = s.sysReqs := rfl
@[simp] theorem State.setRing_nextSys : (s.setRing v x).nextSys = s.nextSys := rfl
@[simp] theorem State.setRing_sysTo : (s.setRing v x).sysTo = s.sysTo := rfl
@[simp] theorem State.setRing_linkOut : (s.setRing v x).linkOut = s.linkOut := rfl
@[simp] theorem State.setRing_mgmt : (s.setRing v x).mgmt = s.mgmt := rfl
@[simp] theorem State.setRing_twin : (s.setRing v x).twin = s.twin := rfl
@[simp] theorem State.setRing_tim : (s.setRing v x).tim = s.tim := rfl
@[simp] theorem State.setRing_store : (s.setRing v x).store = s.store := rfl
@[simp] theorem State.setRing_written : (s.setRing v x).written = s.written := rfl
@[simp] theorem State.setRing_sharers : (s.setRing v x).sharers = s.sharers := rfl
@[simp] theorem State.setRing_tiles : (s.setRing v x).tiles = s.tiles := rfl
@[simp] theorem State.setRing_slots : (s.setRing v x).slots = s.slots := rfl
@[simp] theorem State.setRing_cells : (s.setRing v x).cells = s.cells := rfl
@[simp] theorem State.setRing_stages : (s.setRing v x).stages = s.stages := rfl
@[simp] theorem State.setRing_floors : (s.setRing v x).floors = s.floors := rfl
@[simp] theorem State.setRing_tasks : (s.setRing v x).tasks = s.tasks := rfl
@[simp] theorem State.setRing_batches : (s.setRing v x).batches = s.batches := rfl
@[simp] theorem State.setRing_cfs : (s.setRing v x).cfs = s.cfs := rfl
@[simp] theorem State.setRing_moved : (s.setRing v x).moved = s.moved := rfl
@[simp] theorem State.setRing_pool : (s.setRing v x).pool = s.pool := rfl
@[simp] theorem State.setRing_queues : (s.setRing v x).queues = s.queues := rfl
@[simp] theorem State.setRing_net : (s.setRing v x).net = s.net := rfl
@[simp] theorem State.setRing_noc : (s.setRing v x).noc = s.noc := rfl
@[simp] theorem State.setRing_trip : (s.setRing v x).trip = s.trip := rfl
@[simp] theorem State.setRing_lanes : (s.setRing v x).lanes = s.lanes := rfl
@[simp] theorem State.setRing_rports : (s.setRing v x).rports = s.rports := rfl
@[simp] theorem State.setRing_streams : (s.setRing v x).streams = s.streams := rfl
@[simp] theorem State.setRing_sds : (s.setRing v x).sds = s.sds := rfl
@[simp] theorem State.setRing_adcs : (s.setRing v x).adcs = s.adcs := rfl
@[simp] theorem State.setRing_encs : (s.setRing v x).encs = s.encs := rfl
@[simp] theorem State.setRing_gates : (s.setRing v x).gates = s.gates := rfl
@[simp] theorem State.setRing_cars : (s.setRing v x).cars = s.cars := rfl
@[simp] theorem State.setRing_vls : (s.setRing v x).vls = s.vls := rfl
@[simp] theorem State.setRing_notices : (s.setRing v x).notices = s.notices := rfl
@[simp] theorem State.setRing_logQ : (s.setRing v x).logQ = s.logQ := rfl
@[simp] theorem State.setRing_fetched : (s.setRing v x).fetched = s.fetched := rfl
@[simp] theorem State.setRing_cmds : (s.setRing v x).cmds = s.cmds := rfl
@[simp] theorem State.setRing_drains : (s.setRing v x).drains = s.drains := rfl
@[simp] theorem State.setRing_orphans : (s.setRing v x).orphans = s.orphans := rfl
@[simp] theorem State.setRing_replies : (s.setRing v x).replies = s.replies := rfl
@[simp] theorem State.setRing_irqs : (s.setRing v x).irqs = s.irqs := rfl
@[simp] theorem State.setRing_hostMem : (s.setRing v x).hostMem = s.hostMem := rfl
@[simp] theorem State.setRing_owners : (s.setRing v x).owners = s.owners := rfl
end

section
variable (s : State) (kind i v : Nat)
@[simp] theorem State.setOwner_pending : (s.setOwner kind i v).pending = s.pending := rfl
@[simp] theorem State.setOwner_free : (s.setOwner kind i v).free = s.free := rfl
@[simp] theorem State.setOwner_regs : (s.setOwner kind i v).regs = s.regs := rfl
@[simp] theorem State.setOwner_once : (s.setOwner kind i v).once = s.once := rfl
@[simp] theorem State.setOwner_dev : (s.setOwner kind i v).dev = s.dev := rfl
@[simp] theorem State.setOwner_cfg : (s.setOwner kind i v).cfg = s.cfg := rfl
@[simp] theorem State.setOwner_frzs : (s.setOwner kind i v).frzs = s.frzs := rfl
@[simp] theorem State.setOwner_sup : (s.setOwner kind i v).sup = s.sup := rfl
@[simp] theorem State.setOwner_gravs : (s.setOwner kind i v).gravs = s.gravs := rfl
@[simp] theorem State.setOwner_turns : (s.setOwner kind i v).turns = s.turns := rfl
@[simp] theorem State.setOwner_rings : (s.setOwner kind i v).rings = s.rings := rfl
@[simp] theorem State.setOwner_lastFetch : (s.setOwner kind i v).lastFetch = s.lastFetch := rfl
@[simp] theorem State.setOwner_zeroLast : (s.setOwner kind i v).zeroLast = s.zeroLast := rfl
@[simp] theorem State.setOwner_hports : (s.setOwner kind i v).hports = s.hports := rfl
@[simp] theorem State.setOwner_hmw : (s.setOwner kind i v).hmw = s.hmw := rfl
@[simp] theorem State.setOwner_hmwAt : (s.setOwner kind i v).hmwAt = s.hmwAt := rfl
@[simp] theorem State.setOwner_links : (s.setOwner kind i v).links = s.links := rfl
@[simp] theorem State.setOwner_sysReqs : (s.setOwner kind i v).sysReqs = s.sysReqs := rfl
@[simp] theorem State.setOwner_nextSys : (s.setOwner kind i v).nextSys = s.nextSys := rfl
@[simp] theorem State.setOwner_sysTo : (s.setOwner kind i v).sysTo = s.sysTo := rfl
@[simp] theorem State.setOwner_linkOut : (s.setOwner kind i v).linkOut = s.linkOut := rfl
@[simp] theorem State.setOwner_mgmt : (s.setOwner kind i v).mgmt = s.mgmt := rfl
@[simp] theorem State.setOwner_twin : (s.setOwner kind i v).twin = s.twin := rfl
@[simp] theorem State.setOwner_tim : (s.setOwner kind i v).tim = s.tim := rfl
@[simp] theorem State.setOwner_store : (s.setOwner kind i v).store = s.store := rfl
@[simp] theorem State.setOwner_written : (s.setOwner kind i v).written = s.written := rfl
@[simp] theorem State.setOwner_sharers : (s.setOwner kind i v).sharers = s.sharers := rfl
@[simp] theorem State.setOwner_tiles : (s.setOwner kind i v).tiles = s.tiles := rfl
@[simp] theorem State.setOwner_slots : (s.setOwner kind i v).slots = s.slots := rfl
@[simp] theorem State.setOwner_cells : (s.setOwner kind i v).cells = s.cells := rfl
@[simp] theorem State.setOwner_stages : (s.setOwner kind i v).stages = s.stages := rfl
@[simp] theorem State.setOwner_floors : (s.setOwner kind i v).floors = s.floors := rfl
@[simp] theorem State.setOwner_tasks : (s.setOwner kind i v).tasks = s.tasks := rfl
@[simp] theorem State.setOwner_batches : (s.setOwner kind i v).batches = s.batches := rfl
@[simp] theorem State.setOwner_cfs : (s.setOwner kind i v).cfs = s.cfs := rfl
@[simp] theorem State.setOwner_moved : (s.setOwner kind i v).moved = s.moved := rfl
@[simp] theorem State.setOwner_pool : (s.setOwner kind i v).pool = s.pool := rfl
@[simp] theorem State.setOwner_queues : (s.setOwner kind i v).queues = s.queues := rfl
@[simp] theorem State.setOwner_net : (s.setOwner kind i v).net = s.net := rfl
@[simp] theorem State.setOwner_noc : (s.setOwner kind i v).noc = s.noc := rfl
@[simp] theorem State.setOwner_trip : (s.setOwner kind i v).trip = s.trip := rfl
@[simp] theorem State.setOwner_lanes : (s.setOwner kind i v).lanes = s.lanes := rfl
@[simp] theorem State.setOwner_rports : (s.setOwner kind i v).rports = s.rports := rfl
@[simp] theorem State.setOwner_streams : (s.setOwner kind i v).streams = s.streams := rfl
@[simp] theorem State.setOwner_sds : (s.setOwner kind i v).sds = s.sds := rfl
@[simp] theorem State.setOwner_adcs : (s.setOwner kind i v).adcs = s.adcs := rfl
@[simp] theorem State.setOwner_encs : (s.setOwner kind i v).encs = s.encs := rfl
@[simp] theorem State.setOwner_gates : (s.setOwner kind i v).gates = s.gates := rfl
@[simp] theorem State.setOwner_cars : (s.setOwner kind i v).cars = s.cars := rfl
@[simp] theorem State.setOwner_vls : (s.setOwner kind i v).vls = s.vls := rfl
@[simp] theorem State.setOwner_notices : (s.setOwner kind i v).notices = s.notices := rfl
@[simp] theorem State.setOwner_logQ : (s.setOwner kind i v).logQ = s.logQ := rfl
@[simp] theorem State.setOwner_fetched : (s.setOwner kind i v).fetched = s.fetched := rfl
@[simp] theorem State.setOwner_cmds : (s.setOwner kind i v).cmds = s.cmds := rfl
@[simp] theorem State.setOwner_drains : (s.setOwner kind i v).drains = s.drains := rfl
@[simp] theorem State.setOwner_orphans : (s.setOwner kind i v).orphans = s.orphans := rfl
@[simp] theorem State.setOwner_replies : (s.setOwner kind i v).replies = s.replies := rfl
@[simp] theorem State.setOwner_irqs : (s.setOwner kind i v).irqs = s.irqs := rfl
@[simp] theorem State.setOwner_hostMem : (s.setOwner kind i v).hostMem = s.hostMem := rfl
@[simp] theorem State.setOwner_owners : (s.setOwner kind i v).owners = tput 0 s.owners (kind * 65536 + i) v := rfl
end

section
variable (s : State) (h : Nat) (x : HPort)
@[simp] theorem State.setHport_pending : (s.setHport h x).pending = s.pending := rfl
@[simp] theorem State.setHport_free : (s.setHport h x).free = s.free := rfl
@[simp] theorem State.setHport_regs : (s.setHport h x).regs = s.regs := rfl
@[simp] theorem State.setHport_once : (s.setHport h x).once = s.once := rfl
@[simp] theorem State.setHport_dev : (s.setHport h x).dev = s.dev := rfl
@[simp] theorem State.setHport_cfg : (s.setHport h x).cfg = s.cfg := rfl
@[simp] theorem State.setHport_frzs : (s.setHport h x).frzs = s.frzs := rfl
@[simp] theorem State.setHport_sup : (s.setHport h x).sup = s.sup := rfl
@[simp] theorem State.setHport_gravs : (s.setHport h x).gravs = s.gravs := rfl
@[simp] theorem State.setHport_turns : (s.setHport h x).turns = s.turns := rfl
@[simp] theorem State.setHport_rings : (s.setHport h x).rings = s.rings := rfl
@[simp] theorem State.setHport_lastFetch : (s.setHport h x).lastFetch = s.lastFetch := rfl
@[simp] theorem State.setHport_zeroLast : (s.setHport h x).zeroLast = s.zeroLast := rfl
@[simp] theorem State.setHport_hports : (s.setHport h x).hports = tput .init s.hports h x := rfl
@[simp] theorem State.setHport_hmw : (s.setHport h x).hmw = s.hmw := rfl
@[simp] theorem State.setHport_hmwAt : (s.setHport h x).hmwAt = s.hmwAt := rfl
@[simp] theorem State.setHport_links : (s.setHport h x).links = s.links := rfl
@[simp] theorem State.setHport_sysReqs : (s.setHport h x).sysReqs = s.sysReqs := rfl
@[simp] theorem State.setHport_nextSys : (s.setHport h x).nextSys = s.nextSys := rfl
@[simp] theorem State.setHport_sysTo : (s.setHport h x).sysTo = s.sysTo := rfl
@[simp] theorem State.setHport_linkOut : (s.setHport h x).linkOut = s.linkOut := rfl
@[simp] theorem State.setHport_mgmt : (s.setHport h x).mgmt = s.mgmt := rfl
@[simp] theorem State.setHport_twin : (s.setHport h x).twin = s.twin := rfl
@[simp] theorem State.setHport_tim : (s.setHport h x).tim = s.tim := rfl
@[simp] theorem State.setHport_store : (s.setHport h x).store = s.store := rfl
@[simp] theorem State.setHport_written : (s.setHport h x).written = s.written := rfl
@[simp] theorem State.setHport_sharers : (s.setHport h x).sharers = s.sharers := rfl
@[simp] theorem State.setHport_tiles : (s.setHport h x).tiles = s.tiles := rfl
@[simp] theorem State.setHport_slots : (s.setHport h x).slots = s.slots := rfl
@[simp] theorem State.setHport_cells : (s.setHport h x).cells = s.cells := rfl
@[simp] theorem State.setHport_stages : (s.setHport h x).stages = s.stages := rfl
@[simp] theorem State.setHport_floors : (s.setHport h x).floors = s.floors := rfl
@[simp] theorem State.setHport_tasks : (s.setHport h x).tasks = s.tasks := rfl
@[simp] theorem State.setHport_batches : (s.setHport h x).batches = s.batches := rfl
@[simp] theorem State.setHport_cfs : (s.setHport h x).cfs = s.cfs := rfl
@[simp] theorem State.setHport_moved : (s.setHport h x).moved = s.moved := rfl
@[simp] theorem State.setHport_pool : (s.setHport h x).pool = s.pool := rfl
@[simp] theorem State.setHport_queues : (s.setHport h x).queues = s.queues := rfl
@[simp] theorem State.setHport_net : (s.setHport h x).net = s.net := rfl
@[simp] theorem State.setHport_noc : (s.setHport h x).noc = s.noc := rfl
@[simp] theorem State.setHport_trip : (s.setHport h x).trip = s.trip := rfl
@[simp] theorem State.setHport_lanes : (s.setHport h x).lanes = s.lanes := rfl
@[simp] theorem State.setHport_rports : (s.setHport h x).rports = s.rports := rfl
@[simp] theorem State.setHport_streams : (s.setHport h x).streams = s.streams := rfl
@[simp] theorem State.setHport_sds : (s.setHport h x).sds = s.sds := rfl
@[simp] theorem State.setHport_adcs : (s.setHport h x).adcs = s.adcs := rfl
@[simp] theorem State.setHport_encs : (s.setHport h x).encs = s.encs := rfl
@[simp] theorem State.setHport_gates : (s.setHport h x).gates = s.gates := rfl
@[simp] theorem State.setHport_cars : (s.setHport h x).cars = s.cars := rfl
@[simp] theorem State.setHport_vls : (s.setHport h x).vls = s.vls := rfl
@[simp] theorem State.setHport_notices : (s.setHport h x).notices = s.notices := rfl
@[simp] theorem State.setHport_logQ : (s.setHport h x).logQ = s.logQ := rfl
@[simp] theorem State.setHport_fetched : (s.setHport h x).fetched = s.fetched := rfl
@[simp] theorem State.setHport_cmds : (s.setHport h x).cmds = s.cmds := rfl
@[simp] theorem State.setHport_drains : (s.setHport h x).drains = s.drains := rfl
@[simp] theorem State.setHport_orphans : (s.setHport h x).orphans = s.orphans := rfl
@[simp] theorem State.setHport_replies : (s.setHport h x).replies = s.replies := rfl
@[simp] theorem State.setHport_irqs : (s.setHport h x).irqs = s.irqs := rfl
@[simp] theorem State.setHport_hostMem : (s.setHport h x).hostMem = s.hostMem := rfl
@[simp] theorem State.setHport_owners : (s.setHport h x).owners = s.owners := rfl
end

section
variable (s : State) (t : Nat) (x : TileSt)
@[simp] theorem State.setTile_pending : (s.setTile t x).pending = s.pending := rfl
@[simp] theorem State.setTile_free : (s.setTile t x).free = s.free := rfl
@[simp] theorem State.setTile_regs : (s.setTile t x).regs = s.regs := rfl
@[simp] theorem State.setTile_once : (s.setTile t x).once = s.once := rfl
@[simp] theorem State.setTile_dev : (s.setTile t x).dev = s.dev := rfl
@[simp] theorem State.setTile_cfg : (s.setTile t x).cfg = s.cfg := rfl
@[simp] theorem State.setTile_frzs : (s.setTile t x).frzs = s.frzs := rfl
@[simp] theorem State.setTile_sup : (s.setTile t x).sup = s.sup := rfl
@[simp] theorem State.setTile_gravs : (s.setTile t x).gravs = s.gravs := rfl
@[simp] theorem State.setTile_turns : (s.setTile t x).turns = s.turns := rfl
@[simp] theorem State.setTile_rings : (s.setTile t x).rings = s.rings := rfl
@[simp] theorem State.setTile_lastFetch : (s.setTile t x).lastFetch = s.lastFetch := rfl
@[simp] theorem State.setTile_zeroLast : (s.setTile t x).zeroLast = s.zeroLast := rfl
@[simp] theorem State.setTile_hports : (s.setTile t x).hports = s.hports := rfl
@[simp] theorem State.setTile_hmw : (s.setTile t x).hmw = s.hmw := rfl
@[simp] theorem State.setTile_hmwAt : (s.setTile t x).hmwAt = s.hmwAt := rfl
@[simp] theorem State.setTile_links : (s.setTile t x).links = s.links := rfl
@[simp] theorem State.setTile_sysReqs : (s.setTile t x).sysReqs = s.sysReqs := rfl
@[simp] theorem State.setTile_nextSys : (s.setTile t x).nextSys = s.nextSys := rfl
@[simp] theorem State.setTile_sysTo : (s.setTile t x).sysTo = s.sysTo := rfl
@[simp] theorem State.setTile_linkOut : (s.setTile t x).linkOut = s.linkOut := rfl
@[simp] theorem State.setTile_mgmt : (s.setTile t x).mgmt = s.mgmt := rfl
@[simp] theorem State.setTile_twin : (s.setTile t x).twin = s.twin := rfl
@[simp] theorem State.setTile_tim : (s.setTile t x).tim = s.tim := rfl
@[simp] theorem State.setTile_store : (s.setTile t x).store = s.store := rfl
@[simp] theorem State.setTile_written : (s.setTile t x).written = s.written := rfl
@[simp] theorem State.setTile_sharers : (s.setTile t x).sharers = s.sharers := rfl
@[simp] theorem State.setTile_tiles : (s.setTile t x).tiles = tput .init s.tiles t x := rfl
@[simp] theorem State.setTile_slots : (s.setTile t x).slots = s.slots := rfl
@[simp] theorem State.setTile_cells : (s.setTile t x).cells = s.cells := rfl
@[simp] theorem State.setTile_stages : (s.setTile t x).stages = s.stages := rfl
@[simp] theorem State.setTile_floors : (s.setTile t x).floors = s.floors := rfl
@[simp] theorem State.setTile_tasks : (s.setTile t x).tasks = s.tasks := rfl
@[simp] theorem State.setTile_batches : (s.setTile t x).batches = s.batches := rfl
@[simp] theorem State.setTile_cfs : (s.setTile t x).cfs = s.cfs := rfl
@[simp] theorem State.setTile_moved : (s.setTile t x).moved = s.moved := rfl
@[simp] theorem State.setTile_pool : (s.setTile t x).pool = s.pool := rfl
@[simp] theorem State.setTile_queues : (s.setTile t x).queues = s.queues := rfl
@[simp] theorem State.setTile_net : (s.setTile t x).net = s.net := rfl
@[simp] theorem State.setTile_noc : (s.setTile t x).noc = s.noc := rfl
@[simp] theorem State.setTile_trip : (s.setTile t x).trip = s.trip := rfl
@[simp] theorem State.setTile_lanes : (s.setTile t x).lanes = s.lanes := rfl
@[simp] theorem State.setTile_rports : (s.setTile t x).rports = s.rports := rfl
@[simp] theorem State.setTile_streams : (s.setTile t x).streams = s.streams := rfl
@[simp] theorem State.setTile_sds : (s.setTile t x).sds = s.sds := rfl
@[simp] theorem State.setTile_adcs : (s.setTile t x).adcs = s.adcs := rfl
@[simp] theorem State.setTile_encs : (s.setTile t x).encs = s.encs := rfl
@[simp] theorem State.setTile_gates : (s.setTile t x).gates = s.gates := rfl
@[simp] theorem State.setTile_cars : (s.setTile t x).cars = s.cars := rfl
@[simp] theorem State.setTile_vls : (s.setTile t x).vls = s.vls := rfl
@[simp] theorem State.setTile_notices : (s.setTile t x).notices = s.notices := rfl
@[simp] theorem State.setTile_logQ : (s.setTile t x).logQ = s.logQ := rfl
@[simp] theorem State.setTile_fetched : (s.setTile t x).fetched = s.fetched := rfl
@[simp] theorem State.setTile_cmds : (s.setTile t x).cmds = s.cmds := rfl
@[simp] theorem State.setTile_drains : (s.setTile t x).drains = s.drains := rfl
@[simp] theorem State.setTile_orphans : (s.setTile t x).orphans = s.orphans := rfl
@[simp] theorem State.setTile_replies : (s.setTile t x).replies = s.replies := rfl
@[simp] theorem State.setTile_irqs : (s.setTile t x).irqs = s.irqs := rfl
@[simp] theorem State.setTile_hostMem : (s.setTile t x).hostMem = s.hostMem := rfl
@[simp] theorem State.setTile_owners : (s.setTile t x).owners = s.owners := rfl
end

section
variable (s : State) (t k : Nat) (x : SlotSt)
@[simp] theorem State.setSlot_pending : (s.setSlot t k x).pending = s.pending := rfl
@[simp] theorem State.setSlot_free : (s.setSlot t k x).free = s.free := rfl
@[simp] theorem State.setSlot_regs : (s.setSlot t k x).regs = s.regs := rfl
@[simp] theorem State.setSlot_once : (s.setSlot t k x).once = s.once := rfl
@[simp] theorem State.setSlot_dev : (s.setSlot t k x).dev = s.dev := rfl
@[simp] theorem State.setSlot_cfg : (s.setSlot t k x).cfg = s.cfg := rfl
@[simp] theorem State.setSlot_frzs : (s.setSlot t k x).frzs = s.frzs := rfl
@[simp] theorem State.setSlot_sup : (s.setSlot t k x).sup = s.sup := rfl
@[simp] theorem State.setSlot_gravs : (s.setSlot t k x).gravs = s.gravs := rfl
@[simp] theorem State.setSlot_turns : (s.setSlot t k x).turns = s.turns := rfl
@[simp] theorem State.setSlot_rings : (s.setSlot t k x).rings = s.rings := rfl
@[simp] theorem State.setSlot_lastFetch : (s.setSlot t k x).lastFetch = s.lastFetch := rfl
@[simp] theorem State.setSlot_zeroLast : (s.setSlot t k x).zeroLast = s.zeroLast := rfl
@[simp] theorem State.setSlot_hports : (s.setSlot t k x).hports = s.hports := rfl
@[simp] theorem State.setSlot_hmw : (s.setSlot t k x).hmw = s.hmw := rfl
@[simp] theorem State.setSlot_hmwAt : (s.setSlot t k x).hmwAt = s.hmwAt := rfl
@[simp] theorem State.setSlot_links : (s.setSlot t k x).links = s.links := rfl
@[simp] theorem State.setSlot_sysReqs : (s.setSlot t k x).sysReqs = s.sysReqs := rfl
@[simp] theorem State.setSlot_nextSys : (s.setSlot t k x).nextSys = s.nextSys := rfl
@[simp] theorem State.setSlot_sysTo : (s.setSlot t k x).sysTo = s.sysTo := rfl
@[simp] theorem State.setSlot_linkOut : (s.setSlot t k x).linkOut = s.linkOut := rfl
@[simp] theorem State.setSlot_mgmt : (s.setSlot t k x).mgmt = s.mgmt := rfl
@[simp] theorem State.setSlot_twin : (s.setSlot t k x).twin = s.twin := rfl
@[simp] theorem State.setSlot_tim : (s.setSlot t k x).tim = s.tim := rfl
@[simp] theorem State.setSlot_store : (s.setSlot t k x).store = s.store := rfl
@[simp] theorem State.setSlot_written : (s.setSlot t k x).written = s.written := rfl
@[simp] theorem State.setSlot_sharers : (s.setSlot t k x).sharers = s.sharers := rfl
@[simp] theorem State.setSlot_tiles : (s.setSlot t k x).tiles = s.tiles := rfl
@[simp] theorem State.setSlot_slots : (s.setSlot t k x).slots = tput .init s.slots (8 * t + k) x := rfl
@[simp] theorem State.setSlot_cells : (s.setSlot t k x).cells = s.cells := rfl
@[simp] theorem State.setSlot_stages : (s.setSlot t k x).stages = s.stages := rfl
@[simp] theorem State.setSlot_floors : (s.setSlot t k x).floors = s.floors := rfl
@[simp] theorem State.setSlot_tasks : (s.setSlot t k x).tasks = s.tasks := rfl
@[simp] theorem State.setSlot_batches : (s.setSlot t k x).batches = s.batches := rfl
@[simp] theorem State.setSlot_cfs : (s.setSlot t k x).cfs = s.cfs := rfl
@[simp] theorem State.setSlot_moved : (s.setSlot t k x).moved = s.moved := rfl
@[simp] theorem State.setSlot_pool : (s.setSlot t k x).pool = s.pool := rfl
@[simp] theorem State.setSlot_queues : (s.setSlot t k x).queues = s.queues := rfl
@[simp] theorem State.setSlot_net : (s.setSlot t k x).net = s.net := rfl
@[simp] theorem State.setSlot_noc : (s.setSlot t k x).noc = s.noc := rfl
@[simp] theorem State.setSlot_trip : (s.setSlot t k x).trip = s.trip := rfl
@[simp] theorem State.setSlot_lanes : (s.setSlot t k x).lanes = s.lanes := rfl
@[simp] theorem State.setSlot_rports : (s.setSlot t k x).rports = s.rports := rfl
@[simp] theorem State.setSlot_streams : (s.setSlot t k x).streams = s.streams := rfl
@[simp] theorem State.setSlot_sds : (s.setSlot t k x).sds = s.sds := rfl
@[simp] theorem State.setSlot_adcs : (s.setSlot t k x).adcs = s.adcs := rfl
@[simp] theorem State.setSlot_encs : (s.setSlot t k x).encs = s.encs := rfl
@[simp] theorem State.setSlot_gates : (s.setSlot t k x).gates = s.gates := rfl
@[simp] theorem State.setSlot_cars : (s.setSlot t k x).cars = s.cars := rfl
@[simp] theorem State.setSlot_vls : (s.setSlot t k x).vls = s.vls := rfl
@[simp] theorem State.setSlot_notices : (s.setSlot t k x).notices = s.notices := rfl
@[simp] theorem State.setSlot_logQ : (s.setSlot t k x).logQ = s.logQ := rfl
@[simp] theorem State.setSlot_fetched : (s.setSlot t k x).fetched = s.fetched := rfl
@[simp] theorem State.setSlot_cmds : (s.setSlot t k x).cmds = s.cmds := rfl
@[simp] theorem State.setSlot_drains : (s.setSlot t k x).drains = s.drains := rfl
@[simp] theorem State.setSlot_orphans : (s.setSlot t k x).orphans = s.orphans := rfl
@[simp] theorem State.setSlot_replies : (s.setSlot t k x).replies = s.replies := rfl
@[simp] theorem State.setSlot_irqs : (s.setSlot t k x).irqs = s.irqs := rfl
@[simp] theorem State.setSlot_hostMem : (s.setSlot t k x).hostMem = s.hostMem := rfl
@[simp] theorem State.setSlot_owners : (s.setSlot t k x).owners = s.owners := rfl
end

section
variable (s : State) (t k c : Nat) (x : CellSt)
@[simp] theorem State.setCell_pending : (s.setCell t k c x).pending = s.pending := rfl
@[simp] theorem State.setCell_free : (s.setCell t k c x).free = s.free := rfl
@[simp] theorem State.setCell_regs : (s.setCell t k c x).regs = s.regs := rfl
@[simp] theorem State.setCell_once : (s.setCell t k c x).once = s.once := rfl
@[simp] theorem State.setCell_dev : (s.setCell t k c x).dev = s.dev := rfl
@[simp] theorem State.setCell_cfg : (s.setCell t k c x).cfg = s.cfg := rfl
@[simp] theorem State.setCell_frzs : (s.setCell t k c x).frzs = s.frzs := rfl
@[simp] theorem State.setCell_sup : (s.setCell t k c x).sup = s.sup := rfl
@[simp] theorem State.setCell_gravs : (s.setCell t k c x).gravs = s.gravs := rfl
@[simp] theorem State.setCell_turns : (s.setCell t k c x).turns = s.turns := rfl
@[simp] theorem State.setCell_rings : (s.setCell t k c x).rings = s.rings := rfl
@[simp] theorem State.setCell_lastFetch : (s.setCell t k c x).lastFetch = s.lastFetch := rfl
@[simp] theorem State.setCell_zeroLast : (s.setCell t k c x).zeroLast = s.zeroLast := rfl
@[simp] theorem State.setCell_hports : (s.setCell t k c x).hports = s.hports := rfl
@[simp] theorem State.setCell_hmw : (s.setCell t k c x).hmw = s.hmw := rfl
@[simp] theorem State.setCell_hmwAt : (s.setCell t k c x).hmwAt = s.hmwAt := rfl
@[simp] theorem State.setCell_links : (s.setCell t k c x).links = s.links := rfl
@[simp] theorem State.setCell_sysReqs : (s.setCell t k c x).sysReqs = s.sysReqs := rfl
@[simp] theorem State.setCell_nextSys : (s.setCell t k c x).nextSys = s.nextSys := rfl
@[simp] theorem State.setCell_sysTo : (s.setCell t k c x).sysTo = s.sysTo := rfl
@[simp] theorem State.setCell_linkOut : (s.setCell t k c x).linkOut = s.linkOut := rfl
@[simp] theorem State.setCell_mgmt : (s.setCell t k c x).mgmt = s.mgmt := rfl
@[simp] theorem State.setCell_twin : (s.setCell t k c x).twin = s.twin := rfl
@[simp] theorem State.setCell_tim : (s.setCell t k c x).tim = s.tim := rfl
@[simp] theorem State.setCell_store : (s.setCell t k c x).store = s.store := rfl
@[simp] theorem State.setCell_written : (s.setCell t k c x).written = s.written := rfl
@[simp] theorem State.setCell_sharers : (s.setCell t k c x).sharers = s.sharers := rfl
@[simp] theorem State.setCell_tiles : (s.setCell t k c x).tiles = s.tiles := rfl
@[simp] theorem State.setCell_slots : (s.setCell t k c x).slots = s.slots := rfl
@[simp] theorem State.setCell_cells : (s.setCell t k c x).cells = tput .init s.cells (cellKey t k c) x := rfl
@[simp] theorem State.setCell_stages : (s.setCell t k c x).stages = s.stages := rfl
@[simp] theorem State.setCell_floors : (s.setCell t k c x).floors = s.floors := rfl
@[simp] theorem State.setCell_tasks : (s.setCell t k c x).tasks = s.tasks := rfl
@[simp] theorem State.setCell_batches : (s.setCell t k c x).batches = s.batches := rfl
@[simp] theorem State.setCell_cfs : (s.setCell t k c x).cfs = s.cfs := rfl
@[simp] theorem State.setCell_moved : (s.setCell t k c x).moved = s.moved := rfl
@[simp] theorem State.setCell_pool : (s.setCell t k c x).pool = s.pool := rfl
@[simp] theorem State.setCell_queues : (s.setCell t k c x).queues = s.queues := rfl
@[simp] theorem State.setCell_net : (s.setCell t k c x).net = s.net := rfl
@[simp] theorem State.setCell_noc : (s.setCell t k c x).noc = s.noc := rfl
@[simp] theorem State.setCell_trip : (s.setCell t k c x).trip = s.trip := rfl
@[simp] theorem State.setCell_lanes : (s.setCell t k c x).lanes = s.lanes := rfl
@[simp] theorem State.setCell_rports : (s.setCell t k c x).rports = s.rports := rfl
@[simp] theorem State.setCell_streams : (s.setCell t k c x).streams = s.streams := rfl
@[simp] theorem State.setCell_sds : (s.setCell t k c x).sds = s.sds := rfl
@[simp] theorem State.setCell_adcs : (s.setCell t k c x).adcs = s.adcs := rfl
@[simp] theorem State.setCell_encs : (s.setCell t k c x).encs = s.encs := rfl
@[simp] theorem State.setCell_gates : (s.setCell t k c x).gates = s.gates := rfl
@[simp] theorem State.setCell_cars : (s.setCell t k c x).cars = s.cars := rfl
@[simp] theorem State.setCell_vls : (s.setCell t k c x).vls = s.vls := rfl
@[simp] theorem State.setCell_notices : (s.setCell t k c x).notices = s.notices := rfl
@[simp] theorem State.setCell_logQ : (s.setCell t k c x).logQ = s.logQ := rfl
@[simp] theorem State.setCell_fetched : (s.setCell t k c x).fetched = s.fetched := rfl
@[simp] theorem State.setCell_cmds : (s.setCell t k c x).cmds = s.cmds := rfl
@[simp] theorem State.setCell_drains : (s.setCell t k c x).drains = s.drains := rfl
@[simp] theorem State.setCell_orphans : (s.setCell t k c x).orphans = s.orphans := rfl
@[simp] theorem State.setCell_replies : (s.setCell t k c x).replies = s.replies := rfl
@[simp] theorem State.setCell_irqs : (s.setCell t k c x).irqs = s.irqs := rfl
@[simp] theorem State.setCell_hostMem : (s.setCell t k c x).hostMem = s.hostMem := rfl
@[simp] theorem State.setCell_owners : (s.setCell t k c x).owners = s.owners := rfl
end

section
variable (s : State) (f : Nat) (x : FloorSt)
@[simp] theorem State.setFloor_pending : (s.setFloor f x).pending = s.pending := rfl
@[simp] theorem State.setFloor_free : (s.setFloor f x).free = s.free := rfl
@[simp] theorem State.setFloor_regs : (s.setFloor f x).regs = s.regs := rfl
@[simp] theorem State.setFloor_once : (s.setFloor f x).once = s.once := rfl
@[simp] theorem State.setFloor_dev : (s.setFloor f x).dev = s.dev := rfl
@[simp] theorem State.setFloor_cfg : (s.setFloor f x).cfg = s.cfg := rfl
@[simp] theorem State.setFloor_frzs : (s.setFloor f x).frzs = s.frzs := rfl
@[simp] theorem State.setFloor_sup : (s.setFloor f x).sup = s.sup := rfl
@[simp] theorem State.setFloor_gravs : (s.setFloor f x).gravs = s.gravs := rfl
@[simp] theorem State.setFloor_turns : (s.setFloor f x).turns = s.turns := rfl
@[simp] theorem State.setFloor_rings : (s.setFloor f x).rings = s.rings := rfl
@[simp] theorem State.setFloor_lastFetch : (s.setFloor f x).lastFetch = s.lastFetch := rfl
@[simp] theorem State.setFloor_zeroLast : (s.setFloor f x).zeroLast = s.zeroLast := rfl
@[simp] theorem State.setFloor_hports : (s.setFloor f x).hports = s.hports := rfl
@[simp] theorem State.setFloor_hmw : (s.setFloor f x).hmw = s.hmw := rfl
@[simp] theorem State.setFloor_hmwAt : (s.setFloor f x).hmwAt = s.hmwAt := rfl
@[simp] theorem State.setFloor_links : (s.setFloor f x).links = s.links := rfl
@[simp] theorem State.setFloor_sysReqs : (s.setFloor f x).sysReqs = s.sysReqs := rfl
@[simp] theorem State.setFloor_nextSys : (s.setFloor f x).nextSys = s.nextSys := rfl
@[simp] theorem State.setFloor_sysTo : (s.setFloor f x).sysTo = s.sysTo := rfl
@[simp] theorem State.setFloor_linkOut : (s.setFloor f x).linkOut = s.linkOut := rfl
@[simp] theorem State.setFloor_mgmt : (s.setFloor f x).mgmt = s.mgmt := rfl
@[simp] theorem State.setFloor_twin : (s.setFloor f x).twin = s.twin := rfl
@[simp] theorem State.setFloor_tim : (s.setFloor f x).tim = s.tim := rfl
@[simp] theorem State.setFloor_store : (s.setFloor f x).store = s.store := rfl
@[simp] theorem State.setFloor_written : (s.setFloor f x).written = s.written := rfl
@[simp] theorem State.setFloor_sharers : (s.setFloor f x).sharers = s.sharers := rfl
@[simp] theorem State.setFloor_tiles : (s.setFloor f x).tiles = s.tiles := rfl
@[simp] theorem State.setFloor_slots : (s.setFloor f x).slots = s.slots := rfl
@[simp] theorem State.setFloor_cells : (s.setFloor f x).cells = s.cells := rfl
@[simp] theorem State.setFloor_stages : (s.setFloor f x).stages = s.stages := rfl
@[simp] theorem State.setFloor_floors : (s.setFloor f x).floors = tput .init s.floors f x := rfl
@[simp] theorem State.setFloor_tasks : (s.setFloor f x).tasks = s.tasks := rfl
@[simp] theorem State.setFloor_batches : (s.setFloor f x).batches = s.batches := rfl
@[simp] theorem State.setFloor_cfs : (s.setFloor f x).cfs = s.cfs := rfl
@[simp] theorem State.setFloor_moved : (s.setFloor f x).moved = s.moved := rfl
@[simp] theorem State.setFloor_pool : (s.setFloor f x).pool = s.pool := rfl
@[simp] theorem State.setFloor_queues : (s.setFloor f x).queues = s.queues := rfl
@[simp] theorem State.setFloor_net : (s.setFloor f x).net = s.net := rfl
@[simp] theorem State.setFloor_noc : (s.setFloor f x).noc = s.noc := rfl
@[simp] theorem State.setFloor_trip : (s.setFloor f x).trip = s.trip := rfl
@[simp] theorem State.setFloor_lanes : (s.setFloor f x).lanes = s.lanes := rfl
@[simp] theorem State.setFloor_rports : (s.setFloor f x).rports = s.rports := rfl
@[simp] theorem State.setFloor_streams : (s.setFloor f x).streams = s.streams := rfl
@[simp] theorem State.setFloor_sds : (s.setFloor f x).sds = s.sds := rfl
@[simp] theorem State.setFloor_adcs : (s.setFloor f x).adcs = s.adcs := rfl
@[simp] theorem State.setFloor_encs : (s.setFloor f x).encs = s.encs := rfl
@[simp] theorem State.setFloor_gates : (s.setFloor f x).gates = s.gates := rfl
@[simp] theorem State.setFloor_cars : (s.setFloor f x).cars = s.cars := rfl
@[simp] theorem State.setFloor_vls : (s.setFloor f x).vls = s.vls := rfl
@[simp] theorem State.setFloor_notices : (s.setFloor f x).notices = s.notices := rfl
@[simp] theorem State.setFloor_logQ : (s.setFloor f x).logQ = s.logQ := rfl
@[simp] theorem State.setFloor_fetched : (s.setFloor f x).fetched = s.fetched := rfl
@[simp] theorem State.setFloor_cmds : (s.setFloor f x).cmds = s.cmds := rfl
@[simp] theorem State.setFloor_drains : (s.setFloor f x).drains = s.drains := rfl
@[simp] theorem State.setFloor_orphans : (s.setFloor f x).orphans = s.orphans := rfl
@[simp] theorem State.setFloor_replies : (s.setFloor f x).replies = s.replies := rfl
@[simp] theorem State.setFloor_irqs : (s.setFloor f x).irqs = s.irqs := rfl
@[simp] theorem State.setFloor_hostMem : (s.setFloor f x).hostMem = s.hostMem := rfl
@[simp] theorem State.setFloor_owners : (s.setFloor f x).owners = s.owners := rfl
end

section
variable (s : State) (q : Nat) (x : Queue)
@[simp] theorem State.setQueue_pending : (s.setQueue q x).pending = s.pending := rfl
@[simp] theorem State.setQueue_free : (s.setQueue q x).free = s.free := rfl
@[simp] theorem State.setQueue_regs : (s.setQueue q x).regs = s.regs := rfl
@[simp] theorem State.setQueue_once : (s.setQueue q x).once = s.once := rfl
@[simp] theorem State.setQueue_dev : (s.setQueue q x).dev = s.dev := rfl
@[simp] theorem State.setQueue_cfg : (s.setQueue q x).cfg = s.cfg := rfl
@[simp] theorem State.setQueue_frzs : (s.setQueue q x).frzs = s.frzs := rfl
@[simp] theorem State.setQueue_sup : (s.setQueue q x).sup = s.sup := rfl
@[simp] theorem State.setQueue_gravs : (s.setQueue q x).gravs = s.gravs := rfl
@[simp] theorem State.setQueue_turns : (s.setQueue q x).turns = s.turns := rfl
@[simp] theorem State.setQueue_rings : (s.setQueue q x).rings = s.rings := rfl
@[simp] theorem State.setQueue_lastFetch : (s.setQueue q x).lastFetch = s.lastFetch := rfl
@[simp] theorem State.setQueue_zeroLast : (s.setQueue q x).zeroLast = s.zeroLast := rfl
@[simp] theorem State.setQueue_hports : (s.setQueue q x).hports = s.hports := rfl
@[simp] theorem State.setQueue_hmw : (s.setQueue q x).hmw = s.hmw := rfl
@[simp] theorem State.setQueue_hmwAt : (s.setQueue q x).hmwAt = s.hmwAt := rfl
@[simp] theorem State.setQueue_links : (s.setQueue q x).links = s.links := rfl
@[simp] theorem State.setQueue_sysReqs : (s.setQueue q x).sysReqs = s.sysReqs := rfl
@[simp] theorem State.setQueue_nextSys : (s.setQueue q x).nextSys = s.nextSys := rfl
@[simp] theorem State.setQueue_sysTo : (s.setQueue q x).sysTo = s.sysTo := rfl
@[simp] theorem State.setQueue_linkOut : (s.setQueue q x).linkOut = s.linkOut := rfl
@[simp] theorem State.setQueue_mgmt : (s.setQueue q x).mgmt = s.mgmt := rfl
@[simp] theorem State.setQueue_twin : (s.setQueue q x).twin = s.twin := rfl
@[simp] theorem State.setQueue_tim : (s.setQueue q x).tim = s.tim := rfl
@[simp] theorem State.setQueue_store : (s.setQueue q x).store = s.store := rfl
@[simp] theorem State.setQueue_written : (s.setQueue q x).written = s.written := rfl
@[simp] theorem State.setQueue_sharers : (s.setQueue q x).sharers = s.sharers := rfl
@[simp] theorem State.setQueue_tiles : (s.setQueue q x).tiles = s.tiles := rfl
@[simp] theorem State.setQueue_slots : (s.setQueue q x).slots = s.slots := rfl
@[simp] theorem State.setQueue_cells : (s.setQueue q x).cells = s.cells := rfl
@[simp] theorem State.setQueue_stages : (s.setQueue q x).stages = s.stages := rfl
@[simp] theorem State.setQueue_floors : (s.setQueue q x).floors = s.floors := rfl
@[simp] theorem State.setQueue_tasks : (s.setQueue q x).tasks = s.tasks := rfl
@[simp] theorem State.setQueue_batches : (s.setQueue q x).batches = s.batches := rfl
@[simp] theorem State.setQueue_cfs : (s.setQueue q x).cfs = s.cfs := rfl
@[simp] theorem State.setQueue_moved : (s.setQueue q x).moved = s.moved := rfl
@[simp] theorem State.setQueue_pool : (s.setQueue q x).pool = s.pool := rfl
@[simp] theorem State.setQueue_queues : (s.setQueue q x).queues = tput .empty s.queues q x := rfl
@[simp] theorem State.setQueue_net : (s.setQueue q x).net = s.net := rfl
@[simp] theorem State.setQueue_noc : (s.setQueue q x).noc = s.noc := rfl
@[simp] theorem State.setQueue_trip : (s.setQueue q x).trip = s.trip := rfl
@[simp] theorem State.setQueue_lanes : (s.setQueue q x).lanes = s.lanes := rfl
@[simp] theorem State.setQueue_rports : (s.setQueue q x).rports = s.rports := rfl
@[simp] theorem State.setQueue_streams : (s.setQueue q x).streams = s.streams := rfl
@[simp] theorem State.setQueue_sds : (s.setQueue q x).sds = s.sds := rfl
@[simp] theorem State.setQueue_adcs : (s.setQueue q x).adcs = s.adcs := rfl
@[simp] theorem State.setQueue_encs : (s.setQueue q x).encs = s.encs := rfl
@[simp] theorem State.setQueue_gates : (s.setQueue q x).gates = s.gates := rfl
@[simp] theorem State.setQueue_cars : (s.setQueue q x).cars = s.cars := rfl
@[simp] theorem State.setQueue_vls : (s.setQueue q x).vls = s.vls := rfl
@[simp] theorem State.setQueue_notices : (s.setQueue q x).notices = s.notices := rfl
@[simp] theorem State.setQueue_logQ : (s.setQueue q x).logQ = s.logQ := rfl
@[simp] theorem State.setQueue_fetched : (s.setQueue q x).fetched = s.fetched := rfl
@[simp] theorem State.setQueue_cmds : (s.setQueue q x).cmds = s.cmds := rfl
@[simp] theorem State.setQueue_drains : (s.setQueue q x).drains = s.drains := rfl
@[simp] theorem State.setQueue_orphans : (s.setQueue q x).orphans = s.orphans := rfl
@[simp] theorem State.setQueue_replies : (s.setQueue q x).replies = s.replies := rfl
@[simp] theorem State.setQueue_irqs : (s.setQueue q x).irqs = s.irqs := rfl
@[simp] theorem State.setQueue_hostMem : (s.setQueue q x).hostMem = s.hostMem := rfl
@[simp] theorem State.setQueue_owners : (s.setQueue q x).owners = s.owners := rfl
end

section
variable (s : State) (b : Nat) (x : BatchSt)
@[simp] theorem State.setBatch_pending : (s.setBatch b x).pending = s.pending := rfl
@[simp] theorem State.setBatch_free : (s.setBatch b x).free = s.free := rfl
@[simp] theorem State.setBatch_regs : (s.setBatch b x).regs = s.regs := rfl
@[simp] theorem State.setBatch_once : (s.setBatch b x).once = s.once := rfl
@[simp] theorem State.setBatch_dev : (s.setBatch b x).dev = s.dev := rfl
@[simp] theorem State.setBatch_cfg : (s.setBatch b x).cfg = s.cfg := rfl
@[simp] theorem State.setBatch_frzs : (s.setBatch b x).frzs = s.frzs := rfl
@[simp] theorem State.setBatch_sup : (s.setBatch b x).sup = s.sup := rfl
@[simp] theorem State.setBatch_gravs : (s.setBatch b x).gravs = s.gravs := rfl
@[simp] theorem State.setBatch_turns : (s.setBatch b x).turns = s.turns := rfl
@[simp] theorem State.setBatch_rings : (s.setBatch b x).rings = s.rings := rfl
@[simp] theorem State.setBatch_lastFetch : (s.setBatch b x).lastFetch = s.lastFetch := rfl
@[simp] theorem State.setBatch_zeroLast : (s.setBatch b x).zeroLast = s.zeroLast := rfl
@[simp] theorem State.setBatch_hports : (s.setBatch b x).hports = s.hports := rfl
@[simp] theorem State.setBatch_hmw : (s.setBatch b x).hmw = s.hmw := rfl
@[simp] theorem State.setBatch_hmwAt : (s.setBatch b x).hmwAt = s.hmwAt := rfl
@[simp] theorem State.setBatch_links : (s.setBatch b x).links = s.links := rfl
@[simp] theorem State.setBatch_sysReqs : (s.setBatch b x).sysReqs = s.sysReqs := rfl
@[simp] theorem State.setBatch_nextSys : (s.setBatch b x).nextSys = s.nextSys := rfl
@[simp] theorem State.setBatch_sysTo : (s.setBatch b x).sysTo = s.sysTo := rfl
@[simp] theorem State.setBatch_linkOut : (s.setBatch b x).linkOut = s.linkOut := rfl
@[simp] theorem State.setBatch_mgmt : (s.setBatch b x).mgmt = s.mgmt := rfl
@[simp] theorem State.setBatch_twin : (s.setBatch b x).twin = s.twin := rfl
@[simp] theorem State.setBatch_tim : (s.setBatch b x).tim = s.tim := rfl
@[simp] theorem State.setBatch_store : (s.setBatch b x).store = s.store := rfl
@[simp] theorem State.setBatch_written : (s.setBatch b x).written = s.written := rfl
@[simp] theorem State.setBatch_sharers : (s.setBatch b x).sharers = s.sharers := rfl
@[simp] theorem State.setBatch_tiles : (s.setBatch b x).tiles = s.tiles := rfl
@[simp] theorem State.setBatch_slots : (s.setBatch b x).slots = s.slots := rfl
@[simp] theorem State.setBatch_cells : (s.setBatch b x).cells = s.cells := rfl
@[simp] theorem State.setBatch_stages : (s.setBatch b x).stages = s.stages := rfl
@[simp] theorem State.setBatch_floors : (s.setBatch b x).floors = s.floors := rfl
@[simp] theorem State.setBatch_tasks : (s.setBatch b x).tasks = s.tasks := rfl
@[simp] theorem State.setBatch_batches : (s.setBatch b x).batches = tput .init s.batches b x := rfl
@[simp] theorem State.setBatch_cfs : (s.setBatch b x).cfs = s.cfs := rfl
@[simp] theorem State.setBatch_moved : (s.setBatch b x).moved = s.moved := rfl
@[simp] theorem State.setBatch_pool : (s.setBatch b x).pool = s.pool := rfl
@[simp] theorem State.setBatch_queues : (s.setBatch b x).queues = s.queues := rfl
@[simp] theorem State.setBatch_net : (s.setBatch b x).net = s.net := rfl
@[simp] theorem State.setBatch_noc : (s.setBatch b x).noc = s.noc := rfl
@[simp] theorem State.setBatch_trip : (s.setBatch b x).trip = s.trip := rfl
@[simp] theorem State.setBatch_lanes : (s.setBatch b x).lanes = s.lanes := rfl
@[simp] theorem State.setBatch_rports : (s.setBatch b x).rports = s.rports := rfl
@[simp] theorem State.setBatch_streams : (s.setBatch b x).streams = s.streams := rfl
@[simp] theorem State.setBatch_sds : (s.setBatch b x).sds = s.sds := rfl
@[simp] theorem State.setBatch_adcs : (s.setBatch b x).adcs = s.adcs := rfl
@[simp] theorem State.setBatch_encs : (s.setBatch b x).encs = s.encs := rfl
@[simp] theorem State.setBatch_gates : (s.setBatch b x).gates = s.gates := rfl
@[simp] theorem State.setBatch_cars : (s.setBatch b x).cars = s.cars := rfl
@[simp] theorem State.setBatch_vls : (s.setBatch b x).vls = s.vls := rfl
@[simp] theorem State.setBatch_notices : (s.setBatch b x).notices = s.notices := rfl
@[simp] theorem State.setBatch_logQ : (s.setBatch b x).logQ = s.logQ := rfl
@[simp] theorem State.setBatch_fetched : (s.setBatch b x).fetched = s.fetched := rfl
@[simp] theorem State.setBatch_cmds : (s.setBatch b x).cmds = s.cmds := rfl
@[simp] theorem State.setBatch_drains : (s.setBatch b x).drains = s.drains := rfl
@[simp] theorem State.setBatch_orphans : (s.setBatch b x).orphans = s.orphans := rfl
@[simp] theorem State.setBatch_replies : (s.setBatch b x).replies = s.replies := rfl
@[simp] theorem State.setBatch_irqs : (s.setBatch b x).irqs = s.irqs := rfl
@[simp] theorem State.setBatch_hostMem : (s.setBatch b x).hostMem = s.hostMem := rfl
@[simp] theorem State.setBatch_owners : (s.setBatch b x).owners = s.owners := rfl
end

section
variable (s : State) (f : Nat) (x : FrzSt)
@[simp] theorem State.setFrz_pending : (s.setFrz f x).pending = s.pending := rfl
@[simp] theorem State.setFrz_free : (s.setFrz f x).free = s.free := rfl
@[simp] theorem State.setFrz_regs : (s.setFrz f x).regs = s.regs := rfl
@[simp] theorem State.setFrz_once : (s.setFrz f x).once = s.once := rfl
@[simp] theorem State.setFrz_dev : (s.setFrz f x).dev = s.dev := rfl
@[simp] theorem State.setFrz_cfg : (s.setFrz f x).cfg = s.cfg := rfl
@[simp] theorem State.setFrz_frzs : (s.setFrz f x).frzs = tput .init s.frzs f x := rfl
@[simp] theorem State.setFrz_sup : (s.setFrz f x).sup = s.sup := rfl
@[simp] theorem State.setFrz_gravs : (s.setFrz f x).gravs = s.gravs := rfl
@[simp] theorem State.setFrz_turns : (s.setFrz f x).turns = s.turns := rfl
@[simp] theorem State.setFrz_rings : (s.setFrz f x).rings = s.rings := rfl
@[simp] theorem State.setFrz_lastFetch : (s.setFrz f x).lastFetch = s.lastFetch := rfl
@[simp] theorem State.setFrz_zeroLast : (s.setFrz f x).zeroLast = s.zeroLast := rfl
@[simp] theorem State.setFrz_hports : (s.setFrz f x).hports = s.hports := rfl
@[simp] theorem State.setFrz_hmw : (s.setFrz f x).hmw = s.hmw := rfl
@[simp] theorem State.setFrz_hmwAt : (s.setFrz f x).hmwAt = s.hmwAt := rfl
@[simp] theorem State.setFrz_links : (s.setFrz f x).links = s.links := rfl
@[simp] theorem State.setFrz_sysReqs : (s.setFrz f x).sysReqs = s.sysReqs := rfl
@[simp] theorem State.setFrz_nextSys : (s.setFrz f x).nextSys = s.nextSys := rfl
@[simp] theorem State.setFrz_sysTo : (s.setFrz f x).sysTo = s.sysTo := rfl
@[simp] theorem State.setFrz_linkOut : (s.setFrz f x).linkOut = s.linkOut := rfl
@[simp] theorem State.setFrz_mgmt : (s.setFrz f x).mgmt = s.mgmt := rfl
@[simp] theorem State.setFrz_twin : (s.setFrz f x).twin = s.twin := rfl
@[simp] theorem State.setFrz_tim : (s.setFrz f x).tim = s.tim := rfl
@[simp] theorem State.setFrz_store : (s.setFrz f x).store = s.store := rfl
@[simp] theorem State.setFrz_written : (s.setFrz f x).written = s.written := rfl
@[simp] theorem State.setFrz_sharers : (s.setFrz f x).sharers = s.sharers := rfl
@[simp] theorem State.setFrz_tiles : (s.setFrz f x).tiles = s.tiles := rfl
@[simp] theorem State.setFrz_slots : (s.setFrz f x).slots = s.slots := rfl
@[simp] theorem State.setFrz_cells : (s.setFrz f x).cells = s.cells := rfl
@[simp] theorem State.setFrz_stages : (s.setFrz f x).stages = s.stages := rfl
@[simp] theorem State.setFrz_floors : (s.setFrz f x).floors = s.floors := rfl
@[simp] theorem State.setFrz_tasks : (s.setFrz f x).tasks = s.tasks := rfl
@[simp] theorem State.setFrz_batches : (s.setFrz f x).batches = s.batches := rfl
@[simp] theorem State.setFrz_cfs : (s.setFrz f x).cfs = s.cfs := rfl
@[simp] theorem State.setFrz_moved : (s.setFrz f x).moved = s.moved := rfl
@[simp] theorem State.setFrz_pool : (s.setFrz f x).pool = s.pool := rfl
@[simp] theorem State.setFrz_queues : (s.setFrz f x).queues = s.queues := rfl
@[simp] theorem State.setFrz_net : (s.setFrz f x).net = s.net := rfl
@[simp] theorem State.setFrz_noc : (s.setFrz f x).noc = s.noc := rfl
@[simp] theorem State.setFrz_trip : (s.setFrz f x).trip = s.trip := rfl
@[simp] theorem State.setFrz_lanes : (s.setFrz f x).lanes = s.lanes := rfl
@[simp] theorem State.setFrz_rports : (s.setFrz f x).rports = s.rports := rfl
@[simp] theorem State.setFrz_streams : (s.setFrz f x).streams = s.streams := rfl
@[simp] theorem State.setFrz_sds : (s.setFrz f x).sds = s.sds := rfl
@[simp] theorem State.setFrz_adcs : (s.setFrz f x).adcs = s.adcs := rfl
@[simp] theorem State.setFrz_encs : (s.setFrz f x).encs = s.encs := rfl
@[simp] theorem State.setFrz_gates : (s.setFrz f x).gates = s.gates := rfl
@[simp] theorem State.setFrz_cars : (s.setFrz f x).cars = s.cars := rfl
@[simp] theorem State.setFrz_vls : (s.setFrz f x).vls = s.vls := rfl
@[simp] theorem State.setFrz_notices : (s.setFrz f x).notices = s.notices := rfl
@[simp] theorem State.setFrz_logQ : (s.setFrz f x).logQ = s.logQ := rfl
@[simp] theorem State.setFrz_fetched : (s.setFrz f x).fetched = s.fetched := rfl
@[simp] theorem State.setFrz_cmds : (s.setFrz f x).cmds = s.cmds := rfl
@[simp] theorem State.setFrz_drains : (s.setFrz f x).drains = s.drains := rfl
@[simp] theorem State.setFrz_orphans : (s.setFrz f x).orphans = s.orphans := rfl
@[simp] theorem State.setFrz_replies : (s.setFrz f x).replies = s.replies := rfl
@[simp] theorem State.setFrz_irqs : (s.setFrz f x).irqs = s.irqs := rfl
@[simp] theorem State.setFrz_hostMem : (s.setFrz f x).hostMem = s.hostMem := rfl
@[simp] theorem State.setFrz_owners : (s.setFrz f x).owners = s.owners := rfl
end

section
variable (s : State) (r : Reg) (i v : Nat)
@[simp] theorem State.setReg_pending : (s.setReg r i v).pending = s.pending := rfl
@[simp] theorem State.setReg_free : (s.setReg r i v).free = s.free := rfl
@[simp] theorem State.setReg_regs : (s.setReg r i v).regs = tput (BitVec.ofNat 64 (r.resetVal i)) s.regs (r.addr i) (BitVec.ofNat 64 v) := rfl
@[simp] theorem State.setReg_once : (s.setReg r i v).once = s.once := rfl
@[simp] theorem State.setReg_dev : (s.setReg r i v).dev = s.dev := rfl
@[simp] theorem State.setReg_cfg : (s.setReg r i v).cfg = s.cfg := rfl
@[simp] theorem State.setReg_frzs : (s.setReg r i v).frzs = s.frzs := rfl
@[simp] theorem State.setReg_sup : (s.setReg r i v).sup = s.sup := rfl
@[simp] theorem State.setReg_gravs : (s.setReg r i v).gravs = s.gravs := rfl
@[simp] theorem State.setReg_turns : (s.setReg r i v).turns = s.turns := rfl
@[simp] theorem State.setReg_rings : (s.setReg r i v).rings = s.rings := rfl
@[simp] theorem State.setReg_lastFetch : (s.setReg r i v).lastFetch = s.lastFetch := rfl
@[simp] theorem State.setReg_zeroLast : (s.setReg r i v).zeroLast = s.zeroLast := rfl
@[simp] theorem State.setReg_hports : (s.setReg r i v).hports = s.hports := rfl
@[simp] theorem State.setReg_hmw : (s.setReg r i v).hmw = s.hmw := rfl
@[simp] theorem State.setReg_hmwAt : (s.setReg r i v).hmwAt = s.hmwAt := rfl
@[simp] theorem State.setReg_links : (s.setReg r i v).links = s.links := rfl
@[simp] theorem State.setReg_sysReqs : (s.setReg r i v).sysReqs = s.sysReqs := rfl
@[simp] theorem State.setReg_nextSys : (s.setReg r i v).nextSys = s.nextSys := rfl
@[simp] theorem State.setReg_sysTo : (s.setReg r i v).sysTo = s.sysTo := rfl
@[simp] theorem State.setReg_linkOut : (s.setReg r i v).linkOut = s.linkOut := rfl
@[simp] theorem State.setReg_mgmt : (s.setReg r i v).mgmt = s.mgmt := rfl
@[simp] theorem State.setReg_twin : (s.setReg r i v).twin = s.twin := rfl
@[simp] theorem State.setReg_tim : (s.setReg r i v).tim = s.tim := rfl
@[simp] theorem State.setReg_store : (s.setReg r i v).store = s.store := rfl
@[simp] theorem State.setReg_written : (s.setReg r i v).written = s.written := rfl
@[simp] theorem State.setReg_sharers : (s.setReg r i v).sharers = s.sharers := rfl
@[simp] theorem State.setReg_tiles : (s.setReg r i v).tiles = s.tiles := rfl
@[simp] theorem State.setReg_slots : (s.setReg r i v).slots = s.slots := rfl
@[simp] theorem State.setReg_cells : (s.setReg r i v).cells = s.cells := rfl
@[simp] theorem State.setReg_stages : (s.setReg r i v).stages = s.stages := rfl
@[simp] theorem State.setReg_floors : (s.setReg r i v).floors = s.floors := rfl
@[simp] theorem State.setReg_tasks : (s.setReg r i v).tasks = s.tasks := rfl
@[simp] theorem State.setReg_batches : (s.setReg r i v).batches = s.batches := rfl
@[simp] theorem State.setReg_cfs : (s.setReg r i v).cfs = s.cfs := rfl
@[simp] theorem State.setReg_moved : (s.setReg r i v).moved = s.moved := rfl
@[simp] theorem State.setReg_pool : (s.setReg r i v).pool = s.pool := rfl
@[simp] theorem State.setReg_queues : (s.setReg r i v).queues = s.queues := rfl
@[simp] theorem State.setReg_net : (s.setReg r i v).net = s.net := rfl
@[simp] theorem State.setReg_noc : (s.setReg r i v).noc = s.noc := rfl
@[simp] theorem State.setReg_trip : (s.setReg r i v).trip = s.trip := rfl
@[simp] theorem State.setReg_lanes : (s.setReg r i v).lanes = s.lanes := rfl
@[simp] theorem State.setReg_rports : (s.setReg r i v).rports = s.rports := rfl
@[simp] theorem State.setReg_streams : (s.setReg r i v).streams = s.streams := rfl
@[simp] theorem State.setReg_sds : (s.setReg r i v).sds = s.sds := rfl
@[simp] theorem State.setReg_adcs : (s.setReg r i v).adcs = s.adcs := rfl
@[simp] theorem State.setReg_encs : (s.setReg r i v).encs = s.encs := rfl
@[simp] theorem State.setReg_gates : (s.setReg r i v).gates = s.gates := rfl
@[simp] theorem State.setReg_cars : (s.setReg r i v).cars = s.cars := rfl
@[simp] theorem State.setReg_vls : (s.setReg r i v).vls = s.vls := rfl
@[simp] theorem State.setReg_notices : (s.setReg r i v).notices = s.notices := rfl
@[simp] theorem State.setReg_logQ : (s.setReg r i v).logQ = s.logQ := rfl
@[simp] theorem State.setReg_fetched : (s.setReg r i v).fetched = s.fetched := rfl
@[simp] theorem State.setReg_cmds : (s.setReg r i v).cmds = s.cmds := rfl
@[simp] theorem State.setReg_drains : (s.setReg r i v).drains = s.drains := rfl
@[simp] theorem State.setReg_orphans : (s.setReg r i v).orphans = s.orphans := rfl
@[simp] theorem State.setReg_replies : (s.setReg r i v).replies = s.replies := rfl
@[simp] theorem State.setReg_irqs : (s.setReg r i v).irqs = s.irqs := rfl
@[simp] theorem State.setReg_hostMem : (s.setReg r i v).hostMem = s.hostMem := rfl
@[simp] theorem State.setReg_owners : (s.setReg r i v).owners = s.owners := rfl
end

section
variable (s : State) (l : Nat) (x : LaneSt)
@[simp] theorem State.setLane_pending : (s.setLane l x).pending = s.pending := rfl
@[simp] theorem State.setLane_free : (s.setLane l x).free = s.free := rfl
@[simp] theorem State.setLane_regs : (s.setLane l x).regs = s.regs := rfl
@[simp] theorem State.setLane_once : (s.setLane l x).once = s.once := rfl
@[simp] theorem State.setLane_dev : (s.setLane l x).dev = s.dev := rfl
@[simp] theorem State.setLane_cfg : (s.setLane l x).cfg = s.cfg := rfl
@[simp] theorem State.setLane_frzs : (s.setLane l x).frzs = s.frzs := rfl
@[simp] theorem State.setLane_sup : (s.setLane l x).sup = s.sup := rfl
@[simp] theorem State.setLane_gravs : (s.setLane l x).gravs = s.gravs := rfl
@[simp] theorem State.setLane_turns : (s.setLane l x).turns = s.turns := rfl
@[simp] theorem State.setLane_rings : (s.setLane l x).rings = s.rings := rfl
@[simp] theorem State.setLane_lastFetch : (s.setLane l x).lastFetch = s.lastFetch := rfl
@[simp] theorem State.setLane_zeroLast : (s.setLane l x).zeroLast = s.zeroLast := rfl
@[simp] theorem State.setLane_hports : (s.setLane l x).hports = s.hports := rfl
@[simp] theorem State.setLane_hmw : (s.setLane l x).hmw = s.hmw := rfl
@[simp] theorem State.setLane_hmwAt : (s.setLane l x).hmwAt = s.hmwAt := rfl
@[simp] theorem State.setLane_links : (s.setLane l x).links = s.links := rfl
@[simp] theorem State.setLane_sysReqs : (s.setLane l x).sysReqs = s.sysReqs := rfl
@[simp] theorem State.setLane_nextSys : (s.setLane l x).nextSys = s.nextSys := rfl
@[simp] theorem State.setLane_sysTo : (s.setLane l x).sysTo = s.sysTo := rfl
@[simp] theorem State.setLane_linkOut : (s.setLane l x).linkOut = s.linkOut := rfl
@[simp] theorem State.setLane_mgmt : (s.setLane l x).mgmt = s.mgmt := rfl
@[simp] theorem State.setLane_twin : (s.setLane l x).twin = s.twin := rfl
@[simp] theorem State.setLane_tim : (s.setLane l x).tim = s.tim := rfl
@[simp] theorem State.setLane_store : (s.setLane l x).store = s.store := rfl
@[simp] theorem State.setLane_written : (s.setLane l x).written = s.written := rfl
@[simp] theorem State.setLane_sharers : (s.setLane l x).sharers = s.sharers := rfl
@[simp] theorem State.setLane_tiles : (s.setLane l x).tiles = s.tiles := rfl
@[simp] theorem State.setLane_slots : (s.setLane l x).slots = s.slots := rfl
@[simp] theorem State.setLane_cells : (s.setLane l x).cells = s.cells := rfl
@[simp] theorem State.setLane_stages : (s.setLane l x).stages = s.stages := rfl
@[simp] theorem State.setLane_floors : (s.setLane l x).floors = s.floors := rfl
@[simp] theorem State.setLane_tasks : (s.setLane l x).tasks = s.tasks := rfl
@[simp] theorem State.setLane_batches : (s.setLane l x).batches = s.batches := rfl
@[simp] theorem State.setLane_cfs : (s.setLane l x).cfs = s.cfs := rfl
@[simp] theorem State.setLane_moved : (s.setLane l x).moved = s.moved := rfl
@[simp] theorem State.setLane_pool : (s.setLane l x).pool = s.pool := rfl
@[simp] theorem State.setLane_queues : (s.setLane l x).queues = s.queues := rfl
@[simp] theorem State.setLane_net : (s.setLane l x).net = s.net := rfl
@[simp] theorem State.setLane_noc : (s.setLane l x).noc = s.noc := rfl
@[simp] theorem State.setLane_trip : (s.setLane l x).trip = s.trip := rfl
@[simp] theorem State.setLane_lanes : (s.setLane l x).lanes = tput .init s.lanes l x := rfl
@[simp] theorem State.setLane_rports : (s.setLane l x).rports = s.rports := rfl
@[simp] theorem State.setLane_streams : (s.setLane l x).streams = s.streams := rfl
@[simp] theorem State.setLane_sds : (s.setLane l x).sds = s.sds := rfl
@[simp] theorem State.setLane_adcs : (s.setLane l x).adcs = s.adcs := rfl
@[simp] theorem State.setLane_encs : (s.setLane l x).encs = s.encs := rfl
@[simp] theorem State.setLane_gates : (s.setLane l x).gates = s.gates := rfl
@[simp] theorem State.setLane_cars : (s.setLane l x).cars = s.cars := rfl
@[simp] theorem State.setLane_vls : (s.setLane l x).vls = s.vls := rfl
@[simp] theorem State.setLane_notices : (s.setLane l x).notices = s.notices := rfl
@[simp] theorem State.setLane_logQ : (s.setLane l x).logQ = s.logQ := rfl
@[simp] theorem State.setLane_fetched : (s.setLane l x).fetched = s.fetched := rfl
@[simp] theorem State.setLane_cmds : (s.setLane l x).cmds = s.cmds := rfl
@[simp] theorem State.setLane_drains : (s.setLane l x).drains = s.drains := rfl
@[simp] theorem State.setLane_orphans : (s.setLane l x).orphans = s.orphans := rfl
@[simp] theorem State.setLane_replies : (s.setLane l x).replies = s.replies := rfl
@[simp] theorem State.setLane_irqs : (s.setLane l x).irqs = s.irqs := rfl
@[simp] theorem State.setLane_hostMem : (s.setLane l x).hostMem = s.hostMem := rfl
@[simp] theorem State.setLane_owners : (s.setLane l x).owners = s.owners := rfl
end

section
variable (s : State) (g : Nat) (x : GateSt)
@[simp] theorem State.setGate_pending : (s.setGate g x).pending = s.pending := rfl
@[simp] theorem State.setGate_free : (s.setGate g x).free = s.free := rfl
@[simp] theorem State.setGate_regs : (s.setGate g x).regs = s.regs := rfl
@[simp] theorem State.setGate_once : (s.setGate g x).once = s.once := rfl
@[simp] theorem State.setGate_dev : (s.setGate g x).dev = s.dev := rfl
@[simp] theorem State.setGate_cfg : (s.setGate g x).cfg = s.cfg := rfl
@[simp] theorem State.setGate_frzs : (s.setGate g x).frzs = s.frzs := rfl
@[simp] theorem State.setGate_sup : (s.setGate g x).sup = s.sup := rfl
@[simp] theorem State.setGate_gravs : (s.setGate g x).gravs = s.gravs := rfl
@[simp] theorem State.setGate_turns : (s.setGate g x).turns = s.turns := rfl
@[simp] theorem State.setGate_rings : (s.setGate g x).rings = s.rings := rfl
@[simp] theorem State.setGate_lastFetch : (s.setGate g x).lastFetch = s.lastFetch := rfl
@[simp] theorem State.setGate_zeroLast : (s.setGate g x).zeroLast = s.zeroLast := rfl
@[simp] theorem State.setGate_hports : (s.setGate g x).hports = s.hports := rfl
@[simp] theorem State.setGate_hmw : (s.setGate g x).hmw = s.hmw := rfl
@[simp] theorem State.setGate_hmwAt : (s.setGate g x).hmwAt = s.hmwAt := rfl
@[simp] theorem State.setGate_links : (s.setGate g x).links = s.links := rfl
@[simp] theorem State.setGate_sysReqs : (s.setGate g x).sysReqs = s.sysReqs := rfl
@[simp] theorem State.setGate_nextSys : (s.setGate g x).nextSys = s.nextSys := rfl
@[simp] theorem State.setGate_sysTo : (s.setGate g x).sysTo = s.sysTo := rfl
@[simp] theorem State.setGate_linkOut : (s.setGate g x).linkOut = s.linkOut := rfl
@[simp] theorem State.setGate_mgmt : (s.setGate g x).mgmt = s.mgmt := rfl
@[simp] theorem State.setGate_twin : (s.setGate g x).twin = s.twin := rfl
@[simp] theorem State.setGate_tim : (s.setGate g x).tim = s.tim := rfl
@[simp] theorem State.setGate_store : (s.setGate g x).store = s.store := rfl
@[simp] theorem State.setGate_written : (s.setGate g x).written = s.written := rfl
@[simp] theorem State.setGate_sharers : (s.setGate g x).sharers = s.sharers := rfl
@[simp] theorem State.setGate_tiles : (s.setGate g x).tiles = s.tiles := rfl
@[simp] theorem State.setGate_slots : (s.setGate g x).slots = s.slots := rfl
@[simp] theorem State.setGate_cells : (s.setGate g x).cells = s.cells := rfl
@[simp] theorem State.setGate_stages : (s.setGate g x).stages = s.stages := rfl
@[simp] theorem State.setGate_floors : (s.setGate g x).floors = s.floors := rfl
@[simp] theorem State.setGate_tasks : (s.setGate g x).tasks = s.tasks := rfl
@[simp] theorem State.setGate_batches : (s.setGate g x).batches = s.batches := rfl
@[simp] theorem State.setGate_cfs : (s.setGate g x).cfs = s.cfs := rfl
@[simp] theorem State.setGate_moved : (s.setGate g x).moved = s.moved := rfl
@[simp] theorem State.setGate_pool : (s.setGate g x).pool = s.pool := rfl
@[simp] theorem State.setGate_queues : (s.setGate g x).queues = s.queues := rfl
@[simp] theorem State.setGate_net : (s.setGate g x).net = s.net := rfl
@[simp] theorem State.setGate_noc : (s.setGate g x).noc = s.noc := rfl
@[simp] theorem State.setGate_trip : (s.setGate g x).trip = s.trip := rfl
@[simp] theorem State.setGate_lanes : (s.setGate g x).lanes = s.lanes := rfl
@[simp] theorem State.setGate_rports : (s.setGate g x).rports = s.rports := rfl
@[simp] theorem State.setGate_streams : (s.setGate g x).streams = s.streams := rfl
@[simp] theorem State.setGate_sds : (s.setGate g x).sds = s.sds := rfl
@[simp] theorem State.setGate_adcs : (s.setGate g x).adcs = s.adcs := rfl
@[simp] theorem State.setGate_encs : (s.setGate g x).encs = s.encs := rfl
@[simp] theorem State.setGate_gates : (s.setGate g x).gates = tput .init s.gates g x := rfl
@[simp] theorem State.setGate_cars : (s.setGate g x).cars = s.cars := rfl
@[simp] theorem State.setGate_vls : (s.setGate g x).vls = s.vls := rfl
@[simp] theorem State.setGate_notices : (s.setGate g x).notices = s.notices := rfl
@[simp] theorem State.setGate_logQ : (s.setGate g x).logQ = s.logQ := rfl
@[simp] theorem State.setGate_fetched : (s.setGate g x).fetched = s.fetched := rfl
@[simp] theorem State.setGate_cmds : (s.setGate g x).cmds = s.cmds := rfl
@[simp] theorem State.setGate_drains : (s.setGate g x).drains = s.drains := rfl
@[simp] theorem State.setGate_orphans : (s.setGate g x).orphans = s.orphans := rfl
@[simp] theorem State.setGate_replies : (s.setGate g x).replies = s.replies := rfl
@[simp] theorem State.setGate_irqs : (s.setGate g x).irqs = s.irqs := rfl
@[simp] theorem State.setGate_hostMem : (s.setGate g x).hostMem = s.hostMem := rfl
@[simp] theorem State.setGate_owners : (s.setGate g x).owners = s.owners := rfl
end

section
variable (s : State) (c : Nat) (x : CarSt)
@[simp] theorem State.setCar_pending : (s.setCar c x).pending = s.pending := rfl
@[simp] theorem State.setCar_free : (s.setCar c x).free = s.free := rfl
@[simp] theorem State.setCar_regs : (s.setCar c x).regs = s.regs := rfl
@[simp] theorem State.setCar_once : (s.setCar c x).once = s.once := rfl
@[simp] theorem State.setCar_dev : (s.setCar c x).dev = s.dev := rfl
@[simp] theorem State.setCar_cfg : (s.setCar c x).cfg = s.cfg := rfl
@[simp] theorem State.setCar_frzs : (s.setCar c x).frzs = s.frzs := rfl
@[simp] theorem State.setCar_sup : (s.setCar c x).sup = s.sup := rfl
@[simp] theorem State.setCar_gravs : (s.setCar c x).gravs = s.gravs := rfl
@[simp] theorem State.setCar_turns : (s.setCar c x).turns = s.turns := rfl
@[simp] theorem State.setCar_rings : (s.setCar c x).rings = s.rings := rfl
@[simp] theorem State.setCar_lastFetch : (s.setCar c x).lastFetch = s.lastFetch := rfl
@[simp] theorem State.setCar_zeroLast : (s.setCar c x).zeroLast = s.zeroLast := rfl
@[simp] theorem State.setCar_hports : (s.setCar c x).hports = s.hports := rfl
@[simp] theorem State.setCar_hmw : (s.setCar c x).hmw = s.hmw := rfl
@[simp] theorem State.setCar_hmwAt : (s.setCar c x).hmwAt = s.hmwAt := rfl
@[simp] theorem State.setCar_links : (s.setCar c x).links = s.links := rfl
@[simp] theorem State.setCar_sysReqs : (s.setCar c x).sysReqs = s.sysReqs := rfl
@[simp] theorem State.setCar_nextSys : (s.setCar c x).nextSys = s.nextSys := rfl
@[simp] theorem State.setCar_sysTo : (s.setCar c x).sysTo = s.sysTo := rfl
@[simp] theorem State.setCar_linkOut : (s.setCar c x).linkOut = s.linkOut := rfl
@[simp] theorem State.setCar_mgmt : (s.setCar c x).mgmt = s.mgmt := rfl
@[simp] theorem State.setCar_twin : (s.setCar c x).twin = s.twin := rfl
@[simp] theorem State.setCar_tim : (s.setCar c x).tim = s.tim := rfl
@[simp] theorem State.setCar_store : (s.setCar c x).store = s.store := rfl
@[simp] theorem State.setCar_written : (s.setCar c x).written = s.written := rfl
@[simp] theorem State.setCar_sharers : (s.setCar c x).sharers = s.sharers := rfl
@[simp] theorem State.setCar_tiles : (s.setCar c x).tiles = s.tiles := rfl
@[simp] theorem State.setCar_slots : (s.setCar c x).slots = s.slots := rfl
@[simp] theorem State.setCar_cells : (s.setCar c x).cells = s.cells := rfl
@[simp] theorem State.setCar_stages : (s.setCar c x).stages = s.stages := rfl
@[simp] theorem State.setCar_floors : (s.setCar c x).floors = s.floors := rfl
@[simp] theorem State.setCar_tasks : (s.setCar c x).tasks = s.tasks := rfl
@[simp] theorem State.setCar_batches : (s.setCar c x).batches = s.batches := rfl
@[simp] theorem State.setCar_cfs : (s.setCar c x).cfs = s.cfs := rfl
@[simp] theorem State.setCar_moved : (s.setCar c x).moved = s.moved := rfl
@[simp] theorem State.setCar_pool : (s.setCar c x).pool = s.pool := rfl
@[simp] theorem State.setCar_queues : (s.setCar c x).queues = s.queues := rfl
@[simp] theorem State.setCar_net : (s.setCar c x).net = s.net := rfl
@[simp] theorem State.setCar_noc : (s.setCar c x).noc = s.noc := rfl
@[simp] theorem State.setCar_trip : (s.setCar c x).trip = s.trip := rfl
@[simp] theorem State.setCar_lanes : (s.setCar c x).lanes = s.lanes := rfl
@[simp] theorem State.setCar_rports : (s.setCar c x).rports = s.rports := rfl
@[simp] theorem State.setCar_streams : (s.setCar c x).streams = s.streams := rfl
@[simp] theorem State.setCar_sds : (s.setCar c x).sds = s.sds := rfl
@[simp] theorem State.setCar_adcs : (s.setCar c x).adcs = s.adcs := rfl
@[simp] theorem State.setCar_encs : (s.setCar c x).encs = s.encs := rfl
@[simp] theorem State.setCar_gates : (s.setCar c x).gates = s.gates := rfl
@[simp] theorem State.setCar_cars : (s.setCar c x).cars = tput .init s.cars c x := rfl
@[simp] theorem State.setCar_vls : (s.setCar c x).vls = s.vls := rfl
@[simp] theorem State.setCar_notices : (s.setCar c x).notices = s.notices := rfl
@[simp] theorem State.setCar_logQ : (s.setCar c x).logQ = s.logQ := rfl
@[simp] theorem State.setCar_fetched : (s.setCar c x).fetched = s.fetched := rfl
@[simp] theorem State.setCar_cmds : (s.setCar c x).cmds = s.cmds := rfl
@[simp] theorem State.setCar_drains : (s.setCar c x).drains = s.drains := rfl
@[simp] theorem State.setCar_orphans : (s.setCar c x).orphans = s.orphans := rfl
@[simp] theorem State.setCar_replies : (s.setCar c x).replies = s.replies := rfl
@[simp] theorem State.setCar_irqs : (s.setCar c x).irqs = s.irqs := rfl
@[simp] theorem State.setCar_hostMem : (s.setCar c x).hostMem = s.hostMem := rfl
@[simp] theorem State.setCar_owners : (s.setCar c x).owners = s.owners := rfl
end

section
variable (s : State) (l : Nat) (x : VlSt)
@[simp] theorem State.setVl_pending : (s.setVl l x).pending = s.pending := rfl
@[simp] theorem State.setVl_free : (s.setVl l x).free = s.free := rfl
@[simp] theorem State.setVl_regs : (s.setVl l x).regs = s.regs := rfl
@[simp] theorem State.setVl_once : (s.setVl l x).once = s.once := rfl
@[simp] theorem State.setVl_dev : (s.setVl l x).dev = s.dev := rfl
@[simp] theorem State.setVl_cfg : (s.setVl l x).cfg = s.cfg := rfl
@[simp] theorem State.setVl_frzs : (s.setVl l x).frzs = s.frzs := rfl
@[simp] theorem State.setVl_sup : (s.setVl l x).sup = s.sup := rfl
@[simp] theorem State.setVl_gravs : (s.setVl l x).gravs = s.gravs := rfl
@[simp] theorem State.setVl_turns : (s.setVl l x).turns = s.turns := rfl
@[simp] theorem State.setVl_rings : (s.setVl l x).rings = s.rings := rfl
@[simp] theorem State.setVl_lastFetch : (s.setVl l x).lastFetch = s.lastFetch := rfl
@[simp] theorem State.setVl_zeroLast : (s.setVl l x).zeroLast = s.zeroLast := rfl
@[simp] theorem State.setVl_hports : (s.setVl l x).hports = s.hports := rfl
@[simp] theorem State.setVl_hmw : (s.setVl l x).hmw = s.hmw := rfl
@[simp] theorem State.setVl_hmwAt : (s.setVl l x).hmwAt = s.hmwAt := rfl
@[simp] theorem State.setVl_links : (s.setVl l x).links = s.links := rfl
@[simp] theorem State.setVl_sysReqs : (s.setVl l x).sysReqs = s.sysReqs := rfl
@[simp] theorem State.setVl_nextSys : (s.setVl l x).nextSys = s.nextSys := rfl
@[simp] theorem State.setVl_sysTo : (s.setVl l x).sysTo = s.sysTo := rfl
@[simp] theorem State.setVl_linkOut : (s.setVl l x).linkOut = s.linkOut := rfl
@[simp] theorem State.setVl_mgmt : (s.setVl l x).mgmt = s.mgmt := rfl
@[simp] theorem State.setVl_twin : (s.setVl l x).twin = s.twin := rfl
@[simp] theorem State.setVl_tim : (s.setVl l x).tim = s.tim := rfl
@[simp] theorem State.setVl_store : (s.setVl l x).store = s.store := rfl
@[simp] theorem State.setVl_written : (s.setVl l x).written = s.written := rfl
@[simp] theorem State.setVl_sharers : (s.setVl l x).sharers = s.sharers := rfl
@[simp] theorem State.setVl_tiles : (s.setVl l x).tiles = s.tiles := rfl
@[simp] theorem State.setVl_slots : (s.setVl l x).slots = s.slots := rfl
@[simp] theorem State.setVl_cells : (s.setVl l x).cells = s.cells := rfl
@[simp] theorem State.setVl_stages : (s.setVl l x).stages = s.stages := rfl
@[simp] theorem State.setVl_floors : (s.setVl l x).floors = s.floors := rfl
@[simp] theorem State.setVl_tasks : (s.setVl l x).tasks = s.tasks := rfl
@[simp] theorem State.setVl_batches : (s.setVl l x).batches = s.batches := rfl
@[simp] theorem State.setVl_cfs : (s.setVl l x).cfs = s.cfs := rfl
@[simp] theorem State.setVl_moved : (s.setVl l x).moved = s.moved := rfl
@[simp] theorem State.setVl_pool : (s.setVl l x).pool = s.pool := rfl
@[simp] theorem State.setVl_queues : (s.setVl l x).queues = s.queues := rfl
@[simp] theorem State.setVl_net : (s.setVl l x).net = s.net := rfl
@[simp] theorem State.setVl_noc : (s.setVl l x).noc = s.noc := rfl
@[simp] theorem State.setVl_trip : (s.setVl l x).trip = s.trip := rfl
@[simp] theorem State.setVl_lanes : (s.setVl l x).lanes = s.lanes := rfl
@[simp] theorem State.setVl_rports : (s.setVl l x).rports = s.rports := rfl
@[simp] theorem State.setVl_streams : (s.setVl l x).streams = s.streams := rfl
@[simp] theorem State.setVl_sds : (s.setVl l x).sds = s.sds := rfl
@[simp] theorem State.setVl_adcs : (s.setVl l x).adcs = s.adcs := rfl
@[simp] theorem State.setVl_encs : (s.setVl l x).encs = s.encs := rfl
@[simp] theorem State.setVl_gates : (s.setVl l x).gates = s.gates := rfl
@[simp] theorem State.setVl_cars : (s.setVl l x).cars = s.cars := rfl
@[simp] theorem State.setVl_vls : (s.setVl l x).vls = tput .init s.vls l x := rfl
@[simp] theorem State.setVl_notices : (s.setVl l x).notices = s.notices := rfl
@[simp] theorem State.setVl_logQ : (s.setVl l x).logQ = s.logQ := rfl
@[simp] theorem State.setVl_fetched : (s.setVl l x).fetched = s.fetched := rfl
@[simp] theorem State.setVl_cmds : (s.setVl l x).cmds = s.cmds := rfl
@[simp] theorem State.setVl_drains : (s.setVl l x).drains = s.drains := rfl
@[simp] theorem State.setVl_orphans : (s.setVl l x).orphans = s.orphans := rfl
@[simp] theorem State.setVl_replies : (s.setVl l x).replies = s.replies := rfl
@[simp] theorem State.setVl_irqs : (s.setVl l x).irqs = s.irqs := rfl
@[simp] theorem State.setVl_hostMem : (s.setVl l x).hostMem = s.hostMem := rfl
@[simp] theorem State.setVl_owners : (s.setVl l x).owners = s.owners := rfl
end

section
variable (s : State) (f : Nat) (x : GravSt)
@[simp] theorem State.setGrav_pending : (s.setGrav f x).pending = s.pending := rfl
@[simp] theorem State.setGrav_free : (s.setGrav f x).free = s.free := rfl
@[simp] theorem State.setGrav_regs : (s.setGrav f x).regs = s.regs := rfl
@[simp] theorem State.setGrav_once : (s.setGrav f x).once = s.once := rfl
@[simp] theorem State.setGrav_dev : (s.setGrav f x).dev = s.dev := rfl
@[simp] theorem State.setGrav_cfg : (s.setGrav f x).cfg = s.cfg := rfl
@[simp] theorem State.setGrav_frzs : (s.setGrav f x).frzs = s.frzs := rfl
@[simp] theorem State.setGrav_sup : (s.setGrav f x).sup = s.sup := rfl
@[simp] theorem State.setGrav_gravs : (s.setGrav f x).gravs = tput .init s.gravs f x := rfl
@[simp] theorem State.setGrav_turns : (s.setGrav f x).turns = s.turns := rfl
@[simp] theorem State.setGrav_rings : (s.setGrav f x).rings = s.rings := rfl
@[simp] theorem State.setGrav_lastFetch : (s.setGrav f x).lastFetch = s.lastFetch := rfl
@[simp] theorem State.setGrav_zeroLast : (s.setGrav f x).zeroLast = s.zeroLast := rfl
@[simp] theorem State.setGrav_hports : (s.setGrav f x).hports = s.hports := rfl
@[simp] theorem State.setGrav_hmw : (s.setGrav f x).hmw = s.hmw := rfl
@[simp] theorem State.setGrav_hmwAt : (s.setGrav f x).hmwAt = s.hmwAt := rfl
@[simp] theorem State.setGrav_links : (s.setGrav f x).links = s.links := rfl
@[simp] theorem State.setGrav_sysReqs : (s.setGrav f x).sysReqs = s.sysReqs := rfl
@[simp] theorem State.setGrav_nextSys : (s.setGrav f x).nextSys = s.nextSys := rfl
@[simp] theorem State.setGrav_sysTo : (s.setGrav f x).sysTo = s.sysTo := rfl
@[simp] theorem State.setGrav_linkOut : (s.setGrav f x).linkOut = s.linkOut := rfl
@[simp] theorem State.setGrav_mgmt : (s.setGrav f x).mgmt = s.mgmt := rfl
@[simp] theorem State.setGrav_twin : (s.setGrav f x).twin = s.twin := rfl
@[simp] theorem State.setGrav_tim : (s.setGrav f x).tim = s.tim := rfl
@[simp] theorem State.setGrav_store : (s.setGrav f x).store = s.store := rfl
@[simp] theorem State.setGrav_written : (s.setGrav f x).written = s.written := rfl
@[simp] theorem State.setGrav_sharers : (s.setGrav f x).sharers = s.sharers := rfl
@[simp] theorem State.setGrav_tiles : (s.setGrav f x).tiles = s.tiles := rfl
@[simp] theorem State.setGrav_slots : (s.setGrav f x).slots = s.slots := rfl
@[simp] theorem State.setGrav_cells : (s.setGrav f x).cells = s.cells := rfl
@[simp] theorem State.setGrav_stages : (s.setGrav f x).stages = s.stages := rfl
@[simp] theorem State.setGrav_floors : (s.setGrav f x).floors = s.floors := rfl
@[simp] theorem State.setGrav_tasks : (s.setGrav f x).tasks = s.tasks := rfl
@[simp] theorem State.setGrav_batches : (s.setGrav f x).batches = s.batches := rfl
@[simp] theorem State.setGrav_cfs : (s.setGrav f x).cfs = s.cfs := rfl
@[simp] theorem State.setGrav_moved : (s.setGrav f x).moved = s.moved := rfl
@[simp] theorem State.setGrav_pool : (s.setGrav f x).pool = s.pool := rfl
@[simp] theorem State.setGrav_queues : (s.setGrav f x).queues = s.queues := rfl
@[simp] theorem State.setGrav_net : (s.setGrav f x).net = s.net := rfl
@[simp] theorem State.setGrav_noc : (s.setGrav f x).noc = s.noc := rfl
@[simp] theorem State.setGrav_trip : (s.setGrav f x).trip = s.trip := rfl
@[simp] theorem State.setGrav_lanes : (s.setGrav f x).lanes = s.lanes := rfl
@[simp] theorem State.setGrav_rports : (s.setGrav f x).rports = s.rports := rfl
@[simp] theorem State.setGrav_streams : (s.setGrav f x).streams = s.streams := rfl
@[simp] theorem State.setGrav_sds : (s.setGrav f x).sds = s.sds := rfl
@[simp] theorem State.setGrav_adcs : (s.setGrav f x).adcs = s.adcs := rfl
@[simp] theorem State.setGrav_encs : (s.setGrav f x).encs = s.encs := rfl
@[simp] theorem State.setGrav_gates : (s.setGrav f x).gates = s.gates := rfl
@[simp] theorem State.setGrav_cars : (s.setGrav f x).cars = s.cars := rfl
@[simp] theorem State.setGrav_vls : (s.setGrav f x).vls = s.vls := rfl
@[simp] theorem State.setGrav_notices : (s.setGrav f x).notices = s.notices := rfl
@[simp] theorem State.setGrav_logQ : (s.setGrav f x).logQ = s.logQ := rfl
@[simp] theorem State.setGrav_fetched : (s.setGrav f x).fetched = s.fetched := rfl
@[simp] theorem State.setGrav_cmds : (s.setGrav f x).cmds = s.cmds := rfl
@[simp] theorem State.setGrav_drains : (s.setGrav f x).drains = s.drains := rfl
@[simp] theorem State.setGrav_orphans : (s.setGrav f x).orphans = s.orphans := rfl
@[simp] theorem State.setGrav_replies : (s.setGrav f x).replies = s.replies := rfl
@[simp] theorem State.setGrav_irqs : (s.setGrav f x).irqs = s.irqs := rfl
@[simp] theorem State.setGrav_hostMem : (s.setGrav f x).hostMem = s.hostMem := rfl
@[simp] theorem State.setGrav_owners : (s.setGrav f x).owners = s.owners := rfl
end

section
variable (s : State) (f i : Nat) (w : QWord)
@[simp] theorem State.setPool_pending : (s.setPool f i w).pending = s.pending := rfl
@[simp] theorem State.setPool_free : (s.setPool f i w).free = s.free := rfl
@[simp] theorem State.setPool_regs : (s.setPool f i w).regs = s.regs := rfl
@[simp] theorem State.setPool_once : (s.setPool f i w).once = s.once := rfl
@[simp] theorem State.setPool_dev : (s.setPool f i w).dev = s.dev := rfl
@[simp] theorem State.setPool_cfg : (s.setPool f i w).cfg = s.cfg := rfl
@[simp] theorem State.setPool_frzs : (s.setPool f i w).frzs = s.frzs := rfl
@[simp] theorem State.setPool_sup : (s.setPool f i w).sup = s.sup := rfl
@[simp] theorem State.setPool_gravs : (s.setPool f i w).gravs = s.gravs := rfl
@[simp] theorem State.setPool_turns : (s.setPool f i w).turns = s.turns := rfl
@[simp] theorem State.setPool_rings : (s.setPool f i w).rings = s.rings := rfl
@[simp] theorem State.setPool_lastFetch : (s.setPool f i w).lastFetch = s.lastFetch := rfl
@[simp] theorem State.setPool_zeroLast : (s.setPool f i w).zeroLast = s.zeroLast := rfl
@[simp] theorem State.setPool_hports : (s.setPool f i w).hports = s.hports := rfl
@[simp] theorem State.setPool_hmw : (s.setPool f i w).hmw = s.hmw := rfl
@[simp] theorem State.setPool_hmwAt : (s.setPool f i w).hmwAt = s.hmwAt := rfl
@[simp] theorem State.setPool_links : (s.setPool f i w).links = s.links := rfl
@[simp] theorem State.setPool_sysReqs : (s.setPool f i w).sysReqs = s.sysReqs := rfl
@[simp] theorem State.setPool_nextSys : (s.setPool f i w).nextSys = s.nextSys := rfl
@[simp] theorem State.setPool_sysTo : (s.setPool f i w).sysTo = s.sysTo := rfl
@[simp] theorem State.setPool_linkOut : (s.setPool f i w).linkOut = s.linkOut := rfl
@[simp] theorem State.setPool_mgmt : (s.setPool f i w).mgmt = s.mgmt := rfl
@[simp] theorem State.setPool_twin : (s.setPool f i w).twin = s.twin := rfl
@[simp] theorem State.setPool_tim : (s.setPool f i w).tim = s.tim := rfl
@[simp] theorem State.setPool_store : (s.setPool f i w).store = s.store := rfl
@[simp] theorem State.setPool_written : (s.setPool f i w).written = s.written := rfl
@[simp] theorem State.setPool_sharers : (s.setPool f i w).sharers = s.sharers := rfl
@[simp] theorem State.setPool_tiles : (s.setPool f i w).tiles = s.tiles := rfl
@[simp] theorem State.setPool_slots : (s.setPool f i w).slots = s.slots := rfl
@[simp] theorem State.setPool_cells : (s.setPool f i w).cells = s.cells := rfl
@[simp] theorem State.setPool_stages : (s.setPool f i w).stages = s.stages := rfl
@[simp] theorem State.setPool_floors : (s.setPool f i w).floors = s.floors := rfl
@[simp] theorem State.setPool_tasks : (s.setPool f i w).tasks = s.tasks := rfl
@[simp] theorem State.setPool_batches : (s.setPool f i w).batches = s.batches := rfl
@[simp] theorem State.setPool_cfs : (s.setPool f i w).cfs = s.cfs := rfl
@[simp] theorem State.setPool_moved : (s.setPool f i w).moved = s.moved := rfl
@[simp] theorem State.setPool_pool : (s.setPool f i w).pool = tput 0#36 s.pool (poolKey f i) (encodeWord w) := rfl
@[simp] theorem State.setPool_queues : (s.setPool f i w).queues = s.queues := rfl
@[simp] theorem State.setPool_net : (s.setPool f i w).net = s.net := rfl
@[simp] theorem State.setPool_noc : (s.setPool f i w).noc = s.noc := rfl
@[simp] theorem State.setPool_trip : (s.setPool f i w).trip = s.trip := rfl
@[simp] theorem State.setPool_lanes : (s.setPool f i w).lanes = s.lanes := rfl
@[simp] theorem State.setPool_rports : (s.setPool f i w).rports = s.rports := rfl
@[simp] theorem State.setPool_streams : (s.setPool f i w).streams = s.streams := rfl
@[simp] theorem State.setPool_sds : (s.setPool f i w).sds = s.sds := rfl
@[simp] theorem State.setPool_adcs : (s.setPool f i w).adcs = s.adcs := rfl
@[simp] theorem State.setPool_encs : (s.setPool f i w).encs = s.encs := rfl
@[simp] theorem State.setPool_gates : (s.setPool f i w).gates = s.gates := rfl
@[simp] theorem State.setPool_cars : (s.setPool f i w).cars = s.cars := rfl
@[simp] theorem State.setPool_vls : (s.setPool f i w).vls = s.vls := rfl
@[simp] theorem State.setPool_notices : (s.setPool f i w).notices = s.notices := rfl
@[simp] theorem State.setPool_logQ : (s.setPool f i w).logQ = s.logQ := rfl
@[simp] theorem State.setPool_fetched : (s.setPool f i w).fetched = s.fetched := rfl
@[simp] theorem State.setPool_cmds : (s.setPool f i w).cmds = s.cmds := rfl
@[simp] theorem State.setPool_drains : (s.setPool f i w).drains = s.drains := rfl
@[simp] theorem State.setPool_orphans : (s.setPool f i w).orphans = s.orphans := rfl
@[simp] theorem State.setPool_replies : (s.setPool f i w).replies = s.replies := rfl
@[simp] theorem State.setPool_irqs : (s.setPool f i w).irqs = s.irqs := rfl
@[simp] theorem State.setPool_hostMem : (s.setPool f i w).hostMem = s.hostMem := rfl
@[simp] theorem State.setPool_owners : (s.setPool f i w).owners = s.owners := rfl
end

section
variable (s : State) (p : Nat) (x : RPort)
@[simp] theorem State.setRport_pending : (s.setRport p x).pending = s.pending := rfl
@[simp] theorem State.setRport_free : (s.setRport p x).free = s.free := rfl
@[simp] theorem State.setRport_regs : (s.setRport p x).regs = s.regs := rfl
@[simp] theorem State.setRport_once : (s.setRport p x).once = s.once := rfl
@[simp] theorem State.setRport_dev : (s.setRport p x).dev = s.dev := rfl
@[simp] theorem State.setRport_cfg : (s.setRport p x).cfg = s.cfg := rfl
@[simp] theorem State.setRport_frzs : (s.setRport p x).frzs = s.frzs := rfl
@[simp] theorem State.setRport_sup : (s.setRport p x).sup = s.sup := rfl
@[simp] theorem State.setRport_gravs : (s.setRport p x).gravs = s.gravs := rfl
@[simp] theorem State.setRport_turns : (s.setRport p x).turns = s.turns := rfl
@[simp] theorem State.setRport_rings : (s.setRport p x).rings = s.rings := rfl
@[simp] theorem State.setRport_lastFetch : (s.setRport p x).lastFetch = s.lastFetch := rfl
@[simp] theorem State.setRport_zeroLast : (s.setRport p x).zeroLast = s.zeroLast := rfl
@[simp] theorem State.setRport_hports : (s.setRport p x).hports = s.hports := rfl
@[simp] theorem State.setRport_hmw : (s.setRport p x).hmw = s.hmw := rfl
@[simp] theorem State.setRport_hmwAt : (s.setRport p x).hmwAt = s.hmwAt := rfl
@[simp] theorem State.setRport_links : (s.setRport p x).links = s.links := rfl
@[simp] theorem State.setRport_sysReqs : (s.setRport p x).sysReqs = s.sysReqs := rfl
@[simp] theorem State.setRport_nextSys : (s.setRport p x).nextSys = s.nextSys := rfl
@[simp] theorem State.setRport_sysTo : (s.setRport p x).sysTo = s.sysTo := rfl
@[simp] theorem State.setRport_linkOut : (s.setRport p x).linkOut = s.linkOut := rfl
@[simp] theorem State.setRport_mgmt : (s.setRport p x).mgmt = s.mgmt := rfl
@[simp] theorem State.setRport_twin : (s.setRport p x).twin = s.twin := rfl
@[simp] theorem State.setRport_tim : (s.setRport p x).tim = s.tim := rfl
@[simp] theorem State.setRport_store : (s.setRport p x).store = s.store := rfl
@[simp] theorem State.setRport_written : (s.setRport p x).written = s.written := rfl
@[simp] theorem State.setRport_sharers : (s.setRport p x).sharers = s.sharers := rfl
@[simp] theorem State.setRport_tiles : (s.setRport p x).tiles = s.tiles := rfl
@[simp] theorem State.setRport_slots : (s.setRport p x).slots = s.slots := rfl
@[simp] theorem State.setRport_cells : (s.setRport p x).cells = s.cells := rfl
@[simp] theorem State.setRport_stages : (s.setRport p x).stages = s.stages := rfl
@[simp] theorem State.setRport_floors : (s.setRport p x).floors = s.floors := rfl
@[simp] theorem State.setRport_tasks : (s.setRport p x).tasks = s.tasks := rfl
@[simp] theorem State.setRport_batches : (s.setRport p x).batches = s.batches := rfl
@[simp] theorem State.setRport_cfs : (s.setRport p x).cfs = s.cfs := rfl
@[simp] theorem State.setRport_moved : (s.setRport p x).moved = s.moved := rfl
@[simp] theorem State.setRport_pool : (s.setRport p x).pool = s.pool := rfl
@[simp] theorem State.setRport_queues : (s.setRport p x).queues = s.queues := rfl
@[simp] theorem State.setRport_net : (s.setRport p x).net = s.net := rfl
@[simp] theorem State.setRport_noc : (s.setRport p x).noc = s.noc := rfl
@[simp] theorem State.setRport_trip : (s.setRport p x).trip = s.trip := rfl
@[simp] theorem State.setRport_lanes : (s.setRport p x).lanes = s.lanes := rfl
@[simp] theorem State.setRport_rports : (s.setRport p x).rports = tput .init s.rports p x := rfl
@[simp] theorem State.setRport_streams : (s.setRport p x).streams = s.streams := rfl
@[simp] theorem State.setRport_sds : (s.setRport p x).sds = s.sds := rfl
@[simp] theorem State.setRport_adcs : (s.setRport p x).adcs = s.adcs := rfl
@[simp] theorem State.setRport_encs : (s.setRport p x).encs = s.encs := rfl
@[simp] theorem State.setRport_gates : (s.setRport p x).gates = s.gates := rfl
@[simp] theorem State.setRport_cars : (s.setRport p x).cars = s.cars := rfl
@[simp] theorem State.setRport_vls : (s.setRport p x).vls = s.vls := rfl
@[simp] theorem State.setRport_notices : (s.setRport p x).notices = s.notices := rfl
@[simp] theorem State.setRport_logQ : (s.setRport p x).logQ = s.logQ := rfl
@[simp] theorem State.setRport_fetched : (s.setRport p x).fetched = s.fetched := rfl
@[simp] theorem State.setRport_cmds : (s.setRport p x).cmds = s.cmds := rfl
@[simp] theorem State.setRport_drains : (s.setRport p x).drains = s.drains := rfl
@[simp] theorem State.setRport_orphans : (s.setRport p x).orphans = s.orphans := rfl
@[simp] theorem State.setRport_replies : (s.setRport p x).replies = s.replies := rfl
@[simp] theorem State.setRport_irqs : (s.setRport p x).irqs = s.irqs := rfl
@[simp] theorem State.setRport_hostMem : (s.setRport p x).hostMem = s.hostMem := rfl
@[simp] theorem State.setRport_owners : (s.setRport p x).owners = s.owners := rfl
end

section
variable (s : State) (k : Nat) (x : TaskSt)
@[simp] theorem State.setTask_pending : (s.setTask k x).pending = s.pending := rfl
@[simp] theorem State.setTask_free : (s.setTask k x).free = s.free := rfl
@[simp] theorem State.setTask_regs : (s.setTask k x).regs = s.regs := rfl
@[simp] theorem State.setTask_once : (s.setTask k x).once = s.once := rfl
@[simp] theorem State.setTask_dev : (s.setTask k x).dev = s.dev := rfl
@[simp] theorem State.setTask_cfg : (s.setTask k x).cfg = s.cfg := rfl
@[simp] theorem State.setTask_frzs : (s.setTask k x).frzs = s.frzs := rfl
@[simp] theorem State.setTask_sup : (s.setTask k x).sup = s.sup := rfl
@[simp] theorem State.setTask_gravs : (s.setTask k x).gravs = s.gravs := rfl
@[simp] theorem State.setTask_turns : (s.setTask k x).turns = s.turns := rfl
@[simp] theorem State.setTask_rings : (s.setTask k x).rings = s.rings := rfl
@[simp] theorem State.setTask_lastFetch : (s.setTask k x).lastFetch = s.lastFetch := rfl
@[simp] theorem State.setTask_zeroLast : (s.setTask k x).zeroLast = s.zeroLast := rfl
@[simp] theorem State.setTask_hports : (s.setTask k x).hports = s.hports := rfl
@[simp] theorem State.setTask_hmw : (s.setTask k x).hmw = s.hmw := rfl
@[simp] theorem State.setTask_hmwAt : (s.setTask k x).hmwAt = s.hmwAt := rfl
@[simp] theorem State.setTask_links : (s.setTask k x).links = s.links := rfl
@[simp] theorem State.setTask_sysReqs : (s.setTask k x).sysReqs = s.sysReqs := rfl
@[simp] theorem State.setTask_nextSys : (s.setTask k x).nextSys = s.nextSys := rfl
@[simp] theorem State.setTask_sysTo : (s.setTask k x).sysTo = s.sysTo := rfl
@[simp] theorem State.setTask_linkOut : (s.setTask k x).linkOut = s.linkOut := rfl
@[simp] theorem State.setTask_mgmt : (s.setTask k x).mgmt = s.mgmt := rfl
@[simp] theorem State.setTask_twin : (s.setTask k x).twin = s.twin := rfl
@[simp] theorem State.setTask_tim : (s.setTask k x).tim = s.tim := rfl
@[simp] theorem State.setTask_store : (s.setTask k x).store = s.store := rfl
@[simp] theorem State.setTask_written : (s.setTask k x).written = s.written := rfl
@[simp] theorem State.setTask_sharers : (s.setTask k x).sharers = s.sharers := rfl
@[simp] theorem State.setTask_tiles : (s.setTask k x).tiles = s.tiles := rfl
@[simp] theorem State.setTask_slots : (s.setTask k x).slots = s.slots := rfl
@[simp] theorem State.setTask_cells : (s.setTask k x).cells = s.cells := rfl
@[simp] theorem State.setTask_stages : (s.setTask k x).stages = s.stages := rfl
@[simp] theorem State.setTask_floors : (s.setTask k x).floors = s.floors := rfl
@[simp] theorem State.setTask_tasks : (s.setTask k x).tasks = tput .init s.tasks k x := rfl
@[simp] theorem State.setTask_batches : (s.setTask k x).batches = s.batches := rfl
@[simp] theorem State.setTask_cfs : (s.setTask k x).cfs = s.cfs := rfl
@[simp] theorem State.setTask_moved : (s.setTask k x).moved = s.moved := rfl
@[simp] theorem State.setTask_pool : (s.setTask k x).pool = s.pool := rfl
@[simp] theorem State.setTask_queues : (s.setTask k x).queues = s.queues := rfl
@[simp] theorem State.setTask_net : (s.setTask k x).net = s.net := rfl
@[simp] theorem State.setTask_noc : (s.setTask k x).noc = s.noc := rfl
@[simp] theorem State.setTask_trip : (s.setTask k x).trip = s.trip := rfl
@[simp] theorem State.setTask_lanes : (s.setTask k x).lanes = s.lanes := rfl
@[simp] theorem State.setTask_rports : (s.setTask k x).rports = s.rports := rfl
@[simp] theorem State.setTask_streams : (s.setTask k x).streams = s.streams := rfl
@[simp] theorem State.setTask_sds : (s.setTask k x).sds = s.sds := rfl
@[simp] theorem State.setTask_adcs : (s.setTask k x).adcs = s.adcs := rfl
@[simp] theorem State.setTask_encs : (s.setTask k x).encs = s.encs := rfl
@[simp] theorem State.setTask_gates : (s.setTask k x).gates = s.gates := rfl
@[simp] theorem State.setTask_cars : (s.setTask k x).cars = s.cars := rfl
@[simp] theorem State.setTask_vls : (s.setTask k x).vls = s.vls := rfl
@[simp] theorem State.setTask_notices : (s.setTask k x).notices = s.notices := rfl
@[simp] theorem State.setTask_logQ : (s.setTask k x).logQ = s.logQ := rfl
@[simp] theorem State.setTask_fetched : (s.setTask k x).fetched = s.fetched := rfl
@[simp] theorem State.setTask_cmds : (s.setTask k x).cmds = s.cmds := rfl
@[simp] theorem State.setTask_drains : (s.setTask k x).drains = s.drains := rfl
@[simp] theorem State.setTask_orphans : (s.setTask k x).orphans = s.orphans := rfl
@[simp] theorem State.setTask_replies : (s.setTask k x).replies = s.replies := rfl
@[simp] theorem State.setTask_irqs : (s.setTask k x).irqs = s.irqs := rfl
@[simp] theorem State.setTask_hostMem : (s.setTask k x).hostMem = s.hostMem := rfl
@[simp] theorem State.setTask_owners : (s.setTask k x).owners = s.owners := rfl
end

section
variable (s : State) (m : Nat) (x : LinkSt)
@[simp] theorem State.setLink_pending : (s.setLink m x).pending = s.pending := rfl
@[simp] theorem State.setLink_free : (s.setLink m x).free = s.free := rfl
@[simp] theorem State.setLink_regs : (s.setLink m x).regs = s.regs := rfl
@[simp] theorem State.setLink_once : (s.setLink m x).once = s.once := rfl
@[simp] theorem State.setLink_dev : (s.setLink m x).dev = s.dev := rfl
@[simp] theorem State.setLink_cfg : (s.setLink m x).cfg = s.cfg := rfl
@[simp] theorem State.setLink_frzs : (s.setLink m x).frzs = s.frzs := rfl
@[simp] theorem State.setLink_sup : (s.setLink m x).sup = s.sup := rfl
@[simp] theorem State.setLink_gravs : (s.setLink m x).gravs = s.gravs := rfl
@[simp] theorem State.setLink_turns : (s.setLink m x).turns = s.turns := rfl
@[simp] theorem State.setLink_rings : (s.setLink m x).rings = s.rings := rfl
@[simp] theorem State.setLink_lastFetch : (s.setLink m x).lastFetch = s.lastFetch := rfl
@[simp] theorem State.setLink_zeroLast : (s.setLink m x).zeroLast = s.zeroLast := rfl
@[simp] theorem State.setLink_hports : (s.setLink m x).hports = s.hports := rfl
@[simp] theorem State.setLink_hmw : (s.setLink m x).hmw = s.hmw := rfl
@[simp] theorem State.setLink_hmwAt : (s.setLink m x).hmwAt = s.hmwAt := rfl
@[simp] theorem State.setLink_links : (s.setLink m x).links = tput .init s.links m x := rfl
@[simp] theorem State.setLink_sysReqs : (s.setLink m x).sysReqs = s.sysReqs := rfl
@[simp] theorem State.setLink_nextSys : (s.setLink m x).nextSys = s.nextSys := rfl
@[simp] theorem State.setLink_sysTo : (s.setLink m x).sysTo = s.sysTo := rfl
@[simp] theorem State.setLink_linkOut : (s.setLink m x).linkOut = s.linkOut := rfl
@[simp] theorem State.setLink_mgmt : (s.setLink m x).mgmt = s.mgmt := rfl
@[simp] theorem State.setLink_twin : (s.setLink m x).twin = s.twin := rfl
@[simp] theorem State.setLink_tim : (s.setLink m x).tim = s.tim := rfl
@[simp] theorem State.setLink_store : (s.setLink m x).store = s.store := rfl
@[simp] theorem State.setLink_written : (s.setLink m x).written = s.written := rfl
@[simp] theorem State.setLink_sharers : (s.setLink m x).sharers = s.sharers := rfl
@[simp] theorem State.setLink_tiles : (s.setLink m x).tiles = s.tiles := rfl
@[simp] theorem State.setLink_slots : (s.setLink m x).slots = s.slots := rfl
@[simp] theorem State.setLink_cells : (s.setLink m x).cells = s.cells := rfl
@[simp] theorem State.setLink_stages : (s.setLink m x).stages = s.stages := rfl
@[simp] theorem State.setLink_floors : (s.setLink m x).floors = s.floors := rfl
@[simp] theorem State.setLink_tasks : (s.setLink m x).tasks = s.tasks := rfl
@[simp] theorem State.setLink_batches : (s.setLink m x).batches = s.batches := rfl
@[simp] theorem State.setLink_cfs : (s.setLink m x).cfs = s.cfs := rfl
@[simp] theorem State.setLink_moved : (s.setLink m x).moved = s.moved := rfl
@[simp] theorem State.setLink_pool : (s.setLink m x).pool = s.pool := rfl
@[simp] theorem State.setLink_queues : (s.setLink m x).queues = s.queues := rfl
@[simp] theorem State.setLink_net : (s.setLink m x).net = s.net := rfl
@[simp] theorem State.setLink_noc : (s.setLink m x).noc = s.noc := rfl
@[simp] theorem State.setLink_trip : (s.setLink m x).trip = s.trip := rfl
@[simp] theorem State.setLink_lanes : (s.setLink m x).lanes = s.lanes := rfl
@[simp] theorem State.setLink_rports : (s.setLink m x).rports = s.rports := rfl
@[simp] theorem State.setLink_streams : (s.setLink m x).streams = s.streams := rfl
@[simp] theorem State.setLink_sds : (s.setLink m x).sds = s.sds := rfl
@[simp] theorem State.setLink_adcs : (s.setLink m x).adcs = s.adcs := rfl
@[simp] theorem State.setLink_encs : (s.setLink m x).encs = s.encs := rfl
@[simp] theorem State.setLink_gates : (s.setLink m x).gates = s.gates := rfl
@[simp] theorem State.setLink_cars : (s.setLink m x).cars = s.cars := rfl
@[simp] theorem State.setLink_vls : (s.setLink m x).vls = s.vls := rfl
@[simp] theorem State.setLink_notices : (s.setLink m x).notices = s.notices := rfl
@[simp] theorem State.setLink_logQ : (s.setLink m x).logQ = s.logQ := rfl
@[simp] theorem State.setLink_fetched : (s.setLink m x).fetched = s.fetched := rfl
@[simp] theorem State.setLink_cmds : (s.setLink m x).cmds = s.cmds := rfl
@[simp] theorem State.setLink_drains : (s.setLink m x).drains = s.drains := rfl
@[simp] theorem State.setLink_orphans : (s.setLink m x).orphans = s.orphans := rfl
@[simp] theorem State.setLink_replies : (s.setLink m x).replies = s.replies := rfl
@[simp] theorem State.setLink_irqs : (s.setLink m x).irqs = s.irqs := rfl
@[simp] theorem State.setLink_hostMem : (s.setLink m x).hostMem = s.hostMem := rfl
@[simp] theorem State.setLink_owners : (s.setLink m x).owners = s.owners := rfl
end

section
variable (s : State) (w : Wire) (k : Nat) (h : Option Held)
@[simp] theorem State.setHeld_pending : (s.setHeld w k h).pending = s.pending := rfl
@[simp] theorem State.setHeld_free : (s.setHeld w k h).free = s.free := rfl
@[simp] theorem State.setHeld_regs : (s.setHeld w k h).regs = s.regs := rfl
@[simp] theorem State.setHeld_once : (s.setHeld w k h).once = s.once := rfl
@[simp] theorem State.setHeld_dev : (s.setHeld w k h).dev = s.dev := rfl
@[simp] theorem State.setHeld_cfg : (s.setHeld w k h).cfg = s.cfg := rfl
@[simp] theorem State.setHeld_frzs : (s.setHeld w k h).frzs = s.frzs := rfl
@[simp] theorem State.setHeld_sup : (s.setHeld w k h).sup = s.sup := rfl
@[simp] theorem State.setHeld_gravs : (s.setHeld w k h).gravs = s.gravs := rfl
@[simp] theorem State.setHeld_turns : (s.setHeld w k h).turns = s.turns := rfl
@[simp] theorem State.setHeld_rings : (s.setHeld w k h).rings = s.rings := rfl
@[simp] theorem State.setHeld_lastFetch : (s.setHeld w k h).lastFetch = s.lastFetch := rfl
@[simp] theorem State.setHeld_zeroLast : (s.setHeld w k h).zeroLast = s.zeroLast := rfl
@[simp] theorem State.setHeld_hports : (s.setHeld w k h).hports = s.hports := rfl
@[simp] theorem State.setHeld_hmw : (s.setHeld w k h).hmw = s.hmw := rfl
@[simp] theorem State.setHeld_hmwAt : (s.setHeld w k h).hmwAt = s.hmwAt := rfl
@[simp] theorem State.setHeld_links : (s.setHeld w k h).links = s.links := rfl
@[simp] theorem State.setHeld_sysReqs : (s.setHeld w k h).sysReqs = s.sysReqs := rfl
@[simp] theorem State.setHeld_nextSys : (s.setHeld w k h).nextSys = s.nextSys := rfl
@[simp] theorem State.setHeld_sysTo : (s.setHeld w k h).sysTo = s.sysTo := rfl
@[simp] theorem State.setHeld_linkOut : (s.setHeld w k h).linkOut = s.linkOut := rfl
@[simp] theorem State.setHeld_mgmt : (s.setHeld w k h).mgmt = s.mgmt := rfl
@[simp] theorem State.setHeld_twin : (s.setHeld w k h).twin = s.twin := rfl
@[simp] theorem State.setHeld_tim : (s.setHeld w k h).tim = s.tim := rfl
@[simp] theorem State.setHeld_store : (s.setHeld w k h).store = s.store := rfl
@[simp] theorem State.setHeld_written : (s.setHeld w k h).written = s.written := rfl
@[simp] theorem State.setHeld_sharers : (s.setHeld w k h).sharers = s.sharers := rfl
@[simp] theorem State.setHeld_tiles : (s.setHeld w k h).tiles = s.tiles := rfl
@[simp] theorem State.setHeld_slots : (s.setHeld w k h).slots = s.slots := rfl
@[simp] theorem State.setHeld_cells : (s.setHeld w k h).cells = s.cells := rfl
@[simp] theorem State.setHeld_stages : (s.setHeld w k h).stages = tput none s.stages (wireKey w k) h := rfl
@[simp] theorem State.setHeld_floors : (s.setHeld w k h).floors = s.floors := rfl
@[simp] theorem State.setHeld_tasks : (s.setHeld w k h).tasks = s.tasks := rfl
@[simp] theorem State.setHeld_batches : (s.setHeld w k h).batches = s.batches := rfl
@[simp] theorem State.setHeld_cfs : (s.setHeld w k h).cfs = s.cfs := rfl
@[simp] theorem State.setHeld_moved : (s.setHeld w k h).moved = s.moved := rfl
@[simp] theorem State.setHeld_pool : (s.setHeld w k h).pool = s.pool := rfl
@[simp] theorem State.setHeld_queues : (s.setHeld w k h).queues = s.queues := rfl
@[simp] theorem State.setHeld_net : (s.setHeld w k h).net = s.net := rfl
@[simp] theorem State.setHeld_noc : (s.setHeld w k h).noc = s.noc := rfl
@[simp] theorem State.setHeld_trip : (s.setHeld w k h).trip = s.trip := rfl
@[simp] theorem State.setHeld_lanes : (s.setHeld w k h).lanes = s.lanes := rfl
@[simp] theorem State.setHeld_rports : (s.setHeld w k h).rports = s.rports := rfl
@[simp] theorem State.setHeld_streams : (s.setHeld w k h).streams = s.streams := rfl
@[simp] theorem State.setHeld_sds : (s.setHeld w k h).sds = s.sds := rfl
@[simp] theorem State.setHeld_adcs : (s.setHeld w k h).adcs = s.adcs := rfl
@[simp] theorem State.setHeld_encs : (s.setHeld w k h).encs = s.encs := rfl
@[simp] theorem State.setHeld_gates : (s.setHeld w k h).gates = s.gates := rfl
@[simp] theorem State.setHeld_cars : (s.setHeld w k h).cars = s.cars := rfl
@[simp] theorem State.setHeld_vls : (s.setHeld w k h).vls = s.vls := rfl
@[simp] theorem State.setHeld_notices : (s.setHeld w k h).notices = s.notices := rfl
@[simp] theorem State.setHeld_logQ : (s.setHeld w k h).logQ = s.logQ := rfl
@[simp] theorem State.setHeld_fetched : (s.setHeld w k h).fetched = s.fetched := rfl
@[simp] theorem State.setHeld_cmds : (s.setHeld w k h).cmds = s.cmds := rfl
@[simp] theorem State.setHeld_drains : (s.setHeld w k h).drains = s.drains := rfl
@[simp] theorem State.setHeld_orphans : (s.setHeld w k h).orphans = s.orphans := rfl
@[simp] theorem State.setHeld_replies : (s.setHeld w k h).replies = s.replies := rfl
@[simp] theorem State.setHeld_irqs : (s.setHeld w k h).irqs = s.irqs := rfl
@[simp] theorem State.setHeld_hostMem : (s.setHeld w k h).hostMem = s.hostMem := rfl
@[simp] theorem State.setHeld_owners : (s.setHeld w k h).owners = s.owners := rfl
end

@[simp] theorem State.modTurn_eq (s : State) (t : Nat) (g : TurnSt → TurnSt) : s.modTurn t g = s.setTurn t (g (s.turn t)) := rfl
@[simp] theorem State.modStream_eq (s : State) (n : Nat) (f : StreamSt → StreamSt) : s.modStream n f = s.setStream n (f (s.stream n)) := rfl
@[simp] theorem State.modRing_eq (s : State) (v : Nat) (f : RingSt → RingSt) : s.modRing v f = s.setRing v (f (s.ring v)) := rfl
@[simp] theorem State.modHport_eq (s : State) (h : Nat) (f : HPort → HPort) : s.modHport h f = s.setHport h (f (s.hport h)) := rfl
@[simp] theorem State.modTile_eq (s : State) (t : Nat) (f : TileSt → TileSt) : s.modTile t f = s.setTile t (f (s.tile t)) := rfl
@[simp] theorem State.modSlot_eq (s : State) (t k : Nat) (f : SlotSt → SlotSt) : s.modSlot t k f = s.setSlot t k (f (s.slot t k)) := rfl
@[simp] theorem State.modFloor_eq (s : State) (f : Nat) (g : FloorSt → FloorSt) : s.modFloor f g = s.setFloor f (g (s.floor f)) := rfl
@[simp] theorem State.modQueue_eq (s : State) (q : Nat) (g : Queue → Queue) : s.modQueue q g = s.setQueue q (g (s.queue q)) := rfl
@[simp] theorem State.modLane_eq (s : State) (l : Nat) (g : LaneSt → LaneSt) : s.modLane l g = s.setLane l (g (s.lane l)) := rfl
@[simp] theorem State.modGate_eq (s : State) (g : Nat) (f : GateSt → GateSt) : s.modGate g f = s.setGate g (f (s.gate g)) := rfl
@[simp] theorem State.modVl_eq (s : State) (l : Nat) (f : VlSt → VlSt) : s.modVl l f = s.setVl l (f (s.vl l)) := rfl
@[simp] theorem State.modGrav_eq (s : State) (f : Nat) (g : GravSt → GravSt) : s.modGrav f g = s.setGrav f (g (s.grav f)) := rfl
@[simp] theorem State.modLink_eq (s : State) (m : Nat) (f : LinkSt → LinkSt) : s.modLink m f = s.setLink m (f (s.link m)) := rfl

@[simp] theorem State.setFld_eq (s : State) (f : Fld) (i v : Nat) :
    s.setFld f i v = s.setReg f.r i (putBits (s.reg f.r i) f.hi f.lo v) := rfl

end Sys2Proof.Machine
end

