-- ==== Sys2Proof/Laws/Tables.lean ====
section
/-! SUPPORT. Sparse tables: a read after a write, and the canonical form that every table operation keeps. -/

namespace Sys2Proof.Machine

variable {α : Type} [DecidableEq α]

/-- Every number of the table is at least `n`. -/
def above (n : Nat) (t : Tbl α) : Prop := ∀ p ∈ t, n ≤ p.1

omit [DecidableEq α] in
theorem rising_cons {k : Nat} {v : α} {t : Tbl α} : rising ((k, v) :: t) = true ↔ rising t = true ∧ above (k + 1) t := by
  induction t generalizing k v with
  | nil => simp [rising, above]
  | cons p t ih =>
    obtain ⟨k', v'⟩ := p
    rw [rising]
    simp only [Bool.and_eq_true, decide_eq_true_eq]
    constructor
    · rintro ⟨h1, h3⟩
      refine ⟨h3, ?_⟩
      intro q hq
      rcases List.mem_cons.mp hq with rfl | hq
      · exact h1
      · have := (ih.mp h3).2 q hq
        omega
    · rintro ⟨h2, h3⟩
      exact ⟨h3 _ List.mem_cons_self, h2⟩

/-- The canonical form: rising, and nothing equal to the default. -/
theorem twf_iff {d : α} {t : Tbl α} : twf d t = true ↔ rising t = true ∧ ∀ p ∈ t, p.2 ≠ d := by
  induction t with
  | nil => simp [twf, rising]
  | cons p t ih =>
    obtain ⟨k, v⟩ := p
    cases t with
    | nil => simp [twf, rising]
    | cons q t =>
      obtain ⟨k', v'⟩ := q
      rw [twf, rising]
      simp only [Bool.and_eq_true, decide_eq_true_eq, Bool.not_eq_true', decide_eq_false_iff_not]
      rw [ih]
      simp only [List.mem_cons, forall_eq_or_imp]
      tauto

theorem rising_of_twf {d : α} {t : Tbl α} (h : twf d t = true) : rising t = true := (twf_iff.mp h).1

omit [DecidableEq α] in
theorem above_le {n m : Nat} {t : Tbl α} (h : above n t) (hm : m ≤ n) : above m t :=
  fun p hp => le_trans hm (h p hp)

omit [DecidableEq α] in
theorem tget_above {d : α} {n : Nat} {t : Tbl α} (h : above (n + 1) t) : tget d t n = d := by
  cases t with
  | nil => rfl
  | cons p t =>
    obtain ⟨k, v⟩ := p
    have hk := h _ List.mem_cons_self
    simp only at hk
    simp [tget, show n ≠ k by omega, show n < k by omega]

theorem above_tput {d : α} {n m : Nat} {v : α} {t : Tbl α} (h : above m t) (hm : m ≤ n) : above m (tput d t n v) := by
  induction t with
  | nil =>
    simp only [tput]
    split
    · exact h
    · intro p hp
      simp only [List.mem_singleton] at hp
      subst hp
      exact hm
  | cons p t ih =>
    obtain ⟨k, w⟩ := p
    have hk : m ≤ k := h _ List.mem_cons_self
    have ht : above m t := fun q hq => h q (List.mem_cons_of_mem _ hq)
    simp only [tput]
    repeat' split
    all_goals
      intro q hq
      first
        | exact h q hq
        | exact ht q hq
        | (simp only [List.mem_cons] at hq
           rcases hq with rfl | hq
           · first | exact hm | exact hk
           · first | exact ht q hq | exact ih ht q hq | (rcases hq with rfl | hq <;> first | exact hk | exact ht q hq))

/-- A write keeps the numbers rising. -/
theorem rising_tput {d : α} {n : Nat} {v : α} {t : Tbl α} (h : rising t = true) : rising (tput d t n v) = true := by
  induction t with
  | nil =>
    simp only [tput]
    split <;> simp [rising]
  | cons p t ih =>
    obtain ⟨k, w⟩ := p
    obtain ⟨h2, h3⟩ := rising_cons.mp h
    simp only [tput]
    split
    · split
      · exact h
      · rename_i hlt hv
        refine rising_cons.mpr ⟨h, ?_⟩
        intro q hq
        rcases List.mem_cons.mp hq with rfl | hq
        · exact hlt
        · have := h3 q hq
          omega
    · split
      · rename_i hlt he
        subst he
        split
        · exact h2
        · exact rising_cons.mpr ⟨h2, h3⟩
      · exact rising_cons.mpr ⟨ih h2, above_tput h3 (by omega)⟩

theorem mem_tput {d : α} {n : Nat} {v : α} {t : Tbl α} {p : Nat × α} (h : p ∈ tput d t n v) : p ∈ t ∨ p.2 = v ∧ v ≠ d := by
  induction t with
  | nil =>
    simp only [tput] at h
    split at h
    · cases h
    · simp only [List.mem_singleton] at h
      subst h
      exact .inr ⟨rfl, ‹_›⟩
  | cons q t ih =>
    obtain ⟨k, w⟩ := q
    simp only [tput] at h
    split at h
    · split at h
      · exact .inl h
      · rcases List.mem_cons.mp h with rfl | h
        · exact .inr ⟨rfl, ‹_›⟩
        · exact .inl h
    · split at h
      · split at h
        · exact .inl (List.mem_cons_of_mem _ h)
        · rcases List.mem_cons.mp h with rfl | h
          · exact .inr ⟨rfl, ‹_›⟩
          · exact .inl (List.mem_cons_of_mem _ h)
      · rcases List.mem_cons.mp h with rfl | h
        · exact .inl List.mem_cons_self
        · rcases ih h with h | h
          · exact .inl (List.mem_cons_of_mem _ h)
          · exact .inr h

/-- A write keeps the canonical form. -/
theorem twf_tput {d : α} {n : Nat} {v : α} {t : Tbl α} (h : twf d t = true) : twf d (tput d t n v) = true := by
  obtain ⟨h1, h2⟩ := twf_iff.mp h
  refine twf_iff.mpr ⟨rising_tput h1, fun p hp => ?_⟩
  rcases mem_tput hp with hp | ⟨rfl, hv⟩
  · exact h2 p hp
  · exact hv

/-- A read after a write gives the value written at its number, and what was there before at every other. -/
theorem tget_tput {d : α} {n m : Nat} {v : α} {t : Tbl α} (h : rising t = true) :
    tget d (tput d t n v) m = if m = n then v else tget d t m := by
  induction t with
  | nil =>
    simp only [tput]
    by_cases hv : v = d
    · simp [hv, tget]
    · rw [if_neg hv]
      simp only [tget]
      split <;> simp
  | cons p t ih =>
    obtain ⟨k, w⟩ := p
    obtain ⟨h2, h3⟩ := rising_cons.mp h
    simp only [tput]
    split
    · rename_i hlt
      split
      · rename_i hv
        simp only [tget]
        by_cases hm : m = n
        · subst hm
          rw [if_neg (by omega), if_pos hlt, if_pos rfl, hv]
        · rw [if_neg hm]
      · simp only [tget]
        by_cases hm : m = n
        · simp [hm]
        · simp only [hm, if_false]
          split
          · rw [if_neg (by omega), if_pos (by omega)]
          · rfl
    · split
      · rename_i hlt he
        subst he
        split
        · rename_i hv
          by_cases hm : m = n
          · subst hm
            rw [if_pos rfl, tget_above h3, hv]
          · rw [if_neg hm]
            simp only [tget]
            rw [if_neg hm]
            split
            · rename_i hmn
              exact tget_above (above_le h3 (by omega))
            · rfl
        · simp only [tget]
          by_cases hm : m = n
          · simp [hm]
          · simp [hm]
      · rename_i hlt he
        simp only [tget]
        rw [ih h2]
        by_cases hm : m = n
        · subst hm
          rw [if_neg he, if_neg hlt, if_pos rfl, if_pos rfl]
        · rw [if_neg hm, if_neg hm]

/-- A read at another number, whatever an unlisted number reads as there. -/
theorem tget_tput_ne {d e : α} {n m : Nat} {v : α} {t : Tbl α} (h : rising t = true) (hm : m ≠ n) :
    tget e (tput d t n v) m = tget e t m := by
  induction t with
  | nil =>
    simp only [tput]
    split
    · rfl
    · simp [tget, hm]
  | cons p t ih =>
    obtain ⟨k, w⟩ := p
    obtain ⟨h2, h3⟩ := rising_cons.mp h
    simp only [tput]
    split
    · split
      · rfl
      · simp only [tget, if_neg hm]
        split
        · rw [if_neg (by omega), if_pos (by omega)]
        · rfl
    · split
      · rename_i he
        subst he
        split
        · simp only [tget, if_neg hm]
          split
          · exact tget_above (above_le h3 (by omega))
          · rfl
        · simp only [tget, if_neg hm]
      · simp only [tget, ih h2]

omit [DecidableEq α] in
theorem rising_filter {p : Nat × α → Bool} {t : Tbl α} (h : rising t = true) : rising (t.filter p) = true := by
  induction t with
  | nil => rfl
  | cons q t ih =>
    obtain ⟨k, v⟩ := q
    obtain ⟨h2, h3⟩ := rising_cons.mp h
    rw [List.filter_cons]
    split
    · exact rising_cons.mpr ⟨ih h2, fun x hx => h3 x (List.mem_filter.mp hx).1⟩
    · exact ih h2

/-- Filtering keeps the canonical form. -/
theorem twf_filter {d : α} {p : Nat × α → Bool} {t : Tbl α} (h : twf d t = true) : twf d (t.filter p) = true := by
  obtain ⟨h1, h2⟩ := twf_iff.mp h
  exact twf_iff.mpr ⟨rising_filter h1, fun q hq => h2 q (List.mem_filter.mp hq).1⟩

/-- A run of writes keeps the canonical form. -/
theorem twf_foldl {d : α} {β : Type} {f : Tbl α → β → Tbl α} {l : List β} {t : Tbl α} (h : twf d t = true)
    (hf : ∀ t x, twf d t = true → twf d (f t x) = true) : twf d (l.foldl f t) = true := by
  induction l generalizing t with
  | nil => exact h
  | cons x l ih => exact ih (hf t x h)

end Sys2Proof.Machine
end

