-- ==== Sys2Proof/Laws/Commands.lean ====
section
/-! SUPPORT. What the operations that every command packet goes through do: the shared checks, replies, waiting, and the end of
commands that waited; what raising an event leaves. -/

namespace Sys2Proof.Machine

open Sys2Proof

/-! ### The shared checks -/

/-- A command that is accepted runs its own effect, its packet taken off the list of fetched ones. -/
theorem runCmd_of_accepted {s : State} {c : Cmd} {op : Nat} {params : List Byte} {tenant : Bool} {body : State → State}
    (h : Accepted s c op params tenant) : s.runCmd c op params tenant body = body (s.unfetch c) := by
  have hr : (s.unfetch c).flag devReady 0 = true := h.ready
  have hring : ¬(c.ring ≠ 0 ∧ c.view ≠ c.ring) := by rintro ⟨a, b⟩; exact h.ring.elim a b
  have hview : ¬((!tenant) = true ∧ c.view ≠ 0) := by
    rintro ⟨a, b⟩
    exact h.view.elim (fun t => by simp [t] at a) b
  simp only [State.runCmd, h.start, h.target, hr, hring, hview, Bool.not_true, Bool.false_eq_true, false_and, if_false]

/-- A command whose turn has not come, or that names another device, changes nothing. -/
theorem runCmd_of_not_start {s : State} {c : Cmd} {op : Nat} {params : List Byte} {tenant : Bool} {body : State → State}
    (h : s.mayStart c op params = false) : s.runCmd c op params tenant body = s := by
  simp [State.runCmd, h]

/-- Everything a command can do before its own effect: nothing, one refusal, or its effect. -/
theorem runCmd_cases (s : State) (c : Cmd) (op : Nat) (params : List Byte) (tenant : Bool) (body : State → State) :
    s.runCmd c op params tenant body = s ∨
    s.runCmd c op params tenant body = (s.unfetch c).badParam c op 0xFFFF ∨
    s.runCmd c op params tenant body = (s.unfetch c).reply c op stNoPriv [] ∨
    s.runCmd c op params tenant body = (s.unfetch c).reply c op stBusy [] ∨
    s.runCmd c op params tenant body = body (s.unfetch c) := by
  simp only [State.runCmd]
  split
  · exact .inl rfl
  split
  · exact .inr (.inl rfl)
  split
  · exact .inr (.inr (.inl rfl))
  split
  · exact .inr (.inr (.inl rfl))
  split
  · exact .inr (.inr (.inr (.inl rfl)))
  · exact .inr (.inr (.inr (.inr rfl)))

/-! ### Replies -/

/-- A reply of a command of this device that no PCIe reset has orphaned joins the replies. -/
theorem reply_live {s : State} {c : Cmd} {op status : Nat} {data : List Byte} (hr : c.remote = 0)
    (ho : s.orphans.contains c = false) :
    s.reply c op status data =
      { s with replies := s.replies ++ [{ cmd := c, op := op, status := status, interim := false, data := data }] } := by
  simp only [State.reply, ho, hr, Bool.false_eq_true, if_false, if_true]

theorem replies_reply {s : State} {c : Cmd} {op status : Nat} {data : List Byte} (hr : c.remote = 0)
    (ho : s.orphans.contains c = false) : Replies s (s.reply c op status data) c op status data := by
  simp [Replies, reply_live hr ho]

/-- Everything that a reply can do: it is discarded, joins the replies, or goes back to the device that forwarded it. -/
theorem reply_cases (s : State) (c : Cmd) (op status : Nat) (data : List Byte) :
    s.reply c op status data = { s with orphans := s.orphans.erase c } ∨
    (c.remote = 0 ∧ s.reply c op status data =
      { s with replies := s.replies ++ [{ cmd := c, op := op, status := status, interim := false, data := data }] }) ∨
    (c.remote ≠ 0 ∧ s.reply c op status data =
      { s with mgmt := s.mgmt ++ [{ cmd := c, op := op, status := status, interim := false, data := data }] }) := by
  unfold State.reply
  split
  · exact .inl rfl
  split
  · exact .inr (.inl ⟨‹_›, rfl⟩)
  · exact .inr (.inr ⟨‹_›, rfl⟩)

theorem reply_onlyAnswers {s : State} {c : Cmd} {op status : Nat} {data : List Byte} (hr : c.remote = 0)
    (ho : s.orphans.contains c = false) : OnlyAnswers s ((s.unfetch c).reply c op status data) := by
  have ho' : (s.unfetch c).orphans.contains c = false := ho
  rw [reply_live hr ho']
  rfl

/-! ### Waiting and the end of a wait -/

/-- A command of this device that waits has told so when PACK asked for it. -/
theorem await_waitsFor {s : State} {c : Cmd} {op timeout : Nat} {w : CmdWait} (hr : c.remote = 0)
    (ho : s.orphans.contains c = false) : WaitsFor s (s.await c op w timeout) c op w timeout := by
  have ho' : c ∉ s.orphans := by simpa using ho
  cases hp : c.pack <;> simp [WaitsFor, State.await, State.waitCmd, State.interim, hr, ho', hp]

/-- What a run of final replies leaves: only the replies and the orphans move, and live commands are all answered in order. -/
theorem foldl_reply {status : Nat} {data : List Byte} (l : List InProg) (s : State)
    (h : ∀ x ∈ l, x.cmd.remote = 0 ∧ s.orphans.contains x.cmd = false) :
    l.foldl (fun s x => s.reply x.cmd x.op status data) s =
      { s with replies := s.replies ++ l.map fun x =>
          { cmd := x.cmd, op := x.op, status := status, interim := false, data := data } } := by
  induction l generalizing s with
  | nil => simp
  | cons x l ih =>
    have hx := h x (by simp)
    rw [List.foldl_cons, reply_live hx.1 hx.2, ih]
    · simp
    · intro y hy
      exact h y (by simp [hy])

theorem foldl_reply_cmds {status : Nat} {data : List Byte} (l : List InProg) (s : State) :
    (l.foldl (fun s x => s.reply x.cmd x.op status data) s).cmds = s.cmds := by
  induction l generalizing s with
  | nil => rfl
  | cons x l ih =>
    rw [List.foldl_cons, ih]
    rcases reply_cases s x.cmd x.op status data with h | ⟨-, h⟩ | ⟨-, h⟩ <;> rw [h]

/-- The commands that waited are answered, the others stay. -/
theorem finish_finishes (s : State) (w : CmdWait) (status : Nat) (data : List Byte) :
    Finishes s (s.finish w status data) w status data where
  waiting := by simp only [State.finish]; rw [foldl_reply_cmds]
  told := by
    intro h
    simp only [State.finish]
    rw [foldl_reply]
    intro x hx
    rw [List.mem_filter] at hx
    exact h x hx.1 (by simpa using hx.2)

/-! ### Raising an event -/

theorem logQ_faultEdge (s old : State) : (s.faultEdge old).logQ = s.logQ := by
  rw [State.faultEdge, apply_ite State.logQ]
  exact ite_self _

/-- An event raised stands last among the records that wait for their logs. -/
theorem raiseAt_logs (s : State) (time code sclass loc data : Nat) : Logs s (s.raiseAt time code sclass loc data) code loc := by
  refine ⟨[⟨logOf sclass loc, time, code, sclass, loc, (if sevOf code = 3 then 0x80 else 0) + sevOf code, data⟩], ?_, _,
    List.mem_singleton.2 rfl, rfl, rfl⟩
  by_cases h : faultBit code = 0
  · simp only [State.raiseAt, h, if_true]
  · simp only [State.raiseAt, h, if_false, logQ_faultEdge]
    rfl

theorem raise_logs (s : State) (code sclass loc data : Nat) : Logs s (s.raise code sclass loc data) code loc :=
  raiseAt_logs s s.tim.now code sclass loc data

/-- An event that is not CRITICAL changes nothing but the records that wait. -/
theorem raiseAt_plain {s : State} {time code sclass loc data : Nat} (h : faultBit code = 0) :
    s.raiseAt time code sclass loc data =
      { s with logQ := s.logQ ++ [⟨logOf sclass loc, time, code, sclass, loc,
        (if sevOf code = 3 then 0x80 else 0) + sevOf code, data⟩] } := by
  simp [State.raiseAt, h]

end Sys2Proof.Machine
end

