-- ==== Sys2Proof/Laws/Invariant.lean ====
section
/-! SUPPORT. The invariant, and the premises that statements share, as tests that can be run. -/

namespace Sys2Proof

open Sys2Proof.Machine

/-- `Canon` as a Bool. -/
def canonOk (s : State) : Bool :=
  rising s.regs && twf false s.once && twf .init s.frzs && twf .init s.gravs && twf .init s.turns && twf .init s.rings &&
  twf .init s.hports && twf 0 s.hmwAt && twf .init s.links && twf 0#13 s.store && twf false s.written && twf [] s.sharers &&
  twf .init s.tiles && twf .init s.slots && twf .init s.cells && twf none s.stages && twf .init s.floors && twf .init s.tasks &&
  twf .init s.batches && twf 0#8 s.cfs && twf 0 s.moved && twf 0#36 s.pool && twf .empty s.queues && twf .init s.lanes &&
  twf .init s.rports && twf .init s.streams && twf .init s.sds && twf .init s.adcs && twf .init s.encs && twf .init s.gates &&
  twf .init s.cars && twf .init s.vls && twf 0#8 s.hostMem && twf 0 s.owners &&
  s.slots.all (fun p => bankOk p.2) && s.tasks.all (fun p => p.2.w.length == 8)

theorem canon_of {s : State} (h : canonOk s = true) : Canon s := by
  simp only [canonOk, Bool.and_eq_true, List.all_eq_true, beq_iff_eq] at h
  constructor
  case banks => exact fun p hp => h.1.2 p hp
  case words => exact fun p hp => h.2 p hp
  all_goals tauto

/-- `Accepted` as a Bool. -/
def acceptedOk (s : State) (c : Cmd) (op : Nat) (params : List Byte) (tenant : Bool) : Bool :=
  s.mayStart c op params && !tgtBad c && (decide (c.ring = 0) || decide (c.view = c.ring)) && (tenant || decide (c.view = 0)) &&
  s.flag devReady 0 && decide (c.remote = 0) && !s.orphans.contains c

theorem accepted_of {s : State} {c : Cmd} {op : Nat} {params : List Byte} {tenant : Bool}
    (h : acceptedOk s c op params tenant = true) : Accepted s c op params tenant := by
  simp only [acceptedOk, Bool.and_eq_true, Bool.or_eq_true, decide_eq_true_eq, Bool.not_eq_true'] at h
  constructor <;> tauto

/-- `CanMove` as a Bool. -/
def canMoveOk (s : State) (w : Wire) (k : Nat) (x : Wire) (kx : Nat) (tok : Tok) : Bool :=
  decide (s.offered w k (.wire x kx) = some tok) && decide (s.readers w k = [.wire x kx]) && decide (s.held x kx = none) &&
  s.stageOn x kx && decide (s.readers x kx ≠ []) && decide (wireKey x kx ≠ wireKey w k)

theorem canMove_of {s : State} {w : Wire} {k : Nat} {x : Wire} {kx : Nat} {tok : Tok} (h : canMoveOk s w k x kx tok = true) :
    CanMove s w k x kx tok := by
  simp only [canMoveOk, Bool.and_eq_true, decide_eq_true_eq] at h
  constructor <;> tauto

/-- `CanPush` as a Bool. -/
def canPushOk (s : State) (q : Nat) : Bool :=
  s.qOpen q && decide ((s.queue q).ilock = none) && decide ((s.queue q).skips = []) && !(s.queue q).skip &&
  !(s.queue q).truncWait && !(s.queue q).dropping && !s.qFull q && !s.flag quePinj q

theorem canPush_of {s : State} {q : Nat} (h : canPushOk s q = true) : CanPush s q := by
  simp only [canPushOk, Bool.and_eq_true, decide_eq_true_eq, Bool.not_eq_true'] at h
  constructor <;> tauto

/-- `CanGoOn` as a Bool. -/
def canGoOnOk (s : State) (q : Nat) (a : Agent) : Bool :=
  s.qOpen q && decide ((s.queue q).ilock = some a) && decide ((s.queue q).fl = none) && decide ((s.queue q).itemLen < 4095) &&
  decide ((s.queue q).skips = []) && !(s.queue q).skip && !(s.queue q).truncWait && !(s.queue q).dropping && !s.qFull q &&
  !s.flag quePinj q

theorem canGoOn_of {s : State} {q : Nat} {a : Agent} (h : canGoOnOk s q a = true) : CanGoOn s q a := by
  simp only [canGoOnOk, Bool.and_eq_true, decide_eq_true_eq, Bool.not_eq_true'] at h
  constructor <;> tauto

/-- `CanPop` as a Bool. -/
def canPopOk (s : State) (q : Nat) (a : Agent) (w : QWord) : Bool :=
  s.poppable q a && decide ((s.queue q).drain.head?.map (s.entWord q) = some w) && !parityBad w

theorem canPop_of {s : State} {q : Nat} {a : Agent} {w : QWord} (h : canPopOk s q a w = true) : CanPop s q a w := by
  simp only [canPopOk, Bool.and_eq_true, decide_eq_true_eq, Bool.not_eq_true'] at h
  constructor <;> tauto

end Sys2Proof
end

