-- ==== Sys2Proof/Laws/Memory.lean ====
section
/-! SUPPORT. The memories: every operation on tile stores, queue memory, configuration frames and host memory keeps their canonical
form, and what a read of one place gives after a write. -/

namespace Sys2Proof

open Sys2Proof.Machine

/-- Both states hold the same memories. -/
def SameMem (s u : State) : Prop := u.store = s.store ∧ u.pool = s.pool ∧ u.cfs = s.cfs ∧ u.hostMem = s.hostMem

theorem SameMem.refl (s : State) : SameMem s s := ⟨rfl, rfl, rfl, rfl⟩

theorem SameMem.trans {s u v : State} (h : SameMem s u) (k : SameMem u v) : SameMem s v :=
  ⟨k.1.trans h.1, k.2.1.trans h.2.1, k.2.2.1.trans h.2.2.1, k.2.2.2.trans h.2.2.2⟩

theorem memoriesOk_same {s u : State} (h : SameMem s u) : memoriesOk u = memoriesOk s := by
  simp only [memoriesOk, h.1, h.2.1, h.2.2.1, h.2.2.2]

theorem sameMem_foldl {β : Type} {f : State → β → State} (l : List β) (hf : ∀ s x, SameMem s (f s x)) (s : State) :
    SameMem s (l.foldl f s) := by
  induction l generalizing s with
  | nil => exact .refl s
  | cons x l ih => exact (hf s x).trans (ih (f s x))

theorem memoriesOk_foldl {β : Type} {f : State → β → State} (l : List β) {s : State} (h : memoriesOk s = true)
    (hf : ∀ s x, memoriesOk s = true → memoriesOk (f s x) = true) : memoriesOk (l.foldl f s) = true := by
  induction l generalizing s with
  | nil => exact h
  | cons x l ih => exact ih (hf s x h)

theorem memoriesOk_iff {s : State} : memoriesOk s = true ↔
    twf 0#13 s.store = true ∧ twf 0#36 s.pool = true ∧ twf 0#8 s.cfs = true ∧ twf 0#8 s.hostMem = true := by
  simp only [memoriesOk, Bool.and_eq_true, and_assoc]

theorem memoriesOk_reset : memoriesOk State.reset = true := rfl

/-- Another tile store. -/
theorem memoriesOk_store {s u : State} (h : memoriesOk s = true) (hs : twf 0#13 s.store = true → twf 0#13 u.store = true)
    (hp : u.pool = s.pool) (hc : u.cfs = s.cfs) (hm : u.hostMem = s.hostMem) : memoriesOk u = true := by
  obtain ⟨a, b, c, d⟩ := memoriesOk_iff.mp h
  exact memoriesOk_iff.mpr ⟨hs a, hp ▸ b, hc ▸ c, hm ▸ d⟩

/-- Other configuration frames. -/
theorem memoriesOk_cfs {s u : State} (h : memoriesOk s = true) (hs : u.store = s.store) (hp : u.pool = s.pool)
    (hc : twf 0#8 s.cfs = true → twf 0#8 u.cfs = true) (hm : u.hostMem = s.hostMem) : memoriesOk u = true := by
  obtain ⟨a, b, c, d⟩ := memoriesOk_iff.mp h
  exact memoriesOk_iff.mpr ⟨hs ▸ a, hp ▸ b, hc c, hm ▸ d⟩

/-! ### What reads of the tile store leave -/

theorem sameMem_faultEdge (s old : State) : SameMem s (s.faultEdge old) := by
  unfold State.faultEdge
  split <;> exact ⟨rfl, rfl, rfl, rfl⟩

theorem sameMem_raise (s : State) (code sclass loc data : Nat) : SameMem s (s.raise code sclass loc data) := by
  unfold State.raise State.raiseAt
  extract_lets sev r s1
  have h1 : SameMem s s1 := ⟨rfl, rfl, rfl, rfl⟩
  clear_value s1
  split
  · exact h1
  · exact h1.trans (SameMem.trans (u := s1.setReg .DEV_FAULT 0 _) ⟨rfl, rfl, rfl, rfl⟩ (sameMem_faultEdge _ s1))

theorem sameMem_modTile (s : State) (t : Nat) (f : TileSt → TileSt) : SameMem s (s.modTile t f) := ⟨rfl, rfl, rfl, rfl⟩

theorem sameMem_countPass (s : State) (t page n : Nat) (data : Nat → Nat) : SameMem s (s.countPass t page n data) := by
  unfold State.countPass
  dsimp only
  split
  · exact (SameMem.trans (sameMem_modTile ..) (sameMem_modTile ..)).trans (sameMem_raise ..)
  · exact sameMem_modTile ..

theorem sameMem_wordErrors (s : State) (t : Nat) (offs : List Nat) (req slot : Nat) (fresh : Bool) (dec : Nat → Decoded) :
    SameMem s (s.wordErrors t offs req slot fresh dec) := by
  have bump : ∀ {u : State} (r : Reg) (i n : Nat), SameMem s u → SameMem s (u.bumpBy r i n) := fun _ _ _ h => h
  have bump1 : ∀ {u : State} (r : Reg) (i : Nat), SameMem s u → SameMem s (u.bump r i) := fun _ _ h => h
  have put : ∀ {u : State} (r : Reg) (i v : Nat), SameMem s u → SameMem s (u.setReg r i v) := fun _ _ _ h => h
  have tile : ∀ {u : State} (t : Nat) (f : TileSt → TileSt), SameMem s u → SameMem s (u.modTile t f) := fun _ _ h => h
  have ev : ∀ {u : State} (c k l d : Nat), SameMem s u → SameMem s (u.raise c k l d) := fun _ _ _ _ h => h.trans (sameMem_raise ..)
  have pass : ∀ {u : State} (t p n : Nat) (d : Nat → Nat), SameMem s u → SameMem s (u.countPass t p n d) :=
    fun _ _ _ _ h => h.trans (sameMem_countPass ..)
  rcases hc : offs.filter (fun o => (dec o).kind == 1) with _ | ⟨o, l⟩ <;>
    rcases hu : offs.filter (fun o => (dec o).kind == 2) with _ | ⟨p, m⟩ <;> simp only [State.wordErrors, hc, hu] <;>
    repeat' with_reducible first | exact .refl _ | apply ev | apply tile | apply put | apply bump1 | apply bump | apply pass | split

theorem sameMem_noteRead (s : State) (t off n req slot : Nat) : SameMem s (s.noteRead t off n req slot) := by
  unfold State.noteRead
  dsimp only
  refine (sameMem_foldl _ (fun s x => sameMem_wordErrors ..) s).trans (sameMem_foldl _ (fun s x => ?_) _)
  unfold State.queueWriteBack
  split
  · exact .refl _
  · exact sameMem_modTile ..

/-! ### Writes to the tile store -/

theorem memoriesOk_openLine {s : State} (h : memoriesOk s = true) (ph : Nat) : memoriesOk (s.openLine ph) = true := by
  unfold State.openLine
  split
  · obtain ⟨a, b, c, d⟩ := memoriesOk_iff.mp h
    have k := twf_foldl (l := List.range 64) (f := fun m i => tput 0#13 m (ph / 64 * 64 + i) 0#13) a fun _ _ ht => twf_tput ht
    rw [memoriesOk_iff]
    dsimp only
    exact ⟨k, b, c, d⟩
  · exact h

theorem memoriesOk_pokePhys {s : State} (h : memoriesOk s = true) (ph : Nat) (v : BitVec 13) :
    memoriesOk (s.pokePhys ph v) = true :=
  memoriesOk_store (memoriesOk_openLine h ph) (fun hs => twf_tput hs) rfl rfl rfl

theorem memoriesOk_applyFlip {s : State} (h : memoriesOk s = true) (t : Nat) (offs : List Nat) :
    memoriesOk (s.applyFlip t offs) = true := by
  unfold State.applyFlip
  split
  · exact h
  · split
    · refine (memoriesOk_same (u := _) ⟨rfl, rfl, rfl, rfl⟩).trans
        (memoriesOk_foldl _ h fun s k hs => memoriesOk_store hs (fun hs => twf_tput hs) rfl rfl rfl)
    · exact h

theorem memoriesOk_storeBytes {s : State} (h : memoriesOk s = true) (t : Nat) (l : List (Nat × Byte × Bool)) :
    memoriesOk (s.storeBytes t l) = true := by
  unfold State.storeBytes
  exact (memoriesOk_same (sameMem_modTile ..)).trans
    (memoriesOk_applyFlip (memoriesOk_foldl _ h fun s x hs => memoriesOk_pokePhys hs _ _) t _)

theorem memoriesOk_copyPage {s : State} (h : memoriesOk s = true) (a b : Nat) : memoriesOk (s.copyPage a b) = true := by
  obtain ⟨x, y, z, w⟩ := memoriesOk_iff.mp h
  have k := twf_foldl (l := List.range 4096) (f := fun m i => tput 0#13 m (b + i) (copyByte (tget 0#13 s.store (a + i)))) x
    fun _ _ ht => twf_tput ht
  rw [State.copyPage, memoriesOk_iff]
  dsimp only
  exact ⟨k, y, z, w⟩

theorem memoriesOk_copyStore {s : State} (h : memoriesOk s = true) (a b off n : Nat) :
    memoriesOk (s.copyStore a b off n) = true := by
  refine memoriesOk_foldl _ h fun s i hs => ?_
  dsimp only
  split
  · exact memoriesOk_store hs (fun h => h) rfl rfl rfl
  · exact memoriesOk_pokePhys hs _ _

theorem memoriesOk_scrubFresh {s : State} (h : memoriesOk s = true) (t off : Nat) :
    memoriesOk (s.scrubFresh t off) = true := by
  unfold State.scrubFresh
  dsimp only
  refine memoriesOk_store (s := (List.range 8).foldl (fun s w => s.wordErrors t _ 6 0xFF true _) s)
    ((memoriesOk_same (sameMem_foldl _ (fun s x => sameMem_wordErrors ..) s)).trans h) (fun hs => ?_) rfl rfl rfl
  refine twf_foldl hs fun m i hm => ?_
  split
  · exact hm
  · exact twf_tput hm

theorem memoriesOk_correctionWriteback {s u : State} (h : memoriesOk s = true) (t : TileNo)
    (hu : execCorrectionWriteback t s = .next u) : memoriesOk u = true := by
  unfold execCorrectionWriteback at hu
  split at hu
  · cases hu; exact h
  · dsimp only at hu
    split at hu <;> cases hu
    · exact (memoriesOk_same (sameMem_modTile ..)).trans h
    · exact memoriesOk_store (s := s.modTile t _) ((memoriesOk_same (sameMem_modTile ..)).trans h)
        (fun hs => twf_foldl hs fun _ _ ht => twf_tput ht) rfl rfl rfl

/-! ### Queue memory, frames, host memory -/

theorem memoriesOk_setPool {s : State} (h : memoriesOk s = true) (f i : Nat) (w : QWord) :
    memoriesOk (s.setPool f i w) = true := by
  obtain ⟨a, b, c, d⟩ := memoriesOk_iff.mp h
  exact memoriesOk_iff.mpr ⟨a, twf_tput b, c, d⟩

theorem memoriesOk_putCfs {s : State} (h : memoriesOk s = true) (a : Nat) (l : List Byte) : memoriesOk (s.putCfs a l) = true :=
  memoriesOk_cfs h rfl rfl (fun hs => twf_foldl hs fun _ _ ht => twf_tput ht) rfl

theorem memoriesOk_wipeFrames {s : State} (h : memoriesOk s = true) (f : Nat) : memoriesOk (s.wipeFrames f) = true :=
  memoriesOk_cfs h rfl rfl (fun hs => twf_filter hs) rfl

theorem memoriesOk_carryCells {s : State} (h : memoriesOk s = true) (a b k : Nat) : memoriesOk (s.carryCells a b k) = true := by
  obtain ⟨x, y, z, w⟩ := memoriesOk_iff.mp h
  have c := twf_foldl (l := List.range 0x220) (f := fun m i => tput 0#8 m (tileFrame b + k * 0x800 + i)
    (tget 0#8 m (tileFrame a + k * 0x800 + i))) z fun _ _ ht => twf_tput ht
  rw [State.carryCells, memoriesOk_iff]
  dsimp only
  exact ⟨x, y, c, w⟩

theorem memoriesOk_blankSlot {s : State} (h : memoriesOk s = true) (t k : Nat) : memoriesOk (s.blankSlot t k) = true := by
  have put : ∀ (u : State) (r : Reg) (i v : Nat), memoriesOk (u.setReg r i v) = memoriesOk u := fun _ _ _ _ => rfl
  have fs : ∀ p, memoriesOk { s with cfs := s.cfs.filter p } = true := fun p => by
    obtain ⟨x, y, z, w⟩ := memoriesOk_iff.mp h
    exact memoriesOk_iff.mpr ⟨x, y, twf_filter z, w⟩
  rw [State.blankSlot, put]
  exact memoriesOk_foldl _ (fs _) fun u c hu => by rw [put, put]; exact hu

theorem memoriesOk_initFloorMem {s : State} (h : memoriesOk s = true) (f : Nat) : memoriesOk (s.initFloorMem f) = true := by
  obtain ⟨a, b, c, d⟩ := memoriesOk_iff.mp h
  exact memoriesOk_iff.mpr ⟨twf_filter a, twf_filter b, c, d⟩

theorem memoriesOk_putHost {s : State} (h : memoriesOk s = true) (a : Nat) (l : List Byte) : memoriesOk (s.putHost a l) = true := by
  obtain ⟨x, y, z, w⟩ := memoriesOk_iff.mp h
  exact memoriesOk_iff.mpr ⟨x, y, z, twf_foldl w fun _ _ ht => twf_tput ht⟩

/-! ### A read of one place after a write -/

theorem poolWord_setPool {s : State} (h : rising s.pool = true) (f i g j : Nat) (w : QWord) :
    (s.setPool f i w).poolWord g j = if poolKey g j = poolKey f i then decodeWord (encodeWord w) else s.poolWord g j := by
  unfold State.poolWord
  rw [State.setPool_pool, tget_tput h]
  split <;> rfl

theorem reg_setReg {s : State} (h : rising s.regs = true) (r q : Reg) (i j v : Nat) (hr : q.addr j ≠ r.addr i) :
    (s.setReg r i v).reg q j = s.reg q j := by
  unfold State.reg
  rw [State.setReg_regs, tget_tput_ne h hr]

end Sys2Proof
end

