-- ==== Sys2Proof/Laws/Seq.lean ====
section
/-! SUPPORT. What the shared operations of the sequencer do: issue, register writes, jumps. -/

namespace Sys2Proof.Machine

open Sys2Proof

theorem tile_setTile {s : State} {t j : Nat} {x : TileSt} (h : Canon s) : (s.setTile t x).tile j = if j = t then x else s.tile j := by
  simp only [State.tile, State.setTile_tiles]
  exact tget_tput (rising_of_twf h.tiles)

theorem slot_get {s : State} {t k : Nat} : s.slot t k = tget .init s.slots (8 * t + k) := rfl

theorem tget_slots {s : State} {t k j : Nat} {x : SlotSt} (h : rising s.slots = true) :
    tget .init (s.setSlot t k x).slots j = if j = 8 * t + k then x else tget .init s.slots j := by
  simp only [State.setSlot_slots]
  exact tget_tput h

/-- A command that issues runs its effect on the state with the instruction line touched. -/
theorem seqStep_some {s : State} {t : TileNo} {i : Instr} {l : List SReg} {f : Nat → State → State} {k : Nat}
    (h : s.issue t i l = some k) : seqStep t i l s f = .next (f k (s.touchIc t k)) := by
  simp [seqStep, h]

/-- An instruction that cannot issue leaves the state as it is. -/
theorem seqStep_none {s : State} {t : TileNo} {i : Instr} {l : List SReg} {f : Nat → State → State}
    (h : s.issue t i l = none) : seqStep t i l s f = .next s := by
  simp [seqStep, h]

@[simp] theorem touchIc_slot (s : State) (t k t' k' : Nat) : (s.touchIc t k).slot t' k' = s.slot t' k' := rfl
@[simp] theorem touchIc_gpr (s : State) (t k t' k' : Nat) (r : SReg) : (s.touchIc t k).gpr t' k' r = s.gpr t' k' r := rfl
@[simp] theorem touchIc_pc (s : State) (t k t' k' : Nat) : (s.touchIc t k).pc t' k' = s.pc t' k' := rfl

theorem touchIc_tile {s : State} {t k : Nat} (h : Canon s) :
    (s.touchIc t k).tile t = { s.tile t with icache := ((s.touchIc t k).tile t).icache } := by
  rw [State.touchIc, State.modTile_eq, tile_setTile h, if_pos rfl]

theorem touchIc_other {s : State} {t k j : Nat} (h : Canon s) (hj : j ≠ t) : (s.touchIc t k).tile j = s.tile j := by
  rw [State.touchIc, State.modTile_eq, tile_setTile h, if_neg hj]

theorem rising_touch {s : State} {t k : Nat} (h : Canon s) : rising (s.touchIc t k).slots = true := by
  simpa [State.touchIc] using rising_of_twf h.slots

/-- Touching the line changes nothing else. -/
theorem onlyBank_touch {s : State} {t k : Nat} (h : Canon s) : OnlyBank s (s.touchIc t k) t k where
  rest := by simp [State.touchIc, State.setTile]
  slots := fun _ _ => rfl
  tiles := fun j hj => touchIc_other h hj
  tile := touchIc_tile h

/-- Replacing the bank changes nothing else. -/
theorem onlyBank_setSlot {s u : State} {t k : Nat} {x : SlotSt} (h : OnlyBank s u t k) (hu : rising u.slots = true) :
    OnlyBank s (u.setSlot t k x) t k where
  rest := by
    have := h.rest
    simp only [State.setSlot] at *
    rw [this]
  slots := by
    intro j hj
    rw [tget_slots hu, if_neg hj]
    exact h.slots j hj
  tiles := h.tiles
  tile := h.tile

theorem slot_setSlot {s : State} {t k : Nat} {x : SlotSt} (h : rising s.slots = true) : (s.setSlot t k x).slot t k = x := by
  simp only [State.slot, State.setSlot_slots]
  rw [tget_tput h, if_pos rfl]

/-- A jump after the line was touched. -/
theorem jumpsTo_setPc {s : State} {t k n : Nat} (h : Canon s) : JumpsTo s ((s.touchIc t k).setPc t k n) t k (n % 0x80000) where
  bank := by
    rw [State.setPc, State.modSlot_eq, slot_setSlot (rising_touch h)]
    rfl
  only := onlyBank_setSlot (onlyBank_touch h) (rising_touch h)

theorem mem_of_tget {α : Type} {d v : α} {t : Tbl α} {n : Nat} (h : tget d t n = v) : v = d ∨ (n, v) ∈ t := by
  induction t with
  | nil => exact .inl h.symm
  | cons p t ih =>
    obtain ⟨k, w⟩ := p
    simp only [tget] at h
    split at h
    · rename_i he
      subst he h
      exact .inr List.mem_cons_self
    · split at h
      · exact .inl h.symm
      · rcases ih h with h | h
        · exact .inl h
        · exact .inr (List.mem_cons_of_mem _ h)

theorem bank_of_canon {s : State} (h : Canon s) (t k : Nat) : bankOk (s.slot t k) = true := by
  rcases mem_of_tget (d := SlotSt.init) (rfl : tget .init s.slots (8 * t + k) = _) with h' | h'
  · rw [slot_get, h']
    decide
  · exact h.banks _ h'

/-- A register read after a register write of the same bank. -/
theorem gpr_setGpr {s : State} {t k : Nat} {r q : SReg} {v : Word} (hs : rising s.slots = true) (hb : bankOk (s.slot t k) = true) :
    (s.setGpr t k r v).gpr t k q = if q = r then v else s.gpr t k q := by
  simp only [bankOk, Bool.and_eq_true, beq_iff_eq, List.all_eq_true] at hb
  obtain ⟨⟨hg, hf⟩, ha⟩ := hb
  have h0 : ((s.slot t k).frames.headD []).length = 16 := by
    cases hfr : (s.slot t k).frames with
    | nil => simp [hfr] at hf
    | cons a l => simpa using ha a (by simp [hfr])
  have h0' : ((s.slot t k).frames.head?.getD []).length = 16 := by simpa using h0
  simp only [State.gpr, State.setGpr, State.modSlot_eq, slot_setSlot hs]
  have hr := r.isLt
  have hq := q.isLt
  by_cases h1 : r.val < 16 <;> by_cases h2 : q.val < 16 <;> simp only [h1, h2, if_true, if_false]
  · by_cases h : q = r
    · subst h
      simp [List.getD_eq_getElem?_getD, hg, h1]
    · have : r.val ≠ q.val := fun e => h (Fin.ext e.symm)
      simp [List.getD_eq_getElem?_getD, h, this]
  · have : q ≠ r := by rintro rfl; exact h2 h1
    simp [this]
  · have : q ≠ r := by rintro rfl; exact h1 h2
    simp [this]
  · by_cases h : q = r
    · subst h
      simp [List.getD_eq_getElem?_getD, h0', show q.val - 16 < 16 by omega]
    · have : r.val - 16 ≠ q.val - 16 := fun e => h (Fin.ext (by omega))
      simp [List.getD_eq_getElem?_getD, h, this]

/-- A result written and the counter advanced, after the line was touched. -/
theorem writesReg_aluRes {s : State} {t k : Nat} {rd : SReg} {v : Word} (h : Canon s) :
    WritesReg s ((s.touchIc t k).aluRes t k rd v) t k rd v := by
  have hr := rising_touch (t := t) (k := k) h
  have hb := bank_of_canon h t k
  have hr' : rising ((s.touchIc t k).setGpr t k rd v).slots = true := by
    simp only [State.setGpr, State.modSlot_eq, State.setSlot_slots]
    exact rising_tput hr
  have hg : ∀ q, ((s.touchIc t k).aluRes t k rd v).gpr t k q = ((s.touchIc t k).setGpr t k rd v).gpr t k q := by
    intro q
    simp only [State.aluRes, State.advance, State.setPc, State.modSlot_eq, State.gpr, slot_setSlot hr']
  have hs : ((s.touchIc t k).aluRes t k rd v).slot t k =
      { ((s.touchIc t k).setGpr t k rd v).slot t k with pc := (s.pc t k + 4) % 0x80000 } := by
    simp only [State.aluRes, State.advance, State.setPc, State.modSlot_eq, slot_setSlot hr']
    simp only [State.pc, State.setGpr, State.modSlot_eq, slot_setSlot hr]
    split <;> rfl
  have hs' : ((s.touchIc t k).setGpr t k rd v).slot t k = (if rd.val < 16 then
      { s.slot t k with globals := (s.slot t k).globals.set rd v }
      else { s.slot t k with frames := ((s.slot t k).frames.headD []).set (rd - 16) v :: (s.slot t k).frames.drop 1 }) := by
    simp only [State.setGpr, State.modSlot_eq, slot_setSlot hr]
    rfl
  refine ⟨?_, ?_, ?_, ?_, ?_, ?_⟩
  · rw [hg, gpr_setGpr hr hb, if_pos rfl]
  · intro r hrd
    rw [hg, gpr_setGpr hr hb, if_neg hrd]
    rfl
  · rw [State.pc, hs]
  · rw [hs, hs']
    split <;> rfl
  · rw [hs, hs']
    split
    · rfl
    · simp
  · exact onlyBank_setSlot (onlyBank_setSlot (onlyBank_touch h) hr) hr'

end Sys2Proof.Machine
end

