-- ==== Sys2Proof/Tests/Slice0.lean ====
section
/-! SUPPORT. The model's own tests: commands that no sender can form, words and examples of the spec, and for every statement states and
operands that meet its hypotheses. A witness lists each hypothesis on its state as a conjunct, in its Bool form where one is in
Laws/Invariant. Where a hypothesis speaks of an opaque constant of Config (a hash, a signature, a turn patch, Drefel's table), the
witness supposes a value of it. -/

namespace Sys2Proof.Tests

open Sys2Proof Sys2Proof.Machine

set_option maxRecDepth 8000
set_option Elab.async false

/-! ### Small states -/

/-- Fields set. -/
def put (s : State) (l : List (Fld × Nat × Nat)) : State := l.foldl (fun s x => s.setFld x.1 x.2.1 x.2.2) s

/-- A line whose first word is `w`. -/
def lineAt (a : Nat) (w : Word) : CLine := ⟨a, leBytes 4 w.toNat ++ List.replicate 60 0#8⟩

/-- Tile 0 runs slot 1, with bank `x` and word `w` at address 0. -/
def runs (w : Word) (x : SlotSt) : State :=
  ((put State.reset [(ctxActV, 0, 1), (ctxAct, 0, 1), (slotState, 1, stActive), (leesHdepth, 1, 1), (leesBase, 1, 0x1000)]).setSlot 0 1 x).setTile 0
    { TileSt.init with icache := [lineAt 0 w] }

/-- A bank with global `n` holding `v`. -/
def bank (l : List (Nat × Word)) : SlotSt := { SlotSt.init with globals := l.foldl (fun g x => g.set x.1 x.2) SlotSt.init.globals }

/-- The word of an instruction. -/
def enc (i : Instr) : Word := (encodeSeq i).getD 0#32

/-- Queue `q` OPEN. -/
def openQ (s : State) (q : Nat) : State := put s [(queState, q, 1)]

/-- Queue `q` OPEN with these words poppable, at pool words 16 on. -/
def holds (s : State) (q : Nat) (l : List QWord) : State :=
  (l.zipIdx.foldl (fun s x => s.setPool (q / 512) (16 + x.2) x.1) (openQ s q)).setQueue q
    { Queue.empty with bank1 := l.zipIdx.map fun x => ⟨16 + x.2, .cmdPath 0, false⟩ }

/-- A line of tile `t` written, its first bytes these. -/
def wrote (s : State) (t off : Nat) (l : List Byte) : State := s.storeBytes t (l.zipIdx.map fun x => (off + x.2, x.1, false))

/-- A command of ring 0 for this device. -/
def cmd1 : Cmd := { remote := 0, ring := 0, view := 0, tag := 1#32, index := 0, order := false, irq := false, pack := false, target := 0#32 }

/-- Drefel runs and the device is READY. -/
def live (s : State) : State := put s [(devFwrun, 0, 1), (devReady, 0, 1)]

/-- Bytes of configuration frame space. -/
def cfsNat (s : State) (a n v : Nat) : State := s.putCfs a (leBytes n v)

/-- Fields of task `k` set. -/
def task (s : State) (k : Nat) (l : List (TFld × Nat)) : State := l.foldl (fun s x => s.setTf x.1 k x.2) s

/-- A packet that has reached its node. -/
def pkt (op : POp) (dest src addr : Nat) : Pkt := { pkt0 with op := op, dest := dest, src := src, addr := addr, tag := 9, local_ := true }

/-- The packet lies in the network. -/
def net (s : State) (p : Pkt) : State := { s with net := [p] }

/-- Command `c` waits for `w`. -/
def waits (s : State) (c : Cmd) (op : Nat) (w : CmdWait) (d : Option Nat) : State :=
  { s with cmds := s.cmds ++ [{ cmd := c, op := op, wait := w, deadline := d }] }

/-- The command answers a next state of which `p` holds. -/
def nextIs (i : Instr) (s : State) (p : State → Bool) : Bool :=
  match exec i s with
  | .next u => p u
  | _ => false

/-! ### Sequencer instructions -/

/-- Tile 0's slot 1 issues `i` now, in a state whose tables are in canonical form. -/
def issues (s : State) (i : Instr) (l : List SReg) : Bool := canonOk s && decide (s.issue 0 i l = some 1)

/-- Globals g1 to g3 hold 5, minus 7 and 8. -/
def bank3 : SlotSt := bank [(1, 5#32), (2, 0xFFFFFFF9#32), (3, 8#32)]

/-- Instruction `i` runs with those globals. -/
def at3 (i : Instr) : State := runs (enc i) bank3

theorem witness_RegisterAndImmediateArithmetic :
    (∀ i ∈ [Instr.add 0 4 2 3, .sub 0 4 2 3, .mul 0 4 2 3, .and_ 0 4 2 3, .or_ 0 4 2 3, .xor_ 0 4 2 3, .shl 0 4 2 3, .shr 0 4 2 3,
      .sar 0 31 2 3, .slt 0 4 2 3, .sltu 0 4 2 3], issues (at3 i) i [if i = .sar 0 31 2 3 then 31 else 4, 2, 3] = true) ∧
    (∀ i ∈ [Instr.addi 0 4 2 0xFFFF#16, .andi 0 4 2 0xFFFF#16, .ori 0 4 2 0xFFFF#16, .shi 0 4 2 0 31, .shi 0 4 2 1 31,
      .shi 0 4 2 2 31, .shi 0 4 2 3 31], issues (at3 i) i [4, 2] = true) ∧
    ∀ i ∈ [Instr.lui 0 4 0x8000#16, .adr 0 4 0xFFFF#16, .rdfl 0 4], issues (at3 i) i [4] = true := by
  decide +kernel

theorem issue_of {s : State} {i : Instr} {l : List SReg} (h : issues s i l = true) : Canon s ∧ s.issue 0 i l = some 1 := by
  simp only [issues, Bool.and_eq_true, decide_eq_true_eq] at h
  exact ⟨canon_of h.1, h.2⟩

theorem witness_JumpsAndLoops :
    issues (at3 (.jmp 0 0x3FFFFFF#26)) (.jmp 0 0x3FFFFFF#26) [] = true ∧ issues (at3 (.jr 0 3)) (.jr 0 3) [3] = true ∧
    ((at3 (.jr 0 3)).gpr 0 1 3).toNat % 4 = 0 ∧
    (∀ n : Fin 6, issues (at3 (.br 0 2 3 n 0x1000#13)) (.br 0 2 3 n 0x1000#13) [2, 3] = true) ∧
    issues (at3 (.loop 0 1 0xFFFF#16)) (.loop 0 1 0xFFFF#16) [1] = true := by
  decide +kernel

/-- Slot 1 with two frames in hardware. -/
def deep (i : Instr) : State := put (runs (enc i) { bank3 with frames :=
  [List.replicate 16 1#32, List.range 16 |>.map (BitVec.ofNat 32), List.replicate 16 3#32] ++ List.replicate 3 (List.replicate 16 0#32) })
  [(leesHdepth, 1, 2)]

theorem witness_CallAndReturnFrames :
    issues (deep (.call 0 5#26)) (.call 0 5#26) frameRegs = true ∧ (deep (.call 0 5#26)).fld leesHdepth 1 < 6 ∧
    issues (deep (.ret 0 3)) (.ret 0 3) (3 :: frameRegs) = true ∧ 1 < (deep (.ret 0 3)).fld leesHdepth 1 ∧
    ((deep (.ret 0 3)).gpr 0 1 3).toNat % 4 = 0 := by
  decide +kernel

/-- The bytes at 512 of tile 0 written, g3 = 512. -/
def mem3 (i : Instr) : State := wrote (runs (enc i) (bank [(2, 0x81828384#32), (3, 0x200#32)])) 0 0x1FE [1#8, 2#8, 0xF3#8, 0x84#8, 5#8, 6#8]

/-- An access of `n` bytes at g3 + m of `s` lies in the own store, aligned, outside every lees. -/
def ownAccess (s : State) (ra : SReg) (m : BitVec 16) (n : Nat) : Bool :=
  let ea := (s.gpr 0 1 ra + m.signExtend 32).toNat
  decide (ea % n = 0 ∧ ea < 0x80000) && !s.inLees 0 ea n

/-- The line of `ea` is written, without error, in no cache, and the line buffer is empty. -/
def cleanLine (s : State) (ea : Nat) : Bool :=
  decide (s.cached 0 ea = none) && decide ((s.tile 0).lineBuf = none) && !s.fresh (s.phys 0 ea) &&
  (List.range 64).all fun x => (s.peek 0 (ea / 64 * 64 + x)).1.kind == 0

theorem witness_LoadsFromTheOwnStore :
    ∀ p ∈ [(Instr.ldb 0 4 3 3#16, 3#16, 1), (.ldbu 0 4 3 3#16, 3#16, 1), (.ldh 0 4 3 2#16, 2#16, 2), (.ldhu 0 4 3 0xFFFE#16, 0xFFFE#16, 2),
        (.ldw 0 4 3 0#16, 0#16, 4)],
      issues (mem3 p.1) p.1 [4, 3] = true ∧ ownAccess (mem3 p.1) 3 p.2.1 p.2.2 = true ∧
      cleanLine (mem3 p.1) ((mem3 p.1).gpr 0 1 3 + p.2.1.signExtend 32).toNat = true := by
  decide +kernel

/-- The line buffer of tile 0 holds two bytes of its own store. -/
def buffered2 : State := (mem3 (.yield 0)).modTile 0 fun x => { x with
  lineBuf := some { spill := false, slot := 1, base := 0x200, window := false, view := 0, pc := 0, bytes := [(3, 9#8), (62, 7#8)] } }

/-- A load result for f3 has come. -/
def result7 : Outst := { outst0 with tag := 7, slot := 1, kind := .load, rd := 19, size := 4, done := true, bits := 0x1234#32 }

def loaded7 : State := (mem3 (.yield 0)).modTile 0 fun x => { x with outst := [result7, { result7 with tag := 8, rd := 20 }] }

/-- The instruction cache of tile 0 misses. -/
def missing : State := (mem3 (.yield 0)).setPc 0 1 0x1C8

theorem witness_StoresAndResults :
    (∀ p ∈ [(Instr.stb 0 2 3 0xFFFF#16, 0xFFFF#16, 1), (.sth 0 2 3 0x3E#16, 0x3E#16, 2), (.stw 0 2 3 0#16, 0#16, 4)],
      issues (mem3 p.1) p.1 [2, 3] = true ∧ ownAccess (mem3 p.1) 3 p.2.1 p.2.2 = true ∧ ((mem3 p.1).tile 0).lineBuf = none) ∧
    canonOk buffered2 = true ∧ buffered2.flag flipArm 0 = false ∧ (buffered2.tile 0).lineBuf.isSome = true ∧
    canonOk loaded7 = true ∧ (loaded7.tile 0).outst.find? (fun o => o.tag == 7 && o.kind == .load && o.done) = some result7 ∧
    loaded7.floorRuns 0 = true ∧ canonOk missing = true ∧ missing.active 0 = some 1 ∧ missing.floorRuns 0 = true ∧
    missing.fetchWord 0 1 = none ∧ missing.inLees 0 0x1C0 64 = false ∧ missing.fresh (missing.phys 0 0x1C0) = false ∧
    ∀ x ∈ List.range 64, (missing.peek 0 (0x1C0 + x)).1.kind = 0 := by
  decide +kernel

/-- Queue 5 OPEN and empty, g5 = 5, g4 = 77. -/
def quiet (i : Instr) : State := openQ (runs (enc i) (bank [(4, 77#32), (5, 5#32)])) 5

/-- Queue 5 with two words. -/
def twoWords (i : Instr) : State := holds (quiet i) 5 [mkWord 42#32 true false false, mkWord 43#32 false true false]

/-- Slot 1 is in the middle of an item that it pushes into queue 5, and of one that it pops from it. -/
def midway (i : Instr) : State := (twoWords i).modQueue 5 fun x => { x with ilock := some (.slot 0 1), itemLen := 2, olock := some (.slot 0 1) }

/-- The first word of an item that slot 1 pops stands in queue 5, its end not yet. -/
def unended (i : Instr) : State := (holds (quiet i) 5 [mkWord 42#32 true false false]).modQueue 5 fun x => { x with olock := some (.slot 0 1) }

/-- Queue 5 with a full filling bank and two words poppable. -/
def full5 (i : Instr) : State := (twoWords i).modQueue 5 fun x => { x with bank0 := (List.range 16).map fun i => ⟨i, .cmdPath 0, false⟩ }

theorem witness_SequencerQueueAccess :
    (∀ ind ∈ [false, true],
      issues (quiet (.qpush 0 4 5 ind true true true false)) (.qpush 0 4 5 ind true true true false) (4 :: indRegs 5 ind) = true ∧
      (quiet (.qpush 0 4 5 ind true true true false)).seqQueue 0 1 5 ind = 5 ∧
      canPushOk (quiet (.qpush 0 4 5 ind true true true false)) 5 = true ∧
      (quiet (.qpush 0 4 5 ind true true true false)).slotOwns 0 1 1 5 = true ∧
      (quiet (.qpush 0 4 5 ind true true true false)).stageOf 0 1 5 = none ∧
      issues (midway (.qpush 0 4 5 ind true false true false)) (.qpush 0 4 5 ind true false true false) (4 :: indRegs 5 ind) = true ∧
      issues (full5 (.qpush 0 4 5 ind true true true false)) (.qpush 0 4 5 ind true true true false) (4 :: indRegs 5 ind) = true ∧
      (full5 (.qpush 0 4 5 ind true true true false)).qFull 5 = true ∧
      issues (twoWords (.qpop 0 4 5 ind true)) (.qpop 0 4 5 ind true) (4 :: indRegs 5 ind) = true ∧
      (twoWords (.qpop 0 4 5 ind true)).slotOwns 0 1 1 5 = true ∧
      canPopOk (twoWords (.qpop 0 4 5 ind true)) 5 (.slot 0 1) (mkWord 42#32 true false false) = true ∧
      (quiet (.qpop 0 4 5 ind true)).poppable 5 (.slot 0 1) = false ∧
      issues (midway (.qdrop 0 5 ind)) (.qdrop 0 5 ind) (indRegs 5 ind) = true ∧
      ((midway (.qdrop 0 5 ind)).queue 5).olock = some (.slot 0 1) ∧ ((midway (.qdrop 0 5 ind)).queue 5).dropping = false ∧
      ((twoWords (.qdrop 0 5 ind)).queue 5).olock ≠ some (.slot 0 1) ∧
      issues (twoWords (.qlvl 0 4 5 ind)) (.qlvl 0 4 5 ind) (4 :: indRegs 5 ind) = true) ∧
    issues (quiet (.qdrop 0 600 false)) (.qdrop 0 600 false) [] = true ∧ (quiet (.qdrop 0 600 false)).slotOwns 0 1 1 600 = true ∧
    (quiet (.qdrop 0 600 false)).netFree 0 = true ∧ ((quiet (.qdrop 0 600 false)).tile 0).outst = [] := by
  decide +kernel

/-- Device time at 1,000. -/
def atTime (s : State) (n : Nat) : State := { s with tim := { s.tim with now := n, running := true } }

theorem witness_WaitsThatHold :
    issues (twoWords (.waitQne 0 5 true 0)) (.waitQne 0 5 true 0) [5] = true ∧
    issues (twoWords (.waitQne 0 0 false 5)) (.waitQne 0 0 false 5) [] = true ∧
    (twoWords (.waitQne 0 0 false 5)).poppable 5 (.slot 0 1) = true ∧ (twoWords (.waitQne 0 0 false 5)).cancelled 0 1 = false ∧
    (twoWords (.waitQne 0 5 true 0)).poppable ((twoWords (.waitQne 0 5 true 0)).waitQ 0 1 5 true 0) (.slot 0 1) = true ∧
    issues (twoWords (.waitQspc 0 0 false 5)) (.waitQspc 0 0 false 5) [] = true ∧
    (twoWords (.waitQspc 0 0 false 5)).slotOwns 0 1 1 5 = true ∧ (twoWords (.waitQspc 0 0 false 5)).roomFor 5 (.slot 0 1) = true ∧
    issues (atTime (quiet (.waitTime 0 4)) 0x50000004D) (.waitTime 0 4) [4, 5] = true ∧
    (quiet (.waitTime 0 4)).guardOf 0 1 = none ∧
    ((quiet (.waitTime 0 4)).gpr 0 1 4).toNat + 2 ^ 32 * ((quiet (.waitTime 0 4)).gpr 0 1 5).toNat = 0x50000004D ∧
    issues (quiet (.waitTime 0 4)) (.waitTime 0 4) [4, 5] = true ∧ (quiet (.waitTime 0 4)).tim.now < 0x50000004D ∧
    issues (quiet (.waitTicks 0 1 0#16)) (.waitTicks 0 1 0#16) [1] = true ∧ (quiet (.waitTicks 0 1 0#16)).gpr 0 1 1 = 0#32 ∧
    issues ((quiet (.waitFpinv 0)).setReg .TIL_FPX 1 1) (.waitFpinv 0) [] = true ∧
    bit (((quiet (.waitFpinv 0)).setReg .TIL_FPX 1 1).reg .TIL_FPX 1) 0 = true := by
  decide +kernel

/-- Task 7 runs in slot 1 of tile 0. -/
def tasked (i : Instr) : State := (quiet i).modSlot 0 1 fun x => { x with task := some 7, flags := 0x70#32 }

/-- Slot 2 of tile 0 waits for time 5, which has come. -/
def waiting5 : State := (atTime (put (quiet (.yield 0)) [(slotState, 2, stSuspended)]) 5).setSlot 0 2
  { SlotSt.init with susp := .waiting (.time 5), task := some 9 }

theorem witness_YieldingTasksTimeAndTraps :
    issues (tasked (.yield 0)) (.yield 0) [] = true ∧ (tasked (.yield 0)).guardOf 0 1 = none ∧
    (tasked (.yield 0)).cancelled 0 1 = false ∧ issues (tasked (.signal 0 4)) (.signal 0 4) [4] = true ∧
    (tasked (.signal 0 4)).slotOwns 0 1 2 77 = true ∧ issues (tasked (.cancel 0 4)) (.cancel 0 4) [4] = true ∧
    issues (atTime (tasked (.rdtime 0 6)) 100) (.rdtime 0 6) [6, 7] = true ∧
    issues (tasked (.fence 0 true true true)) (.fence 0 true true true) [] = true ∧
    (tasked (.fence 0 true true true)).memDone 0 1 = true ∧ (tasked (.fence 0 true true true)).pushDone 0 1 = true ∧
    issues (tasked (.clrfl 0 true false true)) (.clrfl 0 true false true) [] = true ∧
    issues (tasked (.trap 0 3#16)) (.trap 0 3#16) [] = true ∧
    decodeSeq 0 0x2C000000#32 = none ∧ (runs 0x2C000000#32 bank3).fetchWord 0 1 = some 0x2C000000#32 ∧
    canonOk (runs 0x2C000000#32 bank3) = true ∧ (runs 0x2C000000#32 bank3).active 0 = some 1 ∧
    (runs 0x2C000000#32 bank3).floorRuns 0 = true ∧ (runs 0x2C000000#32 bank3).guardOf 0 1 = none ∧
    canonOk waiting5 = true ∧ (waiting5.slot 0 2).susp = .waiting (.time 5) ∧ waiting5.sstate 0 2 = stSuspended ∧
    waiting5.condHolds 0 2 (.time 5) = true ∧ waiting5.guardOf 0 2 = none := by
  decide +kernel

theorem witness_MisalignedAccessesFault :
    ∀ p ∈ [(Instr.ldh 0 2 3 1#16, 1#16, 2), (.ldhu 0 2 3 1#16, 1#16, 2), (.ldw 0 2 3 2#16, 2#16, 4), (.sth 0 2 3 3#16, 3#16, 2),
        (.stw 0 2 3 3#16, 3#16, 4)],
      issues (mem3 p.1) p.1 [2, 3] = true ∧ (mem3 p.1).pc 0 1 < 0x80000 ∧
      ((mem3 p.1).gpr 0 1 3 + p.2.1.signExtend 32).toNat % p.2.2 ≠ 0 := by
  decide +kernel

/-! ### Registers -/

/-- View 3 owns tile 0; DEV_TWSTAT bit 29 is set. -/
def owned3 : State := (put { State.reset with owners := [(0, 3)] } [(⟨.DEV_TWSTAT, 29, 29⟩, 0, 1)])

theorem witness_PlainRegisterWrites :
    canonOk owned3 = true ∧
    (∀ x ∈ [((0 : ViewNo), (0x400030010 : LocalAddr), Reg.TMB_FENCE_NS, 0, true), (0, 0x400000118, .DEV_TWSTAT, 0, true),
        (3, 0x440000200, .TIL_LUT, 0, true), (2, 0x440000200, .TIL_LUT, 0, false)],
      regAt x.2.1.toNat = some (x.2.2.1, x.2.2.2.1, false) ∧ isRegSpace x.2.1.toNat = true ∧ (nodeOf x.2.1.toNat).isSome = true ∧
      x.2.1.toNat % (if x.2.2.1.info.wide then 8 else 4) = 0 ∧
      unitReached x.1 (owned3.owns x.1) x.2.1.toNat true = x.2.2.2.2 ∧ owned3.unitOff x.2.1.toNat = false) ∧
    (put owned3 [(nocState, 0, 2)]).unitOff 0x440000200 = true := by
  decide +kernel

/-- A tenant's command. -/
def cmd3 : Cmd := { cmd1 with ring := 3, view := 3 }

theorem witness_RegisterCommands :
    canonOk (live owned3) = true ∧
    (∀ x ∈ [(cmd3, 0x440000200, 2), (cmd1, 0x400030010, 1), (cmd1, 0x400030024, 1)],
      rangeBad x.2.1 x.2.2 = none ∧ acceptedOk (live owned3) x.1 0xC001 (leBytes 5 x.2.1 ++ leBytes 2 x.2.2) true = true ∧
      (((List.range x.2.2).map (x.2.1 + 4 * ·)).all fun a => unitReached x.1.view ((live owned3).cmdOwns x.1) a false) = true ∧
      ((List.range x.2.2).map (x.2.1 + 4 * ·)).any (live owned3).unitOff = false) ∧
    unitReached 3 ((live owned3).cmdOwns cmd3) 0x440012000 false = false ∧ rangeBad 0x440012000 2 = none ∧
    acceptedOk (live owned3) cmd3 0xC001 (leBytes 5 0x440012000 ++ leBytes 2 2) true = true ∧
    canonOk (put (live owned3) [(nocState, 0, 2)]) = true ∧ (put (live owned3) [(nocState, 0, 2)]).unitOff 0x440000200 = true ∧
    rangeBad 0x440000200 252 = none ∧
    acceptedOk (live owned3) cmd3 0xC002 (leBytes 5 0x440000200 ++ leBytes 2 2 ++ leBytes 1 0 ++ leBytes 4 1 ++ leBytes 4 2) true = true ∧
    unitReached 3 ((live owned3).cmdOwns cmd3) 0x440000200 true = true := by
  decide +kernel

/-! ### Contexts -/

/-- A switch to slot 2 for task 9 is on its way to tile 0, which runs slot 1. -/
def switching : State := ((at3 (.yield 0)).setSlot 0 2 { SlotSt.init with entry := 0x100, task := some 9 }).modTile 0 fun x =>
  { x with switchReq := some ⟨2, 9, true, 0#64, 0#64, []⟩ }

def gcfgOn (s : State) : State := put s [(gcfgAen, 0, 1), (gcfgA, 0, 3), (slotState, 3, stIdle)]

/-- Guard A of tile 0 is slot 3; a notice of cause 5 is under way. -/
def noticed : State := { gcfgOn (at3 (.yield 0)) with notices := [(0, 5, 0)] }

/-- Guard A is pending. -/
def pendingA : State := put ((gcfgOn (at3 (.yield 0))).setSlot 0 3 { SlotSt.init with entry := 0x200 }) [(ctxPendA, 0, 1)]

theorem witness_ContextSwitches :
    canonOk switching = true ∧ (switching.tile 0).switchReq = some ⟨2, 9, true, 0#64, 0#64, []⟩ ∧ switching.floorRuns 0 = true ∧
    switching.guardBusy 0 = false ∧ switching.flag ctxStop 0 = false ∧ canonOk noticed = true ∧
    (noticed.notices.find? fun n => n.1 = 0 ∧ n.2.1 = 5 ∧ noticed.noticeGuard n = some 0) = some (0, 5, 0) ∧
    canonOk pendingA = true ∧ pendingA.guardSlot 0 0 = some 3 ∧ pendingA.mayEnter 0 0 3 = true ∧ pendingA.active 0 = some 1 := by
  decide +kernel

/-- A spilled frame waits in the line buffer. -/
def spilled1 : State := (at3 (.yield 0)).modTile 0 fun x => { x with
  lineBuf := some { spill := true, slot := 1, base := 0x7E000, window := false, view := 0, pc := 0, bytes := [(0, 9#8), (1, 8#8)] } }

/-- Slot 1 waits for its spilled frame. -/
def filling : State := ((put (wrote (at3 (.yield 0)) 0 0x40000 (List.replicate 64 3#8)) [(leesSpilled, 1, 1)]).modTile 0 fun x =>
  { x with fillWait := some 1 }).modSlot 0 1 fun x => { x with retPending := some 0x80 }

/-- Slot 2 is FAULTED with a record. -/
def faulted2 : State := (put (live (at3 (.yield 0))) [(slotState, 2, stFaulted)]).setReg .TIL_FAULT 2 7

theorem witness_SpillsFillsAndSlotReset :
    canonOk spilled1 = true ∧ (spilled1.tile 0).lineBuf.any (·.spill) = true ∧ canonOk filling = true ∧
    (filling.tile 0).fillWait = some 1 ∧ filling.runs 0 1 = true ∧ ((filling.tile 0).lineBuf.any (·.spill)) = false ∧
    ((filling.peekN 0 (filling.spillAt 0 1 0) 64).any (·.2)) = false ∧ filling.fld leesSpilled 1 = 1 ∧
    canonOk faulted2 = true ∧ faulted2.slotResettable 0 2 = true ∧ faulted2.slotResettable 0 1 = false ∧
    acceptedOk faulted2 cmd1 0x1004 (leBytes 2 0 ++ leBytes 1 2) false = true ∧
    acceptedOk faulted2 cmd1 0x1004 (leBytes 2 0 ++ leBytes 1 1) false = true := by
  decide +kernel

/-! ### Wires and cells -/

/-- Tiles 0 and 1 run slot 1; cell 1 of tile 0 drives broadcast line 0, which cell 5 adds to itself; cell 3's east wire goes on
through cell 0 of tile 1 to cell 1 there; lane 8 of the north edge takes the word of cell 0 and push port 0 reads it; send
port 0 reads lane 9; lane 10 takes receive port 3 and push port 1 reads it. -/
def wired : State :=
  let s := put State.reset [(ctxActV, 0, 1), (ctxAct, 0, 1), (ctxActV, 1, 1), (ctxAct, 1, 1)]
  let s := cfsNat s (tileFrame 0 + 0x800 + 0x200) 1 0x81
  let s := cfsNat s (tileFrame 0 + 0x800 + 3 * 0x20) 16 (7 * 2 ^ 10)
  let s := cfsNat s (tileFrame 0 + 0x800 + 5 * 0x20) 16 (32 * 2 ^ 90 + 32 * 2 ^ 84)
  let s := cfsNat s (tileFrame 1 + 0x800) 16 (7 * 2 ^ 10)
  let s := cfsNat s (tileFrame 1 + 0x800 + 0x20) 16 (6 * 2 ^ 90 + 2 ^ 102)
  let s := cfsNat s (floorFrame 0 + 4 * 8) 1 0x42
  let s := cfsNat s (floorFrame 0 + 0x8000) 8 (2 ^ 63 + 8 * 2 ^ 57 + 5 * 2 ^ 46)
  let s := cfsNat s (floorFrame 0 + 0x800) 8 (2 ^ 63 + 9 * 2 ^ 57 + 33 * 2 ^ 49 + 4 * 2 ^ 41)
  let s := cfsNat s (floorFrame 0 + 4 * 10) 1 0x8C
  cfsNat s (floorFrame 0 + 0x8008) 8 (2 ^ 63 + 10 * 2 ^ 57 + 6 * 2 ^ 46)

/-- Driver `w` holds `tok`. -/
def holdsAt (w : Wire) (k : Nat) (tok : Tok) : State := wired.setHeld w k (some { tok := tok, served := [] })

def tok7 : Tok := ⟨7#32, true⟩

/-- A bridge word has arrived for receive port 3 of floor 0. -/
def bridgePkt : Pkt := { pkt0 with op := .bridge, src := 600, addr := 3, data := (leBytes 4 9).map some, psn := 1, local_ := true }

theorem witness_TokensMoveAlongWires :
    canonOk (holdsAt (.loc 0 2 1 0) 1 tok7) = true ∧ canMoveOk (holdsAt (.loc 0 2 1 0) 1 tok7) (.loc 0 2 1 0) 1 (.loc 0 3 1 0) 1 tok7 = true ∧
    (holdsAt (.loc 0 2 1 0) 1 tok7).stageReaders (.loc 0 2 1 0) 1 = [(.loc 0 3 1 0, 1)] ∧
    canMoveOk (holdsAt (.loc 0 3 1 0) 1 tok7) (.loc 0 3 1 0) 1 (.loc 1 0 1 0) 1 tok7 = true ∧
    (holdsAt (.loc 0 3 1 0) 1 tok7).stageReaders (.loc 0 3 1 0) 1 = [(.loc 1 0 1 0, 1)] ∧
    wired.stageSource 0 (.lane 0 0 8 0) = some (.y 0 0) ∧ wired.stageSlot 0 (.lane 0 0 8 0) = 1 ∧
    canMoveOk (holdsAt (.y 0 0) 1 tok7) (.y 0 0) 1 (.lane 0 0 8 0) 0 tok7 = true ∧
    portLane 0 (wired.bsRec 0 0) = some (.lane 0 0 9 0) ∧
    (holdsAt (.lane 0 0 9 0) 0 tok7).offered (.lane 0 0 9 0) 0 (.bs 0 0) = some tok7 ∧
    tget 0 (wired.floor 0).bsCredit 0 < 4 ∧ ({ wired with net := [bridgePkt] }).arrived bridgePkt = true ∧
    wired.floorOpen 0 = true ∧ bit (wired.popRec 0 3) 63 = false ∧ wired.stageReaders (.brecv 0 3) 0 ≠ [] ∧
    wired.held (.brecv 0 3) 0 = none := by
  decide +kernel

/-- Cell 5 of tile 0 reads broadcast line 0 on both ports and predicate line 0; cell 1 drives them with its Y and P. -/
def celled : State :=
  let s := cfsNat wired (tileFrame 0 + 0x800 + 0x208) 1 0x81
  let s := cfsNat s (tileFrame 0 + 0x800 + 5 * 0x20) 16 (1 * 2 ^ 98 + 32 * 2 ^ 90 + 32 * 2 ^ 84 + 5 * 2 ^ 66)
  cfsNat s (tileFrame 0 + 0x800 + 1 * 0x20) 16 (2 ^ 104 + 2 ^ 97 + 2 ^ 96)

/-- Cell 1 offers both. -/
def firing : State :=
  (celled.setHeld (.y 0 1) 1 (some { tok := tok7, served := [] })).setHeld (.p 0 1) 1 (some { tok := ⟨0#32, false⟩, served := [] })

/-- An operand set with A = 5, B = 6 and E = 0. -/
def ops56 : OpSet :=
  { a := 5#64, b := 6#64, c := 0#64, d := 0#64, e := false, sel := 0#32, k0 := 0#64, k1 := 0#64, lut := 0#64, psn := false,
    psnA := false, psnB := false, psnC := false, psnD := false }

/-- Cells 1 and 5 of tile 0 have accepted it. -/
def emitting : State := (celled.setCell 0 1 1 { CellSt.init with ops := [ops56] }).setCell 0 1 5 { CellSt.init with ops := [ops56] }

theorem witness_CellsFireAndEmit :
    canonOk firing = true ∧ firing.active 0 = some 1 ∧ firing.runs 0 1 = true ∧ (firing.fireSet 0 1 5).isSome = true ∧
    canonOk emitting = true ∧ (emitting.cell 0 1 1).ops = [ops56] ∧ emitting.fld nocState 0 ≤ 1 ∧ emitting.outFree 0 1 1 = true ∧
    (decodeCfg (emitting.cellCfg 0 1 1)).emode = 0 ∧ (decodeCfg (emitting.cellCfg 0 1 1)).fmt ≠ fmtD ∧
    emitting.readers (.y 0 1) 1 ≠ [] ∧ (decodeCfg (emitting.cellCfg 0 1 1)).pen = true ∧ emitting.readers (.p 0 1) 1 ≠ [] ∧
    (emitting.cell 0 1 5).ops = [ops56] ∧ emitting.outFree 0 1 5 = true ∧ (decodeCfg (emitting.cellCfg 0 1 5)).emode = 1 ∧
    ops56.e = false := by
  decide +kernel

/-- A configuration word with this operation and format. -/
def cfgOf (opc fmt sat : Nat) : CellCfg := decodeCfg (opc * 2 ^ 120 + fmt * 2 ^ 118 + sat * 2 ^ 117 + 2 ^ 66)

theorem witness_CellResults :
    (cfgOf opAdd fmtI 0).fmt = fmtI ∧ (cfgOf opAdd fmtI 0).sat = false ∧ (cfgOf opAdd fmtI 0).opc = opAdd ∧
    (cfgOf opAdd fmtI 1).sat = true ∧ (cfgOf opQadd fmtQ 0).fmt = fmtQ ∧ (cfgOf opQadd fmtQ 0).opc = opQadd ∧
    (cfgOf opQshl fmtQ 0).opc = opQshl ∧ (cfgOf opCmplt fmtI 0).opc = opCmplt ∧ (cfgOf opSel2 fmtI 0).opc = opSel2 ∧
    (decodeCfg (opCount * 2 ^ 120 + 2 ^ 100)).csrc ≠ 0 ∧ (decodeCfg (opCount * 2 ^ 120 + 2 ^ 100)).opc = opCount := by
  decide +kernel

/-! ### The scheduler -/

/-- Task 7 ARMED with every trigger, image 5, pool of tile 2, its queue 5 with one item; slot 4 of tile 2 is IDLE with image 5. -/
def armed7 : State := put (task (atTime (holds State.reset 5 [mkWord 1#32 true true false]) 1000) 7
  [(tkImg, 5), (tkPri, 3), (tkTqne, 1), (tkTdly, 1), (tkDly, 9), (tkTstep, 1), (tkBatch, 2), (tkTsig, 1), (tkPool, 4), (tkTq, 5), (tkState, 1), (tkPend, 2)])
  [(slotState, 20, stIdle), (slotImg, 20, 5)]

def delayed7 : State := armed7.modFloor 0 fun x => { x with delay := [(999, .task 7)] }

/-- A released hole of flow 4. -/
def hole4 : State := (put armed7 [(flowEn, 4, 1), (flowInuse, 4, 2), (flowRel, 4, 65535)]).modFloor 0 fun x =>
  { x with seq := [⟨1, 4, some 65535, true, true⟩, ⟨2, 4, none, false, false⟩] }

theorem witness_TriggersSignalsAndCancels :
    canonOk armed7 = true ∧ armed7.tf tkState 7 = 1 ∧ armed7.tf tkPend 7 < 255 ∧ armed7.tf tkTqne 7 = 1 ∧
    0 < armed7.uncredited (armed7.tqOf 7) ∧ canonOk delayed7 = true ∧ (delayed7.floor 0).delay = [(999, .task 7)] ∧
    999 ≤ delayed7.tim.now ∧ (net armed7 (pkt .signal 0 5 7)).arrived (pkt .signal 0 5 7) = true ∧
    (net armed7 (pkt .signal 0 5 7)).fenced (pkt .signal 0 5 7) = false ∧ homeFloor 7 = 0 ∧ armed7.tf tkTsig 7 = 1 ∧
    (net armed7 (pkt .cancel 0 5 7)).arrived (pkt .cancel 0 5 7) = true ∧ canonOk hole4 = true ∧
    ((hole4.floor 0).seq.find? fun e => e.flow == 4 && e.closed && e.num == some (hole4.fld flowRel 4)) =
      some ⟨1, 4, some 65535, true, true⟩ := by
  decide +kernel

def decide7 : State := armed7.modFloor 0 fun x => { x with ready := [(3, .new 7), (4, .new 8)] }
def resume7 : State := ((put armed7 [(slotState, 16, stSuspended)]).modSlot 2 0 fun x => { x with task := some 7 }).modFloor 0
  fun x => { x with ready := [(3, .resume 2 0), (4, .new 8)] }
/-- Floor 0 has sent a DISPATCH of task 7 to tile 18. -/
def sent7 : State := net ((put armed7 [(slotState, 144, stIdle), (slotImg, 144, 5)]).modFloor 0 fun x =>
  { x with dispatches := [⟨9, 7, 18, 0, none, false⟩] }) (pkt .dispatch 1 512 7)

/-- Task 7 may roam to floor 1, where slot 0 of tile 18 is free; its own slot is not. -/
def roam7 : State := (put (task decide7 7 [(tkRoam, 1), (tkRoamf, 2)]) [(slotState, 20, stActive), (slotState, 144, stIdle), (slotImg, 144, 5)])
/-- Task 7 with flow 4, behind a slot of tile 3 that waits for its tile. -/
def flow7 : State := (put (task decide7 7 [(tkFlowen, 1), (tkFlow, 4)]) [(flowEn, 4, 1), (flowMax, 4, 3), (ctxStop, 3, 1)]).modFloor 0
  fun x => { x with ready := [(2, .resume 3 1), (3, .new 7)] }
/-- The OK to that DISPATCH has come back. -/
def told7 : State := { sent7 with net := [pkt .rsp 0 512 0] }

theorem witness_DispatchDecisions :
    canonOk decide7 = true ∧ decide7.fld nocState 0 ≤ 1 ∧ (decide7.floor 0).ready = [(3, .new 7), (4, .new 8)] ∧
    (decide7.floor 0).dispatches.any (·.task = 7) = false ∧ decide7.tf tkFlowen 7 = 0 ∧ decide7.place 7 = some (2, 4) ∧
    0 < decide7.tf tkPend 7 ∧ decide7.tf tkRun 7 < 15 ∧ (decide7.task 7).early = 0 ∧
    canonOk flow7 = true ∧ (flow7.floor 0).ready = [(2, .resume 3 1), (3, .new 7)] ∧ flow7.available 3 2 = false ∧
    flow7.seqFree 7 = true ∧ flow7.place 7 = some (2, 4) ∧ canonOk roam7 = true ∧ roam7.place 7 = some (18, 0) ∧
    canonOk resume7 = true ∧ (resume7.floor 0).ready = [(3, .resume 2 0), (4, .new 8)] ∧ resume7.available 2 3 = true ∧
    (resume7.slot 2 0).moving = false ∧ canonOk sent7 = true ∧ sent7.arrived (pkt .dispatch 1 512 7) = true ∧
    sent7.fenced (pkt .dispatch 1 512 7) = false ∧ sent7.dispatchOf (pkt .dispatch 1 512 7) = some ⟨9, 7, 18, 0, none, false⟩ ∧
    sent7.available 18 (sent7.tf tkPri 7) = true ∧ sent7.slotFree 18 (sent7.tf tkImg 7) 0 = true ∧
    (put sent7 [(ctxStop, 18, 1)]).available 18 3 = false ∧ (put sent7 [(nocState, 1, 1)]).fenced (pkt .dispatch 1 512 7) = true ∧
    (net armed7 (pkt .dispatch 1 512 7)).dispatchOf (pkt .dispatch 1 512 7) = none ∧
    (net armed7 (pkt .dispatch 1 512 7)).arrived (pkt .dispatch 1 512 7) = true ∧
    told7.arrived (pkt .rsp 0 512 0) = true ∧ ((told7.floor 0).dispatches.find? (·.tag == 9)) = some ⟨9, 7, 18, 0, none, false⟩ := by
  decide +kernel

/-- Task 9 DISABLED, its words all 0. -/
def cmdState : State := live armed7

theorem witness_TaskCommands :
    canonOk cmdState = true ∧ cmdState.owns 0 2 9 = true ∧ cmdState.floorOpen (homeFloor 9) = true ∧ cmdState.tf tkState 9 = 0 ∧
    cmdState.tf tkState 7 ≠ 0 ∧ cmdState.cmdOwns cmd1 2 7 = true ∧
    acceptedOk cmdState cmd1 0x2001 (leBytes 2 7 ++ leBytes 1 1) true = true ∧ cmdState.descBad 7 = false ∧
    cmdState.descOwned 0 7 = true ∧ (task cmdState 7 [(tkState, 3)]).descOwned 0 7 = true ∧
    acceptedOk (task cmdState 7 [(tkState, 3)]) cmd1 0x2001 (leBytes 2 7 ++ leBytes 1 1) true = true ∧
    (task cmdState 7 [(tkState, 3)]).tf tkState 7 = 3 ∧
    acceptedOk cmdState cmd1 0x2002 (leBytes 2 7 ++ leBytes 1 253) true = true ∧ cmdState.tf tkTsig 7 = 1 ∧
    cmdState.tf tkState 7 = 1 ∧ cmdState.tf tkPend 7 + 253 ≤ 255 ∧ acceptedOk cmdState cmd1 0x2003 (leBytes 2 7) true = true ∧
    acceptedOk cmdState cmd1 0x2005 (leBytes 2 7) true = true := by
  decide +kernel

/-- Task 7 DRAINING with nothing pending; its command waits, past its deadline. -/
def draining7 : State := waits (task cmdState 7 [(tkState, 2), (tkPend, 0)]) { cmd1 with tag := 5#32 } 0x2004 (.taskDrain 7) (some 0)

theorem witness_TasksDrainAndAbort :
    acceptedOk cmdState cmd1 0x2004 (leBytes 2 7 ++ leBytes 1 0 ++ leBytes 2 100) true = true ∧
    acceptedOk cmdState cmd1 0x2004 (leBytes 2 9 ++ leBytes 1 0 ++ leBytes 2 100) true = true ∧
    acceptedOk cmdState cmd1 0x2004 (leBytes 2 7 ++ leBytes 1 1 ++ leBytes 2 100) true = true ∧ cmd1.pack = false ∧
    cmdState.waitsFor (.taskDrain 7) = false ∧ canonOk draining7 = true ∧ draining7.tf tkState 7 = 2 ∧ draining7.tf tkPend 7 = 0 ∧
    draining7.tf tkRun 7 = 0 ∧
    draining7.cmds = [{ cmd := { cmd1 with tag := 5#32 }, op := 0x2004, wait := .taskDrain 7, deadline := some 0 }] ∧
    0 ≤ draining7.tim.clk ∧ draining7.orphans.contains { cmd1 with tag := 5#32 } = false := by
  decide +kernel

/-! ### Batches -/

/-- Batch 2, of task 7: period 5,000, phase 100, deadline 4,000, next step at 900. -/
def batch2 : State := (((put (live armed7) [(bctlEn, 2, 1), (bctlOvr, 2, 1)]).setReg .TMB_BPER 2 5000).setReg .TMB_BPHS 2 100).setReg .TMB_BDL 2 4000
  |>.setReg .TMB_BNEXT 2 900

/-- It is disabled. -/
def batch2off : State := put batch2 [(bctlEn, 2, 0)]

/-- Its deadline has come. -/
def batch2late : State := atTime (batch2.setBatch 2 { BatchSt.init with step := some 900 }) 4900

/-- Task 7 is idle. -/
def batch2idle : State := task batch2 7 [(tkPend, 0)]

theorem witness_BatchesStep :
    canonOk batch2 = true ∧ batch2.tim.running = true ∧ batch2.flag bctlEn 2 = true ∧ batch2.reg .TMB_BNEXT 2 ≤ batch2.tim.now ∧
    batch2.reg .TMB_BNEXT 2 + batch2.reg .TMB_BPER 2 < 2 ^ 64 ∧ (net batch2 (pkt .step 0 560 2)).arrived (pkt .step 0 560 2) = true ∧
    (net batch2 (pkt .step 0 560 2)).freezeFirst (pkt .step 0 560 2) = false ∧
    (net batch2 (pkt .step 0 560 2)).fenced (pkt .step 0 560 2) = false ∧ 7 ∈ batch2.members 2 ∧ batch2.tf tkState 7 = 1 ∧
    batch2.tf tkPend 7 < 255 ∧ canonOk batch2late = true ∧ (batch2late.batch 2).step = some 900 ∧
    900 + batch2late.reg .TMB_BDL 2 ≤ batch2late.tim.now ∧ canonOk batch2off = true ∧
    acceptedOk batch2off cmd1 0x2006 (leBytes 1 2) true = true ∧ batch2off.cmdOwns cmd1 3 2 = true ∧
    batch2off.flag bctlEn 2 = false ∧ batch2off.batchRefused 2 = false ∧ (batch2off.setReg .TMB_BDL 2 5001).batchRefused 2 = true ∧
    acceptedOk batch2 cmd1 0x2007 (leBytes 1 2 ++ leBytes 1 0 ++ leBytes 2 100) true = true ∧
    acceptedOk batch2 cmd1 0x2007 (leBytes 1 2 ++ leBytes 1 1 ++ leBytes 2 100) true = true ∧
    (waits batch2idle cmd1 0x2007 (.batchDrain 2) none).waitsFor (.batchDrain 2) = true ∧
    (waits batch2idle cmd1 0x2007 (.batchDrain 2) none).batchIdle 2 = true ∧ batch2.owns 0 3 2 = true := by
  decide +kernel

/-! ### Queues -/

/-- Queue 5 OPEN with a whole item in its filling bank. -/
def filled5 : State := ((openQ (live State.reset) 5).setPool 0 3 (mkWord 42#32 true true false)).setQueue 5
  { Queue.empty with bank0 := [⟨3, .cmdPath 0, false⟩] }

/-- Queue 5 OPEN, an item of the command path open in it since long ago. -/
def locked5 : State := { (filled5.modQueue 5 fun x => { x with ilock := some (.cmdPath 0) }) with tim := { TimeSt.init with dev := 2000000 } }

/-- A truncation word waits. -/
def trunc5 : State := locked5.modQueue 5 fun x => { x with truncWait := true }

/-- It waits in an item that is staged for flow entry 4 and whose producer is to be skipped. -/
def truncStaged5 : State := trunc5.modQueue 5 fun x => { x with fl := some 4, skip := true }

/-- It waits in an item that a consumer drops. -/
def truncDropped5 : State := trunc5.modQueue 5 fun x => { x with dropping := true, olock := some (.slot 0 1) }

/-- Queue 5 DRAINING, empty, a command waiting. -/
def drained5 : State := waits (put (live State.reset) [(queState, 5, 2)]) cmd1 0x3005 (.queueDrain 5) none

theorem witness_QueueEngineSteps :
    canonOk filled5 = true ∧ (filled5.queue 5).drain = [] ∧ (∃ e ∈ (filled5.queue 5).fill, filled5.entEop 5 e = true) ∧ canonOk trunc5 = true ∧ (trunc5.queue 5).truncWait = true ∧
    trunc5.qFull 5 = false ∧ (trunc5.queue 5).ilock = some (.cmdPath 0) ∧ canonOk truncStaged5 = true ∧ (truncStaged5.queue 5).truncWait = true ∧
    truncStaged5.qFull 5 = false ∧ (truncStaged5.queue 5).fl = some 4 ∧ canonOk truncDropped5 = true ∧
    (truncDropped5.queue 5).truncWait = true ∧ truncDropped5.qFull 5 = false ∧ (truncDropped5.queue 5).dropping = true ∧ State.reset.owns 0 1 5 = true ∧
    State.reset.floorOpen 0 = true ∧ State.reset.fld queState 5 = 0 ∧
    (State.reset.cfgFields 0 5 0x8040000000000000).enableRefused 5 = false ∧ filled5.qOpen 5 = true ∧ canonOk drained5 = true ∧
    drained5.drainReady 5 = true ∧ canonOk locked5 = true ∧ (locked5.queue 5).lastAcc + 1000000 ≤ locked5.tim.dev ∧
    (locked5.queue 5).skip = false ∧ (locked5.queue 5).truncWait = false ∧ locked5.qFull 5 = false := by
  decide +kernel

/-- Lane 8 of floor 0 holds a word for push port 0, whose queue 5 is OPEN and empty. -/
def pushing : State := openQ (holdsAt (.lane 0 0 8 0) 0 tok7) 5

/-- Receive port 3 of floor 0 pops from queue 7. -/
def popping : State := holds (cfsNat wired (floorFrame 0 + 0x8098) 8 (2 ^ 63 + 7 * 2 ^ 54)) 7 [mkWord 42#32 true true true]

theorem witness_FabricQueuePorts :
    canonOk pushing = true ∧ portLane 0 (pushing.qiRec 0 0) = some (.lane 0 0 8 0) ∧
    pushing.offered (.lane 0 0 8 0) 0 (.qi 0 0) = some tok7 ∧ tget 0 (pushing.floor 0).qiCount 0 = 0 ∧
    canPushOk pushing (512 * 0 + bits (pushing.qiRec 0 0) 54 46) = true ∧ canonOk popping = true ∧ bit (popping.popRec 0 3) 63 = true ∧
    popping.held (.brecv 0 3) 0 = none ∧ popping.readers (.brecv 0 3) 0 ≠ [] ∧
    canPopOk popping (512 * 0 + bits (popping.popRec 0 3) 62 54) (.popPort 0 3) (mkWord 42#32 true true true) = true := by
  decide +kernel

/-- Queue 5 with one item of two words poppable, one of it credited to task 7's trigger. -/
def cmdQ : State := holds (live State.reset) 5 [mkWord 42#32 true false false, mkWord 43#32 false true true]

/-- The command path holds its output lock. -/
def cmdQLocked : State := cmdQ.modQueue 5 fun x => { x with olock := some (.cmdPath 0) }

theorem witness_QueueCommands :
    canonOk cmdQ = true ∧ cmdQ.cmdOwns cmd1 1 5 = true ∧ cmdQ.floorOpen 0 = true ∧
    acceptedOk cmdQ cmd1 0x3001 (pushParams 5 [7#32] [3#8]) true = true ∧ cmdQ.noNewItem 5 (.cmdPath 0) = false ∧
    canPushOk cmdQ 5 = true ∧ (put cmdQ [(queState, 5, 0)]).noNewItem 5 (.cmdPath 0) = true ∧
    acceptedOk cmdQ cmd1 0x3002 (leBytes 2 5 ++ leBytes 1 1) true = true ∧
    canPopOk cmdQ 5 (.cmdPath 0) (mkWord 42#32 true false false) = true ∧ filled5.poppable 5 (.cmdPath 0) = false ∧
    acceptedOk filled5 cmd1 0x3002 (leBytes 2 5 ++ leBytes 1 1) true = true ∧
    acceptedOk cmdQ cmd1 0x3003 (leBytes 2 5) true = true ∧ (cmdQ.queue 5).olock ≠ some (.cmdPath 0) ∧
    acceptedOk cmdQLocked cmd1 0x3003 (leBytes 2 5) true = true ∧ (cmdQLocked.queue 5).olock = some (.cmdPath 0) ∧
    (cmdQLocked.queue 5).dropping = false ∧
    acceptedOk cmdQ cmd1 0x3004 (leBytes 2 5) true = true ∧ cmdQ.fld queState 5 ≠ 0 ∧
    acceptedOk cmdQ cmd1 0x3005 (leBytes 2 5 ++ leBytes 1 0 ++ leBytes 2 9) true = true ∧
    acceptedOk cmdQ cmd1 0x3005 (leBytes 2 5 ++ leBytes 1 1 ++ leBytes 2 9) true = true ∧
    cmdQ.waitsFor (.queueDrain 5) = false ∧ (cmdQ.queue 5).ilock = none ∧ acceptedOk cmdQ cmd1 0x3006 (leBytes 2 5) true = true := by
  decide +kernel

/-- Grader job 0 of floor 0 reads queue 5 and writes queue 6. -/
def grading : State := (openQ cmdQ 6).setReg .GRD_JOB 0 (2 ^ 63 + 6 * 2 ^ 18 + 5 * 2 ^ 9)

/-- It has sorted two keys. -/
def graded : State := grading.modFloor 0 fun x => { x with
  grader := some { job := 0, oq := 6, out := [mkWord 1#32 true false false, mkWord 0#32 false true false], keys := 2 } }

theorem witness_GraderSortsAndJobs :
    canonOk grading = true ∧ (grading.floor 0).grader = none ∧ (List.range 4).find? (grading.jobReady 0) = some 0 ∧
    canonOk graded = true ∧ (graded.floor 0).grader.isSome = true ∧
    (graded.pushOut 6 (.grader 0 0) [mkWord 1#32 true false false, mkWord 0#32 false true false]).1 = [] := by
  decide +kernel

/-! ### Packets -/

def rd (dest addr size : Nat) : Pkt := { pkt .rd dest 3 addr with size := size }
def wr (dest addr size : Nat) (data : List (Option Byte)) : Pkt := { pkt .wr dest 3 addr with size := size, data := data, psn := 1 }
def cfgwr (src : Nat) : Pkt := { pkt .cfgwr 0 src (tileFrame 3) with size := 4, data := List.replicate 64 (some 7#8) }

/-- A written line of tile 1; host window segment 0 mapped; a register to read. -/
def served : State := ((wrote State.reset 1 0x40 [1#8, 2#8, 3#8, 4#8]).setReg .CMD_HMW 0 (2 ^ 63)).setReg .TMB_FENCE_NS 0 77

theorem witness_ReadPackets :
    canonOk served = true ∧ (net served (rd 0 0x80040 2)).reqArrived (rd 0 0x80040 2) .rd = true ∧
    (net served (rd 0 0x80041 2)).pktFault (rd 0 0x80041 2) false = some stBadParam ∧
    (net served (rd 0 0x80040 2)).pktFault (rd 0 0x80040 2) false = none ∧ spaceOf 0x80040 = .store 1 0x40 ∧
    (∀ i ∈ List.range 64, ((net served (rd 0 0x80040 2)).peek 1 (0x40 + i)).1.kind = 0) ∧
    (net served (rd 32 0x400030010 2)).pktFault (rd 32 0x400030010 2) false = none ∧ spaceOf 0x400030010 = .regs ∧
    (net served (rd 0 0x200000040 3)).pktFault (rd 0 0x200000040 3) false = none ∧ spaceOf 0x200000040 = .desc 0 0x40 ∧
    (net served (rd 32 0x800000000 4)).pktFault (rd 32 0x800000000 4) false = none ∧ spaceOf 0x800000000 = .host := by
  decide +kernel

/-- Eight bytes of which one is not enabled, the first word poisoned. -/
def wr8 : Pkt := wr 0 0x80048 3 [some 1#8, some 2#8, none, some 4#8, some 5#8, some 6#8, some 7#8, some 8#8]

theorem witness_WritePackets :
    (net served wr8).reqArrived wr8 .wr = true ∧ (net served wr8).pktFault wr8 true = none ∧ spaceOf wr8.addr = .store 1 0x48 ∧
    (net served wr8).sharers = [] ∧ (net served wr8).flag flipArm 0 = false ∧ canonOk (net served wr8) = true ∧
    (net served { wr8 with dest := 1 }).pktFault { wr8 with dest := 1 } true = some stNoRoute ∧
    (net served (cfgwr 559)).reqArrived (cfgwr 559) .cfgwr = true ∧ (cfgwr 559).data.length = 64 ∧ (cfgwr 559).addr % 64 = 0 ∧
    spaceOf (cfgwr 559).addr = .frames ∧ (net served (cfgwr 3)).reqArrived (cfgwr 3) .cfgwr = true ∧
    (net served (cfgwr 3)).fenced (cfgwr 3) = false := by
  decide +kernel

def qpkt (op : POp) (nb : Bool) : Pkt :=
  { pkt op 0 557 5 with nb := nb, sop := true, eop := true, data := if op = .qpush then (leBytes 4 77).map some else [] }

/-- A parked QPOP of queue 5. -/
def parked5 : State := cmdQ.modFloor 0 fun x => { x with park := [qpkt .qpop false] }

/-- A parked QPUSH. -/
def parkedPush5 : State := cmdQ.modFloor 0 fun x => { x with park := [qpkt .qpush false] }

theorem witness_QueuePackets :
    (∀ op ∈ [POp.qpush, .qpop, .qdrop, .qlvl], (net cmdQ (qpkt op false)).queueArrived (qpkt op false) op = true ∧
      (net cmdQ (qpkt op false)).fenced (qpkt op false) = false ∧ (net cmdQ (qpkt op false)).pktOwns (qpkt op false) 5 = true ∧ lenOk (qpkt op false) = true ∧
      lenOk { qpkt op false with data := [some 0#8] } = false ∧
      (net (put cmdQ [(nocState, 0, 1)]) (qpkt op false)).fenced (qpkt op false) = true ∧
      (net cmdQ { qpkt op false with view := 3, src := 556 }).pktOwns { qpkt op false with view := 3, src := 556 } 5 = false) ∧
    canonOk cmdQ = true ∧ (cmdQ.floor 0).park = [] ∧ canPushOk cmdQ 5 = true ∧ (qpkt .qpush false).sop = true ∧
    pktAgent (qpkt .qpop false) = .cmdPath 0 ∧ (cmdQ.queue 5).olock ≠ some (pktAgent (qpkt .qdrop false)) ∧
    (net filled5 (qpkt .qpop true)).queueArrived (qpkt .qpop true) .qpop = true ∧ canonOk filled5 = true ∧
    canonOk parkedPush5 = true ∧ (parkedPush5.floor 0).park = [qpkt .qpush false] ∧
    canonOk parked5 = true ∧ (parked5.floor 0).park = [qpkt .qpop false] ∧
    canPopOk parked5 5 (.cmdPath 0) (mkWord 42#32 true false false) = true := by
  decide +kernel

/-- An answer for request 9 of tile 3, and the requests it may answer. -/
def rsp9 : Pkt := { pkt .rsp 0 3 0 with result := 12 }
def dat9 : Pkt := { pkt .datShort 0 3 0 with data := (leBytes 4 0x8001).map some }
def asked (o : Outst) : State := State.reset.setTile 3 { TileSt.init with outst := [{ o with tag := 9 }] }
def lvl9 : Outst := { outst0 with slot := 1, kind := .qlvl, rd := 20 }
def load9 : Outst := { outst0 with slot := 1, kind := .load, rd := 21, size := 2, sext := true }
def push9 : Outst := { outst0 with slot := 1, kind := .qpush, queue := 600, resend := true }
/-- An invalidation of line 1 for tile 3, and its acknowledgement for the write that waits at tile 3. -/
def inv3 : Pkt := { pkt .inv 0 5 1 with result := 3 }
def ack3 : Pkt := { pkt .invAck 0 5 0 with result := 3 }
def caching : State := State.reset.setTile 3 { TileSt.init with dcache := [lineAt 0x40 1#32, lineAt 0x80 2#32] }
def writing : State := State.reset.setTile 3 { TileSt.init with wrWait := [([9], wr8)] }

theorem witness_SnoopsAndAnswers :
    canonOk (net caching inv3) = true ∧ (net caching inv3).arrived inv3 = true ∧ canonOk (net writing ack3) = true ∧
    (net writing ack3).arrived ack3 = true ∧ (writing.tile 3).wrWait = [([9], wr8)] ∧ canonOk (net (asked lvl9) rsp9) = true ∧
    (net (asked lvl9) rsp9).arrived rsp9 = true ∧ pktAnswer rsp9 = true ∧
    ((asked lvl9).tile 3).outst.find? (fun o => o.tag == 9 && !o.done) = some { lvl9 with tag := 9 } ∧
    (net (asked load9) dat9).arrived dat9 = true ∧
    ((asked load9).tile 3).outst.find? (fun o => o.tag == 9 && !o.done) = some { load9 with tag := 9 } ∧
    (State.reset.tile 3).outst.find? (fun o => o.tag == 9 && !o.done) = none ∧ canonOk (asked push9) = true ∧
    ((asked push9).tile 3).outst.find? (fun o => o.tag == 9 && o.resend) = some { push9 with tag := 9 } := by
  decide +kernel

/-! ### Routes and power -/

/-- Router 0 sends packets for the rim node by port 1; the rim router delivers them; every floor but floor 0 is off. -/
def routed : State :=
  put ((live State.reset).setReg .NOC_RT 32 0x81111000 |>.setReg .NOC_RT (128 * 52 + 32) 0x84444000 |>.setReg .NOC_RT (128 * 52 + 96) 0x84444000)
    ((List.range 31).map fun f => (nocState, f + 1, 3))

/-- Floor 0 is off as well. -/
def rimOnly : State := put (routed.setReg .NOC_RT 32 0) [(nocState, 0, 3)]

/-- A read request of tile 3 at router `r`, for node `e`. -/
def travelling (r e : Nat) : Pkt := { rd e 0 2 with router := r, local_ := false }

/-- A posted line with data at router 0. -/
def posted : Pkt := { pkt .bridge 32 512 0 with data := (leBytes 4 1).map some, local_ := false }

theorem witness_RoutersForward :
    canonOk (net routed posted) = true ∧ (net routed posted).isNext posted = true ∧ (net routed posted).floorOpen 0 = true ∧
    hopOf routed.activeBank 0 32 (pktNet posted) = .router 32 ∧
    canonOk (net routed (travelling 52 32)) = true ∧ leaving (travelling 52 32) 52 = false ∧
    (net routed (travelling 52 32)).isNext (travelling 52 32) = true ∧
    hopOf routed.activeBank 52 32 (pktNet (travelling 52 32)) = .here ∧
    hopOf routed.activeBank 0 7 (pktNet (travelling 0 7)) = .none ∧ isRequest (travelling 0 7) = true := by
  decide +kernel

/-- An ORDER = 1 commit waits for a packet under way, and its command for its timeout. -/
def committing : State := waits { net rimOnly { posted with router := 40 } with
  noc := { NocSt.init with draining := true, since := 0 }, tim := { TimeSt.init with clk := 2000 } } cmd1 0x4002 .routeCommit (some 1000)

theorem witness_RoutePlansAndStatistics :
    canonOk rimOnly = true ∧ acceptedOk rimOnly cmd1 0x4001 (changeBytes [(52, 32, 2, 5)]) false = true ∧ changeFault [(52, 32, 2, 5)] = none ∧
    tableFault (changeTable rimOnly.activeBank (52, 32, 2, 5)) rimOnly.floorDown = none ∧ rimOnly.routing = false ∧
    tableFault (rimOnly.bank (1 - rimOnly.fld nocActive 0)) rimOnly.floorDown = none ∧
    acceptedOk rimOnly cmd1 0x4002 (leBytes 1 0 ++ leBytes 2 1) false = true ∧
    acceptedOk rimOnly cmd1 0x4002 (leBytes 1 1 ++ leBytes 2 1) false = true ∧ canonOk committing = true ∧
    committing.netEmpty = false ∧ committing.noc.since + 2000 ≤ committing.tim.clk ∧ committing.noc.planStep = 0 ∧
    (committing.cmds.find? fun x => x.wait = .routeCommit ∧ x.deadline.any (· ≤ committing.tim.clk)) =
      some { cmd := cmd1, op := 0x4002, wait := .routeCommit, deadline := some 1000 } ∧
    acceptedOk rimOnly cmd1 0x4003 (leBytes 1 52 ++ leBytes 1 1) false = true ∧
    acceptedOk rimOnly cmd1 0x4006 (leBytes 2 545 ++ leBytes 1 15) false = true := by
  decide +kernel

/-- Floor 1 in the drain of a power-off that nothing holds; floor 2 in one that a parked request holds. -/
def offState : State := ((((waits (put (live State.reset) [(nocState, 1, 1), (nocState, 2, 1), (nocState, 3, 2), (nocState, 4, 4), (nocState, 5, 3)])
  cmd1 0x4004 (.floorOff 3) none).modFloor 1 fun x => { x with offWhy := 1 }).modFloor 2 fun x => { x with
    offWhy := 1, drainTo0 := true, park := [qpkt .qpop false] }).modFloor 3 fun x => { x with offWhy := 1 }).modTile 48 fun x => { x with nextTag := 3 }

theorem witness_FloorsGoOffAndOn :
    canonOk offState = true ∧ offState.floorBusy 0 = false ∧ offState.floorOpen 0 = true ∧ offState.routedThrough 0 = false ∧
    acceptedOk offState cmd1 0x4004 (leBytes 1 0 ++ leBytes 1 0 ++ leBytes 2 7) false = true ∧
    acceptedOk offState cmd1 0x4004 (leBytes 1 0 ++ leBytes 1 1 ++ leBytes 2 7) false = true ∧ offState.poweringOff 0 = false ∧
    offState.draining 1 = true ∧ offState.drained 1 = true ∧ (offState.floor 1).offWhy = 1 ∧ offState.draining 2 = true ∧
    offState.drained 2 = false ∧ offState.copying 2 = false ∧ (offState.floor 2).drainTo0 = true ∧
    (offState.floor 2).fencedAt ≤ offState.tim.clk ∧ offState.fld nocState 3 = 2 ∧ (offState.floor 3).offWhy = 1 ∧
    offState.fld nocState 4 = 4 ∧ offState.fld nocState 5 = 3 ∧ acceptedOk offState cmd1 0x4005 (leBytes 1 5) false = true := by
  decide +kernel

/-! ### Memory -/

/-- Tile 1 has a written line, a queued write-back of it, scrubbing on, a copy of page 0 to SP2 under way for a command. -/
def storeState : State := waits ((put (live (wrote State.reset 1 0 (List.replicate 64 3#8))) [(scrubEn, 0, 1), (remapCopy, 6, 1)]).modTile 1 fun x =>
  { x with writeBacks := [{ line := 132 * 4096, bytes := [(2, 9#8)], stale := false }], copy := some ⟨2, 0⟩ }) cmd1 0x9004 (.pageCopy 1) none

/-- No copy runs. -/
def scrubbing : State := storeState.modTile 1 fun x => { x with copy := none }

theorem witness_WriteBacksScrubsAndCopies :
    canonOk storeState = true ∧ (storeState.tile 1).writeBacks = [{ line := 132 * 4096, bytes := [(2, 9#8)], stale := false }] ∧
    canonOk scrubbing = true ∧ scrubbing.flag scrubEn 0 = true ∧ scrubbing.fld nocState 0 < 3 ∧ (scrubbing.tile 1).scrubAt < 8191 ∧
    (scrubbing.tile 1).copy = none ∧ scrubbing.fresh (scrubbing.phys 1 0) = false ∧
    (∀ i ∈ List.range 64, (scrubbing.peek 1 i).1.kind = 0) ∧ scrubbing.fresh (scrubbing.phys 2 0) = true ∧
    acceptedOk scrubbing cmd1 0x9004 (leBytes 2 1 ++ leBytes 1 127) false = true ∧ scrubbing.floorOpen 0 = true ∧
    scrubbing.freeSpare 1 = some 0 ∧ (storeState.tile 1).copy = some ⟨2, 0⟩ ∧ storeState.flag remapV 6 = false ∧
    (0x80000000#32).getLsbD 31 = true := by
  decide +kernel

/-- The byte of R266's example, and one stored byte that can be read. -/
theorem witness_EccCode : (wrote State.reset 1 0 [3#8]).fresh ((wrote State.reset 1 0 [3#8]).phys 1 0) = false := by
  decide +kernel

theorem witness_MemoryCommands :
    canonOk storeState = true ∧ storeState.cmdOwns cmd1 0 1 = true ∧ storeState.floorOpen 0 = true ∧
    acceptedOk storeState cmd1 0x9001 (leBytes 5 0x80010 ++ leBytes 2 32) true = true ∧
    (∀ i ∈ List.range 32, (storeState.peek 1 (0x10 + i)).1.kind = 0) ∧ storeState.flag flipArm 0 = false ∧
    acceptedOk storeState cmd1 0x9002 (leBytes 5 0xFFFFE ++ leBytes 2 2 ++ [1#8, 2#8]) true = true ∧ storeState.tileInUse 1 = false ∧
    acceptedOk storeState cmd1 0x9003 (leBytes 2 1 ++ leBytes 2 8191 ++ leBytes 2 1) false = true ∧
    acceptedOk storeState cmd1 0x9005 (leBytes 2 1) false = true := by
  decide +kernel

/-- Two records wait for logs 0 and 2; log 0 is empty, log 2 full. -/
def logging : State := { put (live State.reset) [(logCount, 2, 64), (logHead, 0, 63), (logTail, 1, 62), (logCount, 1, 5)] with
  logQ := [⟨2, 5, 0x1001, 1, 3, 0, 7⟩, ⟨0, 6, 0x1002, 1, 4, 2, 8⟩] }

theorem witness_LogsAreRings :
    canonOk logging = true ∧ (logging.logQ.find? fun r => r.log = 0) = some ⟨0, 6, 0x1002, 1, 4, 2, 8⟩ ∧ logging.fld logCount 0 < 64 ∧
    (logging.logQ.find? fun r => r.log = 2) = some ⟨2, 5, 0x1001, 1, 3, 0, 7⟩ ∧ logging.fld logCount 2 = 64 ∧
    (3 + 64 - logging.fld logTail 1) % 64 ≤ logging.fld logCount 1 ∧
    acceptedOk logging cmd1 0x9006 (leBytes 1 1 ++ leBytes 1 31 ++ leBytes 1 1) false = true := by
  decide +kernel

/-! ### Timebase and racks -/

/-- Time `now` runs, with these fields. -/
def timed (now : Nat) (l : List (Fld × Nat × Nat)) : State :=
  let s := put (live State.reset) l
  { s with dev := { s.dev with resetN := true }, tim := { s.tim with now := now, clk := now + 5, running := true, pll := true } }

/-- Device time set. -/
def later (n : Nat) (s : State) : State := { s with tim := { s.tim with now := n } }

/-- PPS mode, locked, the last edge one second ago. -/
def ppsState : State :=
  let s := timed 3000000400 [(tmbSrcact, 0, 1), (tmbLock, 0, 1)]
  { s with tim := { s.tim with lastEdge := some 2000000400 } }

/-- PPS mode, the first edge to come. -/
def ppsFirst : State := timed 1 [(tmbSrcact, 0, 1)]

/-- A TIME_SET waits for an edge. -/
def setWaits : State :=
  let s := waits (timed 77 []) cmd1 0x5001 .timeSet (some 60)
  { s with tim := { s.tim with setTo := [(cmd1, 9000)] } }

/-- PPS mode, the last edge more than a second ago. -/
def ppsLate : State :=
  let s := timed 3000010402 [(tmbSrcact, 0, 1), (tmbLock, 0, 1)]
  { s with tim := { s.tim with lastEdge := some 2000000400 } }

/-- The source is away for more than 1 ms. -/
def unlocked : State :=
  let s := timed 3000000 [(tmbSrcact, 0, 1)]
  { s with tim := { s.tim with lockLow := some 5 } }

/-- Fenced, locked again. -/
def fencedLock : State := (timed 3000000 [(tmbLock, 0, 1), (tmbFenced, 0, 1)]).setReg .TMB_FENCE_NS 0 100

/-- A batch is enabled. -/
def timeInUse : State := timed 1000 [(bctlEn, 3, 1)]

/-- A whole second has just come. -/
def pOen : State := put { ppsState with tim := { ppsState.tim with now := 3000000000, adv := 1, dev := 60 } } [(tmbPpsoen, 0, 1)]

/-- PPS_OUT has been up for 1 ms. -/
def pOut : State := { unlocked with tim := { unlocked.tim with ppsOut := true, ppsUp := 7, dev := 1000007 } }

theorem witness_TimebaseEvents :
    [ppsState, ppsFirst, setWaits, ppsLate, unlocked, fencedLock, timeInUse].all canonOk = true ∧ setWaits.dev.resetN = true ∧
    setWaits.fld tmbSrcact 0 = 0 ∧ ppsState.tim.running = true ∧ true ≠ ppsState.flag tmbPpspol 0 ∧ ppsState.fld tmbSrcact 0 = 1 ∧
    ppsState.tim.setTo = [] ∧ ppsFirst.tim.lastEdge = none ∧ ppsFirst.fld tmbSrcact 0 = 1 ∧ setWaits.tim.setTo = [(cmd1, 9000)] ∧
    setWaits.timeBusy = false ∧ ppsLate.flag tmbHoldover 0 = false ∧ ppsLate.tim.lastEdge = some 2000000400 ∧
    2000000400 + (second + 10000) < ppsLate.tim.now ∧ unlocked.timeFenced = false ∧ unlocked.fenceDue = true ∧
    fencedLock.timeFenced = true ∧ fencedLock.flag tmbLock 0 = true ∧
    fencedLock.pherr.natAbs ≤ fencedLock.reg .TMB_FENCE_NS 0 % 65536 ∧
    pOen.tim.ppsRose ≤ pOen.tim.now / second ∧ pOen.tim.now % second < max 1 pOen.tim.adv ∧
    pOut.tim.ppsUp + 1000000 ≤ pOut.tim.dev ∧ timeInUse.timeBusy = true ∧
    acceptedOk setWaits cmd1 0x5001 (leBytes 8 12345 ++ leBytes 1 0) false = true ∧
    acceptedOk setWaits cmd1 0x5001 (leBytes 8 12345 ++ leBytes 1 1) false = true ∧
    acceptedOk timeInUse cmd1 0x5001 (leBytes 8 12345 ++ leBytes 1 0) false = true ∧
    acceptedOk ppsState cmd1 0x5002 [] false = true ∧
    setWaits.cmds.filter setWaits.setExpired = [{ cmd := cmd1, op := 0x5001, wait := .timeSet, deadline := some 60 }] := by
  decide +kernel

/-- Batch 2 feeds rack set 9, its last step at 5000; lanes 7 and 8 are bound to it; port 3 takes words for lanes 7 to 8. -/
def racking : State :=
  let s := timed 5050 [(bctlEn, 2, 1), (bctlRsen, 2, 1), (bctlRset, 2, 9), (laneEn, 7, 1), (laneBound, 7, 1), (laneRset, 7, 9), (laneGuard, 7, 20),
    (laneEn, 8, 1), (laneBound, 8, 1), (laneRset, 8, 9), (laneAct, 8, 1), (portEn, 3, 1), (portMode, 3, 1), (portLo, 3, 7), (portHi, 3, 8), (portNext, 3, 8), (portFine, 3, 5)]
  (s.setReg .TMB_BDL 2 100).setBatch 2 { s.batch 2 with last := some 5000 }

/-- A word that has reached rack port 3, poisoned. -/
def rackPkt : Pkt := { pkt .bridge 32 5 3 with data := (leBytes 4 0x12345678).map some, psn := 1 }

/-- Lane 7 racked two entries for times that have come; lane 8 has the entry of its deadline. -/
def racked : State := later 5100 ((racking.setLane 7 { LaneSt.init with rack := [⟨5010, 2, 9#32, false, true, 0xFF, 0⟩, ⟨5040, 0, 4#32, false, false, 0xFF, 0⟩] }).setLane 8
  { LaneSt.init with rack := [⟨5100, 2, 9#32, false, true, 0xFF, 0⟩] })

/-- Lane 7's first entry is poisoned, lane 8 has no entry of its deadline. -/
def rackBad : State := later 5100 ((racking.setLane 7 { LaneSt.init with rack := [⟨5010, 2, 9#32, true, true, 0xFF, 0⟩] }).setLane 8
  { LaneSt.init with rack := [⟨5101, 2, 9#32, false, true, 0xFF, 0⟩] })

theorem witness_RacksAcceptAndRelease :
    canonOk (net racking rackPkt) = true ∧ (net racking rackPkt).arrived rackPkt = true ∧ racking.pairBusy 3 = false ∧
    racking.portModeOf 2 ≠ some 2 ∧ racking.portModeOf 3 = some 1 ∧ racking.fld portNext 3 = 8 ∧ racking.portRange 3 8 = true ∧
    racking.flag laneEn 8 = true ∧ racking.flag laneBound 8 = true ∧ (racking.lane 8).drain = false ∧ racking.setTime 8 = some 5100 ∧
    racking.tim.now + racking.fld laneGuard 8 ≤ 5100 ∧ (racking.lane 8).rack = [] ∧
    canonOk racking = true ∧ racking.cmdOwns cmd1 4 7 = true ∧ racking.flag laneEn 7 = true ∧ (racking.lane 7).drain = false ∧
    racking.tim.now + racking.fld laneGuard 7 ≤ 5070 ∧ 5069 < racking.tim.now + racking.fld laneGuard 7 ∧
    acceptedOk racking cmd1 0x5003 (leBytes 2 7 ++ leBytes 1 1 ++ leBytes 1 7 ++ leBytes 8 5070 ++ leBytes 4 6 ++ leBytes 1 0) true = true ∧
    acceptedOk racking cmd1 0x5003 (leBytes 2 7 ++ leBytes 1 1 ++ leBytes 1 7 ++ leBytes 8 5069 ++ leBytes 4 6 ++ leBytes 1 0) true = true ∧
    canonOk racked = true ∧ (racked.lane 7).rack = [⟨5010, 2, 9#32, false, true, 0xFF, 0⟩, ⟨5040, 0, 4#32, false, false, 0xFF, 0⟩] ∧
    (racked.lane 7).misses = [] ∧ 5010 ≤ racked.tim.now ∧ racked.timeFenced = false ∧
    racked.checksDue 8 = [(5100, 2, 5000)] ∧ (racked.lane 8).rack.find? (fun e => e.r == 5100) = some ⟨5100, 2, 9#32, false, true, 0xFF, 0⟩ ∧
    canonOk rackBad = true ∧ (rackBad.lane 7).rack = [⟨5010, 2, 9#32, true, true, 0xFF, 0⟩] ∧ (rackBad.lane 7).misses = [] ∧ 5010 ≤ rackBad.tim.now ∧
    rackBad.checksDue 8 = [(5100, 2, 5000)] ∧ (rackBad.lane 8).rack.find? (fun e => e.r == 5100) = none := by
  decide +kernel

/-- Streams 5 and 6 on, stream 6 with a sample; ADC port 4 on and clocked. -/
def streaming : State :=
  (put racked [(strmEn, 5, 1), (strmEn, 6, 1), (adcEn, 4, 1), (adcClk, 4, 1), (adcLanes, 4, 1)]).setStream 6 { StreamSt.init with buf := [⟨[⟨7#32, false⟩], [], 0⟩] }

/-- Lanes 10 and 11 drained for a LANE_DISABLE; port 4 trained. -/
def drained : State := waits (waits (put streaming [(laneEn, 10, 1)]) cmd1 0x5005 (.laneDrain 10 2) none) cmd1 0x6002 (.adcTrain 4) none

theorem witness_LanesAndStreamsDisable :
    canonOk streaming = true ∧ rangeFault 7 2 784 784 = none ∧ streaming.ownsLanes cmd1 7 2 = true ∧
    rangeFault 720 64 64 784 = none ∧ streaming.ownsLanes cmd1 720 64 = true ∧
    ((List.range 2).all fun i => !streaming.flag laneEn (7 + i)) = false ∧
    acceptedOk streaming cmd1 0x5004 (leBytes 2 7 ++ leBytes 2 2) true = true ∧
    acceptedOk streaming cmd1 0x5005 (leBytes 2 7 ++ leBytes 2 2 ++ leBytes 1 0 ++ leBytes 2 3) true = true ∧
    acceptedOk streaming cmd1 0x5005 (leBytes 2 7 ++ leBytes 2 2 ++ leBytes 1 1 ++ leBytes 2 3) true = true ∧ cmd1.pack = false ∧
    streaming.cmds = [] ∧ streaming.queues = [] ∧ canonOk drained = true ∧ drained.waitsFor (.laneDrain 10 2) = true ∧
    (∀ i, i < 2 → (drained.lane (10 + i)).rack = [] ∧ (drained.lane (10 + i)).misses = []) ∧
    acceptedOk streaming cmd1 0x5006 (leBytes 2 720 ++ leBytes 1 64) true = true ∧
    rangeFault 5 2 496 496 = none ∧ streaming.flag strmEn (5 + 1) = true ∧ streaming.streamEmpty (5 + 1) = false ∧
    acceptedOk streaming cmd1 0x6001 (leBytes 2 5 ++ leBytes 2 2 ++ leBytes 1 0 ++ leBytes 2 0) false = true ∧
    acceptedOk streaming cmd1 0x6001 (leBytes 2 5 ++ leBytes 2 2 ++ leBytes 1 1 ++ leBytes 2 0) false = true ∧
    (streaming.flag adcEn 4 && streaming.flag adcClk 4) = true ∧ (streaming.flag adcEn 15 && streaming.flag adcClk 15) = false ∧
    acceptedOk streaming cmd1 0x6002 (leBytes 1 4 ++ leBytes 4 0xA5) false = true ∧
    acceptedOk streaming cmd1 0x6002 (leBytes 1 15 ++ leBytes 4 0xA5) false = true ∧ drained.waitsFor (.adcTrain 4) = true ∧
    drained.fld adcLanes 4 + 1 = 2 ∧ [0x1F0#64, 0x8000000000000000#64].map passRange = [(4, 8, 6), (63, 63, 63)].map some ∧
    none ∈ [0x1F0#64, 0#64].map passRange := by
  decide +kernel

/-! ### The trip matrix -/

/-- The guards are loaded; lines 0 and 11 are on and watch sources 544, 556, 576, 639 and 848. -/
def armed (s : State) : State :=
  let s := put s [(lineEn, 0, 1), (lineEn, 11, 1), (linePinout, 11, 1), (lineTag, 11, 0x1234)]
  let s := [544, 556, 576, 639, 848].foldl (fun s k => [0, 11].foldl (fun s l => s.setReg .TRP_MASK (32 * l + k / 32)
    (s.reg .TRP_MASK (32 * l + k / 32) ||| 2 ^ (k % 32))) s) s
  { s with dev := { s.dev with guardIn := true }, tim := { s.tim with now := 1 } }

/-- The pins were last accepted 50 ns ago and PINFILT is 49; the Keeper serviced its watchdog 10 ms ago. -/
def tripping : State :=
  let s := put (armed (live State.reset)) [(trpPinfilt, 0, 49)]
  { s with tim := { s.tim with clk := 10000007 }, trip := { s.trip with pinAt := [(0, 9999959), (3, 9999959), (12, 9999959)], keeper := 7 } }

/-- Sources 544, 556 and 848 are live; the pin of line 3 is low. -/
def tripped : State := [544, 556, 848, 547].foldl (fun s k => s.putSrc k true) tripping

/-- Slot 1 of tile 0 runs RAISE; it may raise source 63. -/
def raising (src : Fin 64) (set : Bool) : State :=
  (armed (runs (enc (.raise 0 src set)) SlotSt.init)).setReg .TIL_RAISE 0 (2 ^ 63)

theorem witness_TripSourcesLatchLines :
    canonOk tripping = true ∧ tripping.pinStable 0 (tripping.fld trpPinfilt 0) = true ∧
    tripping.pinStable 12 (tripping.fld trpPinfilt 0) = true ∧ tripping.trip.keeper + 10000000 ≤ tripping.tim.clk ∧
    tripping.srcLive 544 = false ∧ tripping.srcLive 556 = false ∧ tripping.srcLive 848 = false ∧
    tripping.dev.guardIn = true ∧ tripping.flag lineEn 11 = true ∧ tripping.inMask 11 544 = true ∧ tripping.inMask 11 556 = true ∧
    tripping.inMask 11 848 = true ∧ tripping.latched 11 = false ∧ tripping.tim.now < 2 ^ 63 ∧ (live State.reset).dev.guardIn = false ∧
    canonOk tripped = true ∧ tripped.tripDrive 3 = false ∧ tripped.pinStable 3 (tripped.fld trpPinfilt 0) = true ∧ canonOk (raising 63 true) = true ∧
    (raising 63 true).issue 0 (.raise 0 63 true) [] = some 1 ∧ bit ((raising 63 true).reg .TIL_RAISE 0) 63 = true ∧
    (raising 63 true).dev.guardIn = true ∧ (raising 63 true).flag lineEn 0 = true ∧ (raising 63 true).inMask 0 639 = true ∧
    (raising 63 true).srcLive 639 = false ∧ (raising 0 true).issue 0 (.raise 0 0 true) [] = some 1 ∧
    (raising 0 true).guardOf 0 1 = none ∧ bit ((raising 0 true).reg .TIL_RAISE 0) 0 = false := by
  decide +kernel

/-- A level source is live, line 11 is latched and waits for its settling to end; another TRIP_CLEAR of lines 0 and 11 is over. -/
def settlingEnds : State :=
  let s := waits ((put (live tripping) [(alkState, 2, 3), (alkState, 4, 4), (alkState, 3, 2)]).setReg .TRP_STATUS 0 0x801) cmd1 0x7001 (.tripClear 0x801) none
  { s with trip := { s.trip with clears := [(0x801, 0x801, 500)] }, tim := { s.tim with clk := 500 } }

/-- Frames are due on link 2. -/
def framing : State :=
  let s := put ((live tripping).setReg .TRP_STATUS 0 0x801) [(alkState, 2, 3), (alkState, 4, 4), (alkState, 3, 2), (lineFrameout, 11, 1)]
  { s.setReg .TRP_LINKOUT 2 0x800 with trip := { s.trip with frames := [(2, (0x800, 1))] }, tim := { s.tim with clk := 1000 } }

/-- The host watchdog has run out. -/
def wdOver : State := { put (live State.reset) [(hostWdEn, 0, 1), (hostWdPeriod, 0, 2)] with tim := { TimeSt.init with clk := 2000 } }

theorem witness_TripCommands :
    canonOk tripping = true ∧ canonOk framing = true ∧ framing.flag lineEn 0 = true ∧
    canonOk (tripped.setReg .TRP_STATUS 0 0) = true ∧ (tripped.setReg .TRP_STATUS 0 0).dev.guardIn = true ∧
    (tripped.setReg .TRP_STATUS 0 0).flag lineEn 0 = true ∧ (tripped.setReg .TRP_STATUS 0 0).srcLive 848 = true ∧
    848 / 32 = 26 ∧ edgeSource 848 = false ∧ bit (0x10000) (848 % 32) = true ∧
    acceptedOk framing cmd1 0x7001 (leBytes 2 4095) false = true ∧ bit 4095 11 = true ∧ framing.latched 11 = true ∧
    acceptedOk framing cmd1 0x7002 (leBytes 2 0x801) false = true ∧ (∀ n ∈ linesOf 0x801, framing.flag lineEn n = true) ∧
    acceptedOk framing cmd1 0x7003 (leBytes 2 4095) false = true ∧ acceptedOk framing cmd1 0x7004 (leBytes 1 11) false = true ∧
    canonOk settlingEnds = true ∧ settlingEnds.trip.clears = [(0x801, 0x801, 500)] ∧ 500 ≤ settlingEnds.tim.clk ∧
    (∀ n ∈ linesOf 0x801, settlingEnds.blockers n = []) ∧ framing.carriesTrips 2 = true ∧ framing.frameBits 2 ≠ 0 ∧
    (tget (0, 0) framing.trip.frames 2).2 + 999 ≤ framing.tim.clk ∧ twf (0, 0) framing.trip.frames = true ∧
    framing.fld alkState 2 = 3 ∧ framing.fld alkState 4 = 4 ∧ framing.fld alkState 3 = 2 ∧ canonOk wdOver = true ∧
    wdOver.flag hostWdEn 0 = true ∧ wdOver.trip.kick + wdOver.fld hostWdPeriod 0 * 1000 ≤ wdOver.tim.clk ∧
    wdOver.srcLive 849 = false := by
  decide +kernel

/-! ### Field inputs -/

/-- Stream 8 made two samples and buffers one, whose second word comes next; stream 9 buffers two. -/
def sampling : State :=
  let s := (live State.reset).setStream 8 { StreamSt.init with made := [⟨[⟨1#32, false⟩], [], 0⟩, ⟨[⟨2#32, true⟩], [], 0⟩], buf := [⟨[⟨0#32, false⟩, ⟨9#32, true⟩], [], 0⟩], sent := 1 }
  let s := s.setStream 9 { StreamSt.init with made := [⟨[⟨1#32, false⟩], [], 0⟩], buf := [⟨[⟨5#32, false⟩], [], 0⟩, ⟨[⟨6#32, false⟩], [], 0⟩] }
  openQ (put s [(strmK1, 8, 1), (strmDest1, 8, 0x1A3), (strmDest1, 9, 3)]) 3

/-- Stream 9's first sample has been ready for longer than stream 8's. -/
def nineFirst : State := sampling.setStream 9 { StreamSt.init with buf := [⟨[⟨5#32, false⟩], [], 0⟩] } |>.setStream 8
  { StreamSt.init with buf := [⟨[⟨0#32, false⟩, ⟨9#32, true⟩], [], 1⟩], sent := 1 }

/-- Stream 10 sends timestamps to queue 3 beside its words; it goes on with an item of two words there. -/
def midSample : State :=
  let s := (live State.reset).setStream 10 { StreamSt.init with buf := [⟨[⟨0#32, false⟩, ⟨9#32, true⟩], [⟨77#32, false⟩], 0⟩], sent := 1 }
  (openQ (put s [(strmDest1, 10, 3), (strmDest2, 10, 3)]) 3).modQueue 3 fun x => { x with ilock := some (.field 10), itemLen := 1 }

/-- The item is stored, the timestamp comes next. -/
def stampNext : State :=
  let s := (live State.reset).setStream 10 { StreamSt.init with buf := [⟨[⟨0#32, false⟩, ⟨9#32, true⟩], [⟨77#32, false⟩], 0⟩], sent := 2 }
  openQ (put s [(strmDest1, 10, 3), (strmDest2, 10, 3)]) 3

/-- Sigma-delta input 70 samples with clock 2; its last 127 bits were 1, its comparator watches. -/
def modulating : State :=
  let s := put (later 640 (live State.reset)) [(sdEn, 70, 1), (sdClk, 70, 2), (mclkEn, 2, 1), (mclkDiv, 2, 10), (bankVsel, 17, 1), (sdDec, 70, 32),
    (strmEn, 70, 1), (sdSten, 70, 1), (thFen, 70, 1), (thFm, 70, 4), (thNcons, 70, 2)]
  (s.setReg .FIO_SDTH 70 (s.reg .FIO_SDTH 70 + 3 * 65536)).setSd 70 { SdSt.init with hist := List.replicate 127 (true, false) ++ [(false, false)], run := 127, hiN := 1 }

/-- It is stuck. -/
def stuck : State := put modulating [(sdStuck, 70, 1)]

theorem witness_FieldInputsSample_sigmaDelta :
    canonOk sampling = true ∧ (sampling.stream 8).made = [⟨[⟨1#32, false⟩], [], 0⟩, ⟨[⟨2#32, true⟩], [], 0⟩] ∧
    (sampling.stream 8).buf.length < 2 ∧ (sampling.stream 9).made = [⟨[⟨1#32, false⟩], [], 0⟩] ∧ 2 ≤ (sampling.stream 9).buf.length ∧
    (sampling.stream 8).buf = [⟨[⟨0#32, false⟩, ⟨9#32, true⟩], [], 0⟩] ∧ (sampling.stream 8).sent = 1 ∧ sampling.flag strmK1 8 = true ∧
    sampling.cmds = [] ∧ sampling.drains = [] ∧ sampling.dev.handed ≠ sampling.tim.clk + 1 ∧ sampling.streamBehind 8 = false ∧
    sampling.fld strmDest1 8 = 0x1A3 ∧ canonOk nineFirst = true ∧ nineFirst.cmds = [] ∧ nineFirst.drains = [] ∧
    nineFirst.dev.handed ≠ nineFirst.tim.clk + 1 ∧ nineFirst.streamBehind 9 = false ∧ nineFirst.flag strmK1 9 = false ∧
    (nineFirst.stream 9).sent = 0 ∧ nineFirst.floorOpen 0 = true ∧ nineFirst.fld strmDest1 9 = 3 ∧ canPushOk nineFirst 3 = true ∧
    canonOk midSample = true ∧ midSample.streamBehind 10 = false ∧ midSample.flag strmK1 10 = false ∧ midSample.fld strmDest1 10 = 3 ∧
    (midSample.stream 10).sent = 1 ∧ canGoOnOk midSample 3 (.field 10) = true ∧ canonOk stampNext = true ∧
    stampNext.streamBehind 10 = false ∧ stampNext.flag strmK2 10 = false ∧ stampNext.fld strmDest2 10 = 3 ∧
    (stampNext.stream 10).sent = 2 ∧ canPushOk stampNext 3 = true ∧ canonOk modulating = true ∧ modulating.sdRuns 70 = true ∧
    modulating.sdFits 70 [true] = true ∧ modulating.sdFits 70 [false] = true ∧ stuck.sdFits 70 [false] = true ∧
    (modulating.sd 70).hist ≠ [] ∧ modulating.sdBoundary 70 (modulating.sdEdge 70) = true ∧ modulating.flag strmEn 70 = true ∧
    (modulating.stream 70).drain = false ∧ modulating.flag thFen 70 = true ∧ modulating.flag thHi 70 = false ∧
    max 1 (modulating.fld thNcons 70) ≤ (modulating.sd 70).hiN + 1 ∧
    (BitVec.ofNat 16 (modulating.reg .FIO_SDTH 70 / 65536)).toInt <
      sincOut 2 (modulating.fld thFm 70) (true :: (modulating.sd 70).hist.map (·.1)) ∧
    modulating.flag sdSten 70 = true ∧ modulating.flag sdStuck 70 = false ∧ (modulating.sd 70).run = 127 ∧
    (modulating.sd 70).hist.head?.map (·.1) = some true ∧ canonOk stuck = true ∧ stuck.sdRuns 70 = true ∧
    stuck.flag sdStuck 70 = true ∧ (stuck.sd 70).hist.head?.map (·.1) = some (!false) := by
  decide +kernel

/-- ADC port 3: two lanes, 4-bit words, 2 channels, clocked. -/
def converting : State := put (later 1007 (live State.reset)) [(adcEn, 3, 1), (adcClk, 3, 1), (adcLanes, 3, 1), (adcWord, 3, 3), (adcCh, 3, 1), (adcSigned, 3, 1),
  (strmEn, 281, 1), (cnvEn, 3, 1), (cnvWid, 3, 5), (cnvPer, 3, 100), (cnvPhs, 3, 5)]

/-- CNV is high. -/
def cnvHigh : State := converting.setAdc 3 { cnv := true, rose := 1003, lost := false }

/-- Encoder 31 counts, encoder 30 is serial; encoder 29's transfer is under way. -/
def encoding : State :=
  let s := put (later 1007 (live State.reset)) [(bankVsel, 20, 1), (encEn, 31, 1), (encZclr, 31, 1), (encPer, 31, 100), (encPhs, 31, 5), (strmEn, 415, 1),
    (encEn, 30, 1), (encMode, 30, 1), (encPer, 30, 100), (encPhs, 30, 5), (encEn, 29, 1), (encMode, 29, 1), (encBits, 29, 3), (encPar, 29, 1), (encGray, 29, 1)]
  (s.setEnc 29 { EncSt.init with busy := some 905 }).setReg .FIO_ENCPOS 31 0xFFFFFFFF

theorem witness_FieldInputsSample_ports :
    canonOk converting = true ∧ converting.flag adcEn 3 = true ∧ converting.waitsFor (.adcTrain 3) = false ∧
    converting.adcShape 3 = (2, 4, 2) ∧ converting.flag strmEn (256 + 8 * 3 + 1) = true ∧
    (converting.stream (256 + 8 * 3 + 1)).drain = false ∧ (converting.adc 3).lost = false ∧
    lastAt converting.tim.now (converting.fld cnvPer 3) (converting.fld cnvPhs 3) = some 1005 ∧ converting.flag cnvEn 3 = true ∧
    (converting.adc 3).cnv = false ∧ (converting.adc 3).rose ≠ 1005 + 1 ∧ converting.tim.now < 1005 + converting.fld cnvWid 3 ∧
    canonOk cnvHigh = true ∧ (cnvHigh.adc 3).cnv = true ∧ (cnvHigh.adc 3).rose + cnvHigh.fld cnvWid 3 ≤ cnvHigh.tim.now + 1 ∧
    canonOk encoding = true ∧ encoding.encRuns 31 = true ∧ encoding.flag encMode 31 = false ∧ encoding.flag encZclr 31 = true ∧
    (encoding.enc 31).z = false ∧ ((encoding.enc 31).a, (encoding.enc 31).b) = (false, false) ∧
    lastAt encoding.tim.now (encoding.fld encPer 31) (encoding.fld encPhs 31) = some 1005 ∧ (encoding.enc 31).last ≠ 1005 + 1 ∧
    encoding.flag strmEn (384 + 31) = true ∧ (encoding.stream (384 + 31)).drain = false ∧ encoding.encRuns 30 = true ∧
    encoding.flag encMode 30 = true ∧ (encoding.enc 30).busy = none ∧
    lastAt encoding.tim.now (encoding.fld encPer 30) (encoding.fld encPhs 30) = some 1005 ∧ (encoding.enc 30).last ≠ 1005 + 1 ∧
    encoding.encRuns 29 = true ∧ (encoding.enc 29).busy = some 905 ∧
    [true, true, false, true, true].length = encoding.fld encBits 29 + 1 + encoding.fld encPar 29 := by
  decide +kernel

/-! ### Field outputs -/

/-- Bank 15 is claimed, its lanes are on; gates 508 to 511 follow carrier 31. -/
def pwmState : State :=
  let s := put (later 2000 (live State.reset)) ([(bankVsel, 15, 1), (carEn, 31, 1), (carCntr, 31, 1), (carPer, 31, 100)] ++
    [508, 509, 510, 511].flatMap fun g => [(laneEn, g, 1), (goutMode, g, 1), (goutCar, g, 31), (goutUpd, g, 1), (goutPol, g, 1)])
  { (s.setCar 31 { start := some 1890, per := 200, next := some 1990 }).setGate 510 { GateSt.init with cmp := some 0#32, shadow := some 400#32, shadowAt := 9 } with
    tim := { s.tim with clk := 2090 } }

/-- Gate 510's compare value keeps it high for a whole period. -/
def highGate : State := pwmState.setGate 510 { GateSt.init with cmp := some 0x80000000#32 }

/-- Gates 508 and 509 are complementary; gate 508's rising edge waits for the dead time. -/
def deadTime : State :=
  let s := put pwmState [(goutPair, 508, 1), (goutDt, 508, 80), (goutMode, 509, 0)]
  (s.setGate 508 { GateSt.init with pwm := true, mp := true }).setGate 509 { GateSt.init with fellAt := 16600 }

/-- Gate 511's minimum pulse is over. -/
def minPulse : State := (put pwmState [(goutMinp, 511, 50)]).setGate 511 { GateSt.init with pwm := true, mp := false, mpAt := 16000 }

/-- RESET_N is low. -/
def held0 : State := { State.reset with dev := { State.reset.dev with resetN := false } }

theorem witness_FieldOutputsAndValveLinks_gates :
    canonOk pwmState = true ∧ (pwmState.car 31).next = some 1990 ∧ pwmState.flag carEn 31 = true ∧ 1990 ≤ pwmState.tim.now ∧
    pwmState.fld goutMode 510 = 1 ∧ pwmState.fld goutCar 510 = 31 ∧
    canonOk highGate = true ∧ (highGate.car (highGate.fld goutCar 510)).start = some 1890 ∧ highGate.fld goutMode 510 = 1 ∧
    highGate.pwmAt 510 (8 * (highGate.tim.clk - 1890) + 7) ≠ (highGate.gate 510).pwm ∧ highGate.gateForced 510 = none ∧
    highGate.pairOf 510 = 0 ∧ highGate.fld goutMinp 510 = 0 ∧ (highGate.gate 510).mpAt ≤ 8 * 1890 ∧ highGate.dev.pins = none ∧
    (highGate.gate 510).hold = false ∧ (highGate.gate 510).mp = (highGate.gate 510).lvl ∧ (pwmState.gate 510).shadow = some 400#32 ∧ pwmState.flag goutUpd 510 = true ∧
    pwmState.flag carCntr 31 = true ∧ (pwmState.gate 510).shadowAt ≤ 8 * 1890 + (pwmState.car 31).per * 4 ∧
    8 * 1890 + (pwmState.car 31).per * 4 ≤ 8 * pwmState.tim.clk + 7 ∧ canonOk deadTime = true ∧
    deadTime.gateHoldEnd 508 = some 16680 ∧ 16680 ≤ 8 * deadTime.tim.clk + 7 ∧ deadTime.pairOf 508 ≠ 0 ∧
    (deadTime.gate 508).mp = true ∧ deadTime.gateLevel2 508 = true ∧ deadTime.gateForced (partner 508) = none ∧
    (deadTime.gate (partner 508)).mp = false ∧ deadTime.gateLevel2 (partner 508) = false ∧ (deadTime.gate 508).lvl = false ∧ deadTime.dev.pins = none ∧
    canonOk minPulse = true ∧ minPulse.gateLevel2 511 ≠ (minPulse.gate 511).mp ∧ minPulse.midPulse 511 = false ∧
    (minPulse.gate 511).mpAt + minPulse.fld goutMinp 511 ≤ 16050 ∧
    minPulse.gateHoldEnd 511 = some 16050 ∧ 16050 ≤ 8 * minPulse.tim.clk + 7 ∧ canonOk held0 = true ∧ held0.dev.resetN = false ∧
    held0.claimed (511 / 32) = false ∧ held0.dev.pins = none := by
  decide +kernel

/-- Valve link 47 sends; a frame waits; its receiver is up; link 3 is held by line 5; bank 21 and bank 0 are claimed. -/
def linked : State :=
  let s := put (later 9000 (live State.reset)) [(vlEn, 47, 1), (vlUp, 47, 1), (vlUwd, 47, 2), (vlWdog, 46, 0), (vlEn, 3, 1), (vlEn, 46, 1), (bankVsel, 21, 2), (bankVsel, 0, 1), (bankVok, 0, 1), (gpioTrpol, 31, 1), (gpioEdge, 31, 3),
    (strmEn, 495, 1)]
  { ((s.setReg .TRP_STATUS 0 32).setReg .TRP_VLINK 3 32).setVl 47 { VlSt.init with frame := [1#8], waiting := [(true, 0#32)], endAt := 1000 } with
    tim := { s.tim with clk := 2016 } }

/-- An uplink frame of one submodule. -/
def uplink : List Byte :=
  let b := [0x2A#8, 1#8, 0x34#8, 0x12#8, 1#8, 0#8]
  b ++ (leBytes 2 (crc16 b)).reverse

theorem witness_FieldOutputsAndValveLinks_links :
    canonOk linked = true ∧ linked.vlTx 47 = true ∧ (linked.vl 47).waiting = (true, 0#32) :: [] ∧ linked.linkHeld 47 = false ∧
    (linked.vl 47).endAt + 16 ≤ linked.tim.clk ∧ linked.vlTx 3 = true ∧ linked.linkHeld 3 = true ∧
    (linked.vl 3).safeAt + 1024 ≤ linked.tim.clk ∧ linked.flag vlEn 47 = true ∧ linked.flag vlUp 47 = true ∧
    uplink.length = 2 + (2 + 4 * 1) ∧ crc16 uplink = 0 ∧ linked.flag vlEn 46 = true ∧ linked.flag vlUp 46 = false ∧
    linked.fld vlUwd 47 ≠ 0 ∧ linked.flag vlWdog 47 = false ∧ (linked.vl 47).good + linked.fld vlUwd 47 * 1000 ≤ linked.tim.clk ∧
    linked.claimed 21 = true ∧ linked.gpioIn 31 ≠ true ∧ linked.pinStable 47 (linked.fld gpioFilt 31) = true ∧
    linked.fld gpioEdge 31 = 3 ∧ linked.flag strmEn 495 = true ∧ (linked.stream 495).drain = false ∧ linked.claimed 0 = true ∧ linked.flag bankVok 0 = true := by
  decide +kernel

/-! ### Gravity, the kiln and turning -/

/-- A trim is due: floor 0 has lost its margin, floor 1 follows MAN, floor 2 is slower than its limit, floor 3 is asked for
code 33, floor 4 changes taps, floor 5 is watched. -/
def adapting : State :=
  let s := put (later 6000 (live State.reset)) [(grvEn, 0, 1), (grvCap, 0, 900), (klnLive, 0, 1), (klnMloss, 0, 4), (grvVnow, 0, 30), (grvMan, 1, 1),
    (grvVset, 1, 63), (grvVnow, 1, 48), (klnClo, 1, 10), (grvVnow, 2, 21), (grvTbmax, 2, 100), (grvVnow, 3, 34), (klnClo, 3, 34), (klnSden, 0, 1),
    (⟨.FIO_SD, 53, 53⟩, 255, 1), (sdEn, 255, 1), (sdSph, 255, 255), (grvTherm, 0, 90), (grvTcrit, 0, 105)]
  ((s.setGrav 3 { GravSt.init with phase := .asked 33 }).setGrav 4 { GravSt.init with phase := .taps 12 2 }).setGrav 5 { GravSt.init with phase := .watch }

/-- The same with gravity off. -/
def gravityOff : State := put adapting [(grvEn, 0, 0)]

/-- The same in the critical state. -/
def critical : State := { adapting with sup := { adapting.sup with crit := true } }

/-- The last tap. -/
def lastTap : State := adapting.setGrav 4 { GravSt.init with phase := .taps 12 1 }

/-- Floor 6 is fenced and is recalibrated. -/
def recal : State := waits (put adapting [(nocState, 6, 2)]) cmd1 0x8005 (.recal 6) none

theorem witness_GravityAndKiln :
    [adapting, gravityOff, critical, lastTap, recal].all canonOk = true ∧ adapting.flag devReady 0 = true ∧
    adapting.tim.now / 2000 ≠ adapting.sup.lastTrim ∧ 900 ≤ adapting.fld grvCap 0 ∧ adapting.floorOpen 0 = true ∧
    adapting.heldAt50 0 = true ∧ adapting.floorOpen 1 = true ∧ adapting.heldAt50 1 = false ∧ adapting.sup.crit = false ∧
    adapting.flag grvMan 1 = true ∧ adapting.code 1 < max (min 50 (adapting.fld grvVset 1)) (adapting.clo 1) ∧
    adapting.floorOpen 2 = true ∧ adapting.flag grvMan 2 = false ∧ adapting.flag grvEn 0 = true ∧ adapting.target 2 = some 100 ∧
    100 < [0, 0, 101].getD 2 0 ∧ gravityOff.flag grvEn 0 = false ∧ critical.sup.crit = true ∧
    (adapting.grav 3).phase = .asked 33 ∧ (adapting.grav 4).phase = .taps 12 2 ∧ adapting.flag klnLive 0 = true ∧
    (lastTap.grav 4).phase = .taps 12 1 ∧ (adapting.grav 5).phase = .watch ∧ adapting.fld nocState 31 < 3 ∧
    adapting.flag klnSden 0 = true ∧ adapting.flag ⟨.FIO_SD, 53, 53⟩ 255 = true ∧ adapting.flag sdEn 255 = true ∧
    tget false adapting.sup.eyes 255 = false ∧ twf false adapting.sup.eyes = true ∧ twf 0 adapting.sup.temps = true ∧
    (adapting.fld grvTherm 0 : Int) ≤ (105#8).toInt ∧ adapting.sup.thermN = false ∧ (adapting.fld grvTcrit 0 : Int) ≤ (105#8).toInt ∧
    acceptedOk adapting cmd1 0x8001 (leBytes 1 31 ++ leBytes 2 0xABCD ++ leBytes 2 7 ++ leBytes 1 15) false = true ∧
    acceptedOk adapting cmd1 0x8002 (leBytes 1 0 ++ leBytes 1 32) false = true ∧
    acceptedOk adapting cmd1 0x8005 (leBytes 1 3) false = true ∧ adapting.floorOpen 3 = true ∧
    acceptedOk (put adapting [(nocState, 6, 2)]) cmd1 0x8005 (leBytes 1 6) false = true ∧
    (put adapting [(nocState, 6, 2)]).fld nocState 6 = 2 ∧ recal.waitsFor (.recal 6) = true := by
  decide +kernel

/-- Tile 16 is hot and has lost margin; its slot 7 is suspended; tile 31 is its spare. -/
def turning0 : State :=
  let s := put (later 3000000 (live State.reset)) [(trnEn, 0, 1), (trnThen, 0, 1), (trnFten, 0, 1), (klnMloss, 1, 1), (slotState, 135, stIdle)]
  let s := (s.setTstate 31 1).setTurn 16 { TurnSt.init with hot := some 7 }
  { s with tim := { s.tim with clk := 20000000 } }

/-- No spare. -/
def noSpare : State := turning0.setTstate 31 0

/-- Its evacuation to tile 31 goes on for a TURN_MOVE. -/
def evacuating : State :=
  waits ((turning0.setTstate 16 2).setTurn 16 { TurnSt.init with evac := some { spare := 31, cause := 2, since := 5, left := [7], defd := [], late := [] } })
    cmd1 0x8003 (.turnMove 16 0x80) (some 3000000)

/-- Moves are not allowed. -/
def trnOff : State := put evacuating [(trnEn, 0, 0)]

/-- The move is under way. -/
def moving : State := evacuating.setGrav 1 { GravSt.init with move := some { tile := 16, slot := 7, spare := 31, start := 9, words := 440 } }

/-- Tiles 16 to 18: an empty TURNING one, a RETIRED one, a SPARE one. -/
def returning : State := ((put (live State.reset) [(klnMloss, 1, 2)]).setTstate 16 2).setTstate 17 3

/-- The opaque turn patch answers some patch, whatever it is: then a move waits where TRN_CTL.EN is 0, and starts where the
patch names no live words and no batches. -/
theorem witness_TilesTurn_fate (p : Config.TurnPatch) :
    (trnOff.turnPatch 16 7 = some p → trnOff.moveFate 16 7 31 = .defer) ∧
    (evacuating.turnPatch 16 7 = some p → p.live = [] → p.batches = [] → evacuating.moveFate 16 7 31 = .start 440) := by
  constructor
  · intro h
    have h0 : trnOff.flag trnEn 0 = false := by decide +kernel
    have h1 : ¬ (trnOff.sstate 31 7 ≠ stEmpty ∨ (trnOff.guardOf 31 7).isSome = true) := by decide +kernel
    simp only [State.moveFate, h, h0, if_neg h1, Bool.and_false, Bool.false_eq_true, if_false]
  · intro h hl hb
    have h1 : ¬ (evacuating.sstate 31 7 ≠ stEmpty ∨ (evacuating.guardOf 31 7).isSome = true) := by decide +kernel
    have hw : evacuating.moveWords 16 7 p = 440 := by
      have : evacuating.fld leesSpilled (8 * 16 + 7) = 0 := by decide +kernel
      simp [State.moveWords, hl, this]
    have hf : evacuating.moveFits 16 7 440 p = true := by simp [State.moveFits, hb]
    have h2 : ((evacuating.sstate 16 7 == stIdle || evacuating.sstate 16 7 == stSuspended || evacuating.sstate 16 7 == stFaulted) &&
        decide (440 ≤ 1008) && !evacuating.slotInFlight 16 7 && !evacuating.slotWaiting 16 7 && true && evacuating.floorOpen (16 / 16) &&
        evacuating.fld ⟨.CFG_FLOOR, 63, 60⟩ (16 / 16) != 3 && (evacuating.grav (16 / 16)).move.isNone && evacuating.flag trnEn 0) = true := by
      decide +kernel
    simp only [State.moveFate, h, if_neg h1, hw, hf, h2, if_true]

theorem witness_TilesTurn :
    canonOk turning0 = true ∧ turning0.triggerDue 16 0 = true ∧ turning0.triggerDue 16 1 = true ∧ turning0.tstate 16 = 0 ∧
    (turning0.turn 16).evac = none ∧ turning0.dataSlots 16 = [7] ∧ turning0.freeSpareTile 1 = some 31 ∧
    canonOk noSpare = true ∧ noSpare.triggerDue 16 1 = true ∧ noSpare.freeSpareTile 1 = none ∧ noSpare.dataSlots 16 ≠ [] ∧
    canonOk evacuating = true ∧ canonOk trnOff = true ∧
    (evacuating.turn 16).evac = some { spare := 31, cause := 2, since := 5, left := [7], defd := [], late := [] } ∧
    (trnOff.slot 16 7).moving = false ∧ 5 + trnOff.reg .TRN_DEFMAX 0 * 1000 ≤ trnOff.tim.clk ∧
    canonOk moving = true ∧ (moving.grav 1).move = some { tile := 16, slot := 7, spare := 31, start := 9, words := 440 } ∧
    (moving.slot 16 7).flags.getLsbD 7 = false ∧
    acceptedOk turning0 cmd1 0x8003 (leBytes 2 16 ++ leBytes 1 0x80 ++ leBytes 2 9) false = true ∧
    ((turning0.dataSlots 16).filter fun k => 0x80 = 0 ∨ bit 0x80 k) = [7] ∧ ((turning0.dataSlots 16).filter fun k => 0x40 = 0 ∨ bit 0x40 k) = [] ∧
    acceptedOk turning0 cmd1 0x8003 (leBytes 2 16 ++ leBytes 1 0x40 ++ leBytes 2 9) false = true ∧
    evacuating.cmds = [{ cmd := cmd1, op := 0x8003, wait := .turnMove 16 0x80, deadline := some 3000000 }] ∧ 3000000 ≤ evacuating.tim.clk ∧
    cmd1.remote = 0 ∧ evacuating.orphans.contains cmd1 = false ∧ canonOk returning = true ∧ returning.dataSlots 16 = [] ∧
    returning.tstate 16 = 2 ∧ returning.tstate 17 = 3 ∧ returning.dataSlots 17 = [] ∧ returning.tstate 18 = 0 ∧
    [16, 17, 18].all (fun t => acceptedOk returning cmd1 0x8004 (leBytes 2 t) false) = true := by
  decide +kernel

/-! ### The host -/

/-- Ring 3 runs with 16 slots, TAIL ahead of CHEAD; ring 5 is off; a reply of ring 0 waits; messages of ring 3 are due. -/
def hosting : State :=
  let s := (live State.reset).setReg .CMD_CHEAD 3 65534
  let s := put s [(ringEn, 3, 1), (ringLog2n, 3, 4), (ringEn, 0, 1), (ringLog2n, 0, 4), (⟨.CMD_RBASE, 63, 0⟩, 0, 0x10000), (⟨.CMD_RTAIL, 31, 0⟩, 0, 15)]
  let s := (s.setRing 3 { tail := 2, sized := true, unsig := 1, unsigAt := 0 }).setReg .CMD_RHEAD 0 10
  { s with replies := [{ cmd := cmd1, op := 2, status := 0, interim := false, data := [7#8] }], tim := { s.tim with clk := 70000000 } }

/-- A NOP packet of view 3 with two data bytes; the same for view 4. -/
def nopSlot (view : Nat) : List Byte :=
  leBytes 2 2 ++ leBytes 1 1 ++ leBytes 1 view ++ leBytes 4 0xCAFE ++ leBytes 2 2 ++ leBytes 2 0 ++ leBytes 4 0 ++ [8#8, 9#8] ++ List.replicate 1006 0#8

/-- A command of ring 0 for device 9. -/
def cmdAway : Cmd := { cmd1 with target := 0x80000009#32 }

/-- Link 2 leads to device 9. -/
def sysRouted : State := put ((live State.reset).setReg .NOC_GRT 9 0x80200000) [(alkState, 2, 3)]

/-- The command has been sent there. -/
def fwdSent : State := waits { sysRouted with tim := { sysRouted.tim with clk := 500 } } cmdAway 0x0002 (.forwarded 9) (some 500)

/-- A command of device 9 for this one. -/
def cmdFrom : Cmd := { cmd1 with remote := 10, target := 0x80000000#32 }

theorem witness_HostRings :
    canonOk hosting = true ∧ (hosting.ring 3).sized = true ∧
    ((1#32).toNat % 65536 + 65536 - hosting.reg .CMD_CHEAD 3) % 65536 ≤ hosting.ringSlots 3 ∧
    hosting.ringSlots 3 < ((0x7FFF#32).toNat % 65536 + 65536 - hosting.reg .CMD_CHEAD 3) % 65536 ∧ (hosting.ring 5).sized = false ∧
    (0x800C0000#32).getLsbD 31 = true ∧ hosting.flag ringEn 5 = false ∧ hosting.inflight 5 = 0 ∧ (0x000C0000#32).getLsbD 31 = false ∧
    hosting.flag ringEn 3 = true ∧ (nopSlot 3).length = 1024 ∧ (nopSlot 4).length = 1024 ∧ hosting.othersTurn 3 = false ∧
    hosting.ringReady 3 (if bit (numAt (nopSlot 3) 2 1) 2 then 2 else 1) = true ∧
    hosting.ringReady 3 (if bit (numAt (nopSlot 4) 2 1) 2 then 2 else 1) = true ∧
    layoutOf (numAt (nopSlot 3) 0 2) = some ⟨true, [], .any⟩ ∧
    hosting.headerFault (packetCmd 3 (hosting.reg .CMD_CHEAD 3) (nopSlot 3)) (nopSlot 3) = none ∧
    paramFault ⟨true, [], .any⟩ (((nopSlot 3).drop 16).take (numAt (nopSlot 3) 8 2)) = none ∧
    hosting.headerFault (packetCmd 3 (hosting.reg .CMD_CHEAD 3) (nopSlot 4)) (nopSlot 4) = some (stNoPriv, []) ∧
    hosting.orphans = [] ∧ hosting.replies.find? (fun r => ofRing 0 r.cmd) = some { cmd := cmd1, op := 2, status := 0, interim := false, data := [7#8] } ∧
    hosting.cmds = [] ∧ (hosting.ring 3).unsig ≠ 0 ∧
    (hosting.ring 3).unsigAt + hosting.reg .CMD_COAL 3 / 65536 * 1000 ≤ hosting.tim.clk ∧ (15 : ViewNo) ≠ 0 ∧
    acceptedOk hosting cmd1 0x0001 [] true = true ∧ acceptedOk hosting cmd1 0x0002 [5#8] true = true ∧
    canonOk sysRouted = true ∧ sysRouted.tgtOther cmdAway = true ∧ cmdAway.remote = 0 ∧ sysRouted.orphans = [] ∧ sysRouted.cmds = [] ∧
    sysRouted.isTurn cmdAway 2 [5#8] = true ∧ tgtBad cmdAway = false ∧ cmdAway.view = 0 ∧ cmdAway.ring = 0 ∧ sysRouted.flag devReady 0 = true ∧
    (sysRouted.sysLink (tgtSdn cmdAway) false).isSome = true ∧ hosting.tgtOther cmdAway = true ∧ hosting.isTurn cmdAway 2 [5#8] = true ∧
    hosting.sysLink (tgtSdn cmdAway) false = none ∧ canonOk fwdSent = true ∧
    fwdSent.cmds.find? (fun x => x.cmd = cmdAway ∧ x.op = 2 ∧ x.wait = .forwarded (tgtSdn cmdAway)) =
      some { cmd := cmdAway, op := 2, wait := .forwarded 9, deadline := some 500 } ∧ fwdSent.tim.clk = 500 ∧
    sysRouted.linkUp 2 = true ∧ sysRouted.flag devFwrun 0 = true ∧ cmdFrom.remote ≠ 0 ∧ cmdFrom.ring = 0 ∧ cmdFrom.view = 0 ∧
    tgtSys cmdFrom = true ∧ sysRouted.tgtOther cmdFrom = false ∧ layoutOf 2 = some ⟨true, [], .any⟩ ∧
    paramFault ⟨true, [], .any⟩ [5#8] = none ∧ layoutOf 0x7777 = none := by
  decide +kernel

/-! ### Views and host queue ports -/

/-- View 2 owns queues 5 and 6; ports: 0 push with words, 1 pop, 2 full, 63 off; queue 7 is closed. -/
def sharing : State :=
  let s := (holds (openQ (live State.reset) 9) 5 [mkWord 0xAB#32 true true false]).setOwner 1 5 2
  let s := put (s.setOwner 1 6 2) [(hqEn, 0, 1), (hqQueue, 0, 9), (hqEn, 1, 1), (hqDir, 1, 1), (hqQueue, 1, 5), (hqEn, 2, 1), (gcfgBen, 511, 1), (gcfgB, 511, 3),
    (⟨.TIL_GEN, 12, 12⟩, 1023, 1)]
  (((s.setHport 0 { HPort.init with fifo := [mkWord 1#32 true false true, mkWord 2#32 false true false] }).setHport 2
    { HPort.init with fifo := List.replicate 256 (mkWord 1#32 true true false) }).setHport 3 { HPort.init with fifo := [mkWord 1#32 true true false] }).setOwner 5 1 4

/-- A reply of view 2 waits. -/
def blocked : State := { sharing with replies := [{ cmd := { cmd1 with ring := 2, view := 2 }, op := 2, status := 0, interim := false, data := [] }] }

/-- Two host memory window accesses wait for PCIe. -/
def hmwRd : Pkt := { pkt .rd 33 4 0x3 with size := 1 }
def hmwWr : Pkt := { pkt .wr 33 4 0x40000004 with data := [some 9#8, none, some 7#8, some 1#8] }
def windows : State := { (live State.reset).setReg .CMD_HMW 1 (2 ^ 63 + 5) with hmw := [hmwRd, hmwWr] }

theorem witness_ViewsAndHostPorts :
    canonOk sharing = true ∧ sharing.revokePending 1 5 3 = false ∧
    acceptedOk sharing cmd1 0x0003 (rangeParams 1 5 3 ++ leBytes 1 2) false = true ∧
    (∀ i, i < 3 → sharing.ownerOf 1 (5 + i) = 0 ∨ sharing.ownerOf 1 (5 + i) = 2) ∧
    acceptedOk sharing cmd1 0x0003 (rangeParams 1 5 3 ++ leBytes 1 15) false = true ∧
    sharing.ownerOf 1 (5 + 0) ≠ 0 ∧ sharing.ownerOf 1 (5 + 0) ≠ 15 ∧
    acceptedOk sharing cmd1 0x0004 (rangeParams 1 5 3) false = true ∧ sharing.cmds = [] ∧ sharing.revokeBlocked 1 5 3 = false ∧
    sharing.queues.all (fun p => match p.2.ilock with | some (.cmdPath _) => false | _ => true) = true ∧
    canonOk blocked = true ∧ acceptedOk blocked cmd1 0x0004 (rangeParams 1 5 3) false = true ∧ blocked.cmds = [] ∧
    blocked.revokeBlocked 1 5 3 = true ∧ acceptedOk sharing cmd1 0x0005 (rangeParams 1 15376 1008) false = true ∧
    acceptedOk sharing cmd1 0x0006 (leBytes 2 511 ++ leBytes 1 1) false = true ∧ (sharing.guardSlot 511 1).isSome = true ∧
    bit (sharing.reg .TIL_GEN (2 * 511 + 1)) 12 = true ∧ sharing.floorOpen (511 / 16) = true ∧ sharing.flag hqEn 63 = false ∧
    sharing.ownerOf 1 6 = 2 ∧ sharing.revoked 1 6 = false ∧
    acceptedOk sharing cmd1 0x0007 (leBytes 1 63 ++ leBytes 2 6 ++ leBytes 1 1 ++ leBytes 1 2) false = true ∧
    sharing.cmdOwns cmd1 5 0 = true ∧ sharing.flag hqEn 0 = true ∧
    acceptedOk sharing cmd1 0x0008 (leBytes 1 0 ++ leBytes 1 0 ++ leBytes 2 4) true = true ∧ (sharing.hport 0).fifo ≠ [] ∧
    acceptedOk sharing cmd1 0x0008 (leBytes 1 0 ++ leBytes 1 1 ++ leBytes 2 4) true = true ∧ cmd1.pack = false ∧
    sharing.waitsFor (.portDrain 0) = false ∧ sharing.hqMid 0 = false ∧ sharing.hqSees 0 0 = true ∧ sharing.flag hqDir 0 = false ∧
    (sharing.hport 0).drain = false ∧ (sharing.hport 0).fifo.length < 256 ∧ sharing.hqSees 0 2 = true ∧ sharing.flag hqEn 2 = true ∧
    sharing.flag hqDir 2 = false ∧ 256 ≤ (sharing.hport 2).fifo.length ∧ sharing.hqSees 0 1 = true ∧ sharing.flag hqDir 1 = true ∧
    (sharing.hport 1).drain = false ∧ (sharing.hport 0).fifo = [mkWord 1#32 true false true, mkWord 2#32 false true false] ∧
    sharing.fld hqQueue 0 = 9 ∧ sharing.floorOpen (9 / 512) = true ∧ canPushOk sharing 9 = true ∧
    (sharing.hport 1).fifo.length < 256 ∧ canPopOk sharing (sharing.fld hqQueue 1) (.hostPort 1) (mkWord 0xAB#32 true true false) = true ∧
    acceptedOk sharing cmd1 0x0009 (leBytes 1 31 ++ leBytes 1 1 ++ leBytes 1 15 ++ leBytes 8 0xC0000000) false = true ∧
    canonOk windows = true ∧ windows.hmw.contains hmwRd = true ∧ [5#8, 6#8].length = reqBytes hmwRd.size ∧
    windows.hmw.contains hmwWr = true ∧ tget 0 windows.hmwAt (hmwRd.addr / 2 ^ 30 % 32) = 0 := by
  decide +kernel

/-! ### Boot and loads -/

/-- RESET_N is high, the PLL locked, the key programmed. -/
def booting (key copyA : Bool) : State :=
  let s := put State.reset [(⟨.DEV_FUSE, 0, 0⟩, 0, b2n key)]
  { s with dev := { s.dev with resetN := true, copyA := copyA, fuses := { s.dev.fuses with key := 5 } }, tim := { s.tim with pll := true } }

/-- A Drefel copy without a body. -/
def copyBytes : List Byte := leBytes 4 0x00020001 ++ List.replicate 252 0#8

/-- Drefel runs; memory and all floors but the last are done. -/
def starting : State :=
  let s := put State.reset [(devFwrun, 0, 1)]
  { s with dev := { s.dev with resetN := true, calDone := 2 ^ 31 - 1 } }

/-- All is done. -/
def started : State := { starting with dev := { starting.dev with memDone := true, calDone := 2 ^ 32 - 1 } }

/-- The autonomous load is past floor 31. -/
def autoLast : State := { live State.reset with cfg := { CfgSt.init with auto := 35 } }

theorem witness_ResetBootAndLoads_boot :
    canonOk (booting true false) = true ∧ canonOk (booting false false) = true ∧ canonOk (booting true true) = true ∧
    (booting true false).bootReady false = true ∧ (booting false false).bootReady false = true ∧ (booting true true).bootReady true = true ∧
    bit ((booting false false).reg .DEV_FUSE 0) 0 = false ∧ bit ((booting true false).reg .DEV_FUSE 0) 0 = true ∧
    State.reset.dev.resetN = false ∧ canonOk starting = true ∧ starting.flag devFwrun 0 = true ∧ starting.dev.memDone = false ∧
    starting.flag devReady 0 = false ∧ bit starting.dev.calDone 31 = false ∧ canonOk started = true ∧ started.dev.memDone = true ∧
    started.dev.calDone = 2 ^ 32 - 1 ∧ started.flag devFwrun 0 = true ∧ started.flag devReady 0 = false ∧ canonOk autoLast = true ∧
    3 ≤ autoLast.cfg.auto ∧ autoLast.cfg.load = none := by
  decide +kernel

/-- A Drefel copy passes where the hash and the signature check say so. -/
theorem witness_ResetBootAndLoads_copy (h : Config.sha384 ((copyBytes.drop 32).take 96) = 5)
    (hs : Config.ecdsaP384 ((copyBytes.drop 32).take 96) (copyBytes.take 128 ++ (copyBytes.drop 256).take (numAt copyBytes 4 4))
      ((copyBytes.drop 128).take 96) = true) : (booting true false).copyFault copyBytes = 0 := by
  have hk : (booting true false).dev.fuses.key = 5 := rfl
  have hb : ¬ copyMax - 256 < numAt copyBytes 4 4 := by decide +kernel
  simp only [State.copyFault, h, hk, hs, ne_eq, not_true_eq_false, if_false, Bool.not_true, Bool.false_eq_true, if_neg hb]

/-- A manifest that lists digest 5 for the guard image and floor 31. -/
def manifestBytes : List Byte :=
  leBytes 4 0x4D4E4631 ++ leBytes 2 1 ++ List.replicate 58 0#8 ++ leBytes 48 5 ++ List.replicate 1488 0#8 ++ leBytes 48 5 ++ List.replicate 192 0#8

/-- An image of a kind without frames, of the manifest with hash 7. -/
def emptyImage (kind floor : Nat) (more : List Byte) : List Byte :=
  leBytes 4 0x494D4731 ++ leBytes 1 kind ++ leBytes 1 floor ++ leBytes 2 1 ++ leBytes 4 64 ++ leBytes 4 0 ++ leBytes 8 7 ++ (more ++ List.replicate 40 0#8).take 40

/-- The manifest is in force, the guard image loaded. -/
def configured : State :=
  let s := (live State.reset).setReg .CFG_MANIFEST 0 7
  { s with dev := { s.dev with guardIn := true }, cfg := { CfgSt.init with manifest := manifestBytes, guard := 5 } }

/-- A load of floor 31 runs. -/
def loadingFloor (pass2 : Bool) : State :=
  let s := waits (put configured [(nocState, 31, if pass2 then 2 else 0)]) cmd1 0x1001 (.imageLoad 31) none
  { s with cfg := { s.cfg with load := some { cmd := some cmd1, floor := 31, entry := 9, pass2 := pass2, len := 64, digest := if pass2 then 5 else 0, fenceAt := 0 } } }

/-- The image of slot 2 of tile 510, number 3, entry point 0x40. -/
def slotImage : List Byte := emptyImage kSlot 31 (leBytes 2 510 ++ leBytes 1 2 ++ leBytes 1 0 ++ leBytes 2 3 ++ leBytes 4 0x40)

/-- It is being loaded. -/
def loadingSlot : State :=
  let s := (waits configured cmd1 0x1003 (.slotLoad 510 2) none).setSstate 510 2 stLoading
  s.modTile 510 fun x => { x with loading := [(cmd1, 2, slotImage)] }

theorem witness_ResetBootAndLoads_loads :
    canonOk configured = true ∧ cmd1.pack = false ∧
    (∀ kind, kind < 3 → acceptedOk configured cmd1 0x1001 (imageParams kind 31 0 62 9#64 64) false = true) ∧
    acceptedOk configured cmd1 0x1001 (imageParams 0 31 0 62 9#64 1840) false = true ∧ imageParFault 31 0 62 2 = none ∧
    configured.loadBusy = false ∧ configured.fld cfgAuto 0 ≠ 1 ∧ configured.manifestFits (sourced 0 1840 manifestBytes) = true ∧
    configured.floorLoadFault 31 = none ∧ [true, false].all (fun b => canonOk (loadingFloor b)) = true ∧ (loadingFloor true).fld nocState 31 = 2 ∧
    (emptyImage kFloor 31 []).length = 64 ∧ imageFrames kFloor (emptyImage kFloor 31 []) = some [] ∧
    acceptedOk configured cmd1 0x1002 (leBytes 1 31) false = true ∧ acceptedOk configured cmd1 0x1002 (leBytes 1 0xFF) false = true ∧
    configured.cfg.manifest.length = 1840 ∧
    acceptedOk configured cmd1 0x1005 (leBytes 2 832 ++ leBytes 2 1008) false = true ∧ slotLoadParFault 510 2 1 5 64 = none ∧
    acceptedOk configured cmd1 0x1003 (leBytes 2 510 ++ leBytes 1 2 ++ leBytes 1 1 ++ leBytes 8 5 ++ leBytes 4 64) false = true ∧
    configured.floorOpen (510 / 16) = true ∧ configured.cfg.load = none ∧ configured.slotBusy 510 2 = false ∧ configured.guardOf 510 2 = none ∧
    canonOk loadingSlot = true ∧ (loadingSlot.tile 510).loading = [(cmd1, 2, slotImage)] := by
  decide +kernel

/-- The slot image is sound. -/
theorem witness_ResetBootAndLoads_slot : configured.checkSlot 510 2 (sourced 0 64 slotImage) = .good [] := by
  decide +kernel

/-- The guard image is sound where its hash is the listed one. -/
theorem witness_ResetBootAndLoads_guard (h : imageDigest (sourced 0 64 (emptyImage kGuard 0 [])) = 5) :
    configured.checkGuard (sourced 0 64 (emptyImage kGuard 0 [])) = .good [] := by
  have hf : configured.foreign (sourced 0 64 (emptyImage kGuard 0 [])) 5 guardAt = false := by decide +kernel
  have hc : (configured.checkFrames .guard kGuard (sourced 0 64 (emptyImage kGuard 0 [])) fun l =>
      if (List.range 22).any (configured.bankBad (configured.guardFrames l)) then some (badImage []) else none) = .good [] := by
    decide +kernel
  have hd : (imageDigest (sourced 0 64 (emptyImage kGuard 0 []))).toNat = 5 := by rw [h]; decide +kernel
  simp only [State.checkGuard, hd, hf, hc, Bool.false_eq_true, if_false]

/-- The floor image is sound where its hash is the listed one. -/
theorem witness_ResetBootAndLoads_floor (h : imageDigest (sourced 0 64 (emptyImage kFloor 31 [])) = 5) :
    (loadingFloor false).checkFloor 31 (sourced 0 64 (emptyImage kFloor 31 [])) = .good [] := by
  have hf : ((loadingFloor false).foreign (sourced 0 64 (emptyImage kFloor 31 [])) 5 (floorAt 31) = true ∨
      numAt (sourced 0 64 (emptyImage kFloor 31 [])) 5 1 ≠ 31) = False := by
    apply eq_false; decide +kernel
  have hd : (imageDigest (sourced 0 64 (emptyImage kFloor 31 []))).toNat = 5 := by rw [h]; decide +kernel
  simp only [State.checkFloor, hd, hf, if_false]
  decide +kernel

/-! ### Freezing and the test port -/

/-- Floor 2 is OPEN and loaded; floor 3 is frozen; floor 4's freeze waits for batch 9, floor 5's for nothing. -/
def freezingState : State :=
  let s := waits (waits (put (live State.reset) [(cfgFloorState, 2, 2), (cfgFloorState, 3, 3), (cfgFloorState, 4, 5), (cfgFloorState, 5, 5), (bctlEn, 9, 1)])
    cmd1 0xB001 (.freeze 4) (some 0)) { cmd1 with tag := 2#32 } 0xB001 (.freeze 5) none
  (((s.setFrz 3 { batch := none, since := 0, prev := 2 }).setFrz 4 { batch := some 9, since := 0, prev := 2 }).setFrz 5 { batch := none, since := 0, prev := 2 }).putCfs
    (tileFrame 48) [1#8, 2#8]

/-- The port is on, its address at CFG_FLOOR 3; provisioning. -/
def portOn : State :=
  let s := put freezingState [(bootBsel, 0, 7)]
  { s with dev := { s.dev with jaddr := Reg.CFG_FLOOR.addr 3, resetN := true } }

theorem witness_FreezeReadbackAndTap :
    canonOk freezingState = true ∧
    acceptedOk freezingState cmd1 0xB001 (leBytes 1 2 ++ leBytes 1 9 ++ leBytes 1 0 ++ leBytes 2 5) false = true ∧
    acceptedOk freezingState cmd1 0xB001 (leBytes 1 2 ++ leBytes 1 9 ++ leBytes 1 1 ++ leBytes 2 5) false = true ∧
    acceptedOk freezingState cmd1 0xB001 (leBytes 1 3 ++ leBytes 1 9 ++ leBytes 1 0 ++ leBytes 2 5) false = true ∧
    freezingState.frozen 2 = false ∧ freezingState.freezing 2 = false ∧ freezingState.freezeFault 2 9 0 = none ∧ freezingState.freezeFault 2 9 1 = none ∧
    freezingState.frozen 3 = true ∧ freezingState.freezing 5 = true ∧ (freezingState.grav 5).move = none ∧ (freezingState.frz 5).batch = none ∧
    freezingState.freezing 4 = true ∧ (freezingState.frz 4).batch ≠ none ∧
    freezingState.cmds.filter (fun x => x.wait = .freeze 4) = [{ cmd := cmd1, op := 0xB001, wait := .freeze 4, deadline := some 0 }] ∧
    freezingState.tim.clk = 0 ∧ cmd1.remote = 0 ∧ freezingState.orphans.contains cmd1 = false ∧ (freezingState.frz 4).prev < 16 ∧
    acceptedOk freezingState cmd1 0xB002 (leBytes 5 (tileFrame 48) ++ leBytes 2 8) false = true ∧
    (∀ i, i < 8 → frameFloor (tileFrame 48 + i) = some 3) ∧ acceptedOk freezingState cmd1 0xB003 (leBytes 1 3) false = true ∧
    (freezingState.frz 3).prev < 16 ∧ canonOk portOn = true ∧ portOn.jtagOn = true ∧ regAt portOn.dev.jaddr = some (.CFG_FLOOR, 3, false) ∧
    frameFloor portOn.dev.jaddr = none ∧ isRegSpace portOn.dev.jaddr = true ∧ (nodeOf portOn.dev.jaddr).isSome = true ∧
    (0x82#8).getLsbD 7 = true ∧ (0x82#8).toNat % 32 = 2 ∧ portOn.frozen 2 = false ∧ portOn.freezeFault 2 0 1 = none ∧
    (0x03#8).getLsbD 7 = false ∧ portOn.frozen 3 = true ∧ (portOn.frz 3).prev < 16 ∧ portOn.dev.resetN = true ∧ portOn.fld bootBsel 0 = 7 ∧
    portOn.dev.fuses.khset = false := by
  decide +kernel

/-! ### Links -/

/-- Links: 0 off, 1 trains, 2 FAILED, 3 HELD, 4 FULL, 5 retrains from FULL; device 9 lies beyond link 4; channel 65 (link 4) pushes from
queue 5 to device 9; a request to device 9 is out. -/
def linking : State :=
  let s := put (holds (live State.reset) 5 [mkWord 0xAB#32 true true false]) [(alkEn, 1, 1), (alkState, 1, 1), (alkState, 2, 5), (alkState, 3, 3), (alkState, 4, 4),
    (alkState, 5, 1), (klnSeren, 0, 1), (xchEn, 65, 1), (xchDsdn, 65, 9), (xchDq, 65, 77), (xchSq, 65, 5)]
  let s := (s.setReg .NOC_GRT 9 0x80400000).modLink 5 fun x => { x with from_ := some (4, 7) }
  { s with tim := { s.tim with clk := 150000000 }, sysReqs := [{ id := 3, tag := 8, link := 4, dsdn := 9, sent := 0, chan := 65 }] }

/-- A side slot that passes its checks, with trip bits 0xA5. -/
def goodSlot : BitVec 80 :=
  let v : Nat := 0x5A0A50000000000 * 2 ^ 20
  BitVec.ofNat 80 (v + crc16 (slotBytes (BitVec.ofNat 80 v)))

/-- A record of a device with another manifest; one that fits. -/
def mashOther : MashRec := { sdn := 7, mhash := 1, major := 0, minor := 0, rev := 0, msdn := 0, ecnt := 0, hops := 0, member := 0, tcap := false, twin := 0 }
def mashFits : MashRec := { mashOther with mhash := 0 }

/-- System packets: a write for device 9, a write for this device, the answer of request 3. -/
def sysAway : Pkt := { pkt .wr 33 4 0x10 with sys := true, dsdn := 9, data := List.replicate 4 (some 1#8) }
def sysHere : Pkt := { sysAway with dsdn := 0 }
def sysAnswer : Pkt := { pkt .rsp 33 548 0 with sys := true, tag := 8 }

theorem witness_LinksComeAndGo :
    canonOk linking = true ∧ (0xC0000000#32).getLsbD 31 = true ∧ linking.flag alkEn 0 = false ∧ linking.fld alkState 5 = 1 ∧
    linking.fld alkState 1 = 1 ∧ linking.fld alkState 2 = 5 ∧ (linking.link 2).since + 100000000 ≤ linking.tim.clk ∧
    linking.carriesTrips 3 = true ∧ linking.linkUp 3 = true ∧ (linking.link 5).from_.isSome = true ∧
    (linking.link 5).since + 10000000 ≤ linking.tim.clk ∧ linking.flag klnSeren 0 = true ∧ twf (0, 0) (linking.link 3).eq = true ∧
    (tget (0, 0) (linking.link 3).eq (eqKey 3 true)).2 = 0 ∧ slotBad goodSlot = false ∧ slotBad 0#80 = true ∧
    goodSlot.toNat / 2 ^ 72 = 0x5A ∧ (linking.link 3).from_ = none ∧ linking.mashRow mashOther = 2 ∧
    linking.fld alkState 4 = 4 ∧ sysAway.dsdn % 4096 ≠ linking.fld sysSdn 0 ∧ linking.sysLink sysAway.dsdn true = some 4 ∧
    0 ≤ linking.fld grtMaxhop 0 ∧ sysHere.dsdn % 4096 = linking.fld sysSdn 0 ∧ pktAnswer sysHere = false ∧ pktPosted sysHere = false ∧
    (reqNode sysHere).isSome = true ∧ freeTag ((linking.link 4).proxies.map (·.tag)) = some 0 ∧
    linking.channelBusy 4 9 sysHere = false ∧ sysAnswer.dsdn % 4096 = linking.fld sysSdn 0 ∧ pktAnswer sysAnswer = true ∧
    sysAnswer.status = 0 ∧ linking.sysReqs.find? (fun q => q.dsdn == 9 && q.tag == sysAnswer.tag && decide (544 + q.chan / 16 = sysAnswer.src)) =
      some { id := 3, tag := 8, link := 4, dsdn := 9, sent := 0, chan := 65 } ∧
    linking.sysReqs.find? (fun x => x.id == 3 && decide (x.sent + linking.fld ⟨.DEV_SYSCFG, 30, 16⟩ 0 * 1000 ≤ linking.tim.clk)) =
      some { id := 3, tag := 8, link := 4, dsdn := 9, sent := 0, chan := 65 } ∧
    linking.xchReady 65 = true ∧ canPopOk linking 5 (.channel 4 1) (mkWord 0xAB#32 true true false) = true ∧
    linking.fld xchSq 65 = 5 ∧ linking.fld xchDsdn 65 ≠ linking.fld sysSdn 0 ∧ linking.sysLink (linking.fld xchDsdn 65) true = some 4 ∧
    freeTag ((linking.sysReqs.filter fun q => q.chan / 16 == 4).map (·.tag)) = some 0 ∧
    acceptedOk linking cmd1 0xA001 (leBytes 1 11) false = true ∧ acceptedOk linking cmd1 0xA002 (linkDisableBytes 4 0 7) false = true ∧
    linking.linkIdle 4 = false ∧ linking.links.all (fun p => !p.2.drain) = true ∧
    acceptedOk linking cmd1 0xA002 (linkDisableBytes 4 1 7) false = true ∧ cmd1.pack = false ∧ linking.waitsFor (.linkDrain 4) = false ∧
    linking.cmds = [] ∧ acceptedOk linking cmd1 0xA003 [] false = true ∧
    acceptedOk linking cmd1 0xA005 (sysChangeBytes [(4095, 11, 0xC5), (9, 0xFF, 0)]) false = true ∧
    sysChangeFault [(4095, 11, 0xC5), (9, 0xFF, 0)] = none ∧ linking.flag grtPend 0 = false ∧ [4095, 9].Nodup := by
  decide +kernel

/-- A record fits where Drefel's table holds its revision. -/
theorem witness_LinksComeAndGo_full (h : Config.compatRevs.contains 0#8 = true) : linking.mashRow mashFits = 0 := by
  have h1 : ¬ mashFits.sdn = linking.fld sysSdn 0 := by decide +kernel
  have h2 : ¬ mashFits.mhash ≠ linking.reg .CFG_MANIFEST 0 := by decide +kernel
  have h3 : ¬ mashFits.major ≠ linking.fwMajor := by decide +kernel
  have h4 : BitVec.ofNat 8 mashFits.rev = 0#8 := by decide +kernel
  have h5 : ¬ mashFits.member ≠ linking.reg .DEV_MEMBER 0 := by decide +kernel
  simp only [State.mashRow, if_neg h1, if_neg h2, if_neg h3, if_neg h5, h4, h, Bool.not_true, Bool.false_eq_true, if_false]

/-! ### Time over links, membership and twins -/

/-- SYSTEM mode over links 3 (HELD) and 4 (FULL); the last exchange came at time 0. -/
def timeLinks : State :=
  let s := put (live State.reset) [(tmbSrc, 0, 2), (tmbSrcact, 0, 2), (tmbLock, 0, 1), (alkState, 3, 3), (alkState, 4, 4), (alkPsdn, 4, 7), (tepV, 0, 1), (tepMsdn, 0, 3),
    (bctlEn, 200, 1), (⟨.TMB_BPER, 31, 0⟩, 200, 5000), (⟨.ALK_ASYM, 15, 0⟩, 4, 0xFFFF)]
  { (s.modLink 4 fun x => { x with exch := some (0, 1, 0#32) }) with tim := { s.tim with clk := 200000, now := 20000, running := true, pll := true } }

/-- Twins over link 4: standby of a pair whose heartbeat step started at 10000. -/
def twinStandby : State :=
  let s := put timeLinks [(twMode, 0, 1), (twBatch, 0, 200), (twLink, 0, 4), (twMiss, 0, 1), (devStby, 0, 1)]
  s.setBatch 200 { s.batch 200 with last := some 10000 }

/-- Active, two own heartbeats omitted. -/
def twinActive : State := { put twinStandby [(devStby, 0, 0), (twAct, 0, 1), (twMiss, 0, 0)] with twin := { TwinSt.init with own := 2 } }

/-- A takeover is due. -/
def twinTake : State := { twinStandby with twin := { TwinSt.init with take := some 20000 } }

/-- Active beside an active twin with a lower SDN. -/
def twinDual : State :=
  let s := put twinActive [(twPsdn, 0, 0), (sysSdn, 0, 5)]
  s.modLink 4 fun x => { x with twin := 2 }

/-- External arbitration. -/
def twinExt : State := put timeLinks [(twMode, 0, 2)]

theorem witness_TimeMembershipAndTwins :
    [timeLinks, twinStandby, twinActive, twinTake, twinDual, twinExt].all canonOk = true ∧ timeLinks.linkUp 4 = true ∧
    timeLinks.fld tmbSrcact 0 = 2 ∧ timeLinks.flag tmbLock 0 = true ∧ timeLinks.sysLocked = false ∧
    timeLinks.masterAllowed 4095 true = true ∧ timeLinks.flag tepV 0 = true ∧ timeLinks.fld tepMsdn 0 ≠ 4095 ∧
    acceptedOk timeLinks cmd1 0xA006 (leBytes 2 0xFFFF) false = true ∧ acceptedOk timeLinks cmd1 0xA006 (leBytes 2 4095) false = true ∧
    acceptedOk timeLinks cmd1 0xA004 (leBytes 4 0xABCD ++ leBytes 2 0x18 ++ leBytes 1 0) false = true ∧ timeLinks.cmds = [] ∧
    (4 < 12 ∧ bit 0x18 4 = true) ∧ timeLinks.twinStep = none ∧ timeLinks.twin.take = none ∧
    acceptedOk timeLinks cmd1 0xA007 (leBytes 1 1 ++ leBytes 1 1 ++ leBytes 1 4 ++ leBytes 1 200 ++ leBytes 1 1) false = true ∧
    timeLinks.twinCtlFault 1 4 200 = none ∧ timeLinks.fld alkState 3 ≠ 4 ∧
    acceptedOk timeLinks cmd1 0xA007 (leBytes 1 1 ++ leBytes 1 1 ++ leBytes 1 3 ++ leBytes 1 200 ++ leBytes 1 1) false = true ∧
    twinStandby.twinStep = some 10000 ∧ twinStandby.fld twMode 0 = 1 ∧ twinStandby.standby = true ∧ twinStandby.healthy = true ∧
    twinStandby.flag twInhib 0 = false ∧ 1 ≤ twinStandby.fld twMiss 0 ∧ twinActive.twinStep = some 10000 ∧ twinActive.fld twMiss 0 = 0 ∧
    twinActive.fld twMode 0 = 1 ∧ twinActive.standby = false ∧ 2 ≤ twinActive.twin.own ∧ twinTake.twin.take = some 20000 ∧
    20000 ≤ twinTake.tim.now ∧ twinDual.fld twMode 0 = 1 ∧ twinDual.standby = false ∧ twinDual.fld twPsdn 0 < twinDual.fld sysSdn 0 ∧
    (twinDual.link (twinDual.fld twLink 0)).twin = 2 ∧ twinExt.fld twMode 0 = 2 ∧ timeLinks.fld twMode 0 ≠ 2 := by
  decide +kernel

/-! ### Examples of the spec -/

/-- Words put together from the field tables of R154, R156 and R175. -/
theorem test_decode_shi : decodeSeq 9 0x3CA20047#32 = some (.shi 9 5 2 2 7) := by decide +kernel
theorem test_decode_stw : decodeSeq 9 0x7CEAFFFC#32 = some (.stw 9 7 10 0xFFFC#16) := by decide +kernel
theorem test_decode_qpush : decodeSeq 9 0x80722A18#32 = some (.qpush 9 3 9300 false false true true false) := by decide +kernel
theorem test_decode_jmp : decodeSeq 9 0xA3FFFFFE#32 = some (.jmp 9 0x3FFFFFE#26) := by decide +kernel
theorem test_decode_ticks : decodeSeq 9 0xC1800005#32 = some (.waitTicks 9 0 5#16) := by decide +kernel
theorem test_decode_trap : decodeSeq 9 0xDC001234#32 = some (.trap 9 0x1234#16) := by decide +kernel

/-- The example at R155: ADDI f0, g3, 100. -/
theorem test_encode_addi : encodeSeq (.addi 300 16 3 100#16) = some 0x32030064#32 := by decide

/-- The example of chapter 1: where tile T300, floor F18 and cell T300.C5 lie. -/
theorem test_addresses :
    nodeOf 0x0009612340 = some 18 ∧ tilOf 0x04412C0000 = some 300 ∧ regAt 0x04412C0000 = regAt (Reg.TIL_CTX.addr 300) := by decide +kernel

/-- The example at R53: FMA.F with A from wire input 5, B from K0 and C from wire input 9. -/
theorem test_cell_config :
    let g := decodeCfg (0x0380004014024000 * 2 ^ 64)
    g.opc = 3 ∧ g.fmt = 2 ∧ g.asrc = 0 ∧ g.bsrc = 1 ∧ g.csrc = 0 ∧ g.sela = 5 ∧ g.selc = 9 ∧ g.used = true := by decide +kernel

/-- The example at R277: 0xA5 is stored with check 0b0_0011; with d5 inverted it is corrected, with d5 and d6 it is not. -/
theorem test_ecc_example :
    eccEncode 0xA5#8 = 0x3A5#13 ∧ eccDecode 0x385#13 = { data := 0xA5#8, kind := 1, syn := 10, q := true } ∧
    (eccDecode 0x3C5#13).kind = 2 := by decide +kernel

/-- The same on the store: T300, ECC_FLIP_D with bit 45, then a MEM_WRITE of 0x0000_A500_0000_0000. -/
def flipping (d : Nat) : State :=
  ((live State.reset).setReg .ECC_FLIP_D 0 d).setReg .ECC_FLIP_CTL 0 0x8000012C

theorem test_flip_store : nextIs (.memWrite cmd1 0x0009612340 (leBytes 8 0x0000A50000000000)) (flipping 0x0000200000000000) (fun u =>
    decide (tget 0#13 u.store (u.phys 300 0x12345) = 0x385#13 ∧ u.flag flipArm 0 = false)) = true := by decide +kernel

/-- The read that follows returns 0xA5, counts, and logs the record of the example. -/
def flipped : State :=
  let s := (wrote (live State.reset) 300 0x12340 (List.replicate 8 0#8)).pokePhys ((live State.reset).phys 300 0x12345) 0x385#13
  s.setReg .ECC_CFG 0 0x10000

theorem test_flip_read : nextIs (.memRead cmd1 0x0009612345 1) flipped (fun u =>
    decide (u.replies.map (·.data) = [[0xA5#8, 0#8]] ∧ u.reg .TIL_ECC_CE 300 = 1 ∧
        u.logQ.map (fun r => (r.code, r.data % 2 ^ 48, r.data / 2 ^ 56 % 256)) = [(0x1001, 0x1A2005012345, 0x12)])) = true := by decide +kernel

/-- The QUEUE_PUSH packet of chapter 14 in slot 5 of VF 3's ring. -/
def pushSlot : List Byte :=
  [0x01#8, 0x30#8, 0x02#8, 0x03#8, 0x34#8, 0x12#8, 0#8, 0#8, 0x1C#8, 0#8, 0#8, 0#8, 0#8, 0#8, 0#8, 0#8, 0x54#8, 0x24#8, 4#8, 0#8, 0#8, 0#8, 0#8, 0#8] ++
    (List.range 16).map (BitVec.ofNat 8) ++ [1#8, 0#8, 0#8, 2#8] ++ List.replicate 980 0#8

def pushCmd : Cmd := { remote := 0, ring := 3, view := 3, tag := 0x1234#32, index := 5, order := false, irq := true, pack := false, target := 0#32 }

/-- Ring 3 at CHEAD 5, TAIL 6; view 3 owns Q9300. -/
def pushHost : State :=
  let s := openQ ((live State.reset).setOwner 1 9300 3) 9300
  let s := put s [(ringEn, 3, 1), (ringLog2n, 3, 6), (⟨.CMD_CHEAD, 31, 0⟩, 3, 5), (⟨.CMD_RTAIL, 31, 0⟩, 3, 5)]
  s.setRing 3 { RingSt.init with tail := 6, sized := true }

theorem test_push_fetch : nextIs (.commandFetch 3 pushSlot false) pushHost (fun u =>
    decide (u.fetched = [{ cmd := pushCmd, op := 0x3001, params := (pushSlot.drop 16).take 28 }] ∧ u.replies = [])) = true := by decide +kernel

theorem test_push_run : nextIs (.queuePush pushCmd 9300 [0x03020100#32, 0x07060504#32, 0x0B0A0908#32, 0x0F0E0D0C#32] [1#8, 0#8, 0#8, 2#8]) pushHost (fun u =>
    decide ((u.queue 9300).level = 4 ∧ (u.queue 9300).ilock = none ∧ u.replies.map (fun r => replyBytes r true) =
        [[0#8, 1#8, 2#8, 0#8, 0x34#8, 0x12#8, 0#8, 0#8, 1#8, 0x30#8, 5#8, 0#8, 0#8, 0#8, 0#8, 0#8, 4#8, 0#8]])) = true := by decide +kernel

/-- The example of chapter 17: gate lane 37 misses a release of batch 3; the words of the record. -/
def missing37 : State :=
  let s := timed 5000051981 [(bctlEn, 3, 1), (bctlRsen, 3, 1), (bctlRset, 3, 3), (laneEn, 37, 1), (laneBound, 37, 1), (laneRset, 37, 3), (laneGuard, 37, 20), (laneMaxmiss, 37, 3)]
  (s.setReg .TMB_BDL 3 40000).setBatch 3 { s.batch 3 with last := some 5000012000 }

theorem test_log_record : nextIs (.rackDeadlineCheck 37) missing37 (fun u =>
    decide (u.logQ.map (fun r => (r.log, recNum r)) = [(2, 0x000000012A06BD0C + 0x0000000025065101 * 2 ^ 64 + 0x0000012A06BD2002 * 2 ^ 128 + 0x1000 * 2 ^ 192)])) = true := by decide +kernel

/-- The example at R411: TBTGT of a floor with batch 3 is 583 ps. -/
theorem test_gravity_target :
    ((State.reset.setReg .TMB_BDL 3 40000).setReg .TMB_BCP 3 60000).batchTarget 18 3 = 583 := by decide +kernel

/-- The example at R367: the sinc2 sums of 8 to 11 ones after a run that contributes 0. -/
theorem test_sinc2_weights : [8, 9, 10, 11].map (fun n => (List.range 15).foldl (fun a i => if i < n then a + [1, 2, 3, 4, 5, 6, 7, 8, 7, 6, 5, 4, 3, 2, 1].getD i 0 else a) 0) =
    [36, 43, 49, 54] ∧ sincOut 2 8 (List.replicate 15 true) = 64 := by decide +kernel

/-- The example at R369: sixteen slots of two lanes give one channel; its bits alternate between the lanes. -/
theorem test_adc_lanes : channelWord [[true, false, true, false, true, false, true, false], [false, true, false, true, false, true, false, true]] 2 16 0 false =
    0x9999#32 := by decide +kernel

/-! ### Commands that no sender can form -/

theorem test_wf_rdtime_odd : wellFormed (.rdtime 0 3) = false := by decide
theorem test_wf_wait_time_odd : wellFormed (.waitTime 0 5) = false := by decide
theorem test_wf_ticks_two_counts : wellFormed (.waitTicks 0 2 1#16) = false := by decide
theorem test_wf_wait_direct_register : wellFormed (.waitQne 0 2 false 5) = false ∧ wellFormed (.waitQspc 0 2 false 5) = false := by decide
theorem test_wf_indirect_queue : wellFormed (.qpush 0 1 32 true false false false false) = false ∧ wellFormed (.qpop 0 1 32 true false) = false ∧
    wellFormed (.qdrop 0 32 true) = false ∧ wellFormed (.qlvl 0 1 32 true) = false := by decide
theorem test_wf_legal_word : wellFormed (.illegalInstruction 0 0xC4000000#32) = false := by decide +kernel
theorem test_wf_desc_past_end : wellFormed (.taskDescWrite 0 0 60 (List.replicate 8 0#8)) = false ∧ wellFormed (.taskDescWrite 0 0 0 []) = false := by decide
theorem test_wf_push_tags : wellFormed (.queuePush cmd1 0 [1#32] []) = false := by decide
theorem test_wf_short_slot : wellFormed (.commandFetch 0 [0#8] false) = false := by decide
theorem test_wf_remote_ring : wellFormed (.nop { cmd1 with remote := 1, ring := 2 } []) = false ∧ wellFormed (.nop { cmd1 with remote := 4097 } []) = false := by decide
theorem test_wf_packet_tag : wellFormed (.pktRd { pkt0 with tag := 256 }) = false := by decide
theorem test_wf_mash_minor : wellFormed (.mashRecordReceive 0 ⟨0, 0, 0, 256, 0, 0, 0, 0, 0, false, 0⟩ false) = false := by decide
theorem test_wf_adc_lanes : wellFormed (.adcFrameReceive 0 (List.replicate 17 [])) = false := by decide
theorem test_wf_formed : wellFormed (.rdtime 0 4) = true ∧ wellFormed (.nop cmd1 [1#8]) = true ∧ wellFormed (.pktRd pkt0) = true := by decide

/-! ### The block -/

theorem witness_IdleStepIsOneRimClock :
    ppsState.pending = [] ∧ State.reset.tim.running = false ∧ setWaits.tim.running = true ∧ setWaits.fld tmbSrcact 0 = 0 ∧ setWaits.noc.draining = false := by
  decide +kernel

theorem witness_StepKeepsCanon : canonOk State.reset = true ∧ (match step State.reset with | .next _ => true | _ => false) = true := by
  decide +kernel

theorem witness_CommandsLeaveTheQueue : nextIs (.nop cmd1 []) (live State.reset) (fun u => decide (u.pending = [])) = true := by
  decide +kernel

theorem witness_SequencerWordsRoundTrip :
    wellFormed (.addi 5 16 3 0xFFFF#16) = true ∧ encodeSeq (.addi 5 16 3 0xFFFF#16) = some 0x3203FFFF#32 ∧
    decodeSeq 5 0xD8000008#32 = some (.fence 5 false false false) := by decide +kernel

end Sys2Proof.Tests
end

section
/-! PROOFS. A register write under the access codes (R15 to R18): what each bit of the register holds after it, and what it
leaves unchanged. -/

namespace Sys2Proof

open Sys2Proof.Machine

/-! ### Bits of sums and differences -/

theorem bit_eq_testBit (n b : Nat) : bit n b = n.testBit b := Nat.testBit_eq_decide_div_mod_eq.symm

/-- Numbers with no bit in common add without a carry. -/
theorem add_eq_lor_of_land_eq_zero {x y : Nat} (h : x &&& y = 0) : x + y = x ||| y := by
  have hx : x < 2 ^ (x + y) := lt_of_le_of_lt (Nat.le_add_right x y) Nat.lt_two_pow_self
  have hy : y < 2 ^ (x + y) := lt_of_le_of_lt (Nat.le_add_left y x) Nat.lt_two_pow_self
  have hd : BitVec.ofNat (x + y) x &&& BitVec.ofNat (x + y) y = 0#(x + y) := by rw [← BitVec.ofNat_and, h]
  have hsum := BitVec.toNat_add_of_and_eq_zero hd
  rw [BitVec.add_eq_or_of_and_eq_zero _ _ hd] at hsum
  simpa [Nat.mod_eq_of_lt hx, Nat.mod_eq_of_lt hy] using hsum.symm

theorem sub_land_eq_ldiff (n a : Nat) : n - (n &&& a) = n.ldiff a := by
  have hdisj : n.ldiff a &&& (n &&& a) = 0 := by
    apply Nat.eq_of_testBit_eq
    intro b
    cases h : a.testBit b <;> simp [h]
  have hor : n.ldiff a ||| (n &&& a) = n := by
    apply Nat.eq_of_testBit_eq
    intro b
    cases h : a.testBit b <;> simp [h]
  have hsum : n.ldiff a + (n &&& a) = n := (add_eq_lor_of_land_eq_zero hdisj).trans hor
  omega

theorem testBit_overlay (old m v b : Nat) :
    (overlay old m v).testBit b = if m.testBit b then v.testBit b else old.testBit b := by
  have hdisj : old.ldiff m &&& (v &&& m) = 0 := by
    apply Nat.eq_of_testBit_eq
    intro b
    cases h : m.testBit b <;> simp [h]
  rw [overlay, sub_land_eq_ldiff, add_eq_lor_of_land_eq_zero hdisj]
  cases h : m.testBit b <;> simp [h]

/-! ### Access codes (R15) -/

/-- Each bit of a merged write: RW bits take the value, W1C bits written 1 fall, W1S bits written 1 rise. -/
theorem testBit_mergeWrite (d : RegInfo) (old m v b : Nat) :
    (mergeWrite d old m v).testBit b =
      ((if (d.rw &&& m).testBit b then v.testBit b else old.testBit b) && !(d.w1c &&& m &&& v).testBit b ||
        (d.w1s &&& m &&& v).testBit b) := by
  have h : mergeWrite d old m v = (overlay old (d.rw &&& m) v -
      (overlay old (d.rw &&& m) v &&& (d.w1c &&& m &&& v))) ||| (d.w1s &&& m &&& v) := rfl
  rw [h, Nat.testBit_or, sub_land_eq_ldiff, Nat.testBit_ldiff, testBit_overlay]

/-- No bit of the register table is both W1C and RW, or both W1C and W1S. -/
theorem w1c_disjoint (r : Reg) : r.info.w1c &&& (r.info.rw ||| r.info.w1s) = 0 := by
  cases r <;> rfl

theorem rw_w1s_false_of_w1c {r : Reg} {b : Nat} (h : r.info.w1c.testBit b = true) :
    r.info.rw.testBit b = false ∧ r.info.w1s.testBit b = false := by
  have hb := congrArg (Nat.testBit · b) (w1c_disjoint r)
  simpa [h] using hb

/-- A bit inside the accessed half follows its access code. -/
theorem testBit_mergeWrite_info {r : Reg} {old m v b : Nat} (hm : m.testBit b = true) :
    (mergeWrite r.info old m v).testBit b =
      if r.info.rw.testBit b then v.testBit b
      else if r.info.w1c.testBit b && v.testBit b then false
      else if r.info.w1s.testBit b && v.testBit b then true else old.testBit b := by
  simp only [testBit_mergeWrite, Nat.testBit_and, hm, Bool.and_true]
  cases hc : r.info.w1c.testBit b
  case true =>
    obtain ⟨hrw, hs⟩ := rw_w1s_false_of_w1c hc
    cases v.testBit b <;> simp [hrw, hs]
  case false => cases v.testBit b <;> cases r.info.rw.testBit b <;> simp [Bool.or_comm]

/-! ### Stores of a register -/

/-- The number of bits of a register's element. -/
def regWidth (r : Reg) : Nat := if r.info.wide then 64 else 32

theorem regWidth_le (r : Reg) : regWidth r ≤ 64 := by
  unfold regWidth
  split <;> decide

theorem halfMask_whole (r : Reg) : halfMask r.info.wide false = 2 ^ regWidth r - 1 := by
  unfold regWidth
  cases r.info.wide <;> rfl

theorem testBit_halfMask_whole {r : Reg} {b : Nat} (hb : b < regWidth r) :
    (halfMask r.info.wide false).testBit b = true := by
  rw [halfMask_whole, Nat.testBit_two_pow_sub_one, decide_eq_true hb]

theorem reg_setReg_self {s : State} (h : rising s.regs = true) (r : Reg) (i v : Nat) : (s.setReg r i v).reg r i = v % 2 ^ 64 := by
  rw [State.reg, State.setReg_regs, tget_tput h, if_pos rfl, BitVec.toNat_ofNat]

/-- A store of a whole register sets each of its bits by that bit's access code. -/
theorem testBit_reg_storeReg {s : State} (h : rising s.regs = true) {r : Reg} {i v b : Nat} (hb : b < regWidth r) :
    ((s.storeReg r i (halfMask r.info.wide false) v).reg r i).testBit b =
      if r.info.rw.testBit b then v.testBit b
      else if r.info.w1c.testBit b && v.testBit b then false
      else if r.info.w1s.testBit b && v.testBit b then true else (s.reg r i).testBit b := by
  rw [State.storeReg, reg_setReg_self h, Nat.testBit_mod_two_pow, decide_eq_true (hb.trans_le (regWidth_le r)), Bool.true_and]
  exact testBit_mergeWrite_info (testBit_halfMask_whole hb)

theorem storeReg_other {s : State} (h : rising s.regs = true) {r q : Reg} {i j : Nat} (m v : Nat) (hq : q.addr j ≠ r.addr i) :
    (s.storeReg r i m v).reg q j = s.reg q j :=
  reg_setReg h r q i j _ hq

/-! ### Registers whose write is the store and nothing else -/

/-- The registers whose write has an effect, a clamp or a condition of its own in `writeReg`; every other write is the store. -/
def effectRegs : List Reg :=
  [.DEV_FAULT, .DEV_SYSCFG, .CMD_CBASE, .CMD_RBASE, .CMD_CFG, .CMD_DB, .ECC_SCRUB, .ECC_FLIP_CTL, .LOG_TAIL, .GRV_PCAP,
    .ALK_CTL, .TMB_CTL, .TMB_PPS_OFS, .TMB_BPER, .TMB_BPHS, .TMB_BDL, .TMB_BCTL, .RAK_LANE, .RAK_PORT, .RAK_SAFEW, .TRP_PINCTL,
    .TRP_HOSTWD, .TRP_HOSTKICK, .TRP_LINE_CFG, .TRP_GBANK, .TRP_VLINK, .TRP_LINKOUT, .TRP_MASK, .NOC_DRAIN_TO, .NOC_STAT_CTL,
    .NOC_GRT_CTL, .NOC_RT, .NOC_GRT, .FIO_MCLK, .FIO_SD, .FIO_SDTH, .FIO_ADCCFG, .FIO_ADCCNV, .FIO_ENCCFG, .FIO_ENCTIM, .FIO_GOUT,
    .FIO_CAR, .FIO_VLCFG, .FIO_GPIO, .QUE_CFG, .QUE_WM_HIGH, .QUE_WM_LOW, .SCH_CFG, .SCH_FLOW, .TIL_KPAIR]

section
variable {s : State} {r : Reg} {i m v : Nat} (h : r ∉ effectRegs)
include h

theorem devWrite_of_plain : s.devWrite r i m v = s.storeReg r i m v := by
  unfold State.devWrite
  split
  case h_12 => rfl
  all_goals simp [effectRegs] at h

theorem timeWrite_of_plain : s.timeWrite r i m v = s.storeReg r i m v := by
  unfold State.timeWrite
  split
  case h_10 => exact devWrite_of_plain h
  all_goals simp [effectRegs] at h

theorem tripWrite_of_plain : s.tripWrite r i m v = s.storeReg r i m v := by
  unfold State.tripWrite
  split
  case h_14 => exact timeWrite_of_plain h
  all_goals simp [effectRegs] at h

theorem fieldWrite_of_plain : s.fieldWrite r i m v = s.storeReg r i m v := by
  unfold State.fieldWrite
  split
  case h_12 => exact tripWrite_of_plain h
  all_goals simp [effectRegs] at h

theorem writeReg_of_plain (view : Nat) : s.writeReg view r i m v = s.storeReg r i m v := by
  unfold State.writeReg
  split
  case h_7 => exact fieldWrite_of_plain h
  all_goals simp [effectRegs] at h

end

/-! ### REGISTER_WRITE -/

/-- Register space accepts the access to a whole register at an address aligned to it (R39). -/
theorem regAccess_whole {n i : Nat} {r : Reg} (hr : regAt n = some (r, i, false)) (ha : n % (if r.info.wide then 8 else 4) = 0) :
    regAccess n (if r.info.wide then 8 else 4) = true := by
  cases hw : r.info.wide
  case true =>
    have h8 : n % 8 = 0 := by simpa [hw] using ha
    simp [regAccess, hr, hw, h8]
  case false =>
    have h4 : n % 4 = 0 := by simpa [hw] using ha
    simp [regAccess, h4]

section
variable {s : State} {view : ViewNo} {a : LocalAddr} {v : DWord} {r : Reg} {i : Nat}
  (hr : regAt a.toNat = some (r, i, false)) (hs : isRegSpace a.toNat = true) (hn : (nodeOf a.toNat).isSome = true)
  (ha : a.toNat % (if r.info.wide then 8 else 4) = 0)
include hr hs hn ha

/-- An access that register space accepts is decided by the rights and the fence alone. -/
theorem execRegisterWrite_whole : execRegisterWrite view a r.info.wide v s =
    if !unitReached view (s.owns view) a.toNat true ∨ s.unitOff a.toNat then .next s
    else .next (s.writeReg view r i (halfMask r.info.wide false) (if r.info.wide then v.toNat else v.toNat % 2 ^ 32)) := by
  simp [execRegisterWrite, State.writeUnit, hr, hs, Option.isNone_eq_false_iff.mpr hn, regAccess_whole hr ha]

theorem exec_registerWrite_barred (h : unitReached view (s.owns view) a.toNat true = false ∨ s.unitOff a.toNat = true) :
    exec (.registerWrite view a r.info.wide v) s = .next s := by
  have harm : exec (.registerWrite view a r.info.wide v) s = execRegisterWrite view a r.info.wide v s := rfl
  rw [harm, execRegisterWrite_whole hr hs hn ha, if_pos (by simpa using h)]

theorem exec_registerWrite_plain (hreach : unitReached view (s.owns view) a.toNat true = true) (hon : s.unitOff a.toNat = false)
    (h : r ∉ effectRegs) : exec (.registerWrite view a r.info.wide v) s =
      .next (s.storeReg r i (halfMask r.info.wide false) (if r.info.wide then v.toNat else v.toNat % 2 ^ 32)) := by
  have harm : exec (.registerWrite view a r.info.wide v) s = execRegisterWrite view a r.info.wide v s := rfl
  rw [harm, execRegisterWrite_whole hr hs hn ha, if_neg (by simp [hreach, hon]), writeReg_of_plain h]

end

/-- The value that a whole access writes holds the command's bits. -/
theorem testBit_written {r : Reg} {v : DWord} {b : Nat} (hb : b < regWidth r) :
    (if r.info.wide then v.toNat else v.toNat % 2 ^ 32).testBit b = v.getLsbD b := by
  unfold regWidth at hb
  split
  case isTrue => exact BitVec.testBit_toNat v
  case isFalse hw =>
    rw [if_neg hw] at hb
    rw [Nat.testBit_mod_two_pow, decide_eq_true hb, Bool.true_and, BitVec.testBit_toNat]

/-- Settles O18: a register outside the list takes only the store, whose bits follow the access codes one by one. -/
theorem plainRegisterWrites : Obligations.PlainRegisterWrites := by
  unfold Obligations.PlainRegisterWrites
  intro s view a v r i hc hr hs hn ha
  refine ⟨fun hreach hon hplain => ?_, fun hbar => ⟨s, exec_registerWrite_barred hr hs hn ha hbar, rfl⟩⟩
  refine ⟨_, exec_registerWrite_plain hr hs hn ha hreach hon hplain, fun b hb => ?_, fun q j hq => ?_, rfl⟩
  · simp only [bit_eq_testBit]
    rw [testBit_reg_storeReg hc.regs hb, testBit_written hb]
  · exact storeReg_other hc.regs _ _ hq

end Sys2Proof
end

section
/-! PROOFS. The register map (R37, R42): the address of every element of every register name is inside register space, aligned to
the register's width, and found for that element alone. -/

namespace Sys2Proof

open Sys2Proof.Machine

/-! ### The element of a register at an address -/

/-- Bytes of one element (R39). -/
def elemBytes (d : RegInfo) : Nat := if d.wide then 8 else 4

/-- What the address decoder needs of a row of the register table: elements exist, the inner array fits in one outer stride, and
elements do not overlap. -/
def strided (d : RegInfo) : Bool :=
  d.n1 != 0 && d.n2 != 0 && decide ((d.n2 - 1) * d.s2 < d.s1) && decide (4 ≤ d.s2)

theorem strided_of_mem : ∀ r ∈ Reg.all, strided r.info = true := by decide +kernel

/-- An element's place in the two strides. -/
theorem elem_lt {r : Reg} {i : Nat} (hi : i < r.count) : i / r.info.n2 < r.info.n1 ∧ i % r.info.n2 < r.info.n2 := by
  have h2 : 0 < r.info.n2 := Nat.pos_of_mul_pos_left (lt_of_le_of_lt (Nat.zero_le i) hi)
  exact ⟨Nat.div_lt_of_lt_mul (by rwa [Nat.mul_comm]), Nat.mod_lt i h2⟩

/-- The decoder of one register undoes `Reg.addr`. -/
theorem elemAt_addr {r : Reg} {i : Nat} (hr : r ∈ Reg.all) (hi : i < r.count) : r.elemAt (r.addr i) = some (i, false) := by
  obtain ⟨h1, h2⟩ := elem_lt hi
  have hs := strided_of_mem r hr
  simp only [strided, Bool.and_eq_true, decide_eq_true_eq] at hs
  obtain ⟨⟨-, hfit⟩, hstep⟩ := hs
  have hin : i % r.info.n2 * r.info.s2 < r.info.s1 :=
    lt_of_le_of_lt (Nat.mul_le_mul_right _ (Nat.le_sub_one_of_lt h2)) hfit
  have hoff : r.addr i - r.info.base = i % r.info.n2 * r.info.s2 + r.info.s1 * (i / r.info.n2) := by
    rw [Reg.addr, Nat.mul_comm r.info.s1]
    omega
  have hd : (r.addr i - r.info.base) / r.info.s1 = i / r.info.n2 := by
    rw [hoff, Nat.add_mul_div_left _ _ (by omega), Nat.div_eq_of_lt hin, Nat.zero_add]
  have hm : (r.addr i - r.info.base) % r.info.s1 = i % r.info.n2 * r.info.s2 := by
    rw [hoff, Nat.add_mul_mod_self_left, Nat.mod_eq_of_lt hin]
  have hle : ¬ r.addr i < r.info.base := by
    rw [Reg.addr]
    omega
  simp only [Reg.elemAt, if_neg hle, hd, hm, Nat.mul_div_cancel _ (show 0 < r.info.s2 by omega), Nat.mul_mod_left, h1, h2,
    and_self, if_true, Nat.div_add_mod']

/-- An address that one register's decoder knows is a byte of one of its elements. -/
theorem addr_of_elemAt {q : Reg} {a : Nat} {p : Nat × Bool} (h : q.elemAt a = some p) :
    ∃ i < q.count, ∃ k < elemBytes q.info, a = q.addr i + k := by
  simp only [Reg.elemAt] at h
  split at h
  · cases h
  split at h
  · rename_i hbase hplace
    obtain ⟨h1, h2⟩ := hplace
    have houter := Nat.div_add_mod' (a - q.info.base) q.info.s1
    have hinner := Nat.div_add_mod' ((a - q.info.base) % q.info.s1) q.info.s2
    generalize (a - q.info.base) / q.info.s1 = i1 at *
    generalize (a - q.info.base) % q.info.s1 / q.info.s2 = i2 at *
    generalize (a - q.info.base) % q.info.s1 % q.info.s2 = k at *
    have hdiv : (i1 * q.info.n2 + i2) / q.info.n2 = i1 := by
      rw [Nat.mul_comm, Nat.mul_add_div (by omega), Nat.div_eq_of_lt h2, Nat.add_zero]
    have hmod : (i1 * q.info.n2 + i2) % q.info.n2 = i2 := by
      rw [Nat.mul_comm, Nat.mul_add_mod, Nat.mod_eq_of_lt h2]
    refine ⟨i1 * q.info.n2 + i2, ?_, k, ?_, ?_⟩
    · calc i1 * q.info.n2 + i2 < (i1 + 1) * q.info.n2 := by rw [Nat.succ_mul]; omega
        _ ≤ q.count := Nat.mul_le_mul_right _ h1
    · unfold elemBytes
      split at h
      · split <;> omega
      · split at h
        · rename_i hhigh
          rw [if_pos hhigh.2]
          omega
        · cases h
    · rw [Reg.addr, hdiv, hmod]
      omega
  · cases h

/-! ### Registers apart -/

/-- The first residue modulo `m` of a register's bytes. -/
def windowLo (d : RegInfo) (m : Nat) : Nat := d.base % m

/-- How far `n` steps of stride `s` move a residue modulo `m`: not at all when `m` divides the stride. -/
def spread (n s m : Nat) : Nat := if s % m = 0 then 0 else (n - 1) * s

/-- The residues modulo `m` of a register's bytes lie below this, when it is at most `m`. -/
def windowHi (d : RegInfo) (m : Nat) : Nat := windowLo d m + spread d.n1 d.s1 m + spread d.n2 d.s2 m + elemBytes d

/-- The residues of the two registers' bytes modulo `m` do not meet. -/
def apartMod (d e : RegInfo) (m : Nat) : Bool :=
  (windowHi d m).ble m && (windowHi e m).ble m &&
    ((windowHi d m).ble (windowLo e m) || (windowHi e m).ble (windowLo d m))

/-- The whole local address space, the strides of floors and of tiles, and those of arrays of records. -/
def mapPeriods : List Nat := [2 ^ 36, 0x100000, 0x10000, 0x40, 0x20, 0x10]

/-- The two registers share no byte, which one period of the map shows. -/
def apart (d e : RegInfo) : Bool := mapPeriods.any (apartMod d e)

/-- `k` steps of a stride move a residue by at most its spread. -/
theorem exists_spread_mod {n s m k : Nat} (hk : k < n) : ∃ e ≤ spread n s m, ∀ b, (b + k * s) % m = (b + e) % m := by
  unfold spread
  split
  · rename_i hs
    exact ⟨0, le_rfl, fun b => by simp [Nat.add_mod, Nat.mul_mod, hs]⟩
  · exact ⟨k * s, Nat.mul_le_mul_right _ (Nat.le_sub_one_of_lt hk), fun _ => rfl⟩

theorem mod_mem_window {r : Reg} {i k m : Nat} (hi : i < r.count) (hk : k < elemBytes r.info) (hm : windowHi r.info m ≤ m) :
    windowLo r.info m ≤ (r.addr i + k) % m ∧ (r.addr i + k) % m < windowHi r.info m := by
  obtain ⟨h1, h2⟩ := elem_lt hi
  obtain ⟨e1, he1, hmod1⟩ := exists_spread_mod (s := r.info.s1) (m := m) h1
  obtain ⟨e2, he2, hmod2⟩ := exists_spread_mod (s := r.info.s2) (m := m) h2
  have hlt : windowLo r.info m + e1 + e2 + k < windowHi r.info m := by
    unfold windowHi
    omega
  have hmod : (r.addr i + k) % m = windowLo r.info m + e1 + e2 + k := by
    calc (r.addr i + k) % m
        = (r.info.base + i / r.info.n2 * r.info.s1 + k + i % r.info.n2 * r.info.s2) % m := by rw [Reg.addr]; congr 1; omega
      _ = (r.info.base + k + e2 + i / r.info.n2 * r.info.s1) % m := by rw [hmod2]; congr 1; omega
      _ = (r.info.base + (e1 + e2 + k)) % m := by rw [hmod1]; congr 1; omega
      _ = (windowLo r.info m + (e1 + e2 + k)) % m := by rw [windowLo, Nat.mod_add_mod]
      _ = windowLo r.info m + e1 + e2 + k := by
        rw [Nat.mod_eq_of_lt (by omega)]
        omega
  omega

/-- No address of a register is known to the decoder of one that is apart from it. -/
theorem elemAt_eq_none_of_apart {q r : Reg} {i : Nat} (h : apart q.info r.info = true) (hi : i < r.count) :
    q.elemAt (r.addr i) = none := by
  obtain ⟨m, -, hm⟩ := List.any_eq_true.mp h
  simp only [apartMod, Bool.and_eq_true, Bool.or_eq_true, Nat.ble_eq] at hm
  obtain ⟨⟨hq, hr⟩, hside⟩ := hm
  refine Option.eq_none_iff_forall_ne_some.mpr fun p hp => ?_
  obtain ⟨j, hj, k, hk, hjk⟩ := addr_of_elemAt hp
  have hqw := mod_mem_window hj hk hq
  have hrw := mod_mem_window (k := 0) hi (by unfold elemBytes; split <;> decide) hr
  rw [← hjk] at hqw
  rw [Nat.add_zero] at hrw
  omega

theorem pairwise_apart : Reg.all.Pairwise fun q r => apart q.info r.info = true := by decide +kernel

/-- A search through rows that are apart stops at the row whose element it is. -/
theorem findSome_elemAt {l : List Reg} (hl : l.Pairwise fun q r => apart q.info r.info = true) {r : Reg} {i : Nat}
    (hr : r ∈ l) (hi : i < r.count) (hown : r.elemAt (r.addr i) = some (i, false)) :
    l.findSome? (fun q => (q.elemAt (r.addr i)).map fun p => (q, p.1, p.2)) = some (r, i, false) := by
  induction hl with
  | nil => cases hr
  | cons hq _ ih =>
    rw [List.findSome?_cons]
    rcases List.mem_cons.mp hr with rfl | hr
    · rw [hown]
      rfl
    · rw [elemAt_eq_none_of_apart (hq r hr) hi]
      exact ih hr

/-- The element found at an element's address is that element. -/
theorem regAt_addr {r : Reg} {i : Nat} (hr : r ∈ Reg.all) (hi : i < r.count) : regAt (r.addr i) = some (r, i, false) :=
  findSome_elemAt pairwise_apart hr hi (elemAt_addr hr hi)

/-! ### Place and alignment -/

/-- Base and strides are multiples of the register's width. -/
def widthAligned (d : RegInfo) : Bool := d.base % elemBytes d == 0 && d.s1 % elemBytes d == 0 && d.s2 % elemBytes d == 0

theorem widthAligned_of_mem : ∀ r ∈ Reg.all, widthAligned r.info = true := by decide +kernel

theorem addr_mod_elemBytes {r : Reg} (hr : r ∈ Reg.all) (i : Nat) : r.addr i % elemBytes r.info = 0 := by
  have h := widthAligned_of_mem r hr
  simp only [widthAligned, Bool.and_eq_true, beq_iff_eq] at h
  obtain ⟨⟨hb, h1⟩, h2⟩ := h
  simp [Reg.addr, Nat.add_mod, Nat.mul_mod, hb, h1, h2]

/-- The parts of register space that have a node (R294): the rim, the floor hubs and the tiles. -/
def regBlocks : List (Nat × Nat) :=
  [(0x0400000000, 0x04002C0000), (0x0410000000, 0x0412000000), (0x0440000000, 0x0442000000)]

/-- The first and the last element of the register lie in one of the parts. -/
def inBlock (d : RegInfo) : Bool :=
  regBlocks.any fun b => decide (b.1 ≤ d.base) && decide (d.base + (d.n1 - 1) * d.s1 + (d.n2 - 1) * d.s2 < b.2)

theorem inBlock_of_mem : ∀ r ∈ Reg.all, inBlock r.info = true := by decide +kernel

theorem addr_mem_block {r : Reg} {i : Nat} (hr : r ∈ Reg.all) (hi : i < r.count) :
    ∃ b ∈ regBlocks, b.1 ≤ r.addr i ∧ r.addr i < b.2 := by
  obtain ⟨b, hb, h⟩ := List.any_eq_true.mp (inBlock_of_mem r hr)
  simp only [Bool.and_eq_true, decide_eq_true_eq] at h
  obtain ⟨hlo, hhi⟩ := h
  obtain ⟨h1, h2⟩ := elem_lt hi
  have h1' : i / r.info.n2 * r.info.s1 ≤ (r.info.n1 - 1) * r.info.s1 := Nat.mul_le_mul_right _ (Nat.le_sub_one_of_lt h1)
  have h2' : i % r.info.n2 * r.info.s2 ≤ (r.info.n2 - 1) * r.info.s2 := Nat.mul_le_mul_right _ (Nat.le_sub_one_of_lt h2)
  exact ⟨b, hb, by unfold Reg.addr; omega, by unfold Reg.addr; omega⟩

/-- An address in a part of register space that has a node. -/
theorem regSpace_of_block {a : Nat} {b : Nat × Nat} (hb : b ∈ regBlocks) (hlo : b.1 ≤ a) (hhi : a < b.2) :
    isRegSpace a = true ∧ (nodeOf a).isSome = true := by
  simp only [regBlocks, List.mem_cons, List.not_mem_nil, or_false] at hb
  have hspace : 0x0400000000 ≤ a ∧ a < 0x0442000000 := by
    rcases hb with rfl | rfl | rfl <;> omega
  refine ⟨decide_eq_true hspace, ?_⟩
  unfold nodeOf
  rw [if_neg (by omega), if_neg (by omega), if_neg (by omega), if_neg (by omega), if_neg (by omega), if_neg (by omega),
    if_pos hspace]
  rcases hb with rfl | rfl | rfl <;> dsimp only at hlo hhi ⊢
  · rw [if_neg (by omega), if_neg (by omega), if_neg (by omega), if_neg (by omega)]
    rfl
  · rw [if_neg (by omega), if_pos (by omega)]
    rfl
  · rw [if_neg (by omega), if_neg (by omega), if_neg (by omega), if_pos (by omega)]
    rfl

/-- Settles O19: what holds of every element holds of the first and the last. -/
theorem registerMap : Obligations.RegisterMap := by
  unfold Obligations.RegisterMap
  intro r hr i hi
  have hcount : i < r.count := by
    have hs := strided_of_mem r hr
    have hpos : 0 < r.count := by
      simp only [strided, Bool.and_eq_true, bne_iff_ne] at hs
      exact Nat.mul_pos (by omega) (by omega)
    simp only [List.mem_cons, List.not_mem_nil, or_false] at hi
    omega
  obtain ⟨b, hb, hlo, hhi⟩ := addr_mem_block hr hcount
  obtain ⟨hspace, hnode⟩ := regSpace_of_block hb hlo hhi
  exact ⟨regAt_addr hr hcount, hspace, hnode, addr_mod_elemBytes hr i⟩

end Sys2Proof
end

section
/-! PROOFS. Writes to the tile stores (R270, R272, R278): what a run of writes leaves at each place of a memory, where the offsets
of the tile stores live, and how each of them reads after a write. -/

namespace Sys2Proof

open Sys2Proof.Machine

/-! ### Runs of writes -/

section
variable {σ ι β : Type} {read : σ → Nat → β} {write : σ → ι → σ} {key : ι → Nat} {val : ι → β} {Inv : σ → Prop}
  (hinv : ∀ s x, Inv s → Inv (write s x))
  (hread : ∀ s x n, Inv s → read (write s x) n = if n = key x then val x else read s n)
include hinv

theorem foldl_write_inv (l : List ι) {s : σ} (h : Inv s) : Inv (l.foldl write s) := by
  induction l generalizing s with
  | nil => exact h
  | cons x l ih => exact ih (hinv s x h)

include hread

/-- A run of writes leaves every place that none of them writes. -/
theorem read_foldl_of_notMem {l : List ι} {s : σ} (h : Inv s) {n : Nat} (hn : n ∉ l.map key) :
    read (l.foldl write s) n = read s n := by
  induction l generalizing s with
  | nil => rfl
  | cons x l ih =>
    rw [List.map_cons, List.mem_cons, not_or] at hn
    obtain ⟨hx, hl⟩ := hn
    rw [List.foldl_cons, ih (hinv s x h) hl, hread s x n h, if_neg hx]

/-- After a run of writes to different places each place holds what was written there. -/
theorem read_foldl_of_mem {l : List ι} {s : σ} (h : Inv s) (hl : (l.map key).Nodup) {x : ι} (hx : x ∈ l) :
    read (l.foldl write s) (key x) = val x := by
  induction l generalizing s with
  | nil => cases hx
  | cons y l ih =>
    rw [List.map_cons, List.nodup_cons] at hl
    obtain ⟨hy, hl⟩ := hl
    rw [List.foldl_cons]
    rcases List.mem_cons.mp hx with rfl | hx
    · rw [read_foldl_of_notMem hinv hread (hinv s x h) hy, hread s x _ h, if_pos rfl]
    · exact ih (hinv s y h) hl hx

end

/-! ### Bytes of a stored place -/

/-- A stored place as a reader decodes it: zero without error while its line is fresh (R268, R271). -/
def decodedAt (s : State) (ph : Nat) : Decoded :=
  if s.fresh ph then { data := 0#8, kind := 0, syn := 0, q := false } else eccDecode (tget 0#13 s.store ph)

theorem peek_fst (s : State) (t off : Nat) : (s.peek t off).1 = decodedAt s (s.phys t off) := by
  unfold State.peek decodedAt
  dsimp only
  split <;> rfl

/-- The tables of the tile stores can be read after a write. -/
def StoreRising (s : State) : Prop := rising s.store = true ∧ rising s.written = true

/-- `n` stored places from `a` on set to zero with valid check bits (R272). -/
def zeroed (m : Tbl (BitVec 13)) (a n : Nat) : Tbl (BitVec 13) := (List.range n).foldl (fun m i => tput 0#13 m (a + i) 0#13) m

theorem rising_zeroed {m : Tbl (BitVec 13)} (h : rising m = true) (a n : Nat) : rising (zeroed m a n) = true :=
  foldl_write_inv (Inv := fun m => rising m = true) (fun _ _ hm => rising_tput hm) _ h

theorem tget_zeroed {m : Tbl (BitVec 13)} (h : rising m = true) (a n k : Nat) :
    tget 0#13 (zeroed m a n) k = if a ≤ k ∧ k < a + n then 0#13 else tget 0#13 m k := by
  induction n with
  | zero => rw [if_neg (by omega)]; rfl
  | succ n ih =>
    rw [zeroed, List.range_succ, List.foldl_append]
    change tget 0#13 (tput 0#13 (zeroed m a n) (a + n) 0#13) k = _
    rw [tget_tput (rising_zeroed h a n), ih]
    by_cases hk : k = a + n
    · rw [if_pos hk, if_pos (by omega)]
    · rw [if_neg hk]
      exact if_congr (by omega) rfl rfl

theorem store_openLine (s : State) (ph : Nat) :
    (s.openLine ph).store = if s.fresh ph then zeroed s.store (ph / 64 * 64) 64 else s.store := by
  rw [State.openLine, apply_ite State.store, zeroed]

theorem written_openLine (s : State) (ph : Nat) :
    (s.openLine ph).written = if s.fresh ph then tput false s.written (ph / 64) true else s.written := by
  rw [State.openLine, apply_ite State.written]

theorem storeRising_openLine {s : State} (h : StoreRising s) (ph : Nat) : StoreRising (s.openLine ph) := by
  obtain ⟨h1, h2⟩ := h
  rw [StoreRising, store_openLine, written_openLine]
  split
  · exact ⟨rising_zeroed h1 _ _, rising_tput h2⟩
  · exact ⟨h1, h2⟩

theorem fresh_of_sameLine {s : State} {n m : Nat} (h : n / 64 = m / 64) : s.fresh n = s.fresh m := by
  rw [State.fresh, State.fresh, h]

theorem openLine_of_written {s : State} {ph : Nat} (hf : s.fresh ph = false) : s.openLine ph = s :=
  if_neg (by simp [hf])

/-- A write opens the line of its place and no other. -/
theorem fresh_openLine {s : State} (h : StoreRising s) (ph n : Nat) :
    (s.openLine ph).fresh n = if n / 64 = ph / 64 then false else s.fresh n := by
  cases hf : s.fresh ph
  case true =>
    rw [State.fresh, written_openLine, if_pos hf, tget_tput h.2, State.fresh]
    split <;> rfl
  case false =>
    rw [openLine_of_written hf]
    split
    · rw [fresh_of_sameLine ‹_›, hf]
    · rfl

theorem eccDecode_zero : eccDecode 0#13 = { data := 0#8, kind := 0, syn := 0, q := false } := by decide

/-- A line opened by a write reads as it did while it was fresh (R272). -/
theorem decodedAt_openLine {s : State} (h : StoreRising s) (ph n : Nat) : decodedAt (s.openLine ph) n = decodedAt s n := by
  cases hf : s.fresh ph
  case false => rw [openLine_of_written hf]
  case true =>
    rw [decodedAt, fresh_openLine h, store_openLine, if_pos hf, tget_zeroed h.1, decodedAt]
    by_cases hn : n / 64 = ph / 64
    · have hin : ph / 64 * 64 ≤ n ∧ n < ph / 64 * 64 + 64 := by omega
      rw [if_pos hn, if_pos hin, eccDecode_zero, fresh_of_sameLine hn, hf]
      rfl
    · have hout : ¬ (ph / 64 * 64 ≤ n ∧ n < ph / 64 * 64 + 64) := by omega
      rw [if_neg hn, if_neg hout]

theorem storeRising_pokePhys {s : State} (h : StoreRising s) (ph : Nat) (v : BitVec 13) : StoreRising (s.pokePhys ph v) := by
  obtain ⟨h1, h2⟩ := storeRising_openLine h ph
  exact ⟨rising_tput h1, h2⟩

/-- A byte written is decoded at its place; every other place reads as before. -/
theorem decodedAt_pokePhys {s : State} (h : StoreRising s) (ph n : Nat) (v : BitVec 13) :
    decodedAt (s.pokePhys ph v) n = if n = ph then eccDecode v else decodedAt s n := by
  have hget : tget 0#13 (s.pokePhys ph v).store n = if n = ph then v else tget 0#13 (s.openLine ph).store n :=
    tget_tput (storeRising_openLine h ph).1
  have hfresh : (s.pokePhys ph v).fresh n = (s.openLine ph).fresh n := rfl
  rw [decodedAt, hfresh, hget]
  by_cases hn : n = ph
  · rw [if_pos hn, if_pos hn, fresh_openLine h, hn, if_pos rfl]
    rfl
  · rw [if_neg hn, if_neg hn]
    exact decodedAt_openLine h ph n

/-! ### Where an offset of a tile store lives (R278) -/

/-- A page lives at its own place, or in the spare page whose remap entry names it. -/
theorem physPage_cases (s : State) (t p : Nat) :
    s.physPage t p = p ∨ ∃ k < 4, s.fld remapPage (4 * t + k) = p ∧ s.physPage t p = 128 + k := by
  rw [State.physPage]
  cases hf : (List.range 4).find? fun k => s.flag remapV (4 * t + k) && s.fld remapPage (4 * t + k) == p with
  | none => exact .inl rfl
  | some k =>
    have hk := List.find?_some hf
    simp only [Bool.and_eq_true, beq_iff_eq] at hk
    exact .inr ⟨k, List.mem_range.mp (List.mem_of_find?_eq_some hf), hk.2, rfl⟩

theorem physPage_lt (s : State) (t : Nat) {p : Nat} (hp : p < 128) : s.physPage t p < 132 := by
  rcases physPage_cases s t p with h | ⟨k, hk, -, h⟩ <;> omega

theorem physPage_inj (s : State) (t : Nat) {p q : Nat} (hp : p < 128) (hq : q < 128) (h : s.physPage t p = s.physPage t q) :
    p = q := by
  rcases physPage_cases s t p with h1 | ⟨k, -, hpk, h1⟩ <;> rcases physPage_cases s t q with h2 | ⟨j, -, hqj, h2⟩
  · omega
  · omega
  · omega
  · have hkj : k = j := by omega
    rw [← hpk, ← hqj, hkj]

/-- Offsets of the tile stores live at different places. -/
theorem phys_inj (s : State) {t t' off off' : Nat} (ho : off < 0x80000) (ho' : off' < 0x80000)
    (h : s.phys t off = s.phys t' off') : t = t' ∧ off = off' := by
  have hp := physPage_lt s t (show off / 4096 % 128 < 128 by omega)
  have hp' := physPage_lt s t' (show off' / 4096 % 128 < 128 by omega)
  simp only [State.phys, physByte] at h
  obtain rfl : t = t' := by omega
  have hpage := physPage_inj s t (show off / 4096 % 128 < 128 by omega) (show off' / 4096 % 128 < 128 by omega) (by omega)
  omega

theorem fld_congr {s u : State} (h : u.regs = s.regs) : u.fld = s.fld := by
  funext f i
  rw [State.fld, State.fld, State.reg, State.reg, h]

theorem flag_congr {s u : State} (h : u.regs = s.regs) : u.flag = s.flag := by
  funext f i
  rw [State.flag, State.flag, fld_congr h]

/-- The remap entries are registers. -/
theorem phys_congr {s u : State} (h : u.regs = s.regs) (t off : Nat) : u.phys t off = s.phys t off := by
  rw [State.phys, State.phys, State.physPage, State.physPage, fld_congr h, flag_congr h]

/-! ### Bytes written to a tile store (R270, R299) -/

/-- A byte as it is stored, with its check bits or poisoned. -/
def storedByte (b : Byte) (poisoned : Bool) : BitVec 13 := if poisoned then eccPoison b else eccEncode b

/-- A stored byte reads back without error, or uncorrectable when it was poisoned (R266, R279). -/
theorem eccDecode_storedByte : ∀ (b : Byte) (poisoned : Bool),
    (eccDecode (storedByte b poisoned)).data = b ∧ (eccDecode (storedByte b poisoned)).kind = if poisoned then 2 else 0 := by
  decide +kernel

/-- One byte of a write (offset, byte, poisoned) put into the store of tile `t`. -/
def pokeByte (t : Nat) (s : State) (x : Nat × Byte × Bool) : State := s.pokePhys (s.phys t x.1) (storedByte x.2.1 x.2.2)

theorem pokePhys_frame (s : State) (ph : Nat) (v : BitVec 13) :
    s.pokePhys ph v = { s with store := (s.pokePhys ph v).store, written := (s.pokePhys ph v).written } := by
  cases hf : s.fresh ph <;> simp [State.pokePhys, State.openLine, hf]

/-- What bytes written one by one to tile stores leave alone. -/
structure Poked (s u : State) : Prop where
  rises : StoreRising u
  frame : u = { s with store := u.store, written := u.written }

section
variable {s u : State} (h : Poked s u)
include h

theorem Poked.regs : u.regs = s.regs := by rw [h.frame]
theorem Poked.queues : u.queues = s.queues := by rw [h.frame]
theorem Poked.cfs : u.cfs = s.cfs := by rw [h.frame]
theorem Poked.net : u.net = s.net := by rw [h.frame]
theorem Poked.sharers : u.sharers = s.sharers := by rw [h.frame]

end

theorem poked_pokeByte (s : State) (t : Nat) (u : State) (x : Nat × Byte × Bool) (h : Poked s u) : Poked s (pokeByte t u x) where
  rises := storeRising_pokePhys h.rises _ _
  frame := by
    rw [pokeByte, pokePhys_frame, h.frame]

theorem decodedAt_pokeByte (s : State) (t : Nat) (u : State) (x : Nat × Byte × Bool) (n : Nat) (h : Poked s u) :
    decodedAt (pokeByte t u x) n = if n = s.phys t x.1 then eccDecode (storedByte x.2.1 x.2.2) else decodedAt u n := by
  rw [pokeByte, decodedAt_pokePhys h.rises, phys_congr h.regs]

theorem applyFlip_unarmed {s : State} (h : s.flag flipArm 0 = false) (t : Nat) (offs : List Nat) : s.applyFlip t offs = s := by
  unfold State.applyFlip
  split
  · rfl
  · rw [if_neg (by simp [h])]

/-- What a write with no flip armed and no sharers does: its bytes stored one by one, and their lines marked. -/
def afterWrite (s : State) (t : Nat) (l : List (Nat × Byte × Bool)) : State :=
  (l.foldl (pokeByte t) s).touchLines t (l.map (·.1))

theorem poked_foldl {s : State} (h : StoreRising s) (t : Nat) (l : List (Nat × Byte × Bool)) : Poked s (l.foldl (pokeByte t) s) :=
  foldl_write_inv (poked_pokeByte s t) l ⟨h, rfl⟩

theorem storeBytes_eq (s : State) (t : Nat) (l : List (Nat × Byte × Bool)) :
    s.storeBytes t l = ((l.foldl (pokeByte t) s).applyFlip t (l.map (·.1))).touchLines t (l.map (·.1)) := rfl

theorem storeBytes_unarmed {s : State} (hr : StoreRising s) (h : s.flag flipArm 0 = false) (t : Nat)
    (l : List (Nat × Byte × Bool)) : s.storeBytes t l = afterWrite s t l := by
  have hf : (l.foldl (pokeByte t) s).flag flipArm 0 = false := by rw [flag_congr (poked_foldl hr t l).regs, h]
  rw [storeBytes_eq, applyFlip_unarmed hf, afterWrite]

section
variable {s : State} (hr : StoreRising s) (t : Nat) (l : List (Nat × Byte × Bool))
include hr

theorem afterWrite_regs : (afterWrite s t l).regs = s.regs := (poked_foldl hr t l).regs
theorem afterWrite_queues : (afterWrite s t l).queues = s.queues := (poked_foldl hr t l).queues
theorem afterWrite_cfs : (afterWrite s t l).cfs = s.cfs := (poked_foldl hr t l).cfs
theorem afterWrite_net : (afterWrite s t l).net = s.net := (poked_foldl hr t l).net
theorem afterWrite_sharers : (afterWrite s t l).sharers = s.sharers := (poked_foldl hr t l).sharers

end

/-- A line that no tile shares is not invalidated (R166). -/
theorem invalidate_unshared {s : State} (h : s.sharers = []) (t line : Nat) : s.invalidate t line = ([], s) := by
  have hs : { s with sharers := [] } = s := by rw [← h]
  rw [State.invalidate, h]
  simp [tget, tput, hs]

/-- Stored bytes are all that a write to an unshared tile store makes, and nothing waits for an acknowledgement (R166, R270). -/
theorem writeStore_unshared {s : State} (hr : StoreRising s) (hs : s.sharers = []) (hf : s.flag flipArm 0 = false) (t : Nat)
    (l : List (Nat × Byte × Bool)) : s.writeStore t l = ([], afterWrite s t l) := by
  rw [State.writeStore, storeBytes_unarmed hr hf]
  have hkeep := invalidate_unshared ((afterWrite_sharers hr t l).trans hs) t
  exact List.foldl_fixed' (fun line => by simp only [hkeep, List.append_nil]) _

theorem peek_afterWrite {s : State} (hr : StoreRising s) (t : Nat) (l : List (Nat × Byte × Bool)) (t' off : Nat) :
    ((afterWrite s t l).peek t' off).1 = decodedAt (l.foldl (pokeByte t) s) (s.phys t' off) := by
  rw [peek_fst, phys_congr (afterWrite_regs hr t l)]
  rfl

/-- Every byte that a write does not name reads as before. -/
theorem peek_afterWrite_other {s : State} (hr : StoreRising s) {t : Nat} {l : List (Nat × Byte × Bool)}
    (hl : ∀ x ∈ l, x.1 < 0x80000) {t' off : Nat} (ho : off < 0x80000) (h : t' ≠ t ∨ ∀ x ∈ l, off ≠ x.1) :
    ((afterWrite s t l).peek t' off).1 = (s.peek t' off).1 := by
  rw [peek_afterWrite hr, peek_fst]
  refine read_foldl_of_notMem (poked_pokeByte s t) (decodedAt_pokeByte s t) ⟨hr, rfl⟩ fun hmem => ?_
  obtain ⟨x, hx, hphys⟩ := List.mem_map.mp hmem
  obtain ⟨ht, hoff⟩ := phys_inj s (hl x hx) ho hphys
  rcases h with h | h
  · exact h ht.symm
  · exact h x hx hoff.symm

/-- Every byte that a write names reads back as it was stored. -/
theorem peek_afterWrite_self {s : State} (hr : StoreRising s) {t : Nat} {l : List (Nat × Byte × Bool)}
    (hl : ∀ x ∈ l, x.1 < 0x80000) (hnd : (l.map (·.1)).Nodup) {x : Nat × Byte × Bool} (hx : x ∈ l) :
    ((afterWrite s t l).peek t x.1).1 = eccDecode (storedByte x.2.1 x.2.2) := by
  rw [peek_afterWrite hr]
  refine read_foldl_of_mem (poked_pokeByte s t) (decodedAt_pokeByte s t) ⟨hr, rfl⟩ ?_ hx
  have hmap : l.map (fun x => s.phys t x.1) = (l.map (·.1)).map (s.phys t) := by rw [List.map_map]; rfl
  rw [hmap]
  refine hnd.map_on fun a ha b hb hab => ?_
  obtain ⟨y, hy, rfl⟩ := List.mem_map.mp ha
  obtain ⟨z, hz, rfl⟩ := List.mem_map.mp hb
  exact (phys_inj s (hl y hy) (hl z hz) hab).2

end Sys2Proof
end

section
/-! PROOFS. WR and CFGWR requests at their node (R40, R295, R297, R299): what each writes, and what it leaves as it was. -/

namespace Sys2Proof

open Sys2Proof.Machine

/-! ### Enabled bytes (R299) -/

/-- The enabled bytes are the packet's, each with the poison bit of its 4-byte word. -/
theorem mem_enabledBytes {p : Pkt} {off : Nat} {x : Nat × Byte × Bool} :
    x ∈ enabledBytes p off ↔ ∃ i b, p.data[i]? = some (some b) ∧ x = (off + i, b, bit p.psn (i / 4)) := by
  simp only [enabledBytes, List.mem_filterMap, Prod.exists, List.mem_zipIdx_iff_getElem?, Option.map_eq_some_iff]
  constructor
  · rintro ⟨d, i, hd, b, rfl, rfl⟩
    exact ⟨i, b, hd, rfl⟩
  · rintro ⟨i, b, hd, rfl⟩
    exact ⟨some b, i, hd, b, rfl, rfl⟩

theorem nodup_enabledBytes (p : Pkt) (off : Nat) : ((enabledBytes p off).map (·.1)).Nodup := by
  have hidx : p.data.zipIdx.Pairwise fun x y => x.2 ≠ y.2 := List.pairwise_map.mp (List.nodup_zipIdx_map_snd p.data)
  rw [List.Nodup, List.pairwise_map, enabledBytes, List.pairwise_filterMap]
  refine hidx.imp fun {x y} hxy u hu v hv huv => ?_
  obtain ⟨b, -, rfl⟩ := Option.map_eq_some_iff.mp hu
  obtain ⟨c, -, rfl⟩ := Option.map_eq_some_iff.mp hv
  exact hxy (Nat.add_left_cancel huv)

/-! ### Answers -/

/-- An RSP sent once the request has left the network is the request's answer (R300). -/
theorem answers_rsp {s u : State} {p : Pkt} (h : u.net = s.net.erase p) (node st r : Nat) :
    Answers s (u.rsp node p st r) p st r :=
  ⟨_, congrArg (· ++ [_]) h, rfl, rfl, rfl, rfl, rfl, rfl⟩

/-- The checks of R295 do not read the network. -/
theorem pktFault_takePkt (s : State) (p q : Pkt) (w : Bool) : (s.takePkt q).pktFault p w = s.pktFault p w := rfl

/-! ### WR -/

/-- The checks of R295 passed: the request's length is that of its SIZE, and its space accepts it. -/
theorem wellSized_accepted_of_pktFault {s : State} {p : Pkt} {w : Bool} (h : s.pktFault p w = none) :
    wellSized p = true ∧ accepted p.addr (reqBytes p.size) = true := by
  unfold State.pktFault at h
  split at h
  · cases h
  split at h
  · cases h
  split at h
  · cases h
  split at h
  · cases h
  rename_i hsize _ hacc
  exact ⟨by simpa using hsize, by simpa using hacc⟩

theorem spaceOf_store {a t off : Nat} (h : spaceOf a = .store t off) : off = a % 0x80000 := by
  unfold spaceOf at h
  split_ifs at h
  cases h
  rfl

/-- An accepted write of a tile store stays within it. -/
theorem store_write_in_bounds {s : State} {p : Pkt} {w : Bool} {t off i : Nat} (h : s.pktFault p w = none) (hop : p.op ≠ .rd)
    (hsp : spaceOf p.addr = .store t off) (hi : i < p.data.length) : off + i < 0x80000 := by
  obtain ⟨hsize, hacc⟩ := wellSized_accepted_of_pktFault h
  simp only [wellSized, if_neg hop, Bool.and_eq_true, decide_eq_true_eq, beq_iff_eq] at hsize
  obtain ⟨hcode, hlen⟩ := hsize
  rw [accepted, hsp, beq_iff_eq] at hacc
  have hdvd : reqBytes p.size ∣ 0x80000 := by
    interval_cases p.size <;> decide
  have hoff : off % reqBytes p.size = 0 := by rw [spaceOf_store hsp, Nat.mod_mod_of_dvd _ hdvd, hacc]
  have hlt : off < 0x80000 := by
    rw [spaceOf_store hsp]
    exact Nat.mod_lt _ (by decide)
  obtain ⟨k, hk⟩ := Nat.dvd_of_mod_eq_zero hoff
  obtain ⟨m, hm⟩ := hdvd
  have hkm : k < m := Nat.lt_of_mul_lt_mul_left (hk ▸ hm ▸ hlt)
  have hend : reqBytes p.size * (k + 1) ≤ reqBytes p.size * m := Nat.mul_le_mul_left _ hkm
  rw [Nat.mul_succ] at hend
  omega

theorem op_of_reqArrived {s : State} {p : Pkt} {op : POp} (h : s.reqArrived p op = true) : p.op = op := by
  simp only [State.reqArrived, Bool.and_eq_true, beq_iff_eq] at h
  exact h.2

theorem exec_pktWr_refused {s : State} {p : Pkt} {st : Nat} (h : s.reqArrived p .wr = true) (hst : s.pktFault p true = some st) :
    exec (.pktWr p) s = .next ((s.takePkt p).rsp p.dest p st 0) := by
  have harm : exec (.pktWr p) s = execPktWr p s := rfl
  rw [harm, execPktWr, if_pos h]
  dsimp only
  rw [pktFault_takePkt, hst]

theorem exec_pktWr_served {s : State} {p : Pkt} (h : s.reqArrived p .wr = true) (hst : s.pktFault p true = none) :
    exec (.pktWr p) s = .next ((s.takePkt p).serveWrite p) := by
  have harm : exec (.pktWr p) s = execPktWr p s := rfl
  rw [harm, execPktWr, if_pos h]
  dsimp only
  rw [pktFault_takePkt, hst]

theorem serveWrite_store_unshared {s : State} {p : Pkt} {t off : Nat} (hr : StoreRising s) (hs : s.sharers = [])
    (hf : s.flag flipArm 0 = false) (hsp : spaceOf p.addr = .store t off) :
    s.serveWrite p = (afterWrite s t (enabledBytes p off)).rsp p.dest p stOk 0 := by
  rw [State.serveWrite, hsp]
  dsimp only
  rw [State.writeStorePkt, writeStore_unshared hr hs hf]
  rfl

/-- A WR carried out in a tile store that no tile shares, with no flip armed (R166, R297, R299). -/
theorem wr_stores {s : State} {p : Pkt} (hc : Canon s) (h : s.reqArrived p .wr = true) {t off : Nat}
    (hst : s.pktFault p true = none) (hsp : spaceOf p.addr = .store t off) (hs : s.sharers = []) (hf : s.flag flipArm 0 = false) :
    Completes (.pktWr p) s fun u => Answers s u p stOk 0 ∧
      (∀ i b, p.data[i]? = some (some b) →
        (u.peek t (off + i)).1.data = b ∧ (u.peek t (off + i)).1.kind = if bit p.psn (i / 4) then 2 else 0) ∧
      (∀ t' off', off' < 0x80000 → (t' ≠ t ∨ ∀ i b, p.data[i]? = some (some b) → off' ≠ off + i) →
        (u.peek t' off').1.data = (s.peek t' off').1.data) ∧ u.regs = s.regs ∧ u.queues = s.queues ∧ u.cfs = s.cfs := by
  have hr : StoreRising (s.takePkt p) := ⟨rising_of_twf hc.store, rising_of_twf hc.written⟩
  have hbound : ∀ x ∈ enabledBytes p off, x.1 < 0x80000 := by
    intro x hx
    obtain ⟨i, b, hib, rfl⟩ := mem_enabledBytes.mp hx
    obtain ⟨hi, -⟩ := List.getElem?_eq_some_iff.mp hib
    exact store_write_in_bounds hst (by rw [op_of_reqArrived h]; decide) hsp hi
  refine ⟨_, (exec_pktWr_served h hst).trans (congrArg _ (serveWrite_store_unshared hr hs hf hsp)),
    answers_rsp (afterWrite_net hr t _) _ _ _, fun i b hib => ?_, fun t' off' ho hout => ?_,
    afterWrite_regs hr t _, afterWrite_queues hr t _, afterWrite_cfs hr t _⟩
  · have hx : (off + i, b, bit p.psn (i / 4)) ∈ enabledBytes p off := mem_enabledBytes.mpr ⟨i, b, hib, rfl⟩
    have hpeek := peek_afterWrite_self (t := t) hr hbound (nodup_enabledBytes p off) hx
    obtain ⟨hdata, hkind⟩ := eccDecode_storedByte b (bit p.psn (i / 4))
    exact ⟨(congrArg Decoded.data hpeek).trans hdata, (congrArg Decoded.kind hpeek).trans hkind⟩
  · refine congrArg Decoded.data (peek_afterWrite_other hr hbound ho (hout.imp_right fun hout x hx => ?_))
    obtain ⟨i, b, hib, rfl⟩ := mem_enabledBytes.mp hx
    exact hout i b hib

/-! ### CFGWR -/

section
variable {s : State} (h : rising s.cfs = true) {a : Nat} {l : List Byte}
include h

theorem cfsByte_putCfs_self {i : Nat} {b : Byte} (hb : l[i]? = some b) : (s.putCfs a l).cfsByte (a + i) = b.toNat := by
  have hnd : (l.zipIdx.map fun x => a + x.2).Nodup := by
    have hidx := (List.nodup_zipIdx_map_snd l).map (add_right_injective a)
    rwa [List.map_map] at hidx
  exact congrArg BitVec.toNat (read_foldl_of_mem (read := tget 0#8) (key := fun x : Byte × Nat => a + x.2) (val := Prod.fst)
    (Inv := fun m => rising m = true) (fun _ _ hm => rising_tput hm) (fun _ _ _ hm => tget_tput hm) h hnd
    (x := (b, i)) (List.mem_zipIdx_iff_getElem?.mpr hb))

theorem cfsByte_putCfs_other {n : Nat} (hn : n < a ∨ a + l.length ≤ n) : (s.putCfs a l).cfsByte n = s.cfsByte n := by
  refine congrArg BitVec.toNat (read_foldl_of_notMem (read := tget 0#8) (key := fun x : Byte × Nat => a + x.2) (val := Prod.fst)
    (Inv := fun m => rising m = true) (fun _ _ hm => rising_tput hm) (fun _ _ _ hm => tget_tput hm) h fun hmem => ?_)
  obtain ⟨x, hx, rfl⟩ := List.mem_map.mp hmem
  have hlt := (List.mem_zipIdx' hx).1
  omega

end

theorem exec_pktCfgwr_engine {s : State} {p : Pkt} (h : s.reqArrived p .cfgwr = true) (hsrc : p.src = 559) (hsize : p.size = 4)
    (hlen : p.data.length = 64) (haddr : p.addr % 64 = 0) (hsp : spaceOf p.addr = .frames) : exec (.pktCfgwr p) s =
      .next (((s.takePkt p).putCfs p.addr (p.data.map (·.getD 0#8))).rsp p.dest p stOk 0) := by
  have harm : exec (.pktCfgwr p) s = execPktCfgwr p s := rfl
  rw [harm, execPktCfgwr, if_pos h, if_neg (not_not.mpr hsrc), if_neg (by simp [hsize, hlen, haddr, hsp])]

theorem exec_pktCfgwr_other {s : State} {p : Pkt} (h : s.reqArrived p .cfgwr = true) (hsrc : p.src ≠ 559)
    (hf : s.fenced p = false) : exec (.pktCfgwr p) s = .next ((s.takePkt p).rsp p.dest p stNoPriv 0) := by
  have harm : exec (.pktCfgwr p) s = execPktCfgwr p s := rfl
  have hf' : (s.takePkt p).fenced p = false := hf
  simp only [harm, execPktCfgwr, if_pos h, if_pos hsrc, hf', Bool.false_eq_true, if_false]

/-- A CFGWR line of the configuration engine (R40). -/
theorem cfgwr_writes {s : State} {p : Pkt} (hc : Canon s) (h : s.reqArrived p .cfgwr = true) (hsrc : p.src = 559)
    (hsize : p.size = 4) (hlen : p.data.length = 64) (haddr : p.addr % 64 = 0) (hsp : spaceOf p.addr = .frames) :
    Completes (.pktCfgwr p) s fun u => Answers s u p stOk 0 ∧
      (∀ i b, p.data[i]? = some (some b) → u.cfsByte (p.addr + i) = b.toNat) ∧
      (∀ a, (a < p.addr ∨ p.addr + 64 ≤ a) → u.cfsByte a = s.cfsByte a) ∧ u.store = s.store := by
  have hr : rising (s.takePkt p).cfs = true := rising_of_twf hc.cfs
  refine ⟨_, exec_pktCfgwr_engine h hsrc hsize hlen haddr hsp, answers_rsp rfl _ _ _, fun i b hib => ?_, fun a ha => ?_, rfl⟩
  · exact cfsByte_putCfs_self hr (by rw [List.getElem?_map, hib]; rfl)
  · exact cfsByte_putCfs_other hr (by rwa [List.length_map, hlen])

/-- Settles O36: what a WR stores (`wr_stores`) and what a CFGWR writes (`cfgwr_writes`); a refused one leaves the network and is
answered. -/
theorem writePackets : Obligations.WritePackets := by
  unfold Obligations.WritePackets
  intro s p hc
  refine ⟨fun hwr => ⟨fun st hst => ?_, fun t off hst hsp hs hf => wr_stores hc hwr hst hsp hs hf⟩,
    fun hcfg => ⟨fun hsrc hsize hlen haddr hsp => cfgwr_writes hc hcfg hsrc hsize hlen haddr hsp, fun hsrc hf => ?_⟩⟩
  · exact ⟨_, exec_pktWr_refused hwr hst, answers_rsp rfl _ _ _, rfl⟩
  · exact ⟨_, exec_pktCfgwr_other hcfg hsrc hf, answers_rsp rfl _ _ _, rfl⟩

end Sys2Proof
end

section
/-! PROOFS. What a cell computes in .I, in .Q and on selections (R55, R56, R64 to R67): which operation table an operation code
selects, what each operation of it gives, and the two fixed-point results, wrapped and saturated. -/

namespace Sys2Proof

open Sys2Proof.Machine

/-! ### Words -/

@[simp] theorem setWidth_of32 (w : Word) : (of32 w).setWidth 32 = w := by simp [of32]

@[simp] theorem ofInt_i32 (a : DWord) : BitVec.ofInt 32 (i32 a) = w32 a := BitVec.ofInt_toInt

theorem ofInt_i32_add (a b : DWord) : BitVec.ofInt 32 (i32 a + i32 b) = w32 a + w32 b := by
  rw [BitVec.ofInt_add, ofInt_i32, ofInt_i32]

theorem ofInt_i32_mul (a b : DWord) : BitVec.ofInt 32 (i32 a * i32 b) = w32 a * w32 b := by
  rw [BitVec.ofInt_mul, ofInt_i32, ofInt_i32]

theorem ofInt_i32_neg (a : DWord) : BitVec.ofInt 32 (-i32 a) = -w32 a := by
  rw [BitVec.ofInt_neg, ofInt_i32]

theorem ofInt_i32_sub (a b : DWord) : BitVec.ofInt 32 (i32 a - i32 b) = w32 a - w32 b := by
  rw [Int.sub_eq_add_neg, BitVec.ofInt_add, ofInt_i32_neg, ofInt_i32, BitVec.sub_eq_add_neg]

theorem fixI_wrap {sat : Bool} (h : sat = false) (v : Int) : (fixI sat v).1 = BitVec.ofInt 32 v := by rw [h]; rfl

/-- A saturated result is the nearest 32-bit integer. -/
theorem toInt_sat32 (v : Int) : (sat32 v).1.toInt = max (-2147483648) (min 2147483647 v) := by
  unfold sat32
  split
  · rename_i h
    rw [min_eq_left (by omega)]
    rfl
  split
  · rename_i h
    rw [min_eq_right (by omega), max_eq_left (by omega)]
    rfl
  · rw [min_eq_right (by omega), max_eq_right (by omega), BitVec.toInt_ofInt]
    exact Int.bmod_eq_of_le (by omega) (by omega)

/-- P of a saturated result says that the integer did not fit (R56). -/
theorem sat32_snd_iff (v : Int) : (sat32 v).2 = true ↔ (sat32 v).1.toInt ≠ v := by
  rw [toInt_sat32]
  unfold sat32
  split_ifs <;> simp <;> omega

@[simp] theorem satRes_y (r : Word × Bool) (psn : Bool) : (satRes r psn).y = of32 r.1 := rfl
@[simp] theorem satRes_p (r : Word × Bool) (psn : Bool) : (satRes r psn).p = r.2 := rfl
@[simp] theorem res_y (y : DWord) (p psn : Bool) : (res y p psn).y = y := rfl
@[simp] theorem res_p (y : DWord) (p psn : Bool) : (res y p psn).p = p := rfl

/-! ### The operation table of an operation code (R64) -/

section
variable {s : State} {t k c : Nat} {g : CellCfg} {o : OpSet} {y0 : DWord} {p0 : Bool} {hist : List (DWord × Bool)}

theorem compute_arithI (h : g.opc < 0x10) (hf : g.fmt = fmtI) : (s.compute t k c g o y0 p0 hist).1 = arithI g o (opPsn g o) := by
  have hl : g.opc ≠ opLut := by unfold opLut; omega
  rw [State.compute]
  simp only [if_neg hl, if_pos h, if_pos hf]

theorem compute_arithQ (h : 0x10 ≤ g.opc) (h' : g.opc < 0x20) :
    (s.compute t k c g o y0 p0 hist).1 = arithQ g o (opPsn g o) := by
  have hl : g.opc ≠ opLut := by unfold opLut; omega
  rw [State.compute]
  simp only [if_neg hl, if_neg (show ¬ g.opc < 0x10 by omega), if_pos h']

theorem compute_logicOp (h : 0x20 ≤ g.opc) (h' : g.opc < 0x30) :
    (s.compute t k c g o y0 p0 hist).1 = logicOp g o (opPsn g o) := by
  have hl : g.opc ≠ opLut := by unfold opLut; omega
  rw [State.compute]
  simp only [if_neg hl, if_neg (show ¬ g.opc < 0x10 by omega), if_neg (show ¬ g.opc < 0x20 by omega), if_pos h']

theorem compute_compareOp (h : 0x30 ≤ g.opc) (h' : g.opc < 0x40) :
    (s.compute t k c g o y0 p0 hist).1 = compareOp g o (opPsn g o) := by
  have hl : g.opc ≠ opLut := by unfold opLut; omega
  rw [State.compute]
  simp only [if_neg hl, if_neg (show ¬ g.opc < 0x10 by omega), if_neg (show ¬ g.opc < 0x20 by omega),
    if_neg (show ¬ g.opc < 0x30 by omega), if_pos h']

theorem compute_selectOp (h : 0x40 ≤ g.opc) (h' : g.opc < 0x50) : (s.compute t k c g o y0 p0 hist).1 = selectOp g o := by
  have hl : g.opc ≠ opLut := by unfold opLut; omega
  rw [State.compute]
  simp only [if_neg hl, if_neg (show ¬ g.opc < 0x10 by omega), if_neg (show ¬ g.opc < 0x20 by omega),
    if_neg (show ¬ g.opc < 0x30 by omega), if_neg (show ¬ g.opc < 0x40 by omega), if_pos h']

theorem compute_streamOp (h : 0x60 ≤ g.opc) (hl : g.opc ≠ opLut) :
    (s.compute t k c g o y0 p0 hist).1 = streamOp g o y0 p0 hist (opPsn g o) := by
  rw [State.compute]
  simp only [if_neg hl, if_neg (show ¬ g.opc < 0x10 by omega), if_neg (show ¬ g.opc < 0x20 by omega),
    if_neg (show ¬ g.opc < 0x30 by omega), if_neg (show ¬ g.opc < 0x40 by omega), if_neg (show ¬ g.opc < 0x50 by omega),
    if_neg (show ¬ g.opc < 0x60 by omega)]

/-! ### The operations -/

theorem compute_add (h : g.opc = opAdd) (hf : g.fmt = fmtI) :
    (s.compute t k c g o y0 p0 hist).1 = satRes (fixI g.sat (i32 o.a + i32 o.b)) (opPsn g o) := by
  rw [compute_arithI (by rw [h]; decide) hf, arithI, h]
  rfl

theorem compute_sub (h : g.opc = opSub) (hf : g.fmt = fmtI) :
    (s.compute t k c g o y0 p0 hist).1 = satRes (fixI g.sat (i32 o.a - i32 o.b)) (opPsn g o) := by
  rw [compute_arithI (by rw [h]; decide) hf, arithI, h]
  rfl

theorem compute_mul (h : g.opc = opMul) (hf : g.fmt = fmtI) :
    (s.compute t k c g o y0 p0 hist).1 = satRes (fixI g.sat (i32 o.a * i32 o.b)) (opPsn g o) := by
  rw [compute_arithI (by rw [h]; decide) hf, arithI, h]
  rfl

theorem compute_fma (h : g.opc = opFma) (hf : g.fmt = fmtI) :
    (s.compute t k c g o y0 p0 hist).1 = satRes (fixI g.sat (i32 o.a * i32 o.b + i32 o.c)) (opPsn g o) := by
  rw [compute_arithI (by rw [h]; decide) hf, arithI, h]
  rfl

theorem compute_neg (h : g.opc = opNeg) (hf : g.fmt = fmtI) :
    (s.compute t k c g o y0 p0 hist).1 = satRes (fixI g.sat (-i32 o.a)) (opPsn g o) := by
  rw [compute_arithI (by rw [h]; decide) hf, arithI, h]
  rfl

theorem compute_qadd (h : g.opc = opQadd) :
    (s.compute t k c g o y0 p0 hist).1 = satRes (sat32 (i32 o.a + i32 o.b)) (opPsn g o) := by
  rw [compute_arithQ (by rw [h]; decide) (by rw [h]; decide), arithQ, h]
  rfl

theorem compute_qshl (h : g.opc = opQshl) :
    (s.compute t k c g o y0 p0 hist).1 = satRes (sat32 (i32 o.a * (2 ^ shiftCount g o : Nat))) (opPsn g o) := by
  rw [compute_arithQ (by rw [h]; decide) (by rw [h]; decide), arithQ, h]
  rfl

theorem compute_qshr (h : g.opc = opQshr) :
    (s.compute t k c g o y0 p0 hist).1 = res (of32 (BitVec.ofInt 32 (roundFix (i32 o.a) (shiftCount g o) g.rnd))) false (opPsn g o) := by
  rw [compute_arithQ (by rw [h]; decide) (by rw [h]; decide), arithQ, h]
  rfl

theorem compute_shl (h : g.opc = opShl) :
    (s.compute t k c g o y0 p0 hist).1 = res (of32 (w32 o.a <<< shiftCount g o)) false (opPsn g o) := by
  rw [compute_logicOp (by rw [h]; decide) (by rw [h]; decide), logicOp, h]
  rfl

theorem compute_shr (h : g.opc = opShr) :
    (s.compute t k c g o y0 p0 hist).1 = res (of32 (w32 o.a >>> shiftCount g o)) false (opPsn g o) := by
  rw [compute_logicOp (by rw [h]; decide) (by rw [h]; decide), logicOp, h]
  rfl

theorem compute_sar (h : g.opc = opSar) :
    (s.compute t k c g o y0 p0 hist).1 = res (of32 ((w32 o.a).sshiftRight (shiftCount g o))) false (opPsn g o) := by
  rw [compute_logicOp (by rw [h]; decide) (by rw [h]; decide), logicOp, h]
  rfl

theorem compute_rot (h : g.opc = opRot) :
    (s.compute t k c g o y0 p0 hist).1 = res (of32 ((w32 o.a).rotateLeft (shiftCount g o))) false (opPsn g o) := by
  rw [compute_logicOp (by rw [h]; decide) (by rw [h]; decide), logicOp, h]
  rfl

/-- Y of CMPLT in .I and .Q is formed after PINV (R64). -/
theorem compute_cmplt_y (h : g.opc = opCmplt) (hf : g.fmt = fmtI ∨ g.fmt = fmtQ) :
    (s.compute t k c g o y0 p0 hist).1.y = if decide (i32 o.a < i32 o.b) ^^ g.pinv then 0xFFFFFFFF#64 else 0#64 := by
  have hd : g.fmt ≠ fmtD := by rcases hf with hf | hf <;> rw [hf] <;> decide
  rw [compute_compareOp (by rw [h]; decide) (by rw [h]; decide), compareOp]
  simp only [if_pos hf, if_pos h, if_neg hd]

theorem compute_sel2 (h : g.opc = opSel2) :
    (s.compute t k c g o y0 p0 hist).1 = if o.e then res o.b false o.psnB else res o.a false o.psnA := by
  rw [compute_selectOp (by rw [h]; decide) (by rw [h]; decide), selectOp, if_pos h]

/-- COUNT whose C port resets nothing: one more than the latch, or 0 with P at a K0 other than 0 (R67). -/
theorem compute_count (h : g.opc = opCount) (hc : g.csrc ≠ 0) : (s.compute t k c g o y0 p0 hist).1 =
    if (fixI g.sat (i32 y0 + 1)).1 = w32 o.k0 ∧ w32 o.k0 ≠ 0#32 then res 0#64 true (opPsn g o || p0)
    else res (of32 (fixI g.sat (i32 y0 + 1)).1) false (opPsn g o || p0) := by
  rw [compute_streamOp (by rw [h]; decide) (by rw [h]; decide), streamOp, decide_eq_false hc, Bool.false_and, h]
  rfl

/-! ### The shift count (R65) -/

/-- The bits of B above its count do not matter. -/
theorem shiftCount_congr {b' : DWord} (h : g.bsrc = 3 ∨ (w32 b').toNat % 32 = (w32 o.b).toNat % 32) :
    shiftCount g { o with b := b' } = shiftCount g o := by
  unfold shiftCount
  split
  · rfl
  · exact h.resolve_left ‹_›

/-- Y of a shift or rotation reads B through its count only. -/
theorem compute_shift_congr (h : g.opc ∈ [opShl, opShr, opSar, opRot, opQshl, opQshr]) {b' : DWord}
    (hb : shiftCount g { o with b := b' } = shiftCount g o) :
    (s.compute t k c g { o with b := b' } y0 p0 hist).1.y = (s.compute t k c g o y0 p0 hist).1.y := by
  simp only [List.mem_cons, List.not_mem_nil, or_false] at h
  rcases h with h | h | h | h | h | h
  · rw [compute_shl h, compute_shl h, hb, res_y, res_y]
  · rw [compute_shr h, compute_shr h, hb, res_y, res_y]
  · rw [compute_sar h, compute_sar h, hb, res_y, res_y]
  · rw [compute_rot h, compute_rot h, hb, res_y, res_y]
  · rw [compute_qshl h, compute_qshl h, hb, satRes_y, satRes_y]
  · rw [compute_qshr h, compute_qshr h, hb, res_y, res_y]

/-! ### What the clauses of the statement say -/

/-- .I without SAT is arithmetic modulo 2^32 (R55). -/
theorem compute_wraps (hf : g.fmt = fmtI) (hs : g.sat = false) :
    let y := (s.compute t k c g o y0 p0 hist).1.y.setWidth 32
    (g.opc = opAdd → y = w32 o.a + w32 o.b) ∧ (g.opc = opSub → y = w32 o.a - w32 o.b) ∧
    (g.opc = opMul → y = w32 o.a * w32 o.b) ∧ (g.opc = opFma → y = w32 o.a * w32 o.b + w32 o.c) ∧
    (g.opc = opNeg → y = -w32 o.a) := by
  intro y
  refine ⟨fun h => ?_, fun h => ?_, fun h => ?_, fun h => ?_, fun h => ?_⟩
  · simp only [y, compute_add h hf, satRes_y, setWidth_of32, fixI_wrap hs, ofInt_i32_add]
  · simp only [y, compute_sub h hf, satRes_y, setWidth_of32, fixI_wrap hs, ofInt_i32_sub]
  · simp only [y, compute_mul h hf, satRes_y, setWidth_of32, fixI_wrap hs, ofInt_i32_mul]
  · simp only [y, compute_fma h hf, satRes_y, setWidth_of32, fixI_wrap hs, BitVec.ofInt_add, ofInt_i32_mul, ofInt_i32]
  · simp only [y, compute_neg h hf, satRes_y, setWidth_of32, fixI_wrap hs, ofInt_i32_neg]

/-- The sum of ADD under SAT and of QADD is saturated (R55, R56). -/
theorem compute_sum_saturates (h : (g.fmt = fmtI ∧ g.sat = true ∧ g.opc = opAdd) ∨ (g.fmt = fmtQ ∧ g.opc = opQadd)) :
    (s.compute t k c g o y0 p0 hist).1 = satRes (sat32 (i32 o.a + i32 o.b)) (opPsn g o) := by
  rcases h with ⟨hf, hs, h⟩ | ⟨-, h⟩
  · rw [compute_add h hf, hs]
    rfl
  · exact compute_qadd h

end

/-- Settles O25: each clause reads off the result that `compute` gives for its operation code. -/
theorem cellResults : Obligations.CellResults := by
  unfold Obligations.CellResults
  intro s t k c g o y0 p0 hist y p a b
  refine ⟨compute_wraps, fun h => ?_,
    ⟨fun h => ?_, fun h => ?_, fun h => ?_, fun h => ?_, fun _ h => ?_, fun _ h => ?_, fun b' hb h => ?_⟩,
    fun hf h => ?_, fun h => ?_, fun h _ hs hc => ?_⟩
  · simp only [y, p, compute_sum_saturates h, satRes_y, satRes_p, setWidth_of32]
    exact ⟨toInt_sat32 _, sat32_snd_iff _⟩
  · simp only [y, compute_shl h, res_y, setWidth_of32]
    rfl
  · simp only [y, compute_shr h, res_y, setWidth_of32]
    rfl
  · simp only [y, compute_sar h, res_y, setWidth_of32]
    rfl
  · simp only [y, compute_rot h, res_y, setWidth_of32]
    rfl
  · simp only [y, compute_qshl h, satRes_y, setWidth_of32, toInt_sat32, Nat.cast_pow, Nat.cast_ofNat]
    rfl
  · simp only [y, compute_qshr h, res_y, setWidth_of32]
    rfl
  · exact compute_shift_congr h (shiftCount_congr hb)
  · simp only [y, compute_cmplt_y h hf]
    exact apply_ite (BitVec.setWidth 32) _ _ _
  · simp only [y, compute_sel2 h]
    split <;> rfl
  · have hv : (fixI g.sat (i32 y0 + 1)).1 = w32 y0 + 1#32 := by
      rw [fixI_wrap hs, BitVec.ofInt_add, ofInt_i32]
      rfl
    simp only [y, p, compute_count h hc, hv]
    exact ⟨fun hk => by simp [if_pos hk], fun hk => by simp [if_neg hk]⟩

end Sys2Proof
end

section
/-! PROOFS. The sort of the grader (R78): it is the stable insertion sort by the order of the key format. -/

namespace Sys2Proof

open Sys2Proof.Machine

/-- Key `x` may stand before key `y` in the sort of R78. -/
def keyBefore (fmt : Nat) (desc : Bool) (x y : GKey) : Bool :=
  if desc then decide (keyOrd fmt y.key ≤ keyOrd fmt x.key) else decide (keyOrd fmt x.key ≤ keyOrd fmt y.key)

theorem keyBefore_iff {fmt : Nat} {desc : Bool} {x y : GKey} : keyBefore fmt desc x y = true ↔
    if desc then keyOrd fmt y.key ≤ keyOrd fmt x.key else keyOrd fmt x.key ≤ keyOrd fmt y.key := by
  cases desc <;> simp [keyBefore]

theorem keyBefore_total (fmt : Nat) (desc : Bool) (x y : GKey) : keyBefore fmt desc x y = true ∨ keyBefore fmt desc y x = true := by
  cases desc <;> simpa [keyBefore] using Nat.le_total _ _

theorem keyBefore_trans (fmt : Nat) (desc : Bool) (x y z : GKey) (hxy : keyBefore fmt desc x y = true)
    (hyz : keyBefore fmt desc y z = true) : keyBefore fmt desc x z = true := by
  cases desc <;> simp only [keyBefore_iff, if_true, Bool.false_eq_true, if_false] at hxy hyz ⊢ <;> omega

theorem keyBefore_of_keyOrd_eq {fmt : Nat} {desc : Bool} {x y : GKey} (h : keyOrd fmt x.key = keyOrd fmt y.key) :
    keyBefore fmt desc x y = true := by
  cases desc <;> simp [keyBefore, h]

theorem gradeIns_eq_orderedInsert (fmt : Nat) (desc : Bool) (x : GKey) (l : List GKey) :
    gradeIns fmt desc x l = l.orderedInsert (fun x y => keyBefore fmt desc x y = true) x := by
  induction l with
  | nil => rfl
  | cons y l ih =>
    rw [List.orderedInsert_cons, ← ih]
    rfl

theorem gradeSort_eq_insertionSort (fmt : Nat) (desc : Bool) (l : List GKey) :
    gradeSort fmt desc l = l.insertionSort (fun x y => keyBefore fmt desc x y = true) := by
  rw [gradeSort, List.insertionSort]
  congr 1
  funext x l
  exact gradeIns_eq_orderedInsert fmt desc x l

theorem gradeSort_perm (fmt : Nat) (desc : Bool) (l : List GKey) : (gradeSort fmt desc l).Perm l := by
  rw [gradeSort_eq_insertionSort]
  exact List.perm_insertionSort _ l

theorem gradeSort_pairwise (fmt : Nat) (desc : Bool) (l : List GKey) :
    (gradeSort fmt desc l).Pairwise fun x y => keyBefore fmt desc x y = true := by
  have htotal : Std.Total fun x y => keyBefore fmt desc x y = true := ⟨keyBefore_total fmt desc⟩
  have htrans : IsTrans GKey fun x y => keyBefore fmt desc x y = true := ⟨keyBefore_trans fmt desc⟩
  rw [gradeSort_eq_insertionSort]
  exact List.pairwise_insertionSort _ l

/-- Keys that compare equal keep their input order: they already stand sorted in `l`, so they stay a sublist, and there are no
more of them than in `l`. -/
theorem gradeSort_filter_keyOrd (fmt : Nat) (desc : Bool) (l : List GKey) (n : Nat) :
    (gradeSort fmt desc l).filter (fun x => keyOrd fmt x.key == n) = l.filter (fun x => keyOrd fmt x.key == n) := by
  have hsorted : (l.filter fun x => keyOrd fmt x.key == n).Pairwise fun x y => keyBefore fmt desc x y = true := by
    refine List.pairwise_of_forall_mem_list fun x hx y hy => keyBefore_of_keyOrd_eq ?_
    rw [List.mem_filter, beq_iff_eq] at hx hy
    exact hx.2.trans hy.2.symm
  have hsub : (l.filter fun x => keyOrd fmt x.key == n).Sublist (gradeSort fmt desc l) := by
    rw [gradeSort_eq_insertionSort]
    exact List.sublist_insertionSort hsorted List.filter_sublist
  have hfilter := hsub.filter fun x => keyOrd fmt x.key == n
  simp only [List.filter_filter, Bool.and_self] at hfilter
  exact (hfilter.eq_of_length ((gradeSort_perm fmt desc l).filter _).length_eq.symm).symm

end Sys2Proof
end

section
/-! PROOFS. What the queue engine leaves alone (R238 to R244): whatever word it stores or takes, the registers of a hub outside
its own block, and the floors, stay. -/

namespace Sys2Proof

open Sys2Proof.Machine

/-! ### The registers of the queue engine (R229, R260) -/

/-- End of the block of queue registers in the page of a floor hub. -/
def queueBlock : Nat := 0x4018

/-- The registers that a word stored in or taken from a queue may change. -/
def queueRegs : List Reg :=
  [.QUE_CFG, .QUE_STATUS, .QUE_WMEV, .QUE_FLUSH_SKIP, .QUE_PAR_ERR, .QUE_FRAME_ERR, .QUE_DROP_WORDS]

/-- Every element of them lies in the block, also at a queue number that no floor has. -/
theorem queueRegs_addr {r : Reg} (hr : r ∈ queueRegs) (i : Nat) : r.addr i % 0x100000 < queueBlock := by
  have haddr : r.addr i = r.info.base + i / r.info.n2 * r.info.s1 + i % r.info.n2 * r.info.s2 := rfl
  rw [haddr, queueBlock]
  simp only [queueRegs, List.mem_cons, List.not_mem_nil, or_false] at hr
  rcases hr with rfl | rfl | rfl | rfl | rfl | rfl | rfl <;> simp only [Reg.info] <;> omega

/-- `u` differs from `s` by work of the queue engine at most. -/
structure QueueWork (s u : State) : Prop where
  rising : rising u.regs = true
  regs : ∀ r i, queueBlock ≤ r.addr i % 0x100000 → u.reg r i = s.reg r i
  floors : u.floors = s.floors

theorem QueueWork.refl {s : State} (h : Machine.rising s.regs = true) : QueueWork s s := ⟨h, fun _ _ _ => rfl, rfl⟩

theorem QueueWork.ite {s u v : State} {c : Prop} [Decidable c] (hu : QueueWork s u) (hv : QueueWork s v) :
    QueueWork s (if c then u else v) := by
  split
  · exact hu
  · exact hv

section
variable {s u : State} (h : QueueWork s u)
include h

theorem QueueWork.setReg {r : Reg} (hr : r ∈ queueRegs) (i v : Nat) : QueueWork s (u.setReg r i v) where
  rising := rising_tput h.rising
  regs q j hq := by
    have hne : q.addr j ≠ r.addr i := by
      intro he
      have hlt := queueRegs_addr hr i
      rw [← he] at hlt
      omega
    rw [reg_setReg h.rising r q i j v hne, h.regs q j hq]
  floors := h.floors

theorem QueueWork.bump {r : Reg} (hr : r ∈ queueRegs) (i : Nat) : QueueWork s (u.bump r i) := h.setReg hr i _

theorem QueueWork.setFld {f : Fld} (hr : f.r ∈ queueRegs) (i v : Nat) : QueueWork s (u.setFld f i v) := h.setReg hr i _

theorem QueueWork.modQueue (q : Nat) (g : Queue → Queue) : QueueWork s (u.modQueue q g) := ⟨h.rising, h.regs, h.floors⟩

theorem QueueWork.setPool (f i : Nat) (w : QWord) : QueueWork s (u.setPool f i w) := ⟨h.rising, h.regs, h.floors⟩

theorem QueueWork.raise {code : Nat} (hc : faultBit code = 0) (sclass loc data : Nat) :
    QueueWork s (u.raise code sclass loc data) := by
  rw [State.raise, raiseAt_plain hc]
  exact ⟨h.rising, h.regs, h.floors⟩

theorem QueueWork.raiseOnceK {code : Nat} (hc : faultBit code = 0) (r : Reg) (i sub sclass loc data : Nat) :
    QueueWork s (u.raiseOnceK r i sub code sclass loc data) := by
  have honce : ∀ m, QueueWork s { u with once := m } := fun _ => ⟨h.rising, h.regs, h.floors⟩
  unfold State.raiseOnceK
  dsimp only
  split
  · exact h
  · exact (honce _).raise hc _ _ _

theorem QueueWork.frameErr (q : Nat) : QueueWork s (u.frameErr q) := (h.bump (by decide) _).raiseOnceK (by decide) _ _ _ _ _ _

theorem QueueWork.swap (q : Nat) : QueueWork s (u.swap q) := by
  unfold State.swap
  exact h.modQueue _ _

theorem QueueWork.qEval (q : Nat) : QueueWork s (u.qEval q) := by
  have hcrossed (v : Nat) : QueueWork s (((u.setFld queAbove q v).setFld queCrossed q 1).bumpFld queCnt q) :=
    ((h.setFld (by decide) q v).setFld (by decide) q 1).setFld (by decide) q _
  exact h.ite (((hcrossed _).raise (code := 0x2101) (by decide) _ _ _).ite (hcrossed _))

theorem QueueWork.settleLate (q : Nat) : QueueWork s (u.settleLate q) := by
  unfold State.settleLate
  split
  · exact h
  · exact h.modQueue _ _

theorem QueueWork.storeWord (q : Nat) (a : Agent) (fl : Option Nat) (w : QWord) : QueueWork s (u.storeWord q a fl w) := by
  have hdrop : QueueWork s (u.bump .QUE_DROP_WORDS (q / 512)) := h.bump (by decide) _
  unfold State.storeWord
  dsimp only
  split
  · exact (hdrop.modQueue _ _).ite hdrop
  · exact ((QueueWork.ite (h.swap q) h).setPool _ _ _).modQueue _ _

theorem QueueWork.truncate (q : Nat) : QueueWork s (u.truncate q) := by
  unfold State.truncate
  dsimp only
  split
  · exact h
  split
  · exact h.modQueue _ _
  · exact ((h.storeWord ..).modQueue _ _).settleLate q

/-- A word offered to a queue (R228, R240). -/
theorem QueueWork.pushWord (q : Nat) (a : Agent) (fl : Option Nat) (data : Word) (sop eop psn : Bool) :
    QueueWork s (u.pushWord q a fl data sop eop psn).2 := by
  have hskip : QueueWork s (u.bump .QUE_FLUSH_SKIP (q / 512)) := h.bump (by decide) _
  unfold State.pushWord
  extract_lets x skipped mid ended y mid' framed n fl' long counted w w' cleared stored opened
  have hended : QueueWork s ended := ((h.frameErr q).truncate q).ite h
  have hframed : QueueWork s framed := (hended.frameErr q).ite hended
  have hcounted : QueueWork s counted := (hframed.frameErr q).ite hframed
  have hstored : QueueWork s stored := (hcounted.setFld (f := quePinj) (by decide) q 0).storeWord q a fl' w'
  have hopened : QueueWork s opened := hstored.modQueue q _
  split
  · exact (hskip.modQueue _ _).ite hskip
  split
  · exact (hskip.modQueue _ _).ite hskip
  split
  · exact h
  split
  · exact h
  split
  · exact h
  split
  · exact hended.qEval q
  · exact (hopened.settleLate q).qEval q

theorem QueueWork.pushOut (q : Nat) (a : Agent) (l : List QWord) : QueueWork s (u.pushOut q a l).2 := by
  induction l generalizing u with
  | nil => exact h
  | cons w l ih =>
    have hpush := h.pushWord q a none w.data w.sop w.eop w.psn
    unfold State.pushOut
    dsimp only
    split
    · exact ih hpush
    · exact hpush

theorem QueueWork.readPool (q pos : Nat) : QueueWork s (u.readPool q pos).2 := by
  unfold State.readPool
  dsimp only
  split
  · exact (h.bump (r := .QUE_PAR_ERR) (by decide) _).raise (code := 0x2201) (by decide) _ _ _
  · exact h

/-- A word taken from a queue (R242, R244). -/
theorem QueueWork.popWord {q : Nat} {a : Agent} {w : QWord} {v : State} (hv : u.popWord q a = some (w, v)) : QueueWork s v := by
  unfold State.popWord at hv
  split at hv
  · split at hv
    · cases hv
    · dsimp only at hv
      cases hv
      exact ((h.readPool _ _).modQueue _ _).qEval q
  · cases hv

theorem QueueWork.popItem (q : Nat) (a : Agent) (n : Nat) : QueueWork s (u.popItem q a n).2 := by
  induction n generalizing u with
  | zero => exact h
  | succ n ih =>
    have hswap := QueueWork.ite (c := u.swapReady q = true) (h.swap q) h
    unfold State.popItem
    dsimp only
    split
    · exact hswap
    · rename_i w v hv
      have hpop := hswap.popWord hv
      split
      · exact hpop
      · exact ih hpop

end

end Sys2Proof
end

section
/-! PROOFS. The jobs of the grader (R77, R80, R81): what its status fields read after a field of a register is set, and how a job
starts and ends. -/

namespace Sys2Proof

open Sys2Proof.Machine

/-! ### Fields of registers -/

theorem testBit_bits (n hi lo b : Nat) : (bits n hi lo).testBit b = (decide (b < hi + 1 - lo) && n.testBit (lo + b)) := by
  rw [bits, Nat.testBit_mod_two_pow, Nat.testBit_div_two_pow, Nat.add_comm b lo]

theorem testBit_putBits {hi lo : Nat} (h : lo ≤ hi) (n v b : Nat) : (putBits n hi lo v).testBit b =
    if b < lo then n.testBit b else if b ≤ hi then v.testBit (b - lo) else n.testBit b := by
  have hlow : 2 ^ lo * (v % 2 ^ (hi + 1 - lo)) + n % 2 ^ lo < 2 ^ (hi + 1) := by
    have hv : v % 2 ^ (hi + 1 - lo) < 2 ^ (hi + 1 - lo) := Nat.mod_lt _ (Nat.two_pow_pos _)
    have hn : n % 2 ^ lo < 2 ^ lo := Nat.mod_lt _ (Nat.two_pow_pos _)
    calc 2 ^ lo * (v % 2 ^ (hi + 1 - lo)) + n % 2 ^ lo
        < 2 ^ lo * (v % 2 ^ (hi + 1 - lo) + 1) := by rw [Nat.mul_succ]; omega
      _ ≤ 2 ^ lo * 2 ^ (hi + 1 - lo) := Nat.mul_le_mul_left _ hv
      _ = 2 ^ (hi + 1) := by rw [← Nat.pow_add]; congr 1; omega
  have hput : putBits n hi lo v =
      2 ^ (hi + 1) * (n / 2 ^ (hi + 1)) + (2 ^ lo * (v % 2 ^ (hi + 1 - lo)) + n % 2 ^ lo) := by
    rw [putBits]
    ring
  rw [hput, Nat.testBit_two_pow_mul_add _ hlow, Nat.testBit_two_pow_mul_add _ (Nat.mod_lt _ (Nat.two_pow_pos _)),
    Nat.testBit_mod_two_pow, Nat.testBit_mod_two_pow, Nat.testBit_div_two_pow]
  by_cases hlo : b < lo
  · rw [if_pos (show b < hi + 1 by omega), if_pos hlo, if_pos hlo, decide_eq_true hlo, Bool.true_and]
  by_cases hhi : b ≤ hi
  · rw [if_pos (show b < hi + 1 by omega), if_neg hlo, if_neg hlo, if_pos hhi, decide_eq_true (by omega), Bool.true_and]
  · rw [if_neg (show ¬ b < hi + 1 by omega), if_neg hlo, if_neg hhi, Nat.sub_add_cancel (by omega)]

section
variable {s : State} (h : rising s.regs = true)
include h

theorem rising_setReg (r : Reg) (i v : Nat) : rising (s.setReg r i v).regs = true := rising_tput h

theorem rising_setFld (f : Fld) (i v : Nat) : rising (s.setFld f i v).regs = true := rising_setReg h f.r i _

theorem rising_bump (r : Reg) (i : Nat) : rising (s.bump r i).regs = true := rising_setReg h r i _

theorem fld_setFld_self {f : Fld} (hlo : f.lo ≤ f.hi) (hhi : f.hi < 64) (i v : Nat) :
    (s.setFld f i v).fld f i = v % 2 ^ (f.hi + 1 - f.lo) := by
  apply Nat.eq_of_testBit_eq
  intro b
  rw [State.fld, State.setFld, reg_setReg_self h, testBit_bits, Nat.testBit_mod_two_pow, testBit_putBits hlo,
    Nat.testBit_mod_two_pow]
  by_cases hb : b < f.hi + 1 - f.lo
  · rw [if_neg (by omega), if_pos (by omega), Nat.add_sub_cancel_left, decide_eq_true (show f.lo + b < 64 by omega),
      Bool.true_and]
  · rw [decide_eq_false hb, Bool.false_and, Bool.false_and]

/-- A field beside the one set keeps its value. -/
theorem fld_setFld_apart (f g : Fld) (hr : g.r = f.r) (hlo : f.lo ≤ f.hi) (hhi : g.hi < 64) (hap : g.hi < f.lo ∨ f.hi < g.lo)
    (i v : Nat) : (s.setFld f i v).fld g i = s.fld g i := by
  apply Nat.eq_of_testBit_eq
  intro b
  rw [State.fld, State.fld, hr, State.setFld, reg_setReg_self h, testBit_bits, testBit_bits, Nat.testBit_mod_two_pow,
    testBit_putBits hlo]
  by_cases hb : b < g.hi + 1 - g.lo
  · rw [decide_eq_true (show g.lo + b < 64 by omega), Bool.true_and]
    split_ifs
    · rfl
    · omega
    · rfl
  · rw [decide_eq_false hb, Bool.false_and, Bool.false_and]

theorem reg_setFld_other {f : Fld} {q : Reg} {j i : Nat} (hq : q.addr j ≠ f.r.addr i) (v : Nat) :
    (s.setFld f i v).reg q j = s.reg q j :=
  reg_setReg h f.r q i j _ hq

/-- A counter rises by 1 and stays at 0xFFFF_FFFF (R81). -/
theorem reg_bump_self (r : Reg) (i : Nat) : (s.bump r i).reg r i = min 0xFFFFFFFF (s.reg r i + 1) := by
  rw [State.bump, State.bumpBy, reg_setReg_self h]
  exact Nat.mod_eq_of_lt (by omega)

end

theorem floor_setFloor {s : State} (h : rising s.floors = true) (f : Nat) (x : FloorSt) : (s.setFloor f x).floor f = x := by
  rw [State.floor, State.setFloor_floors, tget_tput h, if_pos rfl]

/-! ### GRADER_JOB_START (R77) -/

/-- What the grader notes of job `j` of floor `f` when it starts: GRD_STATUS, and the run with its output words. -/
def beginRun (s : State) (f j : Nat) (r : GraderRun) : State :=
  ((s.setFld grdBusy f 1).setFld grdJobNo f j).modFloor f fun x => { x with grader := some r }

theorem beginRun_status {s : State} (h : rising s.regs = true) {j : Nat} (hj : j < 4) (f : Nat) (r : GraderRun) :
    (beginRun s f j r).flag grdBusy f = true ∧ (beginRun s f j r).fld grdJobNo f = j := by
  have hbusy : rising (s.setFld grdBusy f 1).regs = true := rising_setFld h _ _ _
  constructor
  · refine decide_eq_true (Eq.trans (b := (s.setFld grdBusy f 1).fld grdBusy f) ?_ ?_)
    · exact fld_setFld_apart hbusy grdJobNo grdBusy rfl (by decide) (by decide) (by decide) f j
    · exact fld_setFld_self h (by decide) (by decide) f 1
  · exact (fld_setFld_self (f := grdJobNo) hbusy (by decide) (by decide) f j).trans (Nat.mod_eq_of_lt hj)

/-- An event that is not CRITICAL leaves registers and floors. -/
theorem raise_regs_floors {s : State} {code : Nat} (hc : faultBit code = 0) (sclass loc data : Nat) :
    (s.raise code sclass loc data).regs = s.regs ∧ (s.raise code sclass loc data).floors = s.floors := by
  rw [State.raise, raiseAt_plain hc]
  exact ⟨rfl, rfl⟩

/-- The item popped, and the poison and the truncation of its keys noted, the run of at most 1,024 keys begins (R79). -/
theorem startJob_cases {s : State} (h : rising s.regs = true) (f j : Nat) : ∃ u r, s.startJob f j = beginRun u f j r ∧
    rising u.regs = true ∧ u.floors = s.floors ∧ r.job = j ∧ r.keys ≤ 1024 := by
  have hpop := (QueueWork.refl h).popItem (s.jobIq f j) (.grader f j) 4097
  unfold State.startJob
  generalize s.popItem (s.jobIq f j) (.grader f j) 4097 = popped at hpop ⊢
  obtain ⟨ws, popped⟩ := popped
  dsimp -zeta only at hpop ⊢
  extract_lets i idxin fmt desc mode topn oq cause body keys out noted told
  have hnoted : rising noted.regs = true ∧ noted.floors = s.floors := by
    unfold noted
    split
    · exact ⟨rising_setFld hpop.rising _ _ _, hpop.floors⟩
    · exact ⟨hpop.rising, hpop.floors⟩
  have htold : rising told.regs = true ∧ told.floors = s.floors := by
    unfold told
    clear_value cause
    cases cause with
    | none => exact hnoted
    | some c =>
      obtain ⟨hregs, hfloors⟩ := raise_regs_floors (s := noted.setFld grdTrunc f 1) (code := 0x2301) (by decide) 0xE _ _
      rw [hregs, hfloors]
      exact ⟨rising_setFld hnoted.1 _ _ _, hnoted.2⟩
  exact ⟨told, ⟨j, oq, out, keys.length⟩, rfl, htold.1, htold.2, rfl, List.length_take_le _ _⟩

theorem exec_graderJobStart {s : State} {f : FloorNo} {j : Nat} (hg : (s.floor f).grader = none)
    (hj : (List.range 4).find? (s.jobReady f) = some j) : exec (.graderJobStart f) s = .next (s.startJob f j) := by
  have harm : exec (.graderJobStart f) s = execGraderJobStart f s := rfl
  rw [harm, execGraderJobStart, hg, hj]
  rfl

/-! ### GRADER_JOB_DONE (R80, R81) -/

/-- What the grader notes when the output item of a job of `keys` keys is written: GRD_STATUS, GRD_DONE, GRD_LAST_BEATS. -/
def endRun (s : State) (f keys beats : Nat) : State :=
  ((((s.setFld grdBusy f 0).setFld grdLastn f keys).bump .GRD_DONE f).setReg .GRD_LAST_BEATS f beats).modFloor f
    fun x => { x with grader := none }

/-- Between the last output word written (R80) and the end of the run only a free value is drawn. -/
theorem exec_graderJobDone {s : State} {f : FloorNo} {r : GraderRun} (hr : (s.floor f).grader = some r)
    (hout : (s.pushOut r.oq (.grader f r.job) r.out).1 = []) : ∃ u beats,
    exec (.graderJobDone f) s = .next (endRun u f r.keys beats) ∧ u.regs = (s.pushOut r.oq (.grader f r.job) r.out).2.regs ∧
    u.floors = (s.pushOut r.oq (.grader f r.job) r.out).2.floors := by
  have harm : exec (.graderJobDone f) s = execGraderJobDone f s := rfl
  rw [harm, execGraderJobDone, hr]
  dsimp only
  rw [if_pos hout]
  exact ⟨_, _, rfl, rfl, rfl⟩

/-- The status registers of a grader in the order of their addresses (R81). -/
theorem grd_addr (f : Nat) : Reg.addr .GRD_STATUS f < Reg.addr .GRD_DONE f ∧ Reg.addr .GRD_DONE f < Reg.addr .GRD_LAST_BEATS f := by
  simp only [Reg.addr, Reg.info]
  omega

/-- GRD_DONE lies behind the queue registers in the page of its hub. -/
theorem grd_done_apart (f : Nat) : queueBlock ≤ Reg.addr .GRD_DONE f % 0x100000 := by
  simp only [Reg.addr, Reg.info, queueBlock]
  omega

theorem reg_congr {s u : State} (h : u.regs = s.regs) (q : Reg) (i : Nat) : u.reg q i = s.reg q i := by
  rw [State.reg, State.reg, h]

theorem endRun_regs (s : State) (f keys beats : Nat) : (endRun s f keys beats).regs =
    ((((s.setFld grdBusy f 0).setFld grdLastn f keys).bump .GRD_DONE f).setReg .GRD_LAST_BEATS f beats).regs := by
  rw [endRun, State.modFloor_eq, State.setFloor_regs]

theorem endRun_status {s : State} (h : rising s.regs = true) {keys : Nat} (hk : keys < 2048) (f beats : Nat) :
    (endRun s f keys beats).flag grdBusy f = false ∧ (endRun s f keys beats).fld grdLastn f = keys ∧
    (endRun s f keys beats).reg .GRD_DONE f = min 0xFFFFFFFF (s.reg .GRD_DONE f + 1) := by
  obtain ⟨hsd, hdb⟩ := grd_addr f
  have hidle : rising (s.setFld grdBusy f 0).regs = true := rising_setFld h _ _ _
  have hlastn : rising ((s.setFld grdBusy f 0).setFld grdLastn f keys).regs = true := rising_setFld hidle _ _ _
  have hdone : rising (((s.setFld grdBusy f 0).setFld grdLastn f keys).bump .GRD_DONE f).regs = true := rising_bump hlastn _ _
  have hreg (q : Reg) (hq : q.addr f ≠ Reg.addr .GRD_LAST_BEATS f) : (endRun s f keys beats).reg q f =
      (((s.setFld grdBusy f 0).setFld grdLastn f keys).bump .GRD_DONE f).reg q f := by
    rw [reg_congr (endRun_regs s f keys beats), reg_setReg hdone _ _ _ _ _ hq]
  have hstatus (g : Fld) (hg : g.r = .GRD_STATUS) :
      (endRun s f keys beats).fld g f = ((s.setFld grdBusy f 0).setFld grdLastn f keys).fld g f := by
    rw [State.fld, State.fld, hg, hreg _ (by omega), State.bump, State.bumpBy, reg_setReg hlastn _ _ _ _ _ (by omega)]
  refine ⟨decide_eq_false ?_, ?_, ?_⟩
  · rw [hstatus grdBusy rfl, fld_setFld_apart hidle grdLastn grdBusy rfl (by decide) (by decide) (by decide),
      fld_setFld_self h (by decide) (by decide)]
    decide
  · rw [hstatus grdLastn rfl, fld_setFld_self hidle (by decide) (by decide)]
    exact Nat.mod_eq_of_lt (by simpa [grdLastn] using hk)
  · rw [hreg _ (by omega), reg_bump_self hlastn, reg_setFld_other hidle (by exact hsd.ne'), reg_setFld_other h (by exact hsd.ne')]

/-- Settles O34: the sort is the stable insertion sort; what a job pops and pushes is queue work, which leaves the grader's
registers to what the grader notes at the start and at the end of a job. -/
theorem graderSortsAndJobs : Obligations.GraderSortsAndJobs := by
  unfold Obligations.GraderSortsAndJobs
  refine ⟨fun fmt desc l => ⟨gradeSort_perm fmt desc l, (gradeSort_pairwise fmt desc l).imp keyBefore_iff.mp,
    gradeSort_filter_keyOrd fmt desc l⟩, fun s f hc => ⟨fun j hg hj => ?_, fun r hr hout hk => ?_⟩⟩
  · obtain ⟨u, r, hu, hrising, hfloors, hjob, hkeys⟩ := startJob_cases hc.regs f j
    have hj4 : j < 4 := List.mem_range.mp (List.mem_of_find?_eq_some hj)
    obtain ⟨hbusy, hno⟩ := beginRun_status hrising hj4 f r
    have hfloor : ((beginRun u f j r).floor f).grader = some r :=
      congrArg FloorSt.grader (floor_setFloor (by exact hfloors ▸ rising_of_twf hc.floors) f _)
    exact ⟨_, (exec_graderJobStart hg hj).trans (congrArg _ hu), hbusy, hno, r, hfloor, hjob, hkeys⟩
  · have hpush := (QueueWork.refl hc.regs).pushOut r.oq (.grader f r.job) r.out
    obtain ⟨u, beats, hu, hregs, hfloors⟩ := exec_graderJobDone hr hout
    obtain ⟨hbusy, hlastn, hdone⟩ := endRun_status (hregs ▸ hpush.rising) hk f beats
    have hrising : rising u.floors = true := by
      rw [hfloors, hpush.floors]
      exact rising_of_twf hc.floors
    have hcount : u.reg .GRD_DONE f = s.reg .GRD_DONE f := (reg_congr hregs _ _).trans (hpush.regs _ _ (grd_done_apart f))
    exact ⟨_, hu, congrArg FloorSt.grader (floor_setFloor hrising f _), hbusy, hlastn, hcount ▸ hdone⟩

end Sys2Proof
end

section
/-! PROOFS. Cells of a floor under a load (R111, R489): they stand still while the floor's sequencers still run (R314), so a cell
with a complete operand set does not fire. -/

namespace Sys2Proof

open Sys2Proof.Machine

/-- From the fence of its load on, the cells of a floor run no slot (R111, R489). -/
theorem cellsRun_of_load {s : State} {t : Nat} (h : (s.floor (t / 16)).offWhy = 2) (k : Nat) : s.cellsRun t k = false := by
  rw [State.cellsRun, State.wiresRun, h]
  simp

/-- A cell that does not run accepts nothing. -/
theorem exec_cellFire_of_not_cellsRun {s : State} {t : TileNo} {c : CellNo} {k : Nat} (ha : s.active t = some k)
    (h : s.cellsRun t k = false) : exec (.cellFire t c) s = .next s := by
  have harm : exec (.cellFire t c) s = execCellFire t c s := rfl
  rw [harm, execCellFire, ha]
  simp [h]

/-- Tile 0 runs slot 0, whose cell 0 is a PASS of the constant K0; a load of floor 0 has raised its fence. -/
def fencedConstant : State :=
  ((State.reset.setFld ctxActV 0 1).putCfs (tileFrame 0) (leBytes 16 (opPass * 2 ^ 120 + 2 ^ 104 + 2 ^ 100))).fence 0 2 false

theorem fencedConstant_canon : Canon fencedConstant := canon_of (by decide +kernel)

/-- The constant is a complete operand set, in the slot that the tile's sequencer runs. -/
theorem fencedConstant_complete : fencedConstant.active (0 : TileNo) = some 0 ∧
    fencedConstant.runs (0 : TileNo) 0 = true ∧ (fencedConstant.fireSet (0 : TileNo) 0 (0 : CellNo)).isSome = true ∧
    (fencedConstant.floor ((0 : TileNo).val / 16)).offWhy = 2 := by decide +kernel

/-- Refutes O24: the statement asks only that the sequencers of the floor run (`State.runs`), and so also of a cell whose floor is
under a load. There CELL_FIRE leaves the state as it is, and the cell never holds the operand set. -/
theorem not_cellsFireAndEmit : ¬ Obligations.CellsFireAndEmit := by
  unfold Obligations.CellsFireAndEmit
  intro h
  obtain ⟨hactive, hruns, hset, hload⟩ := fencedConstant_complete
  obtain ⟨o, ho⟩ := Option.isSome_iff_exists.mp hset
  obtain ⟨u, hu, hcell, -⟩ := (h fencedConstant 0 0 fencedConstant_canon).1 0 o hactive hruns ho
  have hstays := exec_cellFire_of_not_cellsRun (c := 0) hactive (cellsRun_of_load hload 0)
  have hsame : fencedConstant = u := by simpa [hstays] using hu
  rw [← hsame] at hcell
  simpa using congrArg (fun x => x.ops.length) hcell

end Sys2Proof
end

section
/-! PROOFS. Tokens on wires (R84, R95, R99, R101): what each routing stage takes comes from the driver of a fork, so a token with
one reader moves there and leaves everything else. -/

namespace Sys2Proof

open Sys2Proof.Machine

/-! ### Tokens held by drivers -/

theorem held_setHeld {s : State} (h : rising s.stages = true) (w : Wire) (k : Nat) (x : Option Held) (w' : Wire) (k' : Nat) :
    (s.setHeld w k x).held w' k' = if wireKey w' k' = wireKey w k then x else s.held w' k' := tget_tput h

theorem held_congr {s u : State} (h : u.stages = s.stages) (w : Wire) (k : Nat) : u.held w k = s.held w k :=
  congrArg (tget none · (wireKey w k)) h

theorem exists_held_of_offered {s : State} {w : Wire} {k : Nat} {r : Reader} {tok : Tok} (h : s.offered w k r = some tok) :
    ∃ x, s.held w k = some x := by
  cases hx : s.held w k with
  | none => simp [State.offered, hx] at h
  | some x => exact ⟨x, rfl⟩

/-! ### Readers of a driver -/

section
variable (s : State) (x : Wire) (kx : Nat) (h : Option Held) (w : Wire) (k : Nat)

/-! Who reads a driver is configuration: a token placed anywhere does not change it. -/

@[simp] theorem sinks_setHeld : (s.setHeld x kx h).sinks w k = s.sinks w k := (rfl)

@[simp] theorem stageReaders_setHeld : (s.setHeld x kx h).stageReaders w k = s.stageReaders w k := (rfl)

@[simp] theorem live_setHeld (n : Nat) : (s.setHeld x kx h).live n w k = s.live n w k := by
  induction n generalizing w k with
  | zero => rfl
  | succ n ih => simp [State.live, ih]

@[simp] theorem readers_setHeld : (s.setHeld x kx h).readers w k = s.readers w k := by
  simp [State.readers]

end

/-- A wire stands for itself, or is a branch of a cell's own output (R95). -/
theorem driver_cases (s : State) (k : Nat) (w : Wire) :
    s.driver k w = w ∨ (∃ t c, s.driver k w = .y t c) ∨ ∃ t c, s.driver k w = .p t c := by
  cases w with
  | y | p | lane | brecv => exact .inl rfl
  | loc | seg | bline =>
    dsimp only [State.driver]
    split
    · exact .inr (.inl ⟨_, _, rfl⟩)
    · exact .inl rfl
  | pred | pline =>
    dsimp only [State.driver]
    split
    · exact .inr (.inr ⟨_, _, rfl⟩)
    · exact .inl rfl

/-- The driver of a wire is no branch of another driver (R95). -/
theorem driver_driver (s : State) (k : Nat) (w : Wire) : s.driver k (s.driver k w) = s.driver k w := by
  obtain h | ⟨t, c, h⟩ | ⟨t, c, h⟩ := driver_cases s k w
  · rw [h, h]
  · rw [h]; rfl
  · rw [h]; rfl

theorem driver_inputDriver {s : State} {k t c n : Nat} {w : Wire} (h : s.inputDriver k t c n = some w) : s.driver k w = w := by
  obtain ⟨v, -, rfl⟩ := Option.map_eq_some_iff.mp h
  exact driver_driver s k v

theorem driver_predDriver {s : State} {k t c n : Nat} {w : Wire} (h : s.predDriver k t c n = some w) : s.driver k w = w := by
  obtain ⟨v, -, rfl⟩ := Option.map_eq_some_iff.mp h
  exact driver_driver s k v

theorem driver_laneArrive (s : State) (k : Nat) {f e l p : Nat} {w : Wire} (h : laneArrive f e l p = some w) : s.driver k w = w := by
  unfold laneArrive at h
  split at h
  · cases h
    rfl
  · obtain ⟨f', -, rfl⟩ := Option.map_eq_some_iff.mp h
    rfl

/-- A stage takes its token from the driver of a fork (R95). -/
theorem driver_stageSource {s : State} {k : Nat} {x w : Wire} (h : s.stageSource k x = some w) : s.driver k w = w := by
  cases x with
  | y | p | bline | pline | brecv => cases h
  | loc t c d tr =>
    dsimp only [State.stageSource] at h
    split_ifs at h
    exact driver_inputDriver h
  | seg t c v =>
    dsimp only [State.stageSource] at h
    split_ifs at h
    · exact driver_inputDriver h
    · exact driver_inputDriver h
    · exact driver_inputDriver h
  | pred t c d =>
    dsimp only [State.stageSource] at h
    split_ifs at h
    · exact driver_predDriver h
    · cases h
      exact driver_driver s k _
  | lane f e l p =>
    dsimp only [State.stageSource] at h
    split_ifs at h
    · exact driver_laneArrive s k h
    · cases h
      rfl
    · cases h
      rfl

/-- The stages at the far end of a wire between cells take its token in the same slot (R86). -/
theorem slot_of_mem_farStages {s : State} {w x : Wire} {k kx : Nat}
    (h : (x, kx) ∈ (s.farCells w k).flatMap fun p => (cellStages p.1 p.2).map fun x => (x, k)) : kx = k := by
  obtain ⟨p, -, hp⟩ := List.mem_flatMap.mp h
  obtain ⟨y, -, hy⟩ := List.mem_map.mp hp
  exact (congrArg Prod.snd hy).symm

/-- What stages read is the driver of a fork: its branches hold no token of their own (R95). -/
theorem driver_of_mem_stageReaders {s : State} {w x : Wire} {k kx : Nat} (h : (x, kx) ∈ s.stageReaders w k) : s.driver k w = w := by
  obtain ⟨hcand, hread⟩ := List.mem_filter.mp (List.mem_dedup.mp h)
  have hsource : s.stageSource kx x = some w := by simpa using (Bool.and_eq_true_iff.mp hread).1
  cases w with
  | y | p | lane | brecv => rfl
  | loc | seg | pred | bline | pline =>
    obtain rfl := slot_of_mem_farStages hcand
    exact driver_stageSource hsource

/-! ### One token moved -/

/-- The only reader that a fork waits for takes the token: the driver is free again (R95). -/
theorem serve_of_sole_reader {s : State} {w : Wire} {k : Nat} {r : Reader} {x : Held} (hx : s.held w k = some x)
    (hr : s.readers w k = [r]) : s.serve w k r = s.setHeld w k none := by
  simp [State.serve, hx, hr]

section
variable {s : State} {w x : Wire} {k kx : Nat} {tok : Tok} (hs : rising s.stages = true) (h : CanMove s w k x kx tok)
include hs h

theorem moveTo_of_canMove :
    s.moveTo w k (x, kx) = (s.setHeld x kx (some { tok := tok, served := [] })).setHeld w k none := by
  obtain ⟨hoffered, honly, hfree, hon, hread, hapart⟩ := h
  obtain ⟨y, hy⟩ := exists_held_of_offered hoffered
  have hheld : (s.setHeld x kx (some { tok := tok, served := [] })).held w k = some y := by
    rw [held_setHeld hs, if_neg hapart.symm, hy]
  have hsole : (s.setHeld x kx (some { tok := tok, served := [] })).readers w k = [.wire x kx] := by
    rw [readers_setHeld, honly]
  simp only [State.moveTo, hoffered, hfree, hon, if_true, State.offer, if_neg hread]
  exact serve_of_sole_reader hheld hsole

theorem moved_moveTo : Moved s (s.moveTo w k (x, kx)) w k x kx tok := by
  rw [moveTo_of_canMove hs h]
  have hplaced : rising (s.setHeld x kx (some { tok := tok, served := [] })).stages = true := rising_tput hs
  constructor
  case there => rw [held_setHeld hplaced, if_neg h.apart, held_setHeld hs, if_pos rfl]
  case gone => rw [held_setHeld hplaced, if_pos rfl]
  case others =>
    intro w' k' hw hx
    rw [held_setHeld hplaced, if_neg hw, held_setHeld hs, if_neg hx]
  case only => rfl

end

/-! ### The three commands that move a token -/

/-- A driver that holds nothing has no token that waits at a boundary (R100). -/
theorem waitsAtBoundary_of_free {s : State} {w : Wire} {k : Nat} (h : s.held w k = none) : s.waitsAtBoundary w k = false := by
  cases hw : wireTile w <;> simp [State.waitsAtBoundary, hw, h]

/-- WIRE_TOKEN_TRANSFER moves a token that one routing stage alone reads (R84, R95, R99). -/
theorem completes_wireTokenTransfer {s : State} (hc : Canon s) {w x : Wire} {k : SlotNo} {kx : Nat} {tok : Tok}
    (hr : s.stageReaders w (wireSlot w k) = [(x, kx)]) (ht : (wireTile x).isSome = true)
    (h : CanMove s w (wireSlot w k) x kx tok) :
    Completes (.wireTokenTransfer w k) s fun u => Moved s u w (wireSlot w k) x kx tok := by
  have hmoved := moved_moveTo (rising_of_twf hc.stages) h
  have hdriver : s.driver (wireSlot w k) w = w := driver_of_mem_stageReaders (x := x) (kx := kx) (by simp [hr])
  have harm : exec (.wireTokenTransfer w k) s = execWireTokenTransfer w k s := rfl
  have hwait := waitsAtBoundary_of_free hmoved.gone
  have hfold : ((s.stageReaders w (wireSlot w k)).filter fun x => (wireTile x.1).isSome).foldl
      (fun s x => s.moveTo w (wireSlot w k) x) s = s.moveTo w (wireSlot w k) (x, kx) := by simp [hr, ht]
  refine ⟨_, harm.trans ?_, hmoved⟩
  cases w with
  | lane | brecv => exact congrArg _ hfold
  | y | p | loc | seg | pred | bline | pline =>
    simp only [wireSlot, wireTile, Option.isSome_some, if_true] at hdriver hfold hwait ⊢
    simp [execWireTokenTransfer, wireTile, hdriver, hfold, hwait]

/-- BOUNDARY_TOKEN_RELEASE moves it across the boundary of a tile (R99). -/
theorem completes_boundaryTokenRelease {s : State} (hc : Canon s) {w x : Wire} {k : SlotNo} {far : TileNo} {kx : Nat} {tok : Tok}
    (hr : s.stageReaders w k = [(x, kx)]) (ht : wireTile x = some far.val) (h : CanMove s w k x kx tok) :
    Completes (.boundaryTokenRelease w k far) s fun u => Moved s u w k x kx tok := by
  have hdriver : s.driver k w = w := driver_of_mem_stageReaders (x := x) (kx := kx) (by simp [hr])
  have harm : exec (.boundaryTokenRelease w k far) s = execBoundaryTokenRelease w k far s := rfl
  refine ⟨_, ?_, moved_moveTo (rising_of_twf hc.stages) h⟩
  simp [harm, execBoundaryTokenRelease, hdriver, hr, ht]

/-- EXPRESS_INJECT moves it onto the lane position that takes it (R101, R103). -/
theorem completes_expressInject {s : State} (hc : Canon s) {f : FloorNo} {e : Fin 4} {l : Fin 16} {p : Fin 4} {w : Wire} {tok : Tok}
    (hw : s.stageSource 0 (.lane f e l p) = some w)
    (h : CanMove s w (s.stageSlot 0 (.lane f e l p)) (.lane f e l p) 0 tok) :
    Completes (.expressInject f e l p) s fun u => Moved s u w (s.stageSlot 0 (.lane f e l p)) (.lane f e l p) 0 tok := by
  have harm : exec (.expressInject f e l p) s = execExpressInject f e l p s := rfl
  refine ⟨_, ?_, moved_moveTo (rising_of_twf hc.stages) h⟩
  rw [harm, execExpressInject, hw]

end Sys2Proof
end

section
/-! PROOFS. Bridges (R105 to R108, R111, R489): a send port offers its word once and counts it, a receive port drives what arrives
for an OPEN floor, unless that floor is under a load. -/

namespace Sys2Proof

open Sys2Proof.Machine

/-! ### BRIDGE_SEND -/

/-- A reader that has taken a token is not offered it again (R95). -/
theorem offered_serve {s : State} (hs : rising s.stages = true) (w : Wire) (k : Nat) (r : Reader) {u : State}
    (hu : u.stages = (s.serve w k r).stages) : u.offered w k r = none := by
  have hheld : u.held w k = none ∨ ∃ x, u.held w k = some x ∧ r ∈ x.served := by
    rw [held_congr hu]
    cases hx : s.held w k with
    | none => simp [State.serve, hx]
    | some x =>
      simp only [State.serve, hx]
      split
      · exact .inl (by rw [held_setHeld hs, if_pos rfl])
      · exact .inr ⟨_, by rw [held_setHeld hs, if_pos rfl], List.mem_cons_self⟩
  obtain hfree | ⟨x, hx, hr⟩ := hheld
  · simp [State.offered, hfree]
  · simp [State.offered, hx, hr]

/-- Serving a reader changes only what drivers hold. -/
theorem serve_frame (s : State) (w : Wire) (k : Nat) (r : Reader) :
    s.serve w k r = { s with stages := (s.serve w k r).stages } := by
  unfold State.serve
  split
  · rfl
  · dsimp only
    split <;> rfl

/-- A packet injected is the last in the network, with the fields its initiator gave it; statistics count it (R313). -/
theorem inject_cases (s : State) (node : Nat) (p : Pkt) : ∃ x r, s.inject node p = { s with net := s.net ++ [x], regs := r } ∧
    x.op = p.op ∧ x.dest = p.dest ∧ x.addr = p.addr ∧ x.data = p.data ∧ x.psn = p.psn := by
  unfold State.inject State.countInject
  dsimp only
  split
  · exact ⟨_, _, rfl, rfl, rfl, rfl, rfl, rfl⟩
  · exact ⟨_, _, rfl, rfl, rfl, rfl, rfl, rfl⟩

/-- Send port `n` of floor `f` has taken the word that lane `w` offers it, and counts one word more as outstanding (R107). -/
def wordTaken (s : State) (f n : Nat) (w : Wire) : State :=
  (s.serve w 0 (.bs f n)).modFloor f fun x => { x with bsCredit := tput 0 x.bsCredit n (tget 0 (s.floor f).bsCredit n + 1) }

theorem bsCredit_wordTaken {s : State} (h : rising s.floors = true) {f n : Nat} (hwf : twf 0 (s.floor f).bsCredit = true) (w : Wire) :
    tget 0 ((wordTaken s f n w).floor f).bsCredit n = tget 0 (s.floor f).bsCredit n + 1 := by
  rw [wordTaken, serve_frame, State.modFloor_eq, floor_setFloor (by exact h)]
  exact (tget_tput (rising_of_twf hwf)).trans (if_pos rfl)

section
variable {s : State} {f : FloorNo} {n : Fin 16} {w : Wire} {tok : Tok} (hw : portLane f (s.bsRec f n) = some w)
  (ho : s.offered w 0 (.bs f n) = some tok) (hcredit : tget 0 (s.floor f).bsCredit n < 4)
include hw ho hcredit

theorem exec_bridgeSend : ∃ x r, exec (.bridgeSend f n) s = .next { wordTaken s f n w with net := s.net ++ [x], regs := r } ∧
    x.op = .bridge ∧ x.dest = bits (s.bsRec f n) 54 49 ∧ x.addr = bits (s.bsRec f n) 48 41 ∧
    x.data = (leBytes 4 tok.v.toNat).map some ∧ x.psn = b2n tok.psn := by
  have harm : exec (.bridgeSend f n) s = execBridgeSend f n s := rfl
  have hnet : (wordTaken s f n w).net = s.net := by
    rw [wordTaken, serve_frame]
    rfl
  obtain ⟨x, r, hu, hpkt⟩ := inject_cases (wordTaken s f n w) f { pkt0 with
    op := .bridge, dest := bits (s.bsRec f n) 54 49, src := 512 + f, addr := bits (s.bsRec f n) 48 41,
    data := (leBytes 4 tok.v.toNat).map some, psn := b2n tok.psn, result := n.val }
  rw [hnet] at hu
  refine ⟨x, r, ?_, hpkt⟩
  rw [← hu, harm]
  simp only [execBridgeSend, hw, ho, if_neg (Nat.not_le.mpr hcredit)]
  rfl

/-- BRIDGE_SEND with credit left sends one posted packet with the word that its lane offers, and takes the word (R105 to R107). -/
theorem completes_bridgeSend (hc : Canon s) : Completes (.bridgeSend f n) s fun u =>
      (∃ x, u.net = s.net ++ [x] ∧ x.op = .bridge ∧ x.dest = bits (s.bsRec f n) 54 49 ∧ x.addr = bits (s.bsRec f n) 48 41 ∧
        x.data = (leBytes 4 tok.v.toNat).map some ∧ x.psn = b2n tok.psn) ∧
      (twf 0 (s.floor f).bsCredit = true → tget 0 (u.floor f).bsCredit n = tget 0 (s.floor f).bsCredit n + 1) ∧
      u.offered w 0 (.bs f n) = none := by
  obtain ⟨x, r, hu, hpkt⟩ := exec_bridgeSend hw ho hcredit
  exact ⟨_, hu, ⟨x, rfl, hpkt⟩, fun hwf => bsCredit_wordTaken (rising_of_twf hc.floors) hwf w,
    offered_serve (rising_of_twf hc.stages) w 0 _ rfl⟩

end

/-! ### BRIDGE_RECEIVE -/

/-- A returned credit and a dropped word touch no token. -/
theorem returnCredit_frame (s : State) (p : Pkt) : s.returnCredit p = { s with floors := (s.returnCredit p).floors } := by
  unfold State.returnCredit
  split <;> rfl

theorem fenceDrop_stages (s : State) (f : Nat) : (s.fenceDrop f).stages = s.stages := by
  unfold State.fenceDrop
  dsimp only
  split
  · rfl
  · rw [State.raise, raiseAt_plain (by decide)]
    rfl

section
variable {s : State} {p : Pkt} (ha : s.arrived p = true) (hop : p.op = .bridge) (hd : p.dest < 32)
include ha hop hd

/-- BRIDGE_RECEIVE on an OPEN floor under no load drives the word onto the lanes that name the port (R105, R107). -/
theorem completes_bridgeReceive (hc : Canon s) (hopen : s.floorOpen p.dest = true) (hload : (s.floor p.dest).offWhy ≠ 2)
    (hport : p.addr < 16) (hqen : bit (s.popRec p.dest p.addr) 63 = false) :
    let w := Wire.brecv (Fin.ofNat 32 p.dest) (Fin.ofNat 16 p.addr)
    s.stageReaders w 0 ≠ [] → s.held w 0 = none → Completes (.bridgeReceive p) s fun u =>
      u.held w 0 = some { tok := ⟨BitVec.ofNat 32 (leNat (p.data.map (·.getD 0#8))), p.psn % 2 = 1⟩, served := [] } ∧
      u.net = s.net.erase p := by
  intro w hread hfree
  have harm : exec (.bridgeReceive p) s = execBridgeReceive p s := rfl
  have hfenced : ¬ (s.fenced p = true ∨ (s.floor p.dest).offWhy = 2) := by simp [State.fenced, hopen, hload]
  have hdropped : ¬ (16 ≤ p.addr ∨ bit (s.popRec p.dest p.addr) 63 = true ∨ s.stageReaders w 0 = []) := by
    simp [hqen, hread, Nat.not_le.mpr hport]
  have hbusy : ¬ (s.held w 0).isSome = true := by simp [hfree]
  have hexec := harm.trans <| (if_pos ⟨ha, hop, hd⟩).trans <| (if_neg hfenced).trans <| (if_neg hdropped).trans <| if_neg hbusy
  rw [returnCredit_frame] at hexec
  exact ⟨_, hexec, (held_setHeld (by exact rising_of_twf hc.stages) w 0 _ w 0).trans (if_pos rfl), rfl⟩

/-- A bridge word that arrives for a floor under a load is dropped and counted (R108, R111). -/
theorem exec_bridgeReceive_of_load (hload : (s.floor p.dest).offWhy = 2) :
    exec (.bridgeReceive p) s = .next (((s.takePkt p).returnCredit p).fenceDrop p.dest) := by
  have harm : exec (.bridgeReceive p) s = execBridgeReceive p s := rfl
  rw [harm, execBridgeReceive, if_pos ⟨ha, hop, hd⟩]
  exact if_pos (.inr hload)

end

/-- A bridge word for receive port 3 of floor 0. -/
def wordForPort3 : Pkt := { pkt0 with op := .bridge, src := 600, addr := 3, data := (leBytes 4 9).map some, local_ := true }

/-- Lane 10 of the north edge of floor 0 takes receive port 3, whose word has arrived. The floor reads OPEN and is under a load. -/
def openUnderLoad : State :=
  { (State.reset.putCfs (floorFrame 0 + 4 * 10) [0x8C#8]).modFloor 0 fun x => { x with offWhy := 2 } with net := [wordForPort3] }

theorem openUnderLoad_canon : Canon openUnderLoad := canon_of (by decide +kernel)

/-- The premises of BRIDGE_RECEIVE hold there, and so does the load. -/
theorem openUnderLoad_receives : openUnderLoad.arrived wordForPort3 = true ∧ openUnderLoad.floorOpen 0 = true ∧
    bit (openUnderLoad.popRec 0 3) 63 = false ∧ openUnderLoad.stageReaders (.brecv 0 3) 0 ≠ [] ∧
    openUnderLoad.held (.brecv 0 3) 0 = none ∧ (openUnderLoad.floor 0).offWhy = 2 := by decide +kernel

/-- Refutes O23: the statement asks only that the receiving floor read OPEN, and so also of a floor that is under a load. There
BRIDGE_RECEIVE drops the word (R111) and drives nothing. The model's loads clear the mark of the load when they set OPEN (R488); the
other clauses hold as stated, and this one where no load runs (`completes_bridgeReceive`). -/
theorem not_tokensMoveAlongWires : ¬ Obligations.TokensMoveAlongWires := by
  unfold Obligations.TokensMoveAlongWires
  intro h
  obtain ⟨-, -, -, -, hreceive⟩ := h openUnderLoad openUnderLoad_canon
  obtain ⟨harrived, hopen, hqen, hread, hfree, hload⟩ := openUnderLoad_receives
  obtain ⟨u, hu, hdriven, -⟩ := hreceive wordForPort3 harrived rfl (by decide) hopen (by decide) hqen hread hfree
  have hdrop := exec_bridgeReceive_of_load harrived rfl (by decide) hload
  have hstages : u.stages = openUnderLoad.stages := by
    obtain rfl : _ = u := by simpa [hdrop] using hu
    rw [fenceDrop_stages, returnCredit_frame]
    rfl
  rw [held_congr hstages] at hdriven
  exact absurd (hfree.symm.trans hdriven) (by simp)

end Sys2Proof
end

section
/-! PROOFS. The table invariant (Canon, R117, R189, R270): how it passes through branches, loops and outcomes, through writes of one
table, and what it says of a slot's bank and a task's words. -/

namespace Sys2Proof

open Sys2Proof.Machine

set_option Elab.async false

variable {s : State}

/-! ### Branches, loops, pairs, outcomes -/

theorem Canon.ite {a b : State} {c : Prop} [Decidable c] (ha : Canon a) (hb : Canon b) : Canon (if c then a else b) := by
  split
  · exact ha
  · exact hb

theorem Canon.foldl {β : Type} {f : State → β → State} {l : List β} (h : Canon s)
    (hf : ∀ u x, Canon u → Canon (f u x)) : Canon (l.foldl f s) := by
  induction l generalizing s with
  | nil => exact h
  | cons x l ih => exact ih (hf s x h)

theorem Canon.ite_snd {α : Type} {a b : α × State} {c : Prop} [Decidable c] (ha : Canon a.2) (hb : Canon b.2) :
    Canon (if c then a else b).2 := by
  split
  · exact ha
  · exact hb

theorem Canon.pair {α : Type} {x : α} (h : Canon s) : Canon (x, s).2 := h

theorem Canon.foldl_snd {α β : Type} {f : α × State → β → α × State} {l : List β} {p : α × State} (h : Canon p.2)
    (hf : ∀ p x, Canon p.2 → Canon (f p x).2) : Canon (l.foldl f p).2 := by
  induction l generalizing p with
  | nil => exact h
  | cons x l ih => exact ih (hf p x h)

/-- Whatever next state the outcome answers is canonical. -/
def Keeps (o : Out) : Prop := ∀ u, o = .next u → Canon u

theorem Keeps.next (h : Canon s) : Keeps (.next s) := fun u e => by cases e; exact h

theorem Keeps.ite {a b : Out} {c : Prop} [Decidable c] (ha : Keeps a) (hb : Keeps b) : Keeps (if c then a else b) := by
  split
  · exact ha
  · exact hb

/-! ### Parts of the state replaced -/

/-- A run of writes to one table keeps its canonical form. -/
theorem twf_foldl_tput {α β : Type} [DecidableEq α] {d : α} {l : List β} {k : Tbl α → β → Nat} {v : Tbl α → β → α} {t : Tbl α}
    (h : twf d t = true) : twf d (l.foldl (fun m x => tput d m (k m x) (v m x)) t) = true :=
  twf_foldl h fun _ _ => twf_tput

/-- Nothing is asked of the parts of the state that are no tables. -/
theorem Canon.others {pending free dev cfg sup lastFetch zeroLast hmw sysReqs nextSys sysTo linkOut mgmt twin tim net noc trip
    notices logQ fetched cmds drains orphans replies irqs} (h : Canon s) :
    Canon { s with
      pending := pending, free := free, dev := dev, cfg := cfg, sup := sup, lastFetch := lastFetch, zeroLast := zeroLast
      hmw := hmw, sysReqs := sysReqs, nextSys := nextSys, sysTo := sysTo, linkOut := linkOut, mgmt := mgmt, twin := twin
      tim := tim, net := net, noc := noc, trip := trip, notices := notices, logQ := logQ, fetched := fetched, cmds := cmds
      drains := drains, orphans := orphans, replies := replies, irqs := irqs } :=
  { h with }

/-- The tile store and its fresh lines replaced. -/
theorem Canon.withStore {m : Tbl (BitVec 13)} {w : Tbl Bool} (h : Canon s) (hm : twf 0#13 m = true) (hw : twf false w = true) :
    Canon { s with store := m, written := w } :=
  { h with store := hm, written := hw }

/-- Bytes of the tile store replaced. -/
theorem Canon.putStore {m : Tbl (BitVec 13)} (h : Canon s) (hm : Canon s → twf 0#13 m = true) : Canon { s with store := m } :=
  h.withStore (hm h) h.written

/-! ### Banks of slots (R117, R133, R134) -/

theorem bankOk_iff {x : SlotSt} :
    bankOk x = true ↔ x.globals.length = 16 ∧ x.frames.length = 6 ∧ ∀ l ∈ x.frames, l.length = 16 := by
  simp [bankOk, and_assoc]

theorem length_frame {x : SlotSt} (h : bankOk x = true) {i : Nat} (hi : i < 6) : ((x.frames.drop i).headD []).length = 16 := by
  obtain ⟨-, hl, ha⟩ := bankOk_iff.1 h
  have hi' : i < x.frames.length := by omega
  rw [List.headD_eq_head?_getD, List.head?_drop, List.getElem?_eq_getElem hi']
  exact ha _ (List.getElem_mem hi')

theorem length_returnTo {a b : List Word} (ha : a.length = 16) (hb : b.length = 16) : (returnTo a b).length = 16 := by
  simp [returnTo, ha, hb]

theorem bankOk_setTop {x : SlotSt} {f : List Word} (h : bankOk x = true) (hf : f.length = 16) :
    bankOk { x with frames := f :: x.frames.drop 1 } = true := by
  obtain ⟨hg, hl, ha⟩ := bankOk_iff.1 h
  refine bankOk_iff.2 ⟨hg, by simp [hl], fun l hm => ?_⟩
  rcases List.mem_cons.1 hm with rfl | hm
  · exact hf
  · exact ha l (List.mem_of_mem_drop hm)

theorem bankOk_pushFrame {x : SlotSt} (h : bankOk x = true) : bankOk { x with frames := pushFrame x.frames } = true := by
  obtain ⟨hg, hl, ha⟩ := bankOk_iff.1 h
  have h0 := length_frame h (i := 0) (by omega)
  refine bankOk_iff.2 ⟨hg, by simp [pushFrame, hl], fun l hm => ?_⟩
  rcases List.mem_cons.1 hm with rfl | hm
  · rw [List.drop_zero] at h0
    simp only [calleeFrame, List.length_append, List.length_drop, List.length_replicate, h0]
  · exact ha l (List.mem_of_mem_take hm)

theorem bankOk_popFrame {x : SlotSt} (h : bankOk x = true) : bankOk { x with frames := popFrame x.frames } = true := by
  obtain ⟨hg, hl, ha⟩ := bankOk_iff.1 h
  refine bankOk_iff.2 ⟨hg, by simp [popFrame, hl], fun l hm => ?_⟩
  rcases List.mem_cons.1 hm with rfl | hm
  · exact length_returnTo (length_frame h (i := 0) (by omega)) (length_frame h (i := 1) (by omega))
  · rcases List.mem_append.1 hm with hm | hm
    · exact ha l (List.mem_of_mem_drop hm)
    · rw [List.mem_singleton.1 hm]
      rfl

theorem Canon.setSlot {t k : Nat} {x : SlotSt} (h : Canon s) (hx : bankOk x = true) : Canon (s.setSlot t k x) :=
  { h with
    slots := twf_tput h.slots
    banks := fun p hp => by
      rcases mem_tput hp with hp | ⟨rfl, -⟩
      · exact h.banks p hp
      · exact hx }

/-- A bank put into a slot that has the shape of one of the state. -/
theorem Canon.copySlot {t k a j : Nat} {x : SlotSt} (h : Canon s) (hx : bankOk x = bankOk (s.slot a j) := by exact rfl) :
    Canon (s.setSlot t k x) :=
  h.setSlot (hx.trans (bank_of_canon h a j))

/-- A change of a slot that keeps the shape of its bank. -/
theorem Canon.modSlot {t k : Nat} {f : SlotSt → SlotSt} (h : Canon s)
    (hf : ∀ x, bankOk x = true → bankOk (f x) = true := by exact fun _ hx => hx) : Canon (s.modSlot t k f) :=
  h.setSlot (hf _ (bank_of_canon h t k))

/-! ### Words of tasks (R189) -/

theorem Canon.taskWords (h : Canon s) (k : Nat) : (s.task k).w.length = 8 := by
  rcases mem_of_tget (d := TaskSt.init) (rfl : tget .init s.tasks k = _) with h' | h'
  · rw [State.task, h']
    rfl
  · exact h.words _ h'

theorem Canon.setTask {k : Nat} {x : TaskSt} (h : Canon s) (hx : x.w.length = 8) : Canon (s.setTask k x) :=
  { h with
    tasks := twf_tput h.tasks
    words := fun p hp => by
      rcases mem_tput hp with hp | ⟨rfl, -⟩
      · exact h.words p hp
      · exact hx }

/-- A change of the marks beside a task's words. -/
theorem Canon.setTaskMarks {k : Nat} {x : TaskSt} (h : Canon s) (hx : x.w = (s.task k).w := by exact rfl) :
    Canon (s.setTask k x) :=
  h.setTask (hx ▸ h.taskWords k)

theorem Canon.setTf {f : TFld} {k v : Nat} (h : Canon s) : Canon (s.setTf f k v) :=
  h.setTask (List.length_set.trans (h.taskWords k))

theorem Canon.setTaskWord {k i v : Nat} (h : Canon s) : Canon (s.setTaskWord k i v) :=
  h.setTask (List.length_set.trans (h.taskWords k))

end Sys2Proof
end

section
/-! PROOFS. The table invariant (Canon) through the shared operations: registers, events, tile stores, replies, packets and the queue
engine keep it. -/

namespace Sys2Proof

open Sys2Proof.Machine

set_option Elab.async false

variable {s : State}

/-! ### Registers, events, the tile store (R14, R270, R538) -/

theorem Canon.setTile {t : Nat} {x : TileSt} (h : Canon s) : Canon (s.setTile t x) :=
  { h with tiles := twf_tput h.tiles }

theorem Canon.modTile {t : Nat} {f : TileSt → TileSt} (h : Canon s) : Canon (s.modTile t f) :=
  h.setTile

theorem Canon.setCell {t k c : Nat} {x : CellSt} (h : Canon s) : Canon (s.setCell t k c x) :=
  { h with cells := twf_tput h.cells }

theorem Canon.setFloor {f : Nat} {x : FloorSt} (h : Canon s) : Canon (s.setFloor f x) :=
  { h with floors := twf_tput h.floors }

theorem Canon.modFloor {f : Nat} {g : FloorSt → FloorSt} (h : Canon s) : Canon (s.modFloor f g) :=
  h.setFloor

theorem Canon.setQueue {q : Nat} {x : Queue} (h : Canon s) : Canon (s.setQueue q x) :=
  { h with queues := twf_tput h.queues }

theorem Canon.modQueue {q : Nat} {g : Queue → Queue} (h : Canon s) : Canon (s.modQueue q g) :=
  h.setQueue

theorem Canon.setBatch {b : Nat} {x : BatchSt} (h : Canon s) : Canon (s.setBatch b x) :=
  { h with batches := twf_tput h.batches }

theorem Canon.setFrz {f : Nat} {x : FrzSt} (h : Canon s) : Canon (s.setFrz f x) :=
  { h with frzs := twf_tput h.frzs }

theorem Canon.fresh64 (h : Canon s) : Canon (s.fresh64).2 :=
  h.others

theorem Canon.setReg {r : Reg} {i v : Nat} (h : Canon s) : Canon (s.setReg r i v) :=
  { h with regs := rising_tput h.regs }

theorem Canon.setFld {f : Fld} {i v : Nat} (h : Canon s) : Canon (s.setFld f i v) :=
  h.setReg

theorem Canon.bumpBy {r : Reg} {i n : Nat} (h : Canon s) : Canon (s.bumpBy r i n) :=
  h.setReg

theorem Canon.bump {r : Reg} {i : Nat} (h : Canon s) : Canon (s.bump r i) :=
  h.bumpBy

theorem Canon.bumpFld {f : Fld} {i : Nat} (h : Canon s) : Canon (s.bumpFld f i) :=
  h.setFld

theorem Canon.faultEdge {old : State} (h : Canon s) : Canon (s.faultEdge old) :=
  .ite h.others h

theorem Canon.raiseAt {time code sclass loc data : Nat} (h : Canon s) : Canon (s.raiseAt time code sclass loc data) :=
  .ite h.others h.others.setReg.faultEdge

theorem Canon.raise {code sclass loc data : Nat} (h : Canon s) : Canon (s.raise code sclass loc data) :=
  h.raiseAt

theorem Canon.raiseOnceK {r : Reg} {i sub code sclass loc data : Nat} (h : Canon s) :
    Canon (s.raiseOnceK r i sub code sclass loc data) :=
  .ite h (Canon.raise { h with once := twf_tput h.once })

theorem Canon.raiseOnce {r : Reg} {i code sclass loc data : Nat} (h : Canon s) : Canon (s.raiseOnce r i code sclass loc data) :=
  h.raiseOnceK

theorem Canon.rearm {r : Reg} {i : Nat} (h : Canon s) : Canon (s.rearm r i) :=
  { h with once := twf_filter h.once }

theorem Canon.countPass {t page n : Nat} {data : Nat → Nat} (h : Canon s) : Canon (s.countPass t page n data) :=
  .ite h.modTile.modTile.raise h.modTile

theorem Canon.wordErrors {t : Nat} {offs : List Nat} {req slot : Nat} {fresh : Bool} {dec : Nat → Decoded} (h : Canon s) :
    Canon (s.wordErrors t offs req slot fresh dec) := by
  unfold State.wordErrors
  extract_lets ce ue page mask v u
  clear_value ce ue
  have hu : Canon u := by
    dsimp only [u, v]
    split
    · exact h
    · refine .ite ?_ h.bumpBy.bumpBy.countPass
      split
      · exact .ite h.bumpBy.bumpBy.countPass.bump h.bumpBy.bumpBy.countPass.modTile.raise
      · exact h.bumpBy.bumpBy.countPass.modTile.raise
  clear_value u
  dsimp only
  split
  · exact hu
  · exact .ite hu.bumpBy.bumpBy.setReg.raise (.ite hu.bumpBy.bumpBy.setReg hu.bumpBy.bumpBy.setReg.modTile.raise)

theorem Canon.queueWriteBack {t off : Nat} {l : List (Nat × Byte)} (h : Canon s) : Canon (s.queueWriteBack t off l) :=
  .ite h h.modTile

theorem Canon.noteRead {t off n req slot : Nat} (h : Canon s) : Canon (s.noteRead t off n req slot) :=
  .foldl (.foldl h fun _ _ h' => h'.wordErrors) fun _ _ h' => h'.queueWriteBack

theorem Canon.openLine {ph : Nat} (h : Canon s) : Canon (s.openLine ph) := by
  unfold State.openLine
  split
  · exact h.withStore (twf_foldl_tput h.store) (twf_tput h.written)
  · exact h

theorem Canon.pokePhys {ph : Nat} {v : BitVec 13} (h : Canon s) : Canon (s.pokePhys ph v) :=
  { h.openLine with store := twf_tput h.openLine.store }

theorem Canon.applyFlip {t : Nat} {offs : List Nat} (h : Canon s) : Canon (s.applyFlip t offs) := by
  unfold State.applyFlip
  split
  · exact h
  · refine .ite (Canon.bumpFld (Canon.setFld (.foldl h fun u x hu => ?_))) h
    exact hu.withStore (twf_tput hu.store) hu.written

theorem Canon.touchLines {t : Nat} {offs : List Nat} (h : Canon s) : Canon (s.touchLines t offs) := by
  unfold State.touchLines
  exact h.modTile

theorem Canon.storeBytes {t : Nat} {l : List (Nat × Byte × Bool)} (h : Canon s) : Canon (s.storeBytes t l) :=
  (Canon.applyFlip (.foldl h fun _ _ h => h.pokePhys)).touchLines

/-! ### Command packets (R444 to R448) -/

theorem Canon.putHost {a : Nat} {l : List Byte} (h : Canon s) : Canon (s.putHost a l) :=
  { h with hostMem := twf_foldl_tput h.hostMem }

theorem Canon.reply {c : Cmd} {op status : Nat} {data : List Byte} (h : Canon s) : Canon (s.reply c op status data) :=
  .ite h.others (.ite h.others h.others)

theorem Canon.badParam {c : Cmd} {op off : Nat} (h : Canon s) : Canon (s.badParam c op off) :=
  h.reply

theorem Canon.interim {c : Cmd} {op : Nat} (h : Canon s) : Canon (s.interim c op) :=
  .ite h.others h

theorem Canon.unfetch {c : Cmd} (h : Canon s) : Canon (s.unfetch c) :=
  h.others

theorem Canon.runCmd {c : Cmd} {op : Nat} {params : List Byte} {tenant : Bool} {body : State → State} (h : Canon s) (hbody : ∀
    u, Canon u → Canon (body u)) : Canon (s.runCmd c op params tenant body) :=
  .ite h (.ite h.unfetch.badParam (.ite h.unfetch.reply (.ite h.unfetch.reply (.ite h.unfetch.reply (hbody _ h.unfetch)))))

theorem Canon.waitCmd {c : Cmd} {op : Nat} {w : CmdWait} {timeout : Nat} (h : Canon s) : Canon (s.waitCmd c op w timeout) :=
  h.others

theorem Canon.await {c : Cmd} {op : Nat} {w : CmdWait} {timeout : Nat} (h : Canon s) : Canon (s.await c op w timeout) :=
  h.interim.waitCmd

theorem Canon.finish {w : CmdWait} {status : Nat} {data : List Byte} (h : Canon s) : Canon (s.finish w status data) :=
  .foldl h.others fun _ _ h => h.reply

theorem Canon.finishFirst {w : CmdWait} {status : Nat} {data : List Byte} (h : Canon s) :
    Canon (s.finishFirst w status data) := by
  unfold State.finishFirst
  split
  · exact h
  · exact h.others.reply

theorem Canon.finishWhere {p : CmdWait → Bool} {status : Nat} (h : Canon s) : Canon (s.finishWhere p status) :=
  .foldl h.others fun _ _ h => h.reply

theorem Canon.drainOn {w : CmdWait} (h : Canon s) : Canon (s.drainOn w) :=
  h.others

/-! ### Packets sent (R166, R305, R313) -/

theorem Canon.takePkt {p : Pkt} (h : Canon s) : Canon (s.takePkt p) :=
  h.others

theorem Canon.countInject {p : Pkt} (h : Canon s) : Canon (s.countInject p) :=
  .ite h h.bump.setReg

theorem Canon.inject {node : Nat} {p : Pkt} (h : Canon s) : Canon (s.inject node p) :=
  h.countInject.others

theorem Canon.sendAnswer {node : Nat} {p : Pkt} (h : Canon s) : Canon (s.sendAnswer node p) :=
  h.others

theorem Canon.rsp {node : Nat} {p : Pkt} {status result : Nat} (h : Canon s) : Canon (s.rsp node p status result) :=
  h.sendAnswer

theorem Canon.dat {node : Nat} {p : Pkt} {data : List Byte} {psn : Nat} (h : Canon s) : Canon (s.dat node p data psn) :=
  h.sendAnswer

theorem Canon.sendInv {t q line sh : Nat} (h : Canon s) : Canon (s.sendInv t q line sh) :=
  h.inject

theorem Canon.invalidate {t line : Nat} (h : Canon s) : Canon (s.invalidate t line).2 := by
  unfold State.invalidate
  refine .foldl_snd { h with sharers := twf_tput h.sharers } fun p x hp => ?_
  dsimp only
  split
  · exact .pair hp.modTile.sendInv
  · exact .pair hp.modTile

theorem Canon.writeStore {t : Nat} {l : List (Nat × Byte × Bool)} (h : Canon s) : Canon (s.writeStore t l).2 :=
  .foldl_snd h.storeBytes fun _ _ hp => hp.invalidate

/-! ### The queue engine (R226 to R255) -/

theorem Canon.setPool {f i : Nat} {w : QWord} (h : Canon s) : Canon (s.setPool f i w) :=
  { h with pool := twf_tput h.pool }

theorem Canon.qEval {q : Nat} (h : Canon s) : Canon (s.qEval q) :=
  .ite h (.ite h.setFld.setFld.bumpFld.raise h.setFld.setFld.bumpFld)

theorem Canon.swap {q : Nat} (h : Canon s) : Canon (s.swap q) := by
  unfold State.swap
  exact h.modQueue

theorem Canon.storeWord {q : Nat} {a : Agent} {fl : Option Nat} {w : QWord} (h : Canon s) : Canon (s.storeWord q a fl w) :=
  .ite (.ite h.bump.modQueue h.bump) (Canon.setPool (.ite h.swap h)).modQueue

theorem Canon.settleLate {q : Nat} (h : Canon s) : Canon (s.settleLate q) :=
  .ite h h.modQueue

theorem Canon.truncate {q : Nat} (h : Canon s) : Canon (s.truncate q) := by
  unfold State.truncate
  dsimp only
  split
  · exact h
  · exact .ite h.modQueue h.storeWord.modQueue.settleLate

theorem Canon.frameErr {q : Nat} (h : Canon s) : Canon (s.frameErr q) :=
  h.bump.raiseOnceK

theorem Canon.pushWord {q : Nat} {a : Agent} {fl : Option Nat} {data : Word} {sop eop psn : Bool} (h : Canon s) :
    Canon (s.pushWord q a fl data sop eop psn).2 := by
  have framed {u : State} {c : Prop} [Decidable c] (hu : Canon u) : Canon (if c then (u.frameErr q).truncate q else u) :=
    .ite hu.frameErr.truncate hu
  have counted {u : State} {c : Prop} [Decidable c] (hu : Canon u) : Canon (if c then u.frameErr q else u) :=
    .ite hu.frameErr hu
  unfold State.pushWord
  exact .ite_snd (.ite h.bump.modQueue h.bump) (.ite_snd (.ite h.bump.modQueue h.bump) (.ite_snd h (.ite_snd h (.ite_snd h
    (.ite_snd (framed h).qEval (counted (counted (framed h))).setFld.storeWord.modQueue.settleLate.qEval)))))

theorem Canon.storeTrunc {q : Nat} (h : Canon s) : Canon (s.storeTrunc q) :=
  h.modQueue.truncate.qEval

theorem Canon.readPool {q pos : Nat} (h : Canon s) : Canon (s.readPool q pos).2 :=
  .ite_snd (.pair h.bump.raise) h

theorem Canon.popWord {q : Nat} {a : Agent} {x : QWord × State} (h : Canon s) (e : s.popWord q a = some x) : Canon x.2 := by
  unfold State.popWord at e
  split at e
  · split at e
    · cases e
    · cases e
      exact h.readPool.modQueue.qEval
  · cases e

theorem Canon.dropItem {q : Nat} (h : Canon s) : Canon (s.dropItem q) :=
  h.bumpBy.modQueue.settleLate.qEval

theorem Canon.dropBy {q : Nat} {a : Agent} (h : Canon s) : Canon (s.dropBy q a) :=
  .ite h.dropItem h

theorem Canon.flush {q : Nat} (h : Canon s) : Canon (s.flush q).2 := by
  refine Canon.qEval ?_
  split
  · exact h.bumpBy.modQueue.setPool.modQueue
  · exact h.bumpBy.modQueue

theorem Canon.poisonAll {q : Nat} (h : Canon s) : Canon (s.poisonAll q) :=
  .foldl h fun _ _ h => h.setPool

theorem Canon.abortQueue {q : Nat} (h : Canon s) : Canon (s.abortQueue q) :=
  .ite h.poisonAll.setFld.modQueue.truncate.qEval h.poisonAll.setFld.qEval

theorem Canon.endProducer {q : Nat} {a : Agent} (h : Canon s) : Canon (s.endProducer q a) :=
  .ite (.ite h.modQueue.modQueue (.ite h.modQueue h.modQueue.truncate.qEval.raise)) h.modQueue

theorem Canon.endConsumer {q : Nat} {a : Agent} (h : Canon s) : Canon (s.endConsumer q a) :=
  h.dropBy

theorem Canon.endAgent {a : Agent} (h : Canon s) : Canon (s.endAgent a) :=
  .foldl h fun _ _ h => h.endProducer.endConsumer

theorem Canon.dropStaged {q i : Nat} (h : Canon s) : Canon (s.dropStaged q i) :=
  h.modQueue.qEval

theorem Canon.releaseStaged {q i : Nat} (h : Canon s) : Canon (s.releaseStaged q i) :=
  h.modQueue.qEval

theorem Canon.credit {q n : Nat} (h : Canon s) : Canon (s.credit q n) :=
  h.setQueue

theorem Canon.uncredit {q : Nat} (h : Canon s) : Canon (s.uncredit q) :=
  h.modQueue

theorem Canon.recredit {q n : Nat} (h : Canon s) : Canon (s.recredit q n) :=
  h.modQueue.credit

theorem Canon.enableQueue {q : Nat} (h : Canon s) : Canon (s.enableQueue q) :=
  .ite h (.ite h.setFld h.setFld.setFld.setFld.setQueue.qEval)

theorem Canon.closeQueue {q : Nat} (h : Canon s) : Canon (s.closeQueue q) :=
  h.setFld.setFld.setQueue

end Sys2Proof
end

section
/-! PROOFS. The table invariant (Canon) through the operations on tasks, slots, tokens and routes, and the commands of the wire network. -/

namespace Sys2Proof

open Sys2Proof.Machine

set_option Elab.async false

variable {s : State}

/-! ### Tasks, delay lists, slots, guards, faults (R118 to R144, R189 to R218) -/

theorem Canon.dropReady {f : Nat} {r : Ready} (h : Canon s) : Canon (s.dropReady f r) :=
  h.modFloor

theorem Canon.fixNew {k : Nat} (h : Canon s) : Canon (s.fixNew k) :=
  .ite h.modFloor (.ite h.dropReady h)

theorem Canon.setPend {k n : Nat} (h : Canon s) : Canon (s.setPend k n) :=
  Canon.fixNew (.ite h.setTf.setTaskMarks h.setTf)

theorem Canon.addOne {k : Nat} (h : Canon s) : Canon (s.addOne k) :=
  .ite (.ite h.setPend (.ite h.bump h.bump.setTaskMarks.raise)) (.ite h.bump h)

theorem Canon.addN {k n : Nat} (h : Canon s) : Canon (s.addN k n) := by
  induction n generalizing s with
  | zero => exact h
  | succ n ih => exact ih h.addOne

theorem Canon.takeCredits {k n : Nat} (h : Canon s) : Canon (s.takeCredits k n) :=
  .ite (.ite h h.credit.setPend) h

theorem Canon.takeDelay {f : Nat} {u : DlyUser} {n : Nat} (h : Canon s) : Canon (s.takeDelay f u n) := by
  unfold State.takeDelay
  exact h.modFloor

theorem Canon.waitDelay {f : Nat} {u : DlyUser} {n : Nat} (h : Canon s) : Canon (s.waitDelay f u n) := by
  unfold State.waitDelay
  exact Canon.modFloor (.ite h.bump h.bump.modFloor.raise)

theorem Canon.armDelay {k : Nat} (h : Canon s) : Canon (s.armDelay k) :=
  .ite h (.ite h.takeDelay h.waitDelay.setTf)

theorem Canon.setSstate {t k v : Nat} (h : Canon s) : Canon (s.setSstate t k v) :=
  h.setFld

theorem Canon.setPendOf {t g : Nat} {b : Bool} (h : Canon s) : Canon (s.setPendOf t g b) :=
  h.setFld

theorem Canon.setRet {t g : Nat} {r : Option Nat} (h : Canon s) : Canon (s.setRet t g r) := by
  cases r with
  | none => exact h.setFld.setFld
  | some k => exact h.setFld.setFld

theorem Canon.runSlot {t k : Nat} (h : Canon s) : Canon (s.runSlot t k) := by
  unfold State.runSlot
  exact h.setFld.setFld.setSstate.setFld.setFld.modSlot

theorem Canon.idleTile {t : Nat} (h : Canon s) : Canon (s.idleTile t) :=
  h.setFld.setFld.setFld.setFld

theorem Canon.suspend {t k : Nat} {w : Susp} (h : Canon s) : Canon (s.suspend t k w) := by
  unfold State.suspend
  exact h.setSstate.modSlot.modTile.modFloor

theorem Canon.deliverCause {t g cause : Nat} (h : Canon s) : Canon (s.deliverCause t g cause) := by
  have hc : Canon (if bit (s.reg .TIL_GCAUSE (2 * t + g)) cause then s.bump .TIL_GOVR (2 * t + g)
      else s.setReg .TIL_GCAUSE (2 * t + g) (s.reg .TIL_GCAUSE (2 * t + g) + 2 ^ cause)) := .ite h.bump h.setReg
  refine .ite h (.ite hc ?_)
  split
  · exact hc
  · exact .ite hc hc.setPendOf

theorem Canon.resumeOrIdle {t : Nat} {r : Option Nat} (h : Canon s) : Canon (s.resumeOrIdle t r) := by
  unfold State.resumeOrIdle
  split
  · exact .ite h.idleTile.runSlot h.idleTile
  · exact h.idleTile

theorem Canon.enterGuard {t g k : Nat} (h : Canon s) : Canon (s.enterGuard t g k) :=
  (Canon.modFloor (.ite h.modSlot h)).setPendOf.runSlot.bump

theorem Canon.guardExit {t g : Nat} (h : Canon s) : Canon (s.guardExit t g) := by
  unfold State.guardExit
  dsimp only
  split
  · exact h
  · split
    · exact h.enterGuard
    · split
      · exact h.setRet.resumeOrIdle
      · split
        · split
          · exact h.setRet.setRet.enterGuard
          · exact h.resumeOrIdle
        · exact h.setRet.resumeOrIdle

theorem Canon.closeFlow {f id : Nat} {kind : EndKind} (h : Canon s) : Canon (s.closeFlow f id kind) := by
  unfold State.closeFlow
  dsimp only
  split
  · exact h
  · split
    · exact h.modFloor.setFld.dropStaged
    · exact .ite h.modFloor.dropStaged.raise h.modFloor

theorem Canon.grantOne {f : Nat} (h : Canon s) : Canon (s.grantOne f) := by
  unfold State.grantOne
  dsimp only
  split
  · exact .ite h.modFloor.modFloor h.modFloor
  · split
    · exact h.modFloor
    · split
      · exact h.modFloor.modFloor.takeDelay.setTf
      · split
        · exact h.modFloor.modFloor.takeDelay.modSlot.suspend.guardExit
        · exact h.modFloor.modFloor.takeDelay.modSlot.suspend.idleTile

theorem Canon.grantUpTo {f n : Nat} (h : Canon s) : Canon (s.grantUpTo f n) := by
  induction n generalizing s with
  | zero => exact h
  | succ n ih => exact ih h.grantOne

theorem Canon.grantDelay {f : Nat} (h : Canon s) : Canon (s.grantDelay f) :=
  h.grantUpTo

theorem Canon.leaveGuard {t g : Nat} (h : Canon s) : Canon (s.leaveGuard t g) :=
  h.guardExit.grantDelay

theorem Canon.dropParked {t k : Nat} (h : Canon s) : Canon (s.dropParked t k) :=
  .foldl h.modTile fun _ _ h => h.modFloor

theorem Canon.leaveSlot {t k n : Nat} {kind : EndKind} (h : Canon s) : Canon (s.leaveSlot t k n kind) := by
  unfold State.leaveSlot
  refine (Canon.modTile ?_).dropReady.dropParked.modFloor
  split
  · exact h.endAgent.closeFlow
  · exact h.endAgent

theorem Canon.decRun {n : Nat} (h : Canon s) : Canon (s.decRun n) :=
  .ite h.setTaskMarks h.setTf

theorem Canon.incRun {n : Nat} (h : Canon s) : Canon (s.incRun n) :=
  .ite h.setTf h.setTaskMarks

theorem Canon.countEnd {n : Nat} {kind : EndKind} (h : Canon s) : Canon (s.countEnd n kind) :=
  (Canon.setTaskWord (.ite h.decRun.setTf h.decRun)).fixNew

theorem Canon.rearmDelay {n : Nat} (h : Canon s) : Canon (s.rearmDelay n) :=
  .ite h.armDelay h

theorem Canon.endActivation {t k : Nat} {kind : EndKind} (h : Canon s) : Canon (s.endActivation t k kind) := by
  unfold State.endActivation
  dsimp only
  split
  · exact h
  · exact h.leaveSlot.modSlot.countEnd.grantDelay.rearmDelay

theorem Canon.cancelSlot {t k : Nat} (h : Canon s) : Canon (s.cancelSlot t k) :=
  .ite h.modTile.endActivation.setSstate.idleTile h.modTile.endActivation.setSstate

theorem Canon.enterFaulted {t : Nat} (h : Canon s) : Canon (s.enterFaulted t) := by
  unfold State.enterFaulted
  split
  · exact .ite h.enterGuard.grantDelay h
  · exact h

theorem Canon.contextFaultD {t k code pc data : Nat} (h : Canon s) : Canon (s.contextFaultD t k code pc data) := by
  have idled {u : State} {c : Prop} [Decidable c] (hu : Canon u) : Canon (if c then u.idleTile t else u) := .ite hu.idleTile hu
  have returns {u : State} {c : Prop} [Decidable c] {g : Nat} {r : Option Nat} (hu : Canon u) :
      Canon (if c then u.setRet t g r else u) := .ite hu.setRet hu
  have told {u : State} (o : Option Nat) (hu : Canon u) : Canon (match o with
      | some n => (if u.tf tkState n = 1 then u.setTf tkState n 4 else u).fixNew n
      | none => u) := by
    split
    · exact (Canon.ite hu.setTf hu).fixNew
    · exact hu
  unfold State.contextFaultD
  dsimp only
  split
  · split
    · exact (idled (told _ h.setReg.raise.modTile.endActivation.setSstate)).setFld.deliverCause
    · exact idled (told _ h.setReg.raise.modTile.endActivation.setSstate)
  · refine .ite (.ite (Canon.enterFaulted ?_) ?_) h.setReg.raise.modTile.setSstate.raise.idleTile.setFld.faultEdge
    all_goals exact (returns (idled h.setReg.raise.modTile.setSstate)).setRet.setPendOf.setFld.deliverCause

theorem Canon.contextFault {t k code pc imm : Nat} (h : Canon s) : Canon (s.contextFault t k code pc imm) :=
  h.contextFaultD

theorem Canon.tellCancel {p : Nat × Nat} (h : Canon s) : Canon (s.tellCancel p) := by
  refine .ite h.modSlot ?_
  split
  all_goals first | exact .ite h.cancelSlot h.modSlot | exact h.modSlot

theorem Canon.dropDelay {k : Nat} (h : Canon s) : Canon (s.dropDelay k) :=
  h.modFloor.setTf.grantDelay

theorem Canon.loseDispatches {k : Nat} (h : Canon s) : Canon (s.loseDispatches k) := by
  refine .foldl h.modFloor fun _ _ h => ?_
  split
  · exact h.closeFlow
  · exact h

theorem Canon.cancelTask {k : Nat} (h : Canon s) : Canon (s.cancelTask k) :=
  .ite (.foldl (Canon.setPend (.ite h.bumpBy h.bumpBy.setTf)).dropDelay.loseDispatches fun _ _ h => h.tellCancel) h

/-! ### Tokens (R84 to R100) -/

theorem Canon.setHeld {w : Wire} {k : Nat} {p : Option Held} (h : Canon s) : Canon (s.setHeld w k p) :=
  { h with stages := twf_tput h.stages }

theorem Canon.serve {w : Wire} {k : Nat} {r : Reader} (h : Canon s) : Canon (s.serve w k r) := by
  unfold State.serve
  dsimp only
  split
  · exact h
  · exact .ite h.setHeld h.setHeld

theorem Canon.settleForks (h : Canon s) : Canon s.settleForks := by
  unfold State.settleForks
  refine .foldl h fun u p hu => ?_
  dsimp only
  split
  · exact .ite hu.setHeld hu
  · exact hu

theorem Canon.offer {w : Wire} {k : Nat} {tok : Tok} (h : Canon s) : Canon (s.offer w k tok) :=
  .ite h h.setHeld

theorem Canon.moveTo {w : Wire} {k : Nat} {x : Wire × Nat} (h : Canon s) : Canon (s.moveTo w k x) := by
  unfold State.moveTo
  split
  · exact .ite h.offer.serve h
  · exact h

theorem Canon.returnCredit {p : Pkt} (h : Canon s) : Canon (s.returnCredit p) :=
  .ite h.modFloor h

theorem Canon.fenceDrop {f : Nat} (h : Canon s) : Canon (s.fenceDrop f) :=
  .ite h.bump h.bump.modFloor.raise

/-! ### Routes (R298 to R310) -/

theorem Canon.writeBank {b : Nat} {tb : RTable} (h : Canon s) : Canon (s.writeBank b tb) :=
  .foldl h fun _ _ h => .foldl h fun _ _ h => h.setReg

theorem Canon.prepareBank {l : List (Nat × Nat × Nat × Nat)} (h : Canon s) : Canon (s.prepareBank l) :=
  h.writeBank

theorem Canon.startDrain (h : Canon s) : Canon s.startDrain :=
  h.setFld.others

theorem Canon.swapBanks (h : Canon s) : Canon s.swapBanks :=
  h.setFld.setFld.others

theorem Canon.commitDone (h : Canon s) : Canon s.commitDone :=
  .ite h.swapBanks.others.prepareBank.startDrain (.ite h.swapBanks.others.finish h.swapBanks.finish)

theorem Canon.commitTick (h : Canon s) : Canon s.commitTick :=
  .ite h.commitDone h

theorem Canon.noRouteDrop {r e n : Nat} (h : Canon s) : Canon (s.noRouteDrop r e n) :=
  h.bump.raiseOnceK

theorem Canon.rspAt {r : Nat} {p : Pkt} {status : Nat} (h : Canon s) : Canon (s.rspAt r p status) :=
  h.others

theorem Canon.unrouted {r : Nat} {p : Pkt} (h : Canon s) : Canon (s.unrouted r p) :=
  .ite h.rspAt h.noRouteDrop.returnCredit

theorem Canon.leaveFenced {f : Nat} {p : Pkt} (h : Canon s) : Canon (s.leaveFenced f p) :=
  .ite h.rspAt h.fenceDrop.returnCredit

theorem Canon.enterOff {r f : Nat} {p : Pkt} (h : Canon s) : Canon (s.enterOff r f p) := by
  unfold State.enterOff
  split
  · exact h.others
  · exact h
  · exact .ite h.rspAt (.ite h.bump h.fenceDrop.returnCredit)

theorem Canon.parityHits {p : Pkt} {bad : Nat} (h : Canon s) : Canon (s.parityHits p bad).2 :=
  h.bumpBy

theorem Canon.hopPkt {p : Pkt} (h : Canon s) : Canon (s.hopPkt p) := by
  unfold State.hopPkt
  dsimp only
  split
  · exact .ite h.others h.leaveFenced
  · split
    · exact h.unrouted
    · exact h.others
    · exact .ite h.enterOff h.others

theorem keeps_execRouterForward {p : Pkt} {err : Fin 3} {bad : Nat} (h : Canon s) : Keeps (execRouterForward p err bad s) :=
  .ite (.next h) (.ite (.next h.takePkt.bump.raise) (.next (Canon.parityHits (.ite h.takePkt.bump h.takePkt)).hopPkt))

theorem Canon.routePlanCmd {c : Cmd} {l : List (Nat × Nat × Nat × Nat)} (h : Canon s) : Canon (s.routePlanCmd c l) := by
  unfold State.routePlanCmd
  dsimp only
  split
  · exact h.reply
  · exact .ite h.reply h.prepareBank.await.others.startDrain

theorem keeps_execRoutePlan {c : Cmd} {changes : List (Nat × Nat × Nat × Nat)} (h : Canon s) :
    Keeps (execRoutePlan c changes s) := by
  refine .next (h.runCmd fun _ h => .ite h.badParam ?_)
  split
  · exact h.badParam
  · exact h.routePlanCmd

theorem Canon.routeCommitCmd {c : Cmd} {order timeout : Nat} (h : Canon s) : Canon (s.routeCommitCmd c order timeout) := by
  unfold State.routeCommitCmd
  dsimp only
  split
  · exact h.reply
  · exact .ite h.reply (.ite h.interim.swapBanks.reply h.await.startDrain)

theorem keeps_execRouteCommit {c : Cmd} {order timeout : Nat} (h : Canon s) : Keeps (execRouteCommit c order timeout s) :=
  .next (h.runCmd fun _ h => .ite h.badParam h.routeCommitCmd)

theorem keeps_execCommitDrainTimeout (h : Canon s) : Keeps (execCommitDrainTimeout s) :=
  .ite (.next h.setFld.commitDone) (.next h)

theorem keeps_execRouteCommitTimeout (h : Canon s) : Keeps (execRouteCommitTimeout s) := by
  unfold execRouteCommitTimeout
  split
  · exact .next h
  · exact .next h.others.reply

theorem keeps_execRouteRead {c : Cmd} {r bank : Nat} (h : Canon s) : Keeps (execRouteRead c r bank s) :=
  .next (h.runCmd fun _ h => .ite h.badParam (.ite h.badParam h.reply))

theorem keeps_execNocStats {c : Cmd} {first n : Nat} (h : Canon s) : Keeps (execNocStats c first n s) :=
  .next (h.runCmd fun _ h => .ite h.badParam (.ite h.badParam h.reply))

theorem Canon.clearStats (h : Canon s) : Canon s.clearStats :=
  { h with regs := rising_filter h.regs }

theorem Canon.statCtlWrite {v : Nat} (h : Canon s) : Canon (s.statCtlWrite v) :=
  .ite h.setFld.clearStats h.setFld

theorem keeps_execNocStatClear {view : ViewNo} {v : Word} (h : Canon s) : Keeps (execNocStatClear view v s) :=
  .ite (.next h.statCtlWrite) (.next h)

theorem Canon.countAnswer {p : Pkt} (h : Canon s) : Canon (s.countAnswer p) :=
  .ite h h.bump.setReg.bump.setReg

/-! ### Wires, lanes, bridges (R95 to R108) -/

theorem keeps_execWireTokenTransfer {w : Wire} {k : SlotNo} (h : Canon s) : Keeps (execWireTokenTransfer w k s) := by
  unfold execWireTokenTransfer
  dsimp only
  split
  · exact .next (.foldl h fun _ _ h' => h'.moveTo)
  · exact .next (.foldl h fun _ _ h' => h'.moveTo)
  · exact .next (.ite (Canon.bump (.foldl h fun _ _ h' => h'.moveTo)) (.foldl h fun _ _ h' => h'.moveTo))

theorem keeps_execBoundaryTokenRelease {w : Wire} {k : SlotNo} {far : TileNo} (h : Canon s) :
    Keeps (execBoundaryTokenRelease w k far s) :=
  .next (.foldl h fun _ _ h' => h'.moveTo)

theorem keeps_execExpressInject {f : FloorNo} {e : Fin 4} {l : Fin 16} {p : Fin 4} (h : Canon s) :
    Keeps (execExpressInject f e l p s) := by
  unfold execExpressInject
  dsimp only
  split
  · exact .next h
  · exact .next h.moveTo

theorem keeps_execBridgeSend {f : FloorNo} {k : Fin 16} (h : Canon s) : Keeps (execBridgeSend f k s) := by
  unfold execBridgeSend
  dsimp only
  split
  · exact .next h
  · split
    · exact .next h
    · exact .ite (.next h) (.next h.serve.modFloor.inject)

theorem keeps_execBridgeReceive {p : Pkt} (h : Canon s) : Keeps (execBridgeReceive p s) :=
  .ite (.ite (.next h.takePkt.returnCredit.fenceDrop) (.ite (.next h.takePkt.returnCredit) (.ite (.next h) (.next
    h.takePkt.returnCredit.setHeld)))) (.next h)

end Sys2Proof
end

section
/-! PROOFS. The table invariant (Canon) through contexts and the tile sequencer: frames pushed, popped, filled and written keep the shape
of a bank (R117). -/

namespace Sys2Proof

open Sys2Proof.Machine

set_option Elab.async false

variable {s : State}

/-! ### Switches, guard entries, spills, fills, SLOT_RESET (R118 to R150) -/

theorem Canon.readyHeadAt {f n : Nat} {r : Ready} (h : Canon s) : Canon (s.readyHeadAt f n r) :=
  h.modFloor

theorem Canon.readyTailAt {f n : Nat} {r : Ready} (h : Canon s) : Canon (s.readyTailAt f n r) :=
  h.modFloor

theorem Canon.readyAgain {f n : Nat} {e : Ready} {ahead : List Ready} (h : Canon s) : Canon (s.readyAgain f n e ahead) :=
  h.modFloor

theorem Canon.pendAgain {k : Nat} {cx : Bool} (h : Canon s) : Canon (s.pendAgain k cx) :=
  .ite h.bump (.ite h.setPend (.ite h.uncredit h.addOne))

theorem Canon.undoSwitch {t : Nat} {r : SwitchReq} (h : Canon s) : Canon (s.undoSwitch t r) := by
  have hc : Canon (match (s.slot t r.slot).flow with
      | some id => s.closeFlow (homeFloor r.task) id .cancelled
      | none => s) := by
    split
    · exact h.closeFlow
    · exact h
  have hp := hc.modSlot (t := t) (k := r.slot) (f := fun x => { x with task := none, flow := none, flags := x.flags &&&
    ~~~0x80#32 })
  unfold State.undoSwitch
  exact .ite (.ite hp.setTaskWord.setTf.setTaskWord.decRun.pendAgain.readyAgain
    hp.setTaskWord.setTf.setTaskWord.decRun.pendAgain)
    (.ite h.cancelSlot h.readyAgain)

theorem Canon.preempt {t a : Nat} (h : Canon s) : Canon (s.preempt t a) := by
  unfold State.preempt
  dsimp only
  split
  · exact h.suspend.bump.readyHeadAt
  · exact h.suspend.bump

theorem Canon.startSlot {t : Nat} {r : SwitchReq} (h : Canon s) : Canon (s.startSlot t r) :=
  h.modSlot

theorem Canon.doSwitch {t : Nat} {r : SwitchReq} (h : Canon s) : Canon (s.doSwitch t r) := by
  have hp : Canon (match s.active t with
      | some a => s.preempt t a
      | none => s) := by
    split
    · exact h.preempt
    · exact h
  exact (Canon.ite hp.startSlot hp).runSlot.bump

theorem Canon.clearSwitch {t : Nat} (h : Canon s) : Canon (s.clearSwitch t) :=
  h.modTile

theorem keeps_execSchedSwitch {t : TileNo} (h : Canon s) : Keeps (execSchedSwitch t s) := by
  unfold execSchedSwitch
  split
  · exact .next h
  · exact .ite (.next h) (.ite (.next h.clearSwitch.undoSwitch) (.next h.clearSwitch.doSwitch))

theorem keeps_execGuardCauseDeliver {t : TileNo} {cause : Fin 16} {g : Fin 2} (h : Canon s) :
    Keeps (execGuardCauseDeliver t cause g s) := by
  unfold execGuardCauseDeliver
  split
  · exact .next h
  · exact .next h.others.deliverCause

theorem Canon.displace {t g : Nat} (h : Canon s) : Canon (s.displace t g) := by
  unfold State.displace
  split
  · exact h.suspend.setRet
  · exact h.setRet

theorem keeps_execGuardEntry {t : TileNo} {g : Fin 2} (h : Canon s) : Keeps (execGuardEntry t g s) := by
  unfold execGuardEntry
  split
  · exact .next h
  · exact .ite (.next h.displace.enterGuard.grantDelay) (.next h)

theorem keeps_execSpillWriteComplete {t : TileNo} (h : Canon s) : Keeps (execSpillWriteComplete t s) := by
  unfold execSpillWriteComplete
  dsimp only
  split
  · exact .next h
  · exact .ite (.next h.modTile.writeStore) (.next h)

theorem Canon.fillDone {t k : Nat} (h : Canon s) : Canon (s.fillDone t k) := by
  unfold State.fillDone
  dsimp only
  split
  · exact h.modTile.noteRead.contextFaultD
  · refine (h.modTile.noteRead.modSlot fun x hb => ?_).setFld
    exact bankOk_setTop hb (length_returnTo (length_frame (bank_of_canon h.modTile.noteRead t k) (i := 0) (by omega))
      (by simp [frameOf]))

theorem keeps_execLeesFillComplete {t : TileNo} (h : Canon s) : Keeps (execLeesFillComplete t s) := by
  unfold execLeesFillComplete
  split
  · exact .next h
  · exact .ite (.next h.fillDone) (.next h)

theorem Canon.initSlot {t k : Nat} (h : Canon s) : Canon (s.initSlot t k) :=
  (h.modSlot (by exact fun _ _ => rfl)).modTile.setFld.setFld.setFld.setReg

theorem Canon.restartTile {t g : Nat} (h : Canon s) : Canon (s.restartTile t g) :=
  h.setFld.setPendOf.setPendOf.setRet.resumeOrIdle

theorem Canon.resetSlot {t k : Nat} (h : Canon s) : Canon (s.resetSlot t k) := by
  unfold State.resetSlot
  dsimp only
  split
  · exact h.initSlot.setSstate.restartTile
  · exact h.initSlot.setSstate

theorem Canon.slotResetCmd {c : Cmd} {t k : Nat} (h : Canon s) : Canon (s.slotResetCmd c t k) :=
  .ite h.badParam (.ite h.badParam (.ite h.resetSlot.reply h.reply))

theorem keeps_execSlotReset {c : Cmd} {t k : Nat} (h : Canon s) : Keeps (execSlotReset c t k s) :=
  .next (h.runCmd fun _ h => h.slotResetCmd)

/-! ### What instructions share (R117, R133, R152 to R178) -/

theorem Canon.setGpr {t k : Nat} {r : SReg} {v : Word} (h : Canon s) : Canon (s.setGpr t k r v) := by
  refine h.modSlot fun x hx => ?_
  obtain ⟨hg, hl, ha⟩ := bankOk_iff.1 hx
  split
  · exact bankOk_iff.2 ⟨List.length_set.trans hg, hl, ha⟩
  · exact bankOk_setTop hx (List.length_set.trans (length_frame hx (i := 0) (by omega)))

theorem Canon.setPc {t k n : Nat} (h : Canon s) : Canon (s.setPc t k n) :=
  h.modSlot

theorem Canon.advance {t k : Nat} (h : Canon s) : Canon (s.advance t k) :=
  h.setPc

theorem Canon.setFlag {t k i : Nat} {b : Bool} (h : Canon s) : Canon (s.setFlag t k i b) :=
  h.modSlot

theorem Canon.touchIc {t k : Nat} (h : Canon s) : Canon (s.touchIc t k) := by
  unfold State.touchIc
  exact h.modTile

theorem keeps_seqStep {t : TileNo} {i : Instr} {regs : List SReg} {f : Nat → State → State} (h : Canon s) (hf : ∀ x0 u, Canon u
    → Canon (f x0 u)) : Keeps (seqStep t i regs s f) := by
  unfold seqStep
  split
  · exact .next h
  · exact .next (hf _ _ h.touchIc)

theorem Canon.aluRes {t k : Nat} {rd : SReg} {v : Word} (h : Canon s) : Canon (s.aluRes t k rd v) :=
  h.setGpr.advance

theorem Canon.seqFault {t k code : Nat} (h : Canon s) : Canon (s.seqFault t k code) :=
  h.contextFault

theorem Canon.addOutst {t : Nat} {o : Outst} (h : Canon s) : Canon (s.addOutst t o) :=
  h.modTile

theorem Canon.request {t k node : Nat} {p : Pkt} {o : Outst} (h : Canon s) : Canon (s.request t k node p o) :=
  h.addOutst.inject

theorem Canon.cacheLine {t : Nat} {c : CLine} (h : Canon s) : Canon (s.cacheLine t c) :=
  h.modTile

theorem Canon.uncache {t la : Nat} (h : Canon s) : Canon (s.uncache t la) := by
  unfold State.uncache
  exact h.modTile

theorem Canon.loadOwn {t k : Nat} {rd : SReg} {off size : Nat} {sext : Bool} (h : Canon s) :
    Canon (s.loadOwn t k rd off size sext) := by
  unfold State.loadOwn
  dsimp only
  split
  · exact h.cacheLine.addOutst.advance
  · exact (Canon.bump (.ite (Canon.cacheLine (.ite h h.noteRead)) (.ite h h.noteRead))).addOutst.advance

theorem Canon.loadWin {t k : Nat} {rd : SReg} {sh : Bool} {la size : Nat} {sext : Bool} (h : Canon s) :
    Canon (s.loadWin t k rd sh la size sext) := by
  unfold State.loadWin
  dsimp only
  split
  · exact h
  · split
    · exact h.cacheLine.addOutst.advance
    · exact .ite h (Canon.request (.ite h.bump h)).advance

theorem Canon.load {t k : Nat} {rd ra : SReg} {imm : BitVec 16} {size : Nat} {sext : Bool} (h : Canon s) :
    Canon (s.load t k rd ra imm size sext) := by
  unfold State.load
  split
  · exact h.seqFault
  · exact .ite h h.loadOwn
  · exact h.loadWin

theorem Canon.setFlagIf {t k i : Nat} {b : Bool} {c : Prop} [Decidable c] (h : Canon s) :
    Canon (if c then s.setFlag t k i b else s) :=
  .ite h.setFlag h

theorem Canon.loadReturn {t : Nat} {o : Outst} (h : Canon s) : Canon (s.loadReturn t o) := by
  have noted {u : State} {c : Prop} [Decidable c] {d : Nat} (hu : Canon u) :
      Canon (if c then u.raise 0x1003 1 (locTile t o.slot 0xFF) d else u) := .ite hu.raise hu
  exact .ite h.modTile (.ite h.modTile.contextFault (.ite h.modTile.contextFault
    (.ite (noted h.modTile.setFlagIf.setFlagIf).contextFault (noted h.modTile.setFlagIf.setFlagIf).setGpr)))

theorem Canon.bufferStore {t k : Nat} {win : Bool} {base off size : Nat} {v : Word} (h : Canon s) :
    Canon (s.bufferStore t k win base off size v) := by
  unfold State.bufferStore
  exact h.modTile

theorem Canon.storeSeq {t k : Nat} {rs ra : SReg} {imm : BitVec 16} {size : Nat} (h : Canon s) :
    Canon (s.storeSeq t k rs ra imm size) := by
  unfold State.storeSeq
  split
  · exact h.seqFault
  · exact .ite h.bufferStore.advance h
  · exact .ite h.uncache.bufferStore.advance h

theorem Canon.drainLine {t : Nat} {b : LineBuf} (h : Canon s) : Canon (s.drainLine t b) :=
  .ite (.ite h.modTile.request h) h.modTile.writeStore

theorem Canon.numberFlow {t k q : Nat} {sop : Bool} (h : Canon s) : Canon (s.numberFlow t k q sop) := by
  unfold State.numberFlow
  dsimp only
  split
  · split
    · exact .ite h.modFloor.setFld h
    · exact h
  · exact h

theorem Canon.popDeliver {t k pc rd : Nat} {w : Word} {sop eop psn nb : Bool} (h : Canon s) :
    Canon (s.popDeliver t k pc rd w sop eop psn nb) :=
  .ite h.setFlag.setFlag.setFlag.setFlagIf.setFlagIf.contextFault h.setFlag.setFlag.setFlag.setFlagIf.setFlagIf.setGpr

theorem Canon.queueReq {t k q : Nat} {p : Pkt} {o : Outst} (h : Canon s) : Canon (s.queueReq t k q p o) :=
  .ite h.request.advance h

theorem Canon.seqPush {t k : Nat} {r : SReg} {q : Nat} {nb sop eop psn : Bool} (h : Canon s) :
    Canon (s.seqPush t k r q nb sop eop psn) :=
  .ite h.seqFault (.ite (.ite (Canon.advance (.ite h.pushWord.setFlag h.pushWord)) (.ite h.setFlag.advance h.pushWord)) (.ite h
    h.queueReq))

theorem Canon.seqPop {t k : Nat} {r : SReg} {q : Nat} {nb : Bool} (h : Canon s) : Canon (s.seqPop t k r q nb) := by
  unfold State.seqPop
  refine .ite h.seqFault (.ite ?_ h.queueReq)
  split
  · next e => exact (h.popWord e).numberFlow.advance.popDeliver
  · exact .ite h.setFlag.advance h

theorem Canon.seqDrop {t k q : Nat} (h : Canon s) : Canon (s.seqDrop t k q) :=
  .ite h.seqFault (.ite h.dropBy.advance h.queueReq)

theorem Canon.seqLvl {t k : Nat} {r : SReg} {q : Nat} (h : Canon s) : Canon (s.seqLvl t k r q) :=
  .ite h.seqFault (.ite h.aluRes h.queueReq)

theorem Canon.captureSpill {t k : Nat} (h : Canon s) : Canon (s.captureSpill t k) :=
  h.modTile.setFld.setFld

theorem Canon.callTo {t k target : Nat} (h : Canon s) : Canon (s.callTo t k target) :=
  .ite (.ite h.seqFault (.ite h (h.captureSpill.modSlot (by exact fun _ => bankOk_pushFrame)).setPc))
    (h.setFld.modSlot (by exact fun _ => bankOk_pushFrame)).setPc

theorem Canon.endOrExit {t k : Nat} (h : Canon s) : Canon (s.endOrExit t k) := by
  unfold State.endOrExit
  split
  · exact h.endActivation.setSstate.idleTile
  · exact h.setSstate.leaveGuard

theorem Canon.ret {t k : Nat} {ra : SReg} (h : Canon s) : Canon (s.ret t k ra) :=
  .ite h.endOrExit (.ite h.seqFault (.ite (h.modSlot (by exact fun _ => bankOk_popFrame)).setFld.setPc h.modTile.modSlot))

theorem Canon.waitIn {t k : Nat} {w : WaitCond} (h : Canon s) : Canon (s.waitIn t k w) := by
  unfold State.waitIn
  dsimp only
  split
  · exact h.advance.suspend.idleTile
  · exact h.advance.suspend.leaveGuard

theorem Canon.waitFor {t k : Nat} {w : WaitCond} (h : Canon s) : Canon (s.waitFor t k w) :=
  .ite h.cancelSlot (.ite h.advance h.waitIn)

theorem Canon.waitQueue {t k q : Nat} {w : WaitCond} (h : Canon s) : Canon (s.waitQueue t k q w) :=
  .ite h.seqFault (.ite h.seqFault h.waitFor)

theorem Canon.waitTicksN {t k n : Nat} (h : Canon s) : Canon (s.waitTicksN t k n) :=
  .ite h.cancelSlot (.ite h.advance (.ite h (.ite h.takeDelay.waitIn h.waitDelay)))

/-! ### Instructions (R156) -/

theorem keeps_execAdd {t : TileNo} {rd ra rb : SReg} (h : Canon s) : Keeps (execAdd t rd ra rb s) :=
  keeps_seqStep h fun _ _ h => h.aluRes

theorem keeps_execSub {t : TileNo} {rd ra rb : SReg} (h : Canon s) : Keeps (execSub t rd ra rb s) :=
  keeps_seqStep h fun _ _ h => h.aluRes

theorem keeps_execMul {t : TileNo} {rd ra rb : SReg} (h : Canon s) : Keeps (execMul t rd ra rb s) :=
  keeps_seqStep h fun _ _ h => h.aluRes

theorem keeps_execAnd {t : TileNo} {rd ra rb : SReg} (h : Canon s) : Keeps (execAnd t rd ra rb s) :=
  keeps_seqStep h fun _ _ h => h.aluRes

theorem keeps_execOr {t : TileNo} {rd ra rb : SReg} (h : Canon s) : Keeps (execOr t rd ra rb s) :=
  keeps_seqStep h fun _ _ h => h.aluRes

theorem keeps_execXor {t : TileNo} {rd ra rb : SReg} (h : Canon s) : Keeps (execXor t rd ra rb s) :=
  keeps_seqStep h fun _ _ h => h.aluRes

theorem keeps_execShl {t : TileNo} {rd ra rb : SReg} (h : Canon s) : Keeps (execShl t rd ra rb s) :=
  keeps_seqStep h fun _ _ h => h.aluRes

theorem keeps_execShr {t : TileNo} {rd ra rb : SReg} (h : Canon s) : Keeps (execShr t rd ra rb s) :=
  keeps_seqStep h fun _ _ h => h.aluRes

theorem keeps_execSar {t : TileNo} {rd ra rb : SReg} (h : Canon s) : Keeps (execSar t rd ra rb s) :=
  keeps_seqStep h fun _ _ h => h.aluRes

theorem keeps_execSlt {t : TileNo} {rd ra rb : SReg} (h : Canon s) : Keeps (execSlt t rd ra rb s) :=
  keeps_seqStep h fun _ _ h => h.aluRes

theorem keeps_execSltu {t : TileNo} {rd ra rb : SReg} (h : Canon s) : Keeps (execSltu t rd ra rb s) :=
  keeps_seqStep h fun _ _ h => h.aluRes

theorem keeps_execAddi {t : TileNo} {rd ra : SReg} {imm : BitVec 16} (h : Canon s) : Keeps (execAddi t rd ra imm s) :=
  keeps_seqStep h fun _ _ h => h.aluRes

theorem keeps_execAndi {t : TileNo} {rd ra : SReg} {imm : BitVec 16} (h : Canon s) : Keeps (execAndi t rd ra imm s) :=
  keeps_seqStep h fun _ _ h => h.aluRes

theorem keeps_execOri {t : TileNo} {rd ra : SReg} {imm : BitVec 16} (h : Canon s) : Keeps (execOri t rd ra imm s) :=
  keeps_seqStep h fun _ _ h => h.aluRes

theorem keeps_execShi {t : TileNo} {rd ra : SReg} {kind : Fin 4} {n : Fin 32} (h : Canon s) :
    Keeps (execShi t rd ra kind n s) :=
  keeps_seqStep h fun _ _ h => h.aluRes

theorem keeps_execLui {t : TileNo} {rd : SReg} {imm : BitVec 16} (h : Canon s) : Keeps (execLui t rd imm s) :=
  keeps_seqStep h fun _ _ h => h.aluRes

theorem keeps_execAdr {t : TileNo} {rd : SReg} {imm : BitVec 16} (h : Canon s) : Keeps (execAdr t rd imm s) :=
  keeps_seqStep h fun _ _ h => h.aluRes

theorem keeps_execLdb {t : TileNo} {rd ra : SReg} {imm : BitVec 16} (h : Canon s) : Keeps (execLdb t rd ra imm s) :=
  keeps_seqStep h fun _ _ h => h.load

theorem keeps_execLdbu {t : TileNo} {rd ra : SReg} {imm : BitVec 16} (h : Canon s) : Keeps (execLdbu t rd ra imm s) :=
  keeps_seqStep h fun _ _ h => h.load

theorem keeps_execLdh {t : TileNo} {rd ra : SReg} {imm : BitVec 16} (h : Canon s) : Keeps (execLdh t rd ra imm s) :=
  keeps_seqStep h fun _ _ h => h.load

theorem keeps_execLdhu {t : TileNo} {rd ra : SReg} {imm : BitVec 16} (h : Canon s) : Keeps (execLdhu t rd ra imm s) :=
  keeps_seqStep h fun _ _ h => h.load

theorem keeps_execLdw {t : TileNo} {rd ra : SReg} {imm : BitVec 16} (h : Canon s) : Keeps (execLdw t rd ra imm s) :=
  keeps_seqStep h fun _ _ h => h.load

theorem keeps_execStb {t : TileNo} {rs ra : SReg} {imm : BitVec 16} (h : Canon s) : Keeps (execStb t rs ra imm s) :=
  keeps_seqStep h fun _ _ h => h.storeSeq

theorem keeps_execSth {t : TileNo} {rs ra : SReg} {imm : BitVec 16} (h : Canon s) : Keeps (execSth t rs ra imm s) :=
  keeps_seqStep h fun _ _ h => h.storeSeq

theorem keeps_execStw {t : TileNo} {rs ra : SReg} {imm : BitVec 16} (h : Canon s) : Keeps (execStw t rs ra imm s) :=
  keeps_seqStep h fun _ _ h => h.storeSeq

theorem keeps_execLoadResultReturn {t : TileNo} {tag : Nat} (h : Canon s) : Keeps (execLoadResultReturn t tag s) := by
  unfold execLoadResultReturn
  split
  · exact .next h
  · exact .ite (.next h.loadReturn) (.next h)

theorem keeps_execLineBufferDrain {t : TileNo} (h : Canon s) : Keeps (execLineBufferDrain t s) := by
  unfold execLineBufferDrain
  split
  · exact .next h
  · exact .ite (.next h) (.next h.drainLine)

theorem Canon.fetchFill {t k : Nat} (h : Canon s) : Canon (s.fetchFill t k) := by
  unfold State.fetchFill
  dsimp only
  split
  · exact h.seqFault
  · split
    · exact h.seqFault
    · split
      · exact h.noteRead.contextFaultD
      · exact h.noteRead.modTile.bump

theorem keeps_execIcacheFill {t : TileNo} (h : Canon s) : Keeps (execIcacheFill t s) := by
  unfold execIcacheFill
  split
  · exact .next h
  · exact .ite (.next h.fetchFill) (.next h)

theorem keeps_execIllegalInstruction {t : TileNo} {w : Word} (h : Canon s) : Keeps (execIllegalInstruction t w s) := by
  unfold execIllegalInstruction
  split
  · exact .next h
  · exact .ite (.next h.seqFault) (.next h)

theorem keeps_execQpush {t : TileNo} {r : SReg} {q : Fin 16384} {ind nb sop eop psn : Bool} (h : Canon s) :
    Keeps (execQpush t r q ind nb sop eop psn s) :=
  keeps_seqStep h fun _ _ h => h.seqPush

theorem keeps_execQpop {t : TileNo} {r : SReg} {q : Fin 16384} {ind nb : Bool} (h : Canon s) :
    Keeps (execQpop t r q ind nb s) :=
  keeps_seqStep h fun _ _ h => h.seqPop

theorem keeps_execQdrop {t : TileNo} {q : Fin 16384} {ind : Bool} (h : Canon s) : Keeps (execQdrop t q ind s) :=
  keeps_seqStep h fun _ _ h => h.seqDrop

theorem keeps_execQlvl {t : TileNo} {r : SReg} {q : Fin 16384} {ind : Bool} (h : Canon s) : Keeps (execQlvl t r q ind s) :=
  keeps_seqStep h fun _ _ h => h.seqLvl

theorem keeps_execJmp {t : TileNo} {off : BitVec 26} (h : Canon s) : Keeps (execJmp t off s) :=
  keeps_seqStep h fun _ _ h => h.setPc

theorem keeps_execCall {t : TileNo} {off : BitVec 26} (h : Canon s) : Keeps (execCall t off s) :=
  keeps_seqStep h fun _ _ h => h.callTo

theorem keeps_execJr {t : TileNo} {ra : SReg} (h : Canon s) : Keeps (execJr t ra s) :=
  keeps_seqStep h fun _ _ h => .ite h.seqFault h.setPc

theorem keeps_execRet {t : TileNo} {ra : SReg} (h : Canon s) : Keeps (execRet t ra s) :=
  keeps_seqStep h fun _ _ h => h.ret

theorem keeps_execBr {t : TileNo} {ra rb : SReg} {cond : Fin 6} {off : BitVec 13} (h : Canon s) :
    Keeps (execBr t ra rb cond off s) :=
  keeps_seqStep h fun _ _ h => .ite h.setPc h.advance

theorem keeps_execLoop {t : TileNo} {rd : SReg} {imm : BitVec 16} (h : Canon s) : Keeps (execLoop t rd imm s) :=
  keeps_seqStep h fun _ _ h => .ite h.setGpr.setPc h.setGpr.advance

theorem keeps_execWaitQne {t : TileNo} {ra : SReg} {ind : Bool} {q : Fin 16384} (h : Canon s) :
    Keeps (execWaitQne t ra ind q s) :=
  keeps_seqStep h fun _ _ h => h.waitQueue

theorem keeps_execWaitQspc {t : TileNo} {ra : SReg} {ind : Bool} {q : Fin 16384} (h : Canon s) :
    Keeps (execWaitQspc t ra ind q s) :=
  keeps_seqStep h fun _ _ h => h.waitQueue

theorem keeps_execWaitTime {t : TileNo} {ra : SReg} (h : Canon s) : Keeps (execWaitTime t ra s) :=
  keeps_seqStep h fun _ _ h => h.waitFor

theorem keeps_execWaitTicks {t : TileNo} {ra : SReg} {imm : BitVec 16} (h : Canon s) : Keeps (execWaitTicks t ra imm s) :=
  keeps_seqStep h fun _ _ h => h.waitTicksN

theorem keeps_execWaitFpinv {t : TileNo} (h : Canon s) : Keeps (execWaitFpinv t s) :=
  keeps_seqStep h fun _ _ h => h.waitFor

theorem Canon.waitMet {t k : Nat} (h : Canon s) : Canon (s.waitMet t k) := by
  unfold State.waitMet
  dsimp only
  split
  · exact .ite h.modSlot.deliverCause h
  · split
    · exact h.modSlot.readyTailAt
    · exact h.modSlot

theorem keeps_execWaitConditionMet {t : TileNo} {k : SlotNo} (h : Canon s) : Keeps (execWaitConditionMet t k s) := by
  unfold execWaitConditionMet
  split
  · exact .ite (.next h.waitMet) (.next h)
  · exact .next h

theorem Canon.yieldSlot {t k : Nat} (h : Canon s) : Canon (s.yieldSlot t k) := by
  unfold State.yieldSlot
  dsimp only
  split
  · exact h.setSstate.leaveGuard
  · split
    · exact h.cancelSlot
    · split
      · exact h.advance.suspend.idleTile.readyTailAt
      · exact h.advance.suspend.idleTile

theorem keeps_execYield {t : TileNo} (h : Canon s) : Keeps (execYield t s) :=
  keeps_seqStep h fun _ _ h => h.yieldSlot

theorem Canon.sendTask {t k : Nat} {op : POp} {ra : SReg} (h : Canon s) : Canon (s.sendTask t k op ra) :=
  .ite h.seqFault h.inject.advance

theorem keeps_execSignal {t : TileNo} {ra : SReg} (h : Canon s) : Keeps (execSignal t ra s) :=
  keeps_seqStep h fun _ _ h => h.sendTask

theorem keeps_execCancel {t : TileNo} {ra : SReg} (h : Canon s) : Keeps (execCancel t ra s) :=
  keeps_seqStep h fun _ _ h => h.sendTask

theorem Canon.replicaTime {t : Nat} (h : Canon s) : Canon (s.replicaTime t).2 := by
  unfold State.replicaTime
  dsimp only
  exact h.others.modTile

theorem keeps_execRdtime {t : TileNo} {rd : SReg} (h : Canon s) : Keeps (execRdtime t rd s) :=
  keeps_seqStep h fun _ _ h => h.replicaTime.setGpr.setGpr.advance

theorem keeps_execFence {t : TileNo} {m q i : Bool} (h : Canon s) : Keeps (execFence t m q i s) :=
  keeps_seqStep h fun _ _ h' => .ite h (Canon.advance (.ite h'.modTile h'))

theorem keeps_execTrap {t : TileNo} {imm : BitVec 16} (h : Canon s) : Keeps (execTrap t imm s) :=
  keeps_seqStep h fun _ _ h => h.contextFault

theorem keeps_execRdfl {t : TileNo} {rd : SReg} (h : Canon s) : Keeps (execRdfl t rd s) :=
  keeps_seqStep h fun _ _ h => h.aluRes

theorem keeps_execClrfl {t : TileNo} {lp qp fr : Bool} (h : Canon s) : Keeps (execClrfl t lp qp fr s) :=
  keeps_seqStep h fun _ _ h => h.setFlagIf.setFlagIf.setFlagIf.advance

end Sys2Proof
end

section
/-! PROOFS. The table invariant (Canon) through the scheduler, queue requests and answers, and the memory system. -/

namespace Sys2Proof

open Sys2Proof.Machine

set_option Elab.async false

variable {s : State}

/-! ### Dispatch, descriptors, task commands (R189 to R222) -/

theorem keeps_execTriggerTqne {k : TaskNo} (h : Canon s) : Keeps (execTriggerTqne k s) :=
  .next h.takeCredits

theorem Canon.expire {u : DlyUser} (h : Canon s) : Canon (s.expire u) := by
  unfold State.expire
  split
  · exact h.addOne
  · exact .ite h.waitMet h

theorem keeps_execDelayExpiry {f : FloorNo} (h : Canon s) : Keeps (execDelayExpiry f s) := by
  unfold execDelayExpiry
  split
  · exact .next h
  · exact .ite (.next h.modFloor.expire.grantDelay) (.next h)

theorem keeps_execPktSignal {p : Pkt} (h : Canon s) : Keeps (execPktSignal p s) :=
  .ite (.ite (.next h.takePkt.fenceDrop) (.ite (.next h.takePkt.bump) (.ite (.next h.takePkt.addOne) (.next h.takePkt))))
    (.next h)

theorem keeps_execPktCancel {p : Pkt} (h : Canon s) : Keeps (execPktCancel p s) :=
  .ite (.ite (.next h.takePkt.fenceDrop) (.ite (.next h.takePkt.bump) (.ite (.next h.takePkt.cancelTask) (.next h.takePkt))))
    (.next h)

theorem Canon.takeSeq {k : Nat} (h : Canon s) : Canon (s.takeSeq k).2 :=
  .ite_snd h h.modFloor.setFld

theorem Canon.countDispatch {k t : Nat} {lost : Bool} (h : Canon s) : Canon (s.countDispatch k t lost) := by
  have roamed {u : State} (hu : Canon u) :
      Canon (if t / 16 = homeFloor k then u else (u.bump .SCH_ROAM_OUT (homeFloor k)).bump .SCH_ROAM_IN (t / 16)) :=
    .ite hu hu.bump.bump
  exact .ite (roamed h.setTf.setTf.setTf.setTaskWord.setTf.setTaskMarks.bump).incRun.fixNew
    (roamed h.setTf.setTf.setTf.setTaskWord.setTf.setTaskMarks.bump).incRun.setPend

theorem Canon.sendNew {k t i : Nat} {flow : Option Nat} {ahead : List Ready} (h : Canon s) :
    Canon (s.sendNew k t i flow ahead) := by
  unfold State.sendNew
  exact h.modSlot.modTile

theorem Canon.dispatchNew {k t i : Nat} {ahead : List Ready} (h : Canon s) : Canon (s.dispatchNew k t i ahead) := by
  unfold State.dispatchNew
  dsimp only
  exact .ite h.takeSeq.sendNew.countDispatch h.takeSeq.modFloor.inject

theorem Canon.dispatchResume {t i : Nat} {ahead : List Ready} (h : Canon s) : Canon (s.dispatchResume t i ahead) := by
  unfold State.dispatchResume
  exact h.dropReady.bump.modTile

theorem Canon.noResident {k : Nat} (h : Canon s) : Canon (s.noResident k) :=
  .ite h h.setTaskMarks.raise

theorem Canon.tryEntry {f : Nat} {ahead : List Ready} {e : Nat × Ready} (h : Canon s) : Canon (s.tryEntry f ahead e).2 := by
  unfold State.tryEntry
  split
  · exact .ite_snd h.dispatchResume h
  · refine .ite_snd h (.ite_snd h.bump ?_)
    split
    · exact .ite_snd h h.dispatchNew
    · exact h.noResident

theorem Canon.runDecision {f : Nat} {ahead : List Ready} {l : List (Nat × Ready)} (h : Canon s) :
    Canon (s.runDecision f ahead l) := by
  induction l generalizing s ahead with
  | nil => exact h
  | cons e l ih => exact .ite h.tryEntry (ih h.tryEntry)

theorem keeps_execDispatchDecision {f : FloorNo} (h : Canon s) : Keeps (execDispatchDecision f s) :=
  .ite (.next h.runDecision) (.next h)

theorem keeps_execPktDispatch {p : Pkt} (h : Canon s) : Keeps (execPktDispatch p s) := by
  unfold execPktDispatch
  dsimp only
  split
  · split
    · exact .next h.takePkt.rsp
    · split
      · exact .next h.takePkt.rsp
      · split
        · exact .next h.takePkt.rsp
        · exact .ite (.next h.takePkt.sendNew.rsp) (.next h.takePkt.rsp)
  · exact .next h

theorem Canon.dispatchAnswer {f : Nat} {d : Dispatch} {status : Nat} (h : Canon s) : Canon (s.dispatchAnswer f d status) := by
  unfold State.dispatchAnswer
  dsimp only
  split
  · exact h.modFloor.countDispatch
  · split
    · exact h.modFloor.closeFlow.fixNew
    · exact h.modFloor.fixNew

theorem keeps_execFlowRelease {f : FloorNo} {n : Fin 64} (h : Canon s) : Keeps (execFlowRelease f n s) := by
  unfold execFlowRelease
  dsimp only
  split
  · exact .next h
  · exact .next (.ite h.modFloor.setFld.setFld h.modFloor.setFld.setFld.releaseStaged)

theorem Canon.descByte {k : Nat} {x : Nat × Option Byte} (h : Canon s) : Canon (s.descByte k x) := by
  unfold State.descByte
  dsimp only
  split
  · exact h
  · exact .ite h h.setTaskWord

theorem Canon.descWrite {k off : Nat} {data : List (Option Byte)} (h : Canon s) : Canon (s.descWrite k off data) :=
  .ite h.bump.raise (.foldl h fun _ _ h => h.descByte)

theorem keeps_execTaskDescWrite {view : ViewNo} {k : TaskNo} {off : Fin 64} {data : List Byte} (h : Canon s) :
    Keeps (execTaskDescWrite view k off data s) :=
  .ite (.next h.descWrite) (.next h)

theorem Canon.armTask {k : Nat} {keep : Bool} (h : Canon s) : Canon (s.armTask k keep) :=
  Canon.armDelay (.ite (Canon.dropDelay (.ite h.setFld.setFld h)).setTf.setPend.recredit.takeCredits (Canon.dropDelay (.ite
    h.setFld.setFld h)).setTf.setPend)

theorem Canon.taskCmd {c : Cmd} {op k : Nat} {body : State → State} (h : Canon s) (hbody : ∀ u, Canon u → Canon (body u)) :
    Canon (s.taskCmd c op k body) :=
  .ite h.badParam (.ite h.reply (hbody _ h))

theorem Canon.taskArmCmd {c : Cmd} {k keep : Nat} (h : Canon s) : Canon (s.taskArmCmd c k keep) :=
  .ite h.badParam (.ite h.badParam (.ite h.reply (.ite h.reply (.ite h.reply (.ite h.reply h.armTask.reply)))))

theorem keeps_execTaskArm {c : Cmd} {k keep : Nat} (h : Canon s) : Keeps (execTaskArm c k keep s) :=
  .next (h.runCmd fun _ h => h.taskCmd fun _ h => h.taskArmCmd)

theorem Canon.taskSignalCmd {c : Cmd} {k n : Nat} (h : Canon s) : Canon (s.taskSignalCmd c k n) :=
  .ite h.badParam (.ite h.badParam (.ite h.reply h.addN.reply))

theorem keeps_execTaskSignal {c : Cmd} {k n : Nat} (h : Canon s) : Keeps (execTaskSignal c k n s) :=
  .next (h.runCmd fun _ h => h.taskCmd fun _ h => h.taskSignalCmd)

theorem keeps_execTaskCancel {c : Cmd} {k : Nat} (h : Canon s) : Keeps (execTaskCancel c k s) :=
  .next (h.runCmd fun _ h => h.taskCmd fun _ h => .ite h.reply h.cancelTask.reply)

theorem Canon.stopIntake {k : Nat} (h : Canon s) : Canon (s.stopIntake k) :=
  Canon.fixNew (.ite h.setTf.dropDelay.setPend h.setTf.dropDelay)

theorem Canon.taskDrainCmd {c : Cmd} {k timeout : Nat} (h : Canon s) : Canon (s.taskDrainCmd c k timeout) :=
  .ite h.reply (.ite h.reply (Canon.await (.ite h h.stopIntake)))

theorem keeps_execTaskDisableDrain {c : Cmd} {k timeout : Nat} (h : Canon s) : Keeps (execTaskDisableDrain c k timeout s) :=
  .next (h.runCmd fun _ h => h.taskCmd fun _ h => h.taskDrainCmd)

theorem Canon.dropLoads {t k : Nat} (h : Canon s) : Canon (s.dropLoads t k) :=
  h.modTile

theorem Canon.abortTask {k : Nat} (h : Canon s) : Canon (s.abortTask k) :=
  (Canon.setTf (.foldl h.setTf.dropDelay.setPend.loseDispatches fun _ _ h => h.cancelSlot.dropLoads)).fixNew

theorem Canon.taskAbortCmd {c : Cmd} {k : Nat} (h : Canon s) : Canon (s.taskAbortCmd c k) :=
  .ite h.reply (.ite h.reply h.interim.finish.abortTask.reply)

theorem keeps_execTaskDisableAbort {c : Cmd} {k timeout : Nat} (h : Canon s) : Keeps (execTaskDisableAbort c k timeout s) :=
  .next (h.runCmd fun _ h => h.taskCmd fun _ h => h.taskAbortCmd)

theorem keeps_execTaskDrainDone {k : TaskNo} (h : Canon s) : Keeps (execTaskDrainDone k s) :=
  .ite (.next h.setTf.fixNew.finish) (.next h)

theorem keeps_execTaskStatus {c : Cmd} {k : Nat} (h : Canon s) : Keeps (execTaskStatus c k s) :=
  .next (h.runCmd fun _ h => h.taskCmd fun _ h => .ite h.reply h.reply)

theorem keeps_execDisableDrainTimeout {ring : ViewNo} {tag : Word} (h : Canon s) :
    Keeps (execDisableDrainTimeout ring tag s) := by
  unfold execDisableDrainTimeout
  dsimp only
  split
  · exact .next h
  · exact .next h.finish.drainOn

/-! ### Queue requests, invalidations, answers (R161 to R172, R300 to R304) -/

theorem Canon.tryQueue {p : Pkt} {u : State} (h : Canon s) (e : s.tryQueue p = some u) : Canon u := by
  unfold State.tryQueue at e
  dsimp only at e
  split at e
  · obtain ⟨-, e⟩ := Option.ite_none_right_eq_some.1 e
    cases e
    exact h.pushWord.rsp
  · split at e
    · cases e
    · next hp =>
      cases e
      exact Canon.sendAnswer (.ite (h.popWord hp).numberFlow (h.popWord hp))
  · cases e

theorem Canon.parkPkt {p : Pkt} (h : Canon s) : Canon (s.parkPkt p) :=
  .ite h.modFloor h.rsp

theorem Canon.queueWait {p : Pkt} (h : Canon s) : Canon (s.queueWait p) :=
  .ite h.rsp h.parkPkt

theorem Canon.queuePkt {p : Pkt} {body : State → State} (h : Canon s) (hbody : ∀ u, Canon u → Canon (body u)) :
    Canon (s.queuePkt p body) :=
  .ite h.takePkt.rsp (.ite h.takePkt.rsp (.ite h.takePkt.rsp (hbody _ h.takePkt)))

theorem Canon.queueServe {p : Pkt} (h : Canon s) : Canon (s.queueServe p) := by
  refine .ite h.queueWait ?_
  split
  · next e => exact h.tryQueue e
  · exact h.queueWait

theorem keeps_execPktQpush {p : Pkt} (h : Canon s) : Keeps (execPktQpush p s) :=
  .ite (.next (h.queuePkt fun _ h => h.queueServe)) (.next h)

theorem keeps_execPktQpop {p : Pkt} (h : Canon s) : Keeps (execPktQpop p s) :=
  .ite (.next (h.queuePkt fun _ h => h.queueServe)) (.next h)

theorem keeps_execPktQdrop {p : Pkt} (h : Canon s) : Keeps (execPktQdrop p s) :=
  .ite (.next (h.queuePkt fun _ h => h.dropBy.rsp)) (.next h)

theorem keeps_execPktQlvl {p : Pkt} (h : Canon s) : Keeps (execPktQlvl p s) :=
  .ite (.next (h.queuePkt fun _ h => h.rsp)) (.next h)

theorem keeps_execParkedRequestComplete {f : FloorNo} {p : Pkt} (h : Canon s) :
    Keeps (execParkedRequestComplete f p s) := by
  refine .ite ?_ (.next h)
  split
  · next e => exact .next (h.tryQueue e).modFloor
  · exact .next h

theorem keeps_execSnpInv {p : Pkt} (h : Canon s) : Keeps (execSnpInv p s) :=
  .ite (.next h.takePkt.uncache.inject) (.next h)

theorem Canon.sendHeldInv {t q : Nat} (h : Canon s) : Canon (s.sendHeldInv t q) := by
  unfold State.sendHeldInv
  dsimp only
  split
  · exact h
  · exact h.modTile.sendInv

theorem Canon.ackInv {t q : Nat} (h : Canon s) : Canon (s.ackInv t q) :=
  .foldl h.modTile.sendHeldInv fun _ _ h => h.rsp

theorem keeps_execSnpInvAck {p : Pkt} (h : Canon s) : Keeps (execSnpInvAck p s) :=
  .ite (.next h.takePkt.ackInv) (.next h)

theorem Canon.loadAnswer {t : Nat} {o : Outst} {p : Pkt} (h : Canon s) : Canon (s.loadAnswer t o p) :=
  .ite h.modTile.cacheLine h.modTile

theorem Canon.dropOutst {t tag : Nat} (h : Canon s) : Canon (s.dropOutst t tag) :=
  h.modTile

theorem Canon.refusedFault {t : Nat} {o : Outst} {status : Nat} (h : Canon s) : Canon (s.refusedFault t o status) :=
  h.contextFault

theorem Canon.outstAnswer {t : Nat} {o : Outst} {p : Pkt} (h : Canon s) : Canon (s.outstAnswer t o p) := by
  unfold State.outstAnswer
  dsimp only
  split
  · exact h.loadAnswer
  · split
    · exact h.modTile
    · split
      · exact h.dropOutst.setFlag
      · split
        · exact h.dropOutst.setFlag
        · split
          · exact h.dropOutst.refusedFault
          · split
            · exact h.dropOutst.popDeliver
            · exact .ite h.dropOutst.setFlag h.dropOutst
            · exact h.dropOutst.setGpr
            · exact h.dropOutst

theorem Canon.tileAnswer {t : Nat} {p : Pkt} (h : Canon s) : Canon (s.tileAnswer t p) := by
  unfold State.tileAnswer
  split
  · exact h.bump
  · exact h.outstAnswer

theorem Canon.hubAnswer {f : Nat} {p : Pkt} (h : Canon s) : Canon (s.hubAnswer f p) := by
  unfold State.hubAnswer
  split
  · exact h.bump
  · exact h.dispatchAnswer

theorem Canon.resend {t : Nat} {o : Outst} (h : Canon s) : Canon (s.resend t o) :=
  h.modTile.inject

/-! ### Write-backs, scrubbing, retirement, logs (R269 to R285, R538 to R541) -/

theorem keeps_execCorrectionWriteback {t : TileNo} (h : Canon s) : Keeps (execCorrectionWriteback t s) := by
  unfold execCorrectionWriteback
  split
  · exact .next h
  · exact .next (.ite h.modTile (h.modTile.withStore (twf_foldl_tput h.store) h.written))

theorem Canon.scrubOld {t off : Nat} (h : Canon s) : Canon (s.scrubOld t off) :=
  h.noteRead

theorem Canon.scrubFresh {t off : Nat} (h : Canon s) : Canon (s.scrubFresh t off) := by
  refine (Canon.modTile (.foldl h fun _ _ hu => hu.wordErrors)).putStore fun hu => twf_foldl hu.store fun m i hm => ?_
  split
  · exact hm
  · exact twf_tput hm

theorem Canon.scrubNext {t : Nat} (h : Canon s) : Canon (s.scrubNext t) :=
  .ite h.modTile (.ite h.modTile.setReg h.modTile)

theorem Canon.scrubLine {t : Nat} (h : Canon s) : Canon (s.scrubLine t) :=
  Canon.scrubNext (.ite h (.ite h.scrubFresh h.scrubOld))

theorem keeps_execScrubLine {t : TileNo} (h : Canon s) : Keeps (execScrubLine t s) :=
  .ite (.next h.scrubLine) (.next h)

theorem Canon.flipCtlWrite {v : Nat} (h : Canon s) : Canon (s.flipCtlWrite v) :=
  .ite h.setFld.setFld h.setFld

theorem keeps_execEccFlipArm {view : ViewNo} {v : Word} (h : Canon s) : Keeps (execEccFlipArm view v s) :=
  .ite (.next h.flipCtlWrite) (.next h)

theorem Canon.pageRetireCmd {c : Cmd} {t page : Nat} (h : Canon s) : Canon (s.pageRetireCmd c t page) := by
  unfold State.pageRetireCmd
  dsimp only
  split
  · exact h.reply
  · split
    · exact h.reply
    · split
      · exact h.reply
      · exact h.await.setFld.modTile

theorem keeps_execPageRetire {c : Cmd} {t page : Nat} (h : Canon s) : Keeps (execPageRetire c t page s) :=
  .next (h.runCmd fun _ h => .ite h.badParam (.ite h.badParam h.pageRetireCmd))

theorem Canon.countCopy {t page old : Nat} {ce ue : List Nat} (h : Canon s) : Canon (s.countCopy t page old ce ue) := by
  unfold State.countCopy
  dsimp only
  split
  · exact (Canon.bumpBy (.ite h.bumpBy.bumpBy h.bumpBy.bumpBy.countPass)).bumpBy.setReg
  · exact (Canon.bumpBy (.ite h.bumpBy.bumpBy h.bumpBy.bumpBy.countPass)).bumpBy

theorem Canon.copyPage {a b : Nat} (h : Canon s) : Canon (s.copyPage a b) :=
  h.withStore (twf_foldl_tput h.store) (twf_foldl_tput h.written)

theorem Canon.remapTo {t k page : Nat} (h : Canon s) : Canon (s.remapTo t k page) :=
  (Canon.setFld (.foldl h fun _ _ h => .ite h.setFld.setFld h)).setFld.setFld

theorem Canon.commitCopy {t : Nat} {c : PageCopy} (h : Canon s) : Canon (s.commitCopy t c) := by
  unfold State.commitCopy
  exact Canon.finish (.ite h.countCopy.copyPage.remapTo.modTile.raise.raise h.countCopy.copyPage.remapTo.modTile.raise)

theorem keeps_execPageCopyCommit {t : TileNo} (h : Canon s) : Keeps (execPageCopyCommit t s) := by
  unfold execPageCopyCommit
  split
  · exact .next h
  · exact .next h.commitCopy

theorem Canon.memCmd {c : Cmd} {op a len : Nat} {body : Nat → Nat → State → State} (h : Canon s) (hbody : ∀ x0 x1 u, Canon u →
    Canon (body x0 x1 u)) : Canon (s.memCmd c op a len body) :=
  .ite h.badParam (.ite h.reply (.ite h.reply (hbody _ _ _ h)))

theorem Canon.memReadCmd {c : Cmd} {len t off : Nat} (h : Canon s) : Canon (s.memReadCmd c len t off) :=
  h.noteRead.reply

theorem keeps_execMemRead {c : Cmd} {a len : Nat} (h : Canon s) : Keeps (execMemRead c a len s) :=
  .next (h.runCmd fun _ h => .ite h.badParam (h.memCmd fun _ _ _ h => h.memReadCmd))

theorem Canon.memWriteCmd {c : Cmd} {data : List Byte} {t off : Nat} (h : Canon s) : Canon (s.memWriteCmd c data t off) :=
  h.writeStore.reply

theorem keeps_execMemWrite {c : Cmd} {a : Nat} {data : List Byte} (h : Canon s) : Keeps (execMemWrite c a data s) :=
  .next (h.runCmd fun _ h => .ite h.badParam (h.memCmd fun _ _ _ h => h.memWriteCmd))

theorem Canon.initLines {t first n : Nat} (h : Canon s) : Canon (s.initLines t first n) :=
  .foldl h fun _ _ h => (h.withStore h.store (twf_tput h.written)).touchLines.invalidate

theorem keeps_execMemInit {c : Cmd} {t first n : Nat} (h : Canon s) : Keeps (execMemInit c t first n s) :=
  .next (h.runCmd fun _ h => .ite h.badParam (.ite h.badParam (.ite h.reply (.ite h.badParam h.initLines.reply))))

theorem keeps_execPageStatus {c : Cmd} {t : Nat} (h : Canon s) : Keeps (execPageStatus c t s) :=
  .next (h.runCmd fun _ h => .ite h.badParam h.reply)

theorem Canon.writeRec {d : Nat} {r : LogRec} (h : Canon s) : Canon (s.writeRec d r) :=
  .ite h.bump.setFld (Canon.setFld (.ite (.others (.foldl h fun _ _ h' => h'.setReg)) (.foldl h fun _ _ h' =>
    h'.setReg))).setFld

theorem keeps_execLogRecordWrite {log : Fin 3} (h : Canon s) : Keeps (execLogRecordWrite log s) := by
  unfold execLogRecordWrite
  split
  · exact .next h
  · exact .next h.others.writeRec

theorem Canon.advanceTail {d n : Nat} (h : Canon s) : Canon (s.advanceTail d n) :=
  h.setFld.setFld

theorem Canon.tailWrite {d v : Nat} (h : Canon s) : Canon (s.tailWrite d v) :=
  h.advanceTail

theorem keeps_execLogTailWrite {view : ViewNo} {log : Fin 3} {v : Word} (h : Canon s) : Keeps (execLogTailWrite view log v s) :=
  .ite (.next h.tailWrite) (.next h)

theorem Canon.logReadCmd {c : Cmd} {log n adv : Nat} (h : Canon s) : Canon (s.logReadCmd c log n adv) :=
  Canon.reply (.ite h.advanceTail h)

theorem keeps_execLogRead {c : Cmd} {log n adv : Nat} (h : Canon s) : Keeps (execLogRead c log n adv s) :=
  .next (h.runCmd fun _ h => .ite h.badParam (.ite h.badParam (.ite h.badParam h.logReadCmd)))

end Sys2Proof
end

section
/-! PROOFS. The table invariant (Canon) through the operations on output pins, trip lines, racks, floor power and turning moves. -/

namespace Sys2Proof

open Sys2Proof.Machine

set_option Elab.async false

variable {s : State}

/-! ### Output pins (R331, R372 to R386) -/

theorem Canon.setLane {l : Nat} {x : LaneSt} (h : Canon s) : Canon (s.setLane l x) :=
  { h with lanes := twf_tput h.lanes }

theorem Canon.modLane {l : Nat} {g : LaneSt → LaneSt} (h : Canon s) : Canon (s.modLane l g) :=
  h.setLane

theorem Canon.setGate {g : Nat} {x : GateSt} (h : Canon s) : Canon (s.setGate g x) :=
  { h with gates := twf_tput h.gates }

theorem Canon.modGate {g : Nat} {f : GateSt → GateSt} (h : Canon s) : Canon (s.modGate g f) :=
  h.setGate

theorem Canon.setCar {c : Nat} {x : CarSt} (h : Canon s) : Canon (s.setCar c x) :=
  { h with cars := twf_tput h.cars }

theorem Canon.setVl {l : Nat} {x : VlSt} (h : Canon s) : Canon (s.setVl l x) :=
  { h with vls := twf_tput h.vls }

theorem Canon.modVl {l : Nat} {f : VlSt → VlSt} (h : Canon s) : Canon (s.modVl l f) :=
  h.setVl

theorem Canon.forceGate {g t8 : Nat} {p : Option Bool} (h : Canon s) : Canon (s.forceGate g t8 p) := by
  unfold State.forceGate
  exact h.modGate

theorem Canon.gateStage3 {g t8 : Nat} (h : Canon s) : Canon (s.gateStage3 g t8) :=
  .ite h (.ite (Canon.setGate (.ite h.modGate h)) (.ite h.modGate h))

theorem Canon.gateFall {g t8 : Nat} (h : Canon s) : Canon (s.gateFall g t8) :=
  .ite h.setGate h

theorem Canon.gateRise {g t8 : Nat} (h : Canon s) : Canon (s.gateRise g t8) :=
  .ite h (.ite h.setGate (.ite h.setGate.bump.raiseOnce h))

theorem Canon.gateClash {e t8 : Nat} (h : Canon s) : Canon (s.gateClash e t8) :=
  .ite h.modGate.modGate h

theorem Canon.refreshPair {g t8 : Nat} (h : Canon s) : Canon (s.refreshPair g t8) := by
  have one {f : State → Nat → Nat → State} (hf : ∀ u g, Canon u → Canon (f u g t8)) (u : State) (g : Nat) (hu : Canon u) :
      Canon (match u.gateForced g with
        | some p => u.forceGate g t8 p
        | none => f u g t8) := by
    split
    · exact hu.forceGate
    · exact hf u g hu
  unfold State.refreshPair
  exact one (fun _ _ hu => hu.gateRise) _ _ (one (fun _ _ hu => hu.gateRise) _ _ (Canon.gateClash
    (one (fun _ _ hu => hu.gateFall) _ _ (one (fun _ _ hu => hu.gateFall) _ _
      (one (fun _ _ hu => hu.gateStage3) _ _ (one (fun _ _ hu => hu.gateStage3) _ _ h))))))

theorem Canon.refreshBank {b : Nat} (h : Canon s) : Canon (s.refreshBank b) :=
  .foldl h fun _ _ h => h.refreshPair

theorem Canon.refreshGates (h : Canon s) : Canon s.refreshGates :=
  .foldl h fun _ _ h => h.refreshBank

theorem Canon.vlSend {l : Nat} {safe : Bool} {ins : Word} (h : Canon s) : Canon (s.vlSend l safe ins) := by
  unfold State.vlSend
  exact h.setFld.modVl

theorem Canon.vlRequest {l : Nat} {safe : Bool} {ins : Word} (h : Canon s) : Canon (s.vlRequest l safe ins) :=
  .ite h (.ite h.modVl h.vlSend)

theorem Canon.vlHold {l : Nat} (h : Canon s) : Canon (s.vlHold l) :=
  .ite h.modVl (Canon.modVl (.ite h.bump h)).vlSend

/-! ### The trip matrix (R390 to R407) -/

theorem Canon.notice {t cause sel : Nat} (h : Canon s) : Canon (s.notice t cause sel) :=
  .ite h.others h

theorem Canon.pinTaken {i : Nat} (h : Canon s) : Canon (s.pinTaken i) :=
  h.others

theorem Canon.sendFrame {m : Nat} (h : Canon s) : Canon (s.sendFrame m) :=
  h.others

theorem Canon.sendFrames (h : Canon s) : Canon s.sendFrames :=
  .foldl h fun _ _ h => .ite h.sendFrame h

theorem Canon.takeHolds {old : State} {n : Nat} (h : Canon s) : Canon (s.takeHolds old n) :=
  .foldl (.foldl h fun _ _ h => .ite h.refreshBank h) fun _ _ h => .ite h.vlHold h

theorem Canon.snapLine {n : Nat} {forced : Bool} (h : Canon s) : Canon (s.snapLine n forced) :=
  .foldl h fun _ _ h => h.setReg

theorem Canon.latchLine {n : Nat} {cands : List Nat} (h : Canon s) : Canon (s.latchLine n cands) := by
  unfold State.latchLine
  dsimp only
  split
  · exact h
  · exact .ite h (Canon.takeHolds (.foldl h.setReg.setReg.fresh64.setReg.snapLine.bump.others.raise.others fun _ _ h =>
      h.notice))

theorem Canon.joinLatch {n : Nat} {cands : List Nat} (h : Canon s) : Canon (s.joinLatch n cands) :=
  .ite h h.setReg.snapLine.others

theorem Canon.latchLines {srcs : List Nat} (h : Canon s) : Canon (s.latchLines srcs) :=
  Canon.sendFrames (.foldl h fun _ _ h => .ite h.joinLatch h.latchLine)

theorem Canon.putSrc {n : Nat} {on : Bool} (h : Canon s) : Canon (s.putSrc n on) :=
  h.setReg

theorem Canon.seeSrc {n : Nat} (h : Canon s) : Canon (s.seeSrc n) :=
  h.setReg

theorem Canon.setSrcs {l : List (Nat × Bool)} (h : Canon s) : Canon (s.setSrcs l) := by
  have hp : Canon (l.foldl (fun s x => s.putSrc x.1 x.2) s) := .foldl h fun _ _ h => h.putSrc
  have hs {up : List Nat} : Canon (up.foldl State.seeSrc (l.foldl (fun s x => s.putSrc x.1 x.2) s)) :=
    .foldl hp fun _ _ h => h.seeSrc
  exact .ite hs.others hs.others.latchLines

theorem Canon.setSrc {n : Nat} {on : Bool} (h : Canon s) : Canon (s.setSrc n on) :=
  h.setSrcs

theorem Canon.showSrc {n : Nat} {on : Bool} (h : Canon s) : Canon (s.showSrc n on) :=
  .ite h (.ite h.putSrc.seeSrc h.putSrc)

theorem Canon.relatch {n : Nat} (h : Canon s) : Canon (s.relatch n) :=
  h.latchLine.sendFrames

/-! ### Lanes and racks (R331 to R347) -/

theorem Canon.setRport {p : Nat} {x : RPort} (h : Canon s) : Canon (s.setRport p x) :=
  { h with rports := twf_tput h.rports }

theorem Canon.accept {p l : Nat} {inRange : Bool} {r : Option Nat} {fine : Nat} {val : Word} {psn setT : Bool} (h : Canon s) :
    Canon (s.accept p l inRange r fine val psn setT).2 :=
  .ite_snd (.pair h.bump.raiseOnceK) (.ite_snd (.pair h.bump.raiseOnceK) (.ite_snd (.pair h.modLane)
    (.ite_snd (.pair h.bump.raiseOnceK) (.pair h.modLane))))

theorem Canon.laneToSafe {l : Nat} (h : Canon s) : Canon (s.laneToSafe l) :=
  .ite h.refreshPair (.ite h.vlRequest (.ite h.setReg h))

theorem Canon.loadPwm {g : Nat} {v : Word} (h : Canon s) : Canon (s.loadPwm g v) :=
  .ite h (.ite h.modGate h.modGate)

theorem Canon.releaseValue {l fine : Nat} {v : Word} (h : Canon s) : Canon (s.releaseValue l fine v) := by
  refine .ite (Canon.refreshPair ?_) (.ite h.modLane.vlRequest (.ite (.ite h.modLane h.modLane.setReg) h.modLane))
  split
  · exact h.modLane.loadPwm.modGate
  · exact h.modLane.loadPwm

theorem Canon.refreshMsrc {l : Nat} (h : Canon s) : Canon (s.refreshMsrc l) :=
  .ite h h.setSrc

theorem Canon.missCount {l r time : Nat} {poison : Bool} (h : Canon s) : Canon (s.missCount l r time poison) :=
  Canon.refreshMsrc (.ite (Canon.notice (.ite h.bumpFld.bump.setFld.raiseAt h.bumpFld.bump.setFld)) (.ite
    h.bumpFld.bump.setFld.raiseAt h.bumpFld.bump.setFld))

theorem Canon.missAction {l : Nat} {safe : Bool} (h : Canon s) : Canon (s.missAction l safe) :=
  .ite h.modLane.laneToSafe (.ite h.vlRequest h)

theorem Canon.releaseEntry {l : Nat} {e : Entry} (h : Canon s) : Canon (s.releaseEntry l e) :=
  .ite h.modLane.bump.missCount.missAction (.ite h.modLane.missCount.missAction h.modLane.releaseValue)

theorem Canon.laneRelease {l : Nat} (h : Canon s) : Canon (s.laneRelease l) := by
  unfold State.laneRelease
  split
  · exact h
  · exact h.releaseEntry
  · exact h.modLane.missAction
  · exact .ite h.releaseEntry h.modLane.missAction

theorem Canon.laneCheck {l r : Nat} (h : Canon s) : Canon (s.laneCheck l r) :=
  .ite h.setFld.refreshMsrc (Canon.missCount (.ite h.modLane.bump h.modLane))

theorem Canon.skipPast {p : Nat → Bool} {l : Nat} (h : Canon s) : Canon (s.skipPast p l) :=
  .foldl h fun _ _ h => h.modLane

theorem Canon.checkNext {l : Nat} (h : Canon s) : Canon (s.checkNext l) := by
  unfold State.checkNext
  dsimp only
  split
  · exact h
  · exact Canon.laneCheck (.foldl h fun _ _ h => .ite h.modLane h)

theorem Canon.laneOff {l : Nat} (h : Canon s) : Canon (s.laneOff l) :=
  h.setFld.modLane.laneToSafe

theorem Canon.laneOn {l : Nat} (h : Canon s) : Canon (s.laneOn l) :=
  .ite h.modLane.modGate.refreshPair h.modLane

theorem Canon.laneAbort {l : Nat} (h : Canon s) : Canon (s.laneAbort l) :=
  h.modLane.setFld.refreshMsrc.laneToSafe

theorem Canon.advanceNext {p : Nat} (h : Canon s) : Canon (s.advanceNext p) :=
  h.setFld

theorem Canon.hdrWord {p : Nat} {tok : Tok} (h : Canon s) : Canon (s.hdrWord p tok) := by
  unfold State.hdrWord
  dsimp only
  split
  · exact .ite h.bump.raiseOnceK h.setRport
  · exact .ite h.setRport h.accept.setRport

theorem Canon.fixWord {p : Nat} {tok : Tok} (h : Canon s) : Canon (s.fixWord p tok) :=
  h.accept.advanceNext

theorem Canon.pairWord {p : Nat} (h : Canon s) : Canon (s.pairWord p) := by
  unfold State.pairWord
  dsimp only
  split
  · exact h.setRport.accept.advanceNext
  · exact h

theorem Canon.rackWord {p : Nat} {tok : Tok} (h : Canon s) : Canon (s.rackWord p tok) := by
  unfold State.rackWord
  dsimp only
  split
  · exact h.setRport.pairWord
  · split
    · exact h.hdrWord
    · exact h.fixWord
    · exact h

/-! ### Fences, holds, power (R220, R256, R314 to R317) -/

theorem Canon.setGrav {f : Nat} {x : GravSt} (h : Canon s) : Canon (s.setGrav f x) :=
  { h with gravs := twf_tput h.gravs }

theorem Canon.modGrav {f : Nat} {g : GravSt → GravSt} (h : Canon s) : Canon (s.modGrav f g) :=
  h.setGrav

theorem Canon.setCode {f c : Nat} (h : Canon s) : Canon (s.setCode f c) :=
  h.setFld

theorem Canon.setClo {f c : Nat} (h : Canon s) : Canon (s.setClo f c) :=
  h.setFld.setFld

theorem Canon.holdCode {f : Nat} (h : Canon s) : Canon (s.holdCode f) :=
  h.setCode

theorem Canon.rehold {f : Nat} (h : Canon s) : Canon (s.rehold f) :=
  .ite h.holdCode h

theorem Canon.marginLost {f i : Nat} (h : Canon s) : Canon (s.marginLost f i) :=
  (Canon.raise (.ite h.setFld h.modGrav)).setClo.setCode

theorem Canon.calibrated {f : Nat} {ok : Bool} {clo lost : Nat} (h : Canon s) : Canon (s.calibrated f ok clo lost) :=
  .ite (Canon.rehold (.foldl h.setFld.setFld.modGrav.setClo fun _ _ h => h.marginLost)) h.setFld.setFld.modGrav.raise

theorem Canon.abandonMove {f : Nat} (h : Canon s) : Canon (s.abandonMove f) := by
  unfold State.abandonMove
  dsimp only
  split
  · exact h
  · exact h.modSlot.modSlot.modGrav.setFld

theorem Canon.clearWires {f : Nat} (h : Canon s) : Canon (s.clearWires f) :=
  { h with cells := twf_filter h.cells, stages := twf_filter h.stages }

theorem Canon.ownedLanesOff {f : Nat} (h : Canon s) : Canon (s.ownedLanesOff f) :=
  .foldl h fun _ _ h => h.laneOff

theorem Canon.fence {f why : Nat} {now : Bool} (h : Canon s) : Canon (s.fence f why now) := by
  have hp : Canon ((s.floor f).park.foldl (fun s p => s.rsp f p stDomainOff 0) s) := .foldl h fun _ _ h => h.rsp
  exact .ite hp.setFld.abandonMove.modFloor.holdCode.clearWires.ownedLanesOff hp.setFld.abandonMove.modFloor.holdCode

theorem Canon.giveUp {f : Nat} (h : Canon s) : Canon (s.giveUp f) := by
  unfold State.giveUp
  refine Canon.modFloor (.foldl (.foldl h fun _ _ h => h.modTile) fun _ _ h => ?_)
  split
  · exact h.closeFlow
  · exact h

theorem Canon.drainAbort {f : Nat} (h : Canon s) : Canon (s.drainAbort f) :=
  (Canon.bumpBy (.foldl h.others fun _ _ h => h.rsp)).giveUp.raise

theorem Canon.wipeQueue {q : Nat} (h : Canon s) : Canon (s.wipeQueue q) :=
  h.closeQueue.finish

theorem Canon.wipeQueues {f : Nat} (h : Canon s) : Canon (s.wipeQueues f) := by
  unfold State.wipeQueues
  exact Canon.modFloor (.foldl h fun _ _ h => h.wipeQueue)

theorem Canon.dropSlotLoads {t : Nat} (h : Canon s) : Canon (s.dropSlotLoads t) :=
  Canon.modTile (.foldl h fun _ _ h => h.finish)

theorem Canon.endTile {t : Nat} (h : Canon s) : Canon (s.endTile t) := by
  unfold State.endTile
  exact (Canon.setReg (.foldl h.dropSlotLoads.clearSwitch fun _ _ h => .ite h.cancelSlot (.ite h.setSstate h))).modTile

theorem Canon.holdFloor {f : Nat} (h : Canon s) : Canon (s.holdFloor f) := by
  unfold State.holdFloor
  exact (Canon.wipeQueues (.foldl h fun _ _ h => h.endTile)).clearWires.ownedLanesOff

theorem Canon.resetFloorRegs {f : Nat} (h : Canon s) : Canon (s.resetFloorRegs f) :=
  { h with regs := rising_filter h.regs }

theorem Canon.wipeFrames {f : Nat} (h : Canon s) : Canon (s.wipeFrames f) :=
  { h with cfs := twf_filter h.cfs }

theorem Canon.initFloorMem {f : Nat} (h : Canon s) : Canon (s.initFloorMem f) :=
  { h with
    store := twf_filter h.store, written := twf_filter h.written, sharers := twf_filter h.sharers
    pool := twf_filter h.pool, tasks := twf_filter h.tasks, moved := twf_filter h.moved
    words := fun p hp => h.words p (List.mem_filter.1 hp).1 }

theorem Canon.noImage {f : Nat} (h : Canon s) : Canon (s.noImage f) :=
  h.setFld.setFld.others

/-- The tables that hold a floor's tiles, slots and records, with some of their entries gone. -/
theorem Canon.filterFloor {a : Nat × SlotSt → Bool} {b : Nat × TileSt → Bool} {c : Nat × FloorSt → Bool}
    {d : Nat × GravSt → Bool} {e : Nat × TurnSt → Bool} (h : Canon s) :
    Canon { s with slots := s.slots.filter a, tiles := s.tiles.filter b, floors := s.floors.filter c
                   gravs := s.gravs.filter d, turns := s.turns.filter e } :=
  { h with
    slots := twf_filter h.slots, tiles := twf_filter h.tiles, floors := twf_filter h.floors
    gravs := twf_filter h.gravs, turns := twf_filter h.turns
    banks := fun p hp => h.banks p (List.mem_filter.1 hp).1 }

theorem Canon.powerOff {f : Nat} (h : Canon s) : Canon (s.powerOff f) :=
  h.holdFloor.resetFloorRegs.wipeFrames.filterFloor.modFloor.noImage.setFld.setFld

/-! ### Targets, trims, turning moves (R411 to R430) -/

theorem Canon.cooled {f : Nat} (h : Canon s) : Canon (s.cooled f) :=
  .ite h.modGrav h

theorem Canon.lower {f : Nat} (h : Canon s) : Canon (s.lower f) :=
  .ite h (.ite h.setCode.modGrav (.ite h h.modGrav))

theorem Canon.noLower {f : Nat} (h : Canon s) : Canon (s.noLower f) :=
  .ite h.modGrav h

theorem Canon.manual {f : Nat} {capped : Bool} (h : Canon s) : Canon (s.manual f capped) :=
  .ite (.ite h h.setCode) (.ite h.setCode h)

theorem Canon.trimRow {f meas : Nat} {tgt : Option Nat} {capped : Bool} (h : Canon s) :
    Canon (s.trimRow f meas tgt capped) := by
  unfold State.trimRow
  split
  · exact h.lower
  · exact .ite (.ite h.noLower h.noLower.setCode) (.ite h.lower h.noLower)

theorem Canon.showTrim {f c meas : Nat} {tgt : Option Nat} (h : Canon s) : Canon (s.showTrim f c meas tgt) :=
  h.setFld.setFld.setFld.setFld

theorem Canon.capEpisode {f : Nat} {held : Bool} (h : Canon s) : Canon (s.capEpisode f held) := by
  unfold State.capEpisode
  dsimp only
  split
  · exact h.setGrav.setFld
  · split
    · exact h.setGrav
    · exact .ite h.setGrav.setFld.raise h

theorem Canon.critFloor {f : Nat} (h : Canon s) : Canon (s.critFloor f) :=
  .ite h h.setCode

theorem Canon.trimFloor {tb : List Nat} {capped : Bool} {low : Option Nat} {f : Nat} (h : Canon s) :
    Canon (s.trimFloor tb capped low f) :=
  .ite h (Canon.capEpisode (.ite h.setCode (.ite h.critFloor (.ite h.manual (.ite h (.ite h.lower h.trimRow)))))).showTrim

theorem Canon.capExceeded {pest : Nat} (h : Canon s) : Canon (s.capExceeded pest) := by
  unfold State.capExceeded
  dsimp only
  split
  · split
    · exact h.others
    · exact .ite h.others.raise h
  · exact h.others

theorem Canon.thermPin (h : Canon s) : Canon s.thermPin :=
  .ite h.others.raise (.ite h.others h)

theorem Canon.critState (h : Canon s) : Canon s.critState :=
  .ite (.foldl h.others.raise.setReg.faultEdge fun _ _ h => .ite h.critFloor h) (.ite h.setReg.others h)

theorem Canon.warmed {f : Nat} (h : Canon s) : Canon (s.warmed f) :=
  .ite h.setClo.modGrav.rehold h

theorem Canon.setTurn {t : Nat} {x : TurnSt} (h : Canon s) : Canon (s.setTurn t x) :=
  { h with turns := twf_tput h.turns }

theorem Canon.modTurn {t : Nat} {g : TurnSt → TurnSt} (h : Canon s) : Canon (s.modTurn t g) :=
  h.setTurn

theorem Canon.setTstate {t v : Nat} (h : Canon s) : Canon (s.setTstate t v) :=
  h.setReg

theorem Canon.settleTile {t : Nat} (h : Canon s) : Canon (s.settleTile t) := by
  unfold State.settleTile
  split
  · exact h
  · exact .ite h (.ite h.setTstate.idleTile.modTurn (.ite h.setTstate.modTurn h))

theorem Canon.evacuate {t cause : Nat} {slots : List Nat} (h : Canon s) : Canon (s.evacuate t cause slots) := by
  unfold State.evacuate
  dsimp only
  split
  · exact h.modTurn
  · split
    · exact h.raise.modTurn
    · exact h.setTstate.modTurn.settleTile

theorem Canon.dropTurn {t k : Nat} (h : Canon s) : Canon (s.dropTurn t k) :=
  h.modTurn

theorem Canon.turnReplies {t : Nat} (h : Canon s) : Canon (s.turnReplies t) := by
  unfold State.turnReplies
  exact h.finishWhere

theorem Canon.copyStore {a b off n : Nat} (h : Canon s) : Canon (s.copyStore a b off n) :=
  .foldl h fun _ _ h => .ite { h with written := twf_tput h.written } h.pokePhys

theorem Canon.carryReg {r : Reg} {a b k n : Nat} (h : Canon s) : Canon (s.carryReg r a b k n) :=
  .foldl h fun _ _ h => h.setReg.setReg

theorem Canon.carryRegs {a b k : Nat} (h : Canon s) : Canon (s.carryRegs a b k) :=
  h.carryReg.carryReg.carryReg.carryReg.carryReg.carryReg.carryReg.carryReg.carryReg

theorem rising_mapVal {α β : Type} {t : Tbl α} {f : α → β} (h : rising t = true) : rising (t.map fun p => (p.1, f p.2)) = true
    := by
  induction t with
  | nil => rfl
  | cons p t ih =>
    obtain ⟨hr, ha⟩ := rising_cons.1 h
    refine rising_cons.2 ⟨ih hr, fun q hq => ?_⟩
    obtain ⟨r, hr, rfl⟩ := List.mem_map.1 hq
    exact ha r hr

/-- A change of every value that makes none the default keeps the canonical form. -/
theorem twf_mapVal {α β : Type} [DecidableEq α] [DecidableEq β] {d : α} {e : β} {t : Tbl α} {f : α → β} (h : twf d t = true)
    (hf : ∀ x, f x = e → x = d) : twf e (t.map fun p => (p.1, f p.2)) = true := by
  obtain ⟨hr, hd⟩ := twf_iff.1 h
  refine twf_iff.2 ⟨rising_mapVal hr, fun q hq => ?_⟩
  obtain ⟨r, hr, rfl⟩ := List.mem_map.1 hq
  exact fun he => hd r hr (hf _ he)

/-- Cells, wires and configuration frames replaced. -/
theorem Canon.withCells {c : Tbl CellSt} {w : Tbl (Option Held)} {f : Tbl Byte} (h : Canon s) (hc : twf .init c = true)
    (hw : twf none w = true) (hf : twf 0#8 f = true) : Canon { s with cells := c, stages := w, cfs := f } :=
  { h with cells := hc, stages := hw, cfs := hf }

theorem Canon.carryCells {a b k : Nat} (h : Canon s) : Canon (s.carryCells a b k) :=
  h.withCells (twf_foldl_tput (twf_filter h.cells))
    (twf_foldl_tput (twf_mapVal (twf_filter h.stages) fun _ hx => Option.map_eq_none_iff.1 hx)) (twf_foldl_tput h.cfs)

theorem Canon.carryAgents {a b k : Nat} (h : Canon s) : Canon (s.carryAgents a b k) := by
  unfold State.carryAgents
  refine { h with queues := twf_mapVal (f := fun x : Queue => ({ x with
      bank0 := x.bank0.map _, bank1 := x.bank1.map _, rel := x.rel.map _, late := x.late.map _, staged := x.staged.map _
      ilock := x.ilock.map _, olock := x.olock.map _, skips := x.skips.map _ } : Queue)) h.queues fun x hx => ?_ }
  cases x
  simpa [Queue.empty] using hx

theorem Canon.carryRecords {a b k img : Nat} (h : Canon s) : Canon (s.carryRecords a b k img) :=
  .foldl h.modFloor fun _ _ h => .ite h.setTf h

theorem Canon.firstCommit {a b : Nat} (h : Canon s) : Canon (s.firstCommit a b) :=
  .ite h.setReg.setReg.setTstate h

theorem Canon.carrySlot {m : Move} {p : Config.TurnPatch} (h : Canon s) : Canon (s.carrySlot m p) := by
  have moved {u : State} {n v : Nat} (hu : Canon u) : Canon { u with moved := tput 0 u.moved n v } :=
    { hu with moved := twf_tput hu.moved }
  have hc : Canon (p.live.foldl (fun s r => s.copyStore m.tile m.spare r.1 r.2) (s.copyStore m.tile m.spare
      (s.fld leesBase (8 * m.tile + m.slot) * 64) (64 * s.fld leesSpilled (8 * m.tile + m.slot)))) :=
    .foldl h.copyStore fun _ _ hu => hu.copyStore
  exact (moved (hc.carryCells.carryRegs.carryAgents.carryRecords.copySlot.setSlot (by exact rfl))).settleForks

theorem Canon.cancelMoved {b k : Nat} (h : Canon s) : Canon (s.cancelMoved b k) :=
  .ite h.tellCancel h

theorem Canon.commitMove {m : Move} {p : Config.TurnPatch} (h : Canon s) : Canon (s.commitMove m p) :=
  h.firstCommit.carrySlot.modGrav.setFld.setReg.bump.raise.dropTurn.settleTile.turnReplies.cancelMoved

end Sys2Proof
end

section
/-! PROOFS. The table invariant (Canon) through time, batches, field inputs and outputs, turning and cells. -/

namespace Sys2Proof

open Sys2Proof.Machine

set_option Elab.async false

variable {s : State}

/-! ### The timebase, batches (R202 to R207, R321 to R327) -/

theorem Canon.setLock {b : Bool} (h : Canon s) : Canon (s.setLock b) :=
  h.setFld.others

theorem Canon.setLink {m : Nat} {x : LinkSt} (h : Canon s) : Canon (s.setLink m x) :=
  { h with links := twf_tput h.links }

theorem Canon.modLink {m : Nat} {f : LinkSt → LinkSt} (h : Canon s) : Canon (s.modLink m f) :=
  h.setLink

theorem Canon.steer (h : Canon s) : Canon s.steer :=
  h.fresh64.others

theorem Canon.sourceWritten {old : Nat} (h : Canon s) : Canon (s.sourceWritten old) :=
  .ite h h.setFld.setFld.others.setLock

theorem Canon.carRealign {c : Nat} (h : Canon s) : Canon (s.carRealign c) :=
  .ite h.setCar h.setCar

theorem Canon.jumpTo {v : Nat} (h : Canon s) : Canon (s.jumpTo v) :=
  .foldl { h with tiles := twf_foldl_tput h.tiles, sds := twf_foldl_tput h.sds, adcs := twf_foldl_tput h.adcs, encs :=
    twf_foldl_tput h.encs } fun _ _ h => h.carRealign

theorem Canon.timeSet {v : Nat} (h : Canon s) : Canon (s.timeSet v) :=
  .ite h.jumpTo.setFld h.jumpTo

theorem Canon.ppsEdge (h : Canon s) : Canon s.ppsEdge :=
  Canon.steer (.ite h.fresh64.setReg.setReg.others.setLock.setFld h.fresh64.setReg.setReg.others.setLock)

theorem Canon.enableBatch {b : Nat} (h : Canon s) : Canon (s.enableBatch b) :=
  .ite h (.ite h.setFld (.foldl h.setFld.setFld.setReg.setBatch fun _ _ h => h.modLane))

theorem Canon.stopBatch {b : Nat} (h : Canon s) : Canon (s.stopBatch b) :=
  h.setFld.setReg.setBatch

theorem Canon.batchCheck {b : Nat} (h : Canon s) : Canon (s.batchCheck b) := by
  unfold State.batchCheck
  dsimp only
  split
  · exact h
  · split
    · exact h.setBatch
    · exact h.setBatch.bumpFld.raise

theorem Canon.heartbeat {b t : Nat} (h : Canon s) : Canon (s.heartbeat b t) :=
  .ite h (.ite h.others h.others)

theorem Canon.startStep {b : Nat} (h : Canon s) : Canon (s.startStep b) :=
  .foldl (Canon.setBatch (.ite (.foldl (.ite h.batchCheck h) fun _ _ h => h.checkNext) (.ite h.batchCheck h))).setReg.heartbeat
    fun _ _ h => h.inject

/-! ### Field inputs (R328, R358 to R385) -/

theorem Canon.setStream {n : Nat} {x : StreamSt} (h : Canon s) : Canon (s.setStream n x) :=
  { h with streams := twf_tput h.streams }

theorem Canon.modStream {n : Nat} {f : StreamSt → StreamSt} (h : Canon s) : Canon (s.modStream n f) :=
  h.setStream

theorem Canon.setSd {i : Nat} {x : SdSt} (h : Canon s) : Canon (s.setSd i x) :=
  { h with sds := twf_tput h.sds }

theorem Canon.setAdc {p : Nat} {x : AdcSt} (h : Canon s) : Canon (s.setAdc p x) :=
  { h with adcs := twf_tput h.adcs }

theorem Canon.setEnc {n : Nat} {x : EncSt} (h : Canon s) : Canon (s.setEnc n x) :=
  { h with encs := twf_tput h.encs }

theorem Canon.sample {n : Nat} {words : List Word} {psn : Bool} {ref done : Nat} (h : Canon s) :
    Canon (s.sample n words psn ref done) :=
  .ite h h.fresh64.modStream

theorem Canon.sampleReady {n : Nat} (h : Canon s) : Canon (s.sampleReady n) := by
  unfold State.sampleReady
  dsimp only
  split
  · exact h
  · exact .ite h.setStream.modStream h.setStream.bump.raiseOnce

theorem Canon.toDest {n dest : Nat} {bridge sop eop : Bool} {w : Tok} {u : State} (h : Canon s)
    (e : s.toDest n bridge dest w sop eop = some u) : Canon u := by
  unfold State.toDest at e
  split at e
  · cases e
    exact h.inject
  · split at e
    · cases e
    · dsimp only at e
      split at e <;> cases e
      exact h.pushWord

theorem Canon.deliverWord {n : Nat} {u : State} (h : Canon s) (e : s.deliverWord n = some u) : Canon u := by
  unfold State.deliverWord at e
  dsimp only at e
  split at e
  · cases e
  · obtain ⟨v, hv, rfl⟩ := Option.map_eq_some_iff.1 e
    refine Canon.modStream ?_
    split at hv
    · exact h.toDest hv
    · split at hv
      · exact h.toDest hv
      · cases hv
        exact h

theorem Canon.streamsOff {first n : Nat} (h : Canon s) : Canon (s.streamsOff first n) :=
  .foldl h fun _ _ h => h.setFld.modStream

theorem Canon.streamDrains (h : Canon s) : Canon s.streamDrains := by
  refine .foldl h fun _ _ h => ?_
  split
  · exact .ite h.streamsOff.finish h
  · exact h

theorem Canon.sdPush {i : Nat} {b : Bool} (h : Canon s) : Canon (s.sdPush i b) := by
  have hf : Canon (if (s.sd i).hist = [] then (freeBits s.free, { s with free := s.free + 12 }) else ((s.sd i).hist, s)).2 :=
    .ite_snd h.others h
  exact .ite hf.setSd.setFld.raise (.ite hf.setSd.setFld hf.setSd)

theorem Canon.sdFast {i : Nat} (h : Canon s) : Canon (s.sdFast i) :=
  .ite h h.setSd.setFld.setFld.setSrcs

theorem Canon.sdOutput {i k : Nat} (h : Canon s) : Canon (s.sdOutput i k) :=
  h.sample

theorem Canon.sdBit {i k : Nat} {b : Bool} (h : Canon s) : Canon (s.sdBit i k b) :=
  .ite h.sdPush.sdFast.sdOutput h.sdPush.sdFast

theorem Canon.sdBits {i : Nat} {l : List Bool} (h : Canon s) : Canon (s.sdBits i l) :=
  Canon.setSd (.foldl h fun _ _ h' => h'.sdBit)

theorem Canon.sdFastOff {i : Nat} (h : Canon s) : Canon (s.sdFastOff i) := by
  unfold State.sdFastOff
  exact h.setSd.setFld.setFld.setSrcs

theorem Canon.vlGood {n : Nat} (h : Canon s) : Canon (s.vlGood n) :=
  h.modVl.setFld.setSrc

theorem Canon.uplink {n : Nat} {body : List Byte} (h : Canon s) : Canon (s.uplink n body) :=
  Canon.sample (.ite h.setFld.vlGood h.bump.raiseOnce)

theorem Canon.gpioSource {k : Nat} (h : Canon s) : Canon (s.gpioSource k) :=
  .ite h.setSrc h

/-! ### Commands of gravity, kiln and turning (R409 to R434) -/

theorem keeps_execGravityTrim {tb : List Nat} {pest : Nat} (h : Canon s) : Keeps (execGravityTrim tb pest s) :=
  .ite (.next h) (.next (Canon.capExceeded (.foldl (.ite h.others.setReg.bump h.others.setReg) fun _ _ h' => h'.trimFloor)))

theorem Canon.confirmed {f c : Nat} (h : Canon s) : Canon (s.confirmed f c) :=
  h.setClo.modGrav.rehold

theorem keeps_execKilnConfirm {f : FloorNo} {ok : Bool} {taps : Nat} {lost : Option (Fin 17)} (h : Canon s) :
    Keeps (execKilnConfirm f ok taps lost s) := by
  unfold execKilnConfirm
  dsimp only
  split
  · refine .next ?_
    split
    · exact Canon.marginLost (.ite h.modGrav (.ite h.confirmed h.modGrav))
    · exact .ite h.modGrav (.ite h.confirmed h.modGrav)
  · exact .next h

theorem keeps_execKilnTapChange {f : FloorNo} (h : Canon s) : Keeps (execKilnTapChange f s) := by
  unfold execKilnTapChange
  split
  · exact .ite (.next h) (.next (.ite h.confirmed h.modGrav))
  · exact .next h

theorem keeps_execKilnWatchEnd {f : FloorNo} (h : Canon s) : Keeps (execKilnWatchEnd f s) :=
  .ite (.next h.modGrav) (.next h)

theorem keeps_execKlnRetreat {f : FloorNo} (h : Canon s) : Keeps (execKlnRetreat f s) := by
  refine .ite (.next h) (.next ?_)
  split
  · exact .ite h.setClo.setCode.bumpFld.modGrav h.setClo.setCode.bumpFld.modGrav.modGrav.raise
  · exact h.setClo.setCode.bumpFld.modGrav.modGrav.raise

theorem keeps_execKilnSdPhaseStep {i : Fin 256} {up narrow : Bool} (h : Canon s) : Keeps (execKilnSdPhaseStep i up narrow s) :=
  .ite (.next h) (.next (.ite h.setFld.others.raise h.setFld.others))

theorem keeps_execPmbusPoll {core sram : Option Word} (h : Canon s) : Keeps (execPmbusPoll core sram s) :=
  .next h.others

theorem keeps_execThermalSensorRead {sensor : Fin 547} {temp : BitVec 8} (h : Canon s) :
    Keeps (execThermalSensorRead sensor temp s) :=
  .ite (.next h.others.thermPin.critState) (.ite (.next h.others.thermPin.critState.setFld.cooled.warmed) (.next
    h.others.thermPin.critState.setFld.cooled.warmed.modTurn.settleTile))

theorem keeps_execTurnTrigger {t : TileNo} {cause : Fin 3} (h : Canon s) : Keeps (execTurnTrigger t cause s) :=
  .ite (.next h.evacuate) (.next h)

theorem keeps_execTurnMoveStart {t : TileNo} (h : Canon s) : Keeps (execTurnMoveStart t s) := by
  unfold execTurnMoveStart
  dsimp only
  split
  · exact .next h
  · split
    · exact .next h
    · split
      · exact .next h
      · exact .next h.modSlot.modSlot.modGrav.setFld
      · exact .next (.foldl h.dropTurn.settleTile.others fun _ _ h => h.badParam)
      · exact .next h.dropTurn.raise.settleTile.turnReplies

theorem keeps_execTurnCommit {t : TileNo} (h : Canon s) : Keeps (execTurnCommit t s) := by
  unfold execTurnCommit
  split
  · exact .next h
  · split
    · exact .next h
    · exact .ite (.next h.commitMove) (.next h)

theorem keeps_execTrnDeferred {t : TileNo} (h : Canon s) : Keeps (execTrnDeferred t s) := by
  unfold execTrnDeferred
  dsimp only
  split
  · exact .next h
  · split
    · exact .next h
    · exact .ite (.next h) (.next (.ite (Canon.modTurn (.ite h h.bump)).raise (Canon.modTurn (.ite h h.bump))))

theorem Canon.turnMoveCmd {c : Cmd} {t slots timeout : Nat} (h : Canon s) : Canon (s.turnMoveCmd c t slots timeout) :=
  .ite h.reply (.ite h.evacuate.reply h.evacuate.await)

theorem keeps_execTurnMove {c : Cmd} {t slots timeout : Nat} (h : Canon s) : Keeps (execTurnMove c t slots timeout s) :=
  .next (h.runCmd fun _ h => .ite h.badParam h.turnMoveCmd)

theorem keeps_execTurnMoveTimeout {t : TileNo} (h : Canon s) : Keeps (execTurnMoveTimeout t s) := by
  unfold execTurnMoveTimeout
  dsimp only
  split
  · exact .next h
  · exact .next h.others.reply

theorem Canon.turnReturnCmd {c : Cmd} {t : Nat} {pass : Bool} (h : Canon s) : Canon (s.turnReturnCmd c t pass) :=
  .ite h.reply (.ite h.reply (Canon.setTstate (.ite h.setFld h)).modTurn.reply)

theorem keeps_execTurnReturn {c : Cmd} {t : Nat} {pass : Bool} (h : Canon s) : Keeps (execTurnReturn c t pass s) :=
  .next (h.runCmd fun _ h => .ite h.badParam h.turnReturnCmd)

theorem keeps_execGrvLimits {c : Cmd} {f tbmax rsv prio : Nat} (h : Canon s) : Keeps (execGrvLimits c f tbmax rsv prio s) :=
  .next (h.runCmd fun _ h => .ite h.badParam (.ite h.badParam h.setFld.setFld.setFld.reply))

theorem keeps_execGrvStatus {c : Cmd} {first n : Nat} (h : Canon s) : Keeps (execGrvStatus c first n s) :=
  .next (h.runCmd fun _ h => .ite h.badParam (.ite h.badParam h.reply))

theorem keeps_execKlnRecal {c : Cmd} {f : Nat} (h : Canon s) : Keeps (execKlnRecal c f s) :=
  .next (h.runCmd fun _ h => .ite h.badParam (.ite h.reply (.ite h.reply h.await)))

theorem keeps_execKlnRecalDone {f : FloorNo} {ok : Bool} {clo : Fin 51} {lost : BitVec 16} (h : Canon s) :
    Keeps (execKlnRecalDone f ok clo lost s) :=
  .ite (.next h.calibrated.finish) (.next h)

/-! ### Commands of the step generator (R204 to R222) -/

theorem keeps_execStepStart {b : BatchNo} (h : Canon s) : Keeps (execStepStart b s) :=
  .ite (.next h.startStep) (.next h)

theorem Canon.stepTask {b k : Nat} (h : Canon s) : Canon (s.stepTask b k) :=
  .ite h.bumpFld h.addOne

theorem keeps_execPktStep {p : Pkt} (h : Canon s) : Keeps (execPktStep p s) :=
  .ite (.ite (.next h.takePkt.fenceDrop) (.ite (.next h.takePkt.bump) (.next (.foldl h.takePkt fun _ _ h => h.stepTask))))
    (.next h)

theorem keeps_execBatchDeadlineCheck {b : BatchNo} (h : Canon s) : Keeps (execBatchDeadlineCheck b s) :=
  .ite (.next h.batchCheck) (.next h)

theorem keeps_execBatchEnable {c : Cmd} {b : BatchNo} (h : Canon s) : Keeps (execBatchEnable c b s) :=
  .ite (.next h) (.next (h.runCmd fun _ h => .ite h.reply (.ite h.enableBatch.badParam h.enableBatch.reply)))

theorem keeps_execBatchDisableDrain {c : Cmd} {b : BatchNo} {timeout : Nat} (h : Canon s) :
    Keeps (execBatchDisableDrain c b timeout s) :=
  .next (h.runCmd fun _ h => .ite h.reply (.ite h.reply h.stopBatch.await))

theorem Canon.abortBatch {b : Nat} (h : Canon s) : Canon (s.abortBatch b) :=
  .ite (.foldl (.foldl h.stopBatch fun _ _ h => h.cancelTask) fun _ _ h => h.laneAbort) (.foldl h.stopBatch fun _ _ h =>
    h.cancelTask)

theorem keeps_execBatchDisableAbort {c : Cmd} {b : BatchNo} {timeout : Nat} (h : Canon s) :
    Keeps (execBatchDisableAbort c b timeout s) :=
  .next (h.runCmd fun _ h => .ite h.reply (.ite h.reply h.interim.finish.abortBatch.reply))

theorem keeps_execBatchDrainDone {b : BatchNo} (h : Canon s) : Keeps (execBatchDrainDone b s) :=
  .ite (.next h.finish) (.next h)

theorem Canon.bctlFields {b v : Nat} (h : Canon s) : Canon (s.bctlFields b v) :=
  h.setFld.setFld.setFld

theorem Canon.bctlWrite {b v : Nat} (h : Canon s) : Canon (s.bctlWrite b v) := by
  have skipped {u : State} {c : Prop} [Decidable c] (hu : Canon u) :
      Canon (if c then u else (u.boundLanes (u.fld bctlRset b)).foldl (fun s l => s.skipPast (· == b) l) u) :=
    .ite hu (.foldl hu fun _ _ h => h.skipPast)
  exact .ite (skipped h.bctlFields).enableBatch (.ite (skipped h.bctlFields).stopBatch.drainOn (skipped h.bctlFields))

theorem keeps_execTmbBctlEnSet {view : ViewNo} {b : BatchNo} {v : Word} (h : Canon s) : Keeps (execTmbBctlEnSet view b v s) :=
  .ite (.next h) (.next h.bctlWrite)

theorem keeps_execTmbBctlEnClear {view : ViewNo} {b : BatchNo} {v : Word} (h : Canon s) :
    Keeps (execTmbBctlEnClear view b v s) :=
  .ite (.next h) (.next h.bctlWrite)

/-! ### What a cell computes (R64 to R76) -/

theorem Canon.lutNote {t k c : Nat} {word : ℤ} (h : Canon s) : Canon (s.lutNote t k c word) :=
  .ite h.noteRead.raise h.noteRead

theorem Canon.lutOp {t k c : Nat} {g : CellCfg} {o : OpSet} {psn : Bool} (h : Canon s) : Canon (s.lutOp t k c g o psn).2 := by
  have hn {i j : Int} : Canon ((s.lutNote t k c i).lutNote t k c j) := h.lutNote.lutNote
  unfold State.lutOp
  extract_lets
  split
  extract_lets
  split
  split
  extract_lets
  split
  · exact .pair hn
  · exact hn.fresh64
  · exact .pair hn
  · refine .ite_snd ?_ (.pair hn)
    split
    · exact .pair hn
    · exact .ite_snd (.pair hn) (.pair hn)
    · exact .pair hn

theorem Canon.compute {t k c : Nat} {g : CellCfg} {o : OpSet} {y0 : DWord} {p0 : Bool} {hist : List (DWord × Bool)}
    (h : Canon s) : Canon (s.compute t k c g o y0 p0 hist).2 :=
  .ite_snd h.lutOp (.ite_snd h (.ite_snd h (.ite_snd h (.ite_snd h (.ite_snd h (.ite_snd h h))))))

/-! ### Cells accept and emit (R44 to R76) -/

theorem Canon.takePort {t k c p : Nat} (h : Canon s) : Canon (s.takePort t k c p) := by
  unfold State.takePort
  split
  · exact h
  · exact h.serve

theorem Canon.takeAll {t k c : Nat} (h : Canon s) : Canon (s.takeAll t k c) :=
  .ite (.foldl (.foldl h fun _ _ h => h.takePort) fun _ _ h => h.takePort) (.foldl h fun _ _ h => h.takePort)

theorem keeps_execCellFire {t : TileNo} {c : CellNo} (h : Canon s) : Keeps (execCellFire t c s) := by
  unfold execCellFire
  dsimp only
  split
  · exact .next h
  · split
    · exact .next h
    · split
      · exact .next h
      · exact .next h.takeAll.setCell

theorem Canon.setFpx {t k c fl : Nat} (h : Canon s) : Canon (s.setFpx t k c fl) :=
  .ite h.setReg.raise h.setReg

theorem Canon.offerResult {t k c : Nat} {y : Tok} {p : Option Bool} (h : Canon s) : Canon (s.offerResult t k c y p) := by
  unfold State.offerResult
  dsimp only
  split
  · exact h.offer.offer
  · exact h.offer

theorem Canon.emit {t k c : Nat} {o : OpSet} {rest : List OpSet} (h : Canon s) : Canon (s.emit t k c o rest) :=
  .ite h.setCell (.ite (.ite h.setCell.offerResult.offerResult h.setCell.offerResult) (.ite
    h.compute.setCell.setFpx.offerResult.setCell.offerResult h.compute.setCell.setFpx.offerResult))

theorem keeps_execCellResultEmit {t : TileNo} {c : CellNo} {k : SlotNo} (h : Canon s) : Keeps (execCellResultEmit t c k s) := by
  unfold execCellResultEmit
  dsimp only
  split
  · exact .next h
  · exact .ite (.next h.emit) (.next h)

/-! ### Commands of racks and lanes (R331 to R352) -/

theorem keeps_execRackPortWord {p : Pkt} (h : Canon s) : Keeps (execRackPortWord p s) :=
  .ite (.next h.takePkt.returnCredit.rackWord) (.next h)

theorem Canon.releaseUpTo {l r n : Nat} (h : Canon s) : Canon (s.releaseUpTo l r n) := by
  induction n generalizing s with
  | zero => exact h
  | succ n ih => exact .ite (ih h.laneRelease) h

theorem Canon.setpointsFirst {l r : Nat} (h : Canon s) : Canon (s.setpointsFirst l r) :=
  .ite (.foldl h fun _ _ h => h.releaseUpTo) h

theorem keeps_execRackRelease {l : LaneNo} (h : Canon s) : Keeps (execRackRelease l s) := by
  unfold execRackRelease
  split
  · exact .next h
  · exact .ite (.next h.setpointsFirst.laneRelease) (.next h)

theorem keeps_execRackDeadlineCheck {l : LaneNo} (h : Canon s) : Keeps (execRackDeadlineCheck l s) :=
  .next h.checkNext

theorem Canon.rackPutCmd {c : Cmd} {l te fine r : Nat} {v : Word} {psn : Nat} (h : Canon s) :
    Canon (s.rackPutCmd c l te fine r v psn) :=
  .ite h.badParam (.ite h.badParam (.ite h.badParam (.ite h.reply (.ite h.accept.reply (.ite h.accept.badParam (.ite
    h.accept.badParam h.accept.reply))))))

theorem keeps_execRackPut {c : Cmd} {l te fine : Nat} {r : DWord} {v : Word} {psn : Nat} (h : Canon s) :
    Keeps (execRackPut c l te fine r v psn s) :=
  .next (h.runCmd fun _ h => h.rackPutCmd)

theorem Canon.clearLane {l : Nat} (h : Canon s) : Canon (s.clearLane l) :=
  .ite h.setFld.refreshMsrc (.ite h.setFld.refreshMsrc.setLane.refreshPair (.ite h.setFld.refreshMsrc.setLane.setReg
    h.setFld.refreshMsrc.setLane))

theorem Canon.rackClearCmd {c : Cmd} {first n : Nat} (h : Canon s) : Canon (s.rackClearCmd c first n) := by
  unfold State.rackClearCmd
  split
  · exact h.badParam
  · exact .ite h.reply (Canon.reply (.foldl h fun _ _ h => h.clearLane))

theorem keeps_execRackClear {c : Cmd} {first n : Nat} (h : Canon s) : Keeps (execRackClear c first n s) :=
  .next (h.runCmd fun _ h => h.rackClearCmd)

theorem Canon.laneDisableCmd {c : Cmd} {first n : Nat} {go : State → State} (h : Canon s) (hgo : ∀ u, Canon u → Canon (go u)) :
    Canon (s.laneDisableCmd c first n go) := by
  unfold State.laneDisableCmd
  dsimp only
  split
  · exact h.badParam
  · exact .ite h.reply (.ite h.reply (hgo _ h))

theorem keeps_execLaneDisableDrain {c : Cmd} {first n timeout : Nat} (h : Canon s) :
    Keeps (execLaneDisableDrain c first n timeout s) :=
  .next (h.runCmd fun _ h => h.laneDisableCmd fun _ h => Canon.await (.foldl h fun _ _ h => h.modLane))

theorem keeps_execLaneDisableAbort {c : Cmd} {first n timeout : Nat} (h : Canon s) :
    Keeps (execLaneDisableAbort c first n timeout s) :=
  .next (h.runCmd fun _ h => h.laneDisableCmd fun _ h => Canon.reply (.foldl h.interim.finishWhere fun _ _ h => h.laneOff))

theorem keeps_execLaneDrainDone {first n : Nat} (h : Canon s) : Keeps (execLaneDrainDone first n s) :=
  .ite (.next (Canon.finish (.foldl h fun _ _ h => h.laneOff))) (.next h)

theorem Canon.rackStatusCmd {c : Cmd} {first n : Nat} (h : Canon s) : Canon (s.rackStatusCmd c first n) := by
  unfold State.rackStatusCmd
  split
  · exact h.badParam
  · exact .ite h.reply h.reply

theorem keeps_execRackStatus {c : Cmd} {first n : Nat} (h : Canon s) : Keeps (execRackStatus c first n s) :=
  .next (h.runCmd fun _ h => h.rackStatusCmd)

/-! ### Commands of field inputs (R358 to R387) -/

theorem keeps_execSampleReady {n : Fin 496} (h : Canon s) : Keeps (execSampleReady n s) :=
  .next h.sampleReady

theorem keeps_execStreamDeliver {n : Fin 496} (h : Canon s) : Keeps (execStreamDeliver n s) := by
  refine .ite (.next h) ?_
  split
  · next e => exact .next (h.deliverWord e).others.streamDrains
  · exact .next h

theorem keeps_execSdFilterOutput {i : Fin 256} {bits : List Bool} (h : Canon s) : Keeps (execSdFilterOutput i bits s) :=
  .ite (.next h.sdBits) (.next h)

theorem keeps_execSdComparatorChange {i : Fin 256} {bits : List Bool} (h : Canon s) : Keeps (execSdComparatorChange i bits s) :=
  .ite (.next h.sdBits) (.next h)

theorem keeps_execSdStuck {i : Fin 256} {bits : List Bool} (h : Canon s) : Keeps (execSdStuck i bits s) :=
  .ite (.next h.sdBits) (.next h)

theorem keeps_execSdStuckClear {i : Fin 256} {bits : List Bool} (h : Canon s) : Keeps (execSdStuckClear i bits s) :=
  .ite (.next h.sdBits) (.next h)

theorem Canon.adcFrame {p : Nat} {lanes : List (List Bool)} (h : Canon s) : Canon (s.adcFrame p lanes) :=
  .foldl h fun _ _ h' => h'.sample

theorem Canon.adcHeard {p : Nat} (h : Canon s) : Canon (s.adcHeard p) :=
  h.setFld.setAdc

theorem keeps_execAdcFrameReceive {p : Fin 16} {lanes : List (List Bool)} (h : Canon s) :
    Keeps (execAdcFrameReceive p lanes s) :=
  .ite (.next h) (.ite (.next h.adcHeard.adcFrame) (.next h.adcHeard.bumpFld.raiseOnce))

theorem keeps_execAdcClockLoss {p : Fin 16} (h : Canon s) : Keeps (execAdcClockLoss p s) :=
  .ite (.next h.setFld.setAdc.raise) (.next h)

theorem keeps_execAdcClockReturn {p : Fin 16} (h : Canon s) : Keeps (execAdcClockReturn p s) :=
  .ite (.next h.adcHeard) (.next h)

theorem keeps_execAdcCnvPulse {p : Fin 16} {level : Bool} (h : Canon s) : Keeps (execAdcCnvPulse p level s) := by
  unfold execAdcCnvPulse
  dsimp only
  split
  · split
    · exact .ite (.next h.setAdc) (.next h)
    · exact .next h
  · exact .ite (.next h.setAdc) (.next h)

theorem keeps_execAdcTrain {c : Cmd} {p : Nat} {pattern : Word} (h : Canon s) : Keeps (execAdcTrain c p pattern s) :=
  .next (h.runCmd fun _ h => .ite h.badParam (.ite h.reply h.await))

theorem keeps_execAdcTrainDone {p : Fin 16} {pass : List (BitVec 64)} (h : Canon s) : Keeps (execAdcTrainDone p pass s) := by
  have delays (l : List (Option (Nat × Nat × Nat) × Nat)) : Canon (l.foldl (fun s x => match x.1 with
      | some r => s.setFld (adcDly x.2) p r.2.2
      | none => s) s) := by
    refine .foldl h fun u x hu => ?_
    split
    · exact hu.setFld
    · exact hu
  exact .ite (.next h) (.ite (.next (delays _).finish) (.next (delays _).finish))

theorem keeps_execEncEdge {n : Fin 32} {a b z : Bool} (h : Canon s) : Keeps (execEncEdge n a b z s) :=
  .ite (.next h) (.next (.ite h.setEnc.setReg.bumpFld.raiseOnce h.setEnc.setReg))

theorem Canon.encStart {n t : Nat} {a : Bool} (h : Canon s) : Canon (s.encStart n t a) :=
  .ite h.setEnc.setFld h.setEnc.setFld.bumpFld

theorem keeps_execEncSample {n : Fin 32} {a : Bool} (h : Canon s) : Keeps (execEncSample n a s) := by
  unfold execEncSample
  dsimp only
  split
  · exact .next h
  · exact .ite (.next h) (.ite (.next h.setEnc.sample.setEnc) (.ite (.next h.setEnc.setEnc.bumpFld) (.next h.setEnc.encStart)))

theorem keeps_execEncSerialDone {n : Fin 32} {bits : List Bool} (h : Canon s) : Keeps (execEncSerialDone n bits s) := by
  unfold execEncSerialDone
  dsimp only
  split
  · exact .next h
  · exact .ite (.next h) (.next (Canon.setEnc (.ite h.bumpFld h)).setReg.sample)

theorem keeps_execVlUplinkFrame {n : Fin 48} {body : List Byte} {cut : Bool} {errs : Nat} (h : Canon s) :
    Keeps (execVlUplinkFrame n body cut errs s) :=
  .ite (.next h) (.ite (.next h.bumpBy.bump) (.next h.bumpBy.uplink))

theorem keeps_execVlRxUp {n : Fin 48} {errs : Nat} (h : Canon s) : Keeps (execVlRxUp n errs s) :=
  .ite (.next h.bumpBy.setFld) (.next h)

theorem keeps_execVlDown {n : Fin 48} {errs : Nat} (h : Canon s) : Keeps (execVlDown n errs s) :=
  .ite (.next h.bumpBy.setFld.raise) (.next h)

theorem keeps_execVlWatchdog {n : Fin 48} (h : Canon s) : Keeps (execVlWatchdog n s) :=
  .ite (.next h.setFld.raise.setSrc) (.next h)

theorem keeps_execGpioEdge {k : Fin 32} {level : Bool} (h : Canon s) : Keeps (execGpioEdge k level s) :=
  .ite (.next h) (.next (Canon.gpioSource (.ite h.pinTaken.setReg.sample h.pinTaken.setReg)))

theorem Canon.supplySeen {k : Nat} (h : Canon s) : Canon (s.supplySeen k) :=
  h.others

theorem keeps_execIoSupply {k : Fin 22} (h : Canon s) : Keeps (execIoSupply k s) :=
  .ite (.next h.supplySeen.setFld.raise) (.next h)

theorem keeps_execIoSupplyOk {k : Fin 22} (h : Canon s) : Keeps (execIoSupplyOk k s) :=
  .ite (.next h.supplySeen.setFld) (.next h)

theorem Canon.streamDisableCmd {c : Cmd} {first n : Nat} {go : State → State} (h : Canon s) (hgo : ∀ u, Canon u → Canon (go u))
    : Canon (s.streamDisableCmd c first n go) := by
  unfold State.streamDisableCmd
  split
  · exact h.badParam
  · exact .ite h.reply (hgo _ h)

theorem keeps_execStreamDisableDrain {c : Cmd} {first n timeout : Nat} (h : Canon s) :
    Keeps (execStreamDisableDrain c first n timeout s) :=
  .next (h.runCmd fun _ h => h.streamDisableCmd fun _ h => (Canon.await (.foldl h fun _ _ h => h.modStream)).streamDrains)

theorem Canon.streamAbort {n : Nat} (h : Canon s) : Canon (s.streamAbort n) :=
  Canon.setFld (.ite (.ite h.setStream h.setStream.endProducer) (Canon.endProducer (.ite h.setStream h.setStream.endProducer)))

theorem keeps_execStreamDisableAbort {c : Cmd} {first n timeout : Nat} (h : Canon s) :
    Keeps (execStreamDisableAbort c first n timeout s) :=
  .next (h.runCmd fun _ h => h.streamDisableCmd fun _ h => Canon.reply (.foldl h.interim.finishWhere fun _ _ h =>
    h.streamAbort))

/-! ### Commands of field outputs (R372 to R387) -/

theorem Canon.carStop {c : Nat} (h : Canon s) : Canon (s.carStop c) :=
  .foldl (.foldl h fun _ _ h => h.modGate) fun _ _ h => h.refreshPair

theorem Canon.periodGate {g : Nat} (h : Canon s) : Canon (s.periodGate g) := by
  unfold State.periodGate
  exact h.modGate.modGate

theorem keeps_execCarrierPeriodStart {c : Fin 32} (h : Canon s) : Keeps (execCarrierPeriodStart c s) := by
  unfold execCarrierPeriodStart
  dsimp only
  split
  · exact .next h
  · exact .ite (.next h) (.next (.foldl (.foldl h.setCar fun _ _ h => h.periodGate) fun _ _ h' => h'.refreshPair))

theorem keeps_execPwmLevelChange {g : Fin 512} (h : Canon s) : Keeps (execPwmLevelChange g s) := by
  unfold execPwmLevelChange
  dsimp only
  split
  · exact .next h
  · exact .ite (.next h) (.next h.modGate.refreshPair)

theorem keeps_execPwmMidPeriodUpdate {g : Fin 512} (h : Canon s) : Keeps (execPwmMidPeriodUpdate g s) := by
  unfold execPwmMidPeriodUpdate
  dsimp only
  split
  · exact .ite (.next h.modGate.modGate.refreshPair) (.next h)
  · exact .next h

theorem keeps_execGateEdgeHoldEnd {g : Fin 512} (h : Canon s) : Keeps (execGateEdgeHoldEnd g s) := by
  unfold execGateEdgeHoldEnd
  split
  · exact .ite (.next h.refreshPair) (.next h)
  · exact .next h

theorem keeps_execVlFrameDelayed {l : Fin 48} (h : Canon s) : Keeps (execVlFrameDelayed l s) := by
  unfold execVlFrameDelayed
  dsimp only
  split
  · exact .next h
  · exact .ite (.next h) (.next h.modVl.vlSend.bump.raiseOnce)

theorem keeps_execVlSafeRepeat {l : Fin 48} (h : Canon s) : Keeps (execVlSafeRepeat l s) :=
  .ite (.next h.modVl.vlSend) (.next h)

theorem keeps_execSafePolChange {v : BitVec 16} (h : Canon s) : Keeps (execSafePolChange v s) :=
  .ite (.next h) (.next h.others.refreshGates)

end Sys2Proof
end

section
/-! PROOFS. The table invariant (Canon) through the host side: rings, ports, views, trip commands and links. -/

namespace Sys2Proof

open Sys2Proof.Machine

set_option Elab.async false

variable {s : State}

/-! ### Rings, views, host queue ports (R440 to R463) -/

theorem Canon.setRing {v : Nat} {x : RingSt} (h : Canon s) : Canon (s.setRing v x) :=
  { h with rings := twf_tput h.rings }

theorem Canon.modRing {v : Nat} {f : RingSt → RingSt} (h : Canon s) : Canon (s.modRing v f) :=
  h.setRing

theorem Canon.ringFault {v code : Nat} (h : Canon s) : Canon (s.ringFault v code) :=
  h.setFld.raise

theorem Canon.resetRing {v : Nat} (h : Canon s) : Canon (s.resetRing v) :=
  h.setFld.setReg.setReg.setReg.modRing.others

theorem Canon.takePacket {v : ViewNo} {l : List Byte} (h : Canon s) : Canon (s.takePacket v l) := by
  unfold State.takePacket
  dsimp only
  split
  · exact h.setReg.bump.others.bump.reply
  · split
    · exact h.setReg.bump.others.badParam
    · exact h.setReg.bump.others.others

theorem Canon.signalRing {v : Nat} (h : Canon s) : Canon (s.signalRing v) :=
  h.others.modRing

theorem Canon.putReply {v : Nat} {r : Reply} (h : Canon s) : Canon (s.putReply v r) :=
  .ite h.putHost.setReg.modRing.signalRing h.putHost.setReg.modRing

theorem Canon.setOwner {kind i v : Nat} (h : Canon s) : Canon (s.setOwner kind i v) :=
  { h with owners := twf_tput h.owners }

theorem Canon.setOwners {kind first n v : Nat} (h : Canon s) : Canon (s.setOwners kind first n v) :=
  .foldl h fun _ _ h => h.setOwner

theorem Canon.revokeDone {kind first n : Nat} (h : Canon s) : Canon (s.revokeDone kind first n) :=
  Canon.setOwners (.ite (.foldl h fun _ _ h => h.endProducer) h)

theorem Canon.settleRevokes (h : Canon s) : Canon s.settleRevokes := by
  refine .foldl h fun _ _ h => ?_
  split
  · exact .ite h h.revokeDone.others.reply
  · exact h

theorem Canon.setHport {p : Nat} {x : HPort} (h : Canon s) : Canon (s.setHport p x) :=
  { h with hports := twf_tput h.hports }

theorem Canon.modHport {p : Nat} {f : HPort → HPort} (h : Canon s) : Canon (s.modHport p f) :=
  h.setHport

theorem Canon.pendEdge {old : State} {p : Nat} (h : Canon s) : Canon (s.pendEdge old p) :=
  .ite h.others h

theorem Canon.hqOverrun {p : Nat} (h : Canon s) : Canon (s.hqOverrun p) :=
  .ite h.modHport.bump.raise h.modHport.bump

theorem Canon.hqPush {p : Nat} {w : Word} {sop eop psn : Bool} (h : Canon s) : Canon (s.hqPush p w sop eop psn) :=
  .ite h.hqOverrun h.setHport

theorem Canon.hqDone {p status : Nat} (h : Canon s) : Canon (s.hqDone p status) :=
  h.setFld.modHport.finish

theorem Canon.hqSettle {p : Nat} (h : Canon s) : Canon (s.hqSettle p) :=
  .ite h.hqDone h

theorem Canon.hqAbort {p : Nat} (h : Canon s) : Canon (s.hqAbort p) :=
  Canon.hqDone (.ite h.modHport.endConsumer h.modHport.endProducer)

theorem Canon.releaseLocks {p : Nat → Bool} (h : Canon s) : Canon (s.releaseLocks p) := by
  refine .foldl h fun _ _ h => ?_
  split
  · exact .ite h.endProducer h
  · exact h

/-! ### Commands of the trip matrix (R399 to R407) -/

theorem keeps_execRaise {t : TileNo} {src : Fin 64} {set : Bool} (h : Canon s) : Keeps (execRaise t src set s) :=
  keeps_seqStep h fun _ _ h => .ite h.seqFault h.setSrc.advance

theorem keeps_execTripPinEdge {n : LineNo} {low : Bool} (h : Canon s) : Keeps (execTripPinEdge n low s) :=
  .ite (.next h.others) (.ite (.next h) (.next h.others.pinTaken.setSrc))

theorem keeps_execTripSafeInput {high : Bool} (h : Canon s) : Keeps (execTripSafeInput high s) :=
  .ite (.next h) (.next h.pinTaken.setSrc)

theorem Canon.maskWrite {n w v : Nat} (h : Canon s) : Canon (s.maskWrite n w v) :=
  h.setReg.latchLine.sendFrames

theorem keeps_execTrpMaskWrite {view : ViewNo} {n : LineNo} {w : Fin 32} {v : Word} (h : Canon s) :
    Keeps (execTrpMaskWrite view n w v s) :=
  .ite (.next h) (.next h.maskWrite)

theorem Canon.tripClearCmd {c : Cmd} {lines : Nat} (h : Canon s) : Canon (s.tripClearCmd c lines) :=
  .ite h.badParam h.others.waitCmd.sendFrames

theorem keeps_execTripClear {c : Cmd} {lines : Nat} (h : Canon s) : Keeps (execTripClear c lines s) :=
  .next (h.runCmd fun _ h => h.tripClearCmd)

theorem Canon.clearLine {n : Nat} (h : Canon s) : Canon (s.clearLine n) :=
  .foldl h.setReg.raise fun _ _ h => .ite h.refreshBank h

theorem Canon.refuseLine {n : Nat} (h : Canon s) : Canon (s.refuseLine n) :=
  h.raise

theorem Canon.settled {lines l : Nat} (h : Canon s) : Canon (s.settled lines l) :=
  (Canon.sendFrames (.foldl (.foldl h fun _ _ h => h.clearLine) fun _ _ h => h.refuseLine)).finishFirst

theorem keeps_execTripClearSettle {lines : Fin 4096} (h : Canon s) : Keeps (execTripClearSettle lines s) := by
  unfold execTripClearSettle
  dsimp only
  split
  · exact .next h
  · exact .ite (.next h) (.next h.others.settled)

theorem Canon.tripForceCmd {c : Cmd} {lines : Nat} (h : Canon s) : Canon (s.tripForceCmd c lines) :=
  .ite h.badParam (Canon.sendFrames (.foldl h.seeSrc fun _ _ h => h.latchLine)).reply

theorem keeps_execTripForce {c : Cmd} {lines : Nat} (h : Canon s) : Keeps (execTripForce c lines s) :=
  .next (h.runCmd fun _ h => h.tripForceCmd)

theorem Canon.tripStatusCmd {c : Cmd} {lines : Nat} (h : Canon s) : Canon (s.tripStatusCmd c lines) :=
  .ite h.badParam h.reply

theorem keeps_execTripStatus {c : Cmd} {lines : Nat} (h : Canon s) : Keeps (execTripStatus c lines s) :=
  .next (h.runCmd fun _ h => h.tripStatusCmd)

theorem Canon.tripSnapshotCmd {c : Cmd} {line : Nat} (h : Canon s) : Canon (s.tripSnapshotCmd c line) :=
  .ite h.badParam h.reply

theorem keeps_execTripSnapshot {c : Cmd} {line : Nat} (h : Canon s) : Keeps (execTripSnapshot c line s) :=
  .next (h.runCmd fun _ h => h.tripSnapshotCmd)

theorem keeps_execTripFrameRepeat {m : LinkNo} (h : Canon s) : Keeps (execTripFrameRepeat m s) :=
  .ite (.next h.sendFrame) (.next h)

theorem Canon.frameSources {m bits : Nat} (h : Canon s) : Canon (s.frameSources m bits) :=
  h.setSrcs

theorem Canon.takeFrame {m bits : Nat} (h : Canon s) : Canon (s.takeFrame m bits) :=
  .ite h (.ite h.setFld h.setFld.frameSources)

theorem keeps_execTripFrameReceive {m : LinkNo} {bits : BitVec 12} (h : Canon s) : Keeps (execTripFrameReceive m bits s) :=
  .next h.takeFrame

theorem Canon.kick (h : Canon s) : Canon s.kick :=
  h.others.setSrc

theorem keeps_execHostWatchdogKick {view : ViewNo} {_v : Word} (h : Canon s) : Keeps (execHostWatchdogKick view _v s) :=
  .ite (.next h) (.next h.kick)

theorem keeps_execHostWatchdog (h : Canon s) : Keeps (execHostWatchdog s) :=
  .ite (.next h.setSrc.raise) (.next h)

theorem keeps_execKeeperWatchdog (h : Canon s) : Keeps (execKeeperWatchdog s) :=
  .ite (.next h) (.next h.setSrc.raise)

theorem keeps_execKeeperWatchdogService (h : Canon s) : Keeps (execKeeperWatchdogService s) :=
  .next h.others.setSrc

/-! ### Links (R510 to R518) -/

theorem Canon.putLinkState {m st : Nat} (h : Canon s) : Canon (s.putLinkState m st) :=
  .ite h.setFld.modLink h.setFld.modLink.others

theorem Canon.cutProducer {q : Nat} {a : Agent} (h : Canon s) : Canon (s.cutProducer q a) :=
  .ite h (Canon.modQueue (.ite h.modQueue (.ite h h.truncate.qEval)))

theorem Canon.cutChannels {m : Nat} (h : Canon s) : Canon (s.cutChannels m) := by
  refine .foldl h fun _ _ h => ?_
  split
  · exact .ite h.cutProducer h
  · exact h

theorem Canon.retime (h : Canon s) : Canon s.retime := by
  have hp : Canon (match s.timeParent with
      | some p => ((s.setFld tepParent 0 p.1).setFld tepParv 0 1).setFld tepHops 0 (min 15 (p.2.2 + 1))
      | none => s.setFld tepParv 0 0) := by
    split
    · exact h.setFld.setFld.setFld
    · exact h.setFld
  exact .ite h (.ite hp hp.setLock)

theorem Canon.settleJoins (h : Canon s) : Canon s.settleJoins := by
  refine .foldl h fun _ _ h => ?_
  split
  · exact .ite h h.others.reply
  · exact h

theorem Canon.endWork {m : Nat} (h : Canon s) : Canon (s.endWork m) :=
  h.cutChannels.setSrcs.modLink.retime.settleJoins

theorem Canon.toLinkState {m st : Nat} (h : Canon s) : Canon (s.toLinkState m st) :=
  .ite (Canon.raise (.ite h.modLink.putLinkState.endWork h.modLink.putLinkState)) (.ite h.modLink.putLinkState.endWork
    h.modLink.putLinkState)

theorem Canon.disableLink {m : Nat} (h : Canon s) : Canon (s.disableLink m) := by
  unfold State.disableLink
  exact h.setFld.toLinkState.modLink

theorem Canon.settleLinks (h : Canon s) : Canon s.settleLinks :=
  .foldl h fun _ _ h => .ite h.disableLink.finish h

theorem Canon.abortLink {m : Nat} (h : Canon s) : Canon (s.abortLink m) :=
  h.finish.disableLink

theorem Canon.alkCtlWrite {m v : Nat} (h : Canon s) : Canon (s.alkCtlWrite m v) :=
  .ite (.ite (Canon.abortLink (.ite h h.setFld)) (.ite h h.setFld)) (.ite (.ite h h.setFld) (Canon.setFld (.ite h
    h.setFld)).toLinkState)

theorem Canon.mashEvent {m row : Nat} {r : MashRec} (h : Canon s) : Canon (s.mashEvent m row r) := by
  unfold State.mashEvent
  dsimp only
  split
  · exact h
  · exact h.raise

theorem Canon.showPeer {m row : Nat} {r : MashRec} (h : Canon s) : Canon (s.showPeer m row r) := by
  unfold State.showPeer
  exact h.setFld.setFld.setReg.setReg.modLink

theorem Canon.mashIn {m : Nat} {r : MashRec} {held : Bool} (h : Canon s) : Canon (s.mashIn m r held) :=
  .ite h.toLinkState h.showPeer.mashEvent.toLinkState.settleJoins

theorem Canon.sendSys {ssdn hops : Nat} {p : Pkt} {x : Nat × State} (h : Canon s) (e : s.sendSys ssdn hops p = some x) :
    Canon x.2 := by
  unfold State.sendSys at e
  split at e
  · cases e
  · obtain ⟨m, -, rfl⟩ := Option.map_eq_some_iff.1 e
    exact h.others

theorem Canon.sysAnswer {sdn : Nat} {p : Pkt} (h : Canon s) : Canon (s.sysAnswer sdn p) := by
  unfold State.sysAnswer
  split
  · next e => exact h.sendSys e
  · exact h.noRouteDrop

theorem Canon.xchFail {x status : Nat} (h : Canon s) : Canon (s.xchFail x status) :=
  .ite h h.dropBy.setFld.setFld.raise

theorem Canon.sysDone {q : SysReq} {status : Nat} (h : Canon s) : Canon (s.sysDone q status) :=
  Canon.settleLinks (.ite h.others h.others.xchFail)

theorem Canon.sysArrive {sdn : Nat} {p : Pkt} (h : Canon s) : Canon (s.sysArrive sdn p) := by
  unfold State.sysArrive
  split
  · exact h.bump
  · exact h.sysDone

theorem Canon.enterProxy {m sdn : Nat} {p : Pkt} {tag node : Nat} (h : Canon s) : Canon (s.enterProxy m sdn p tag node) :=
  Canon.inject (.ite h h.modLink)

theorem Canon.proxyAnswer {m : Nat} {p : Pkt} (h : Canon s) : Canon (s.proxyAnswer m p) := by
  unfold State.proxyAnswer
  dsimp only
  split
  · exact h.bump
  · exact .ite h.modLink (.ite h.modLink.sysArrive h.modLink.sysAnswer)

theorem Canon.proxyResend {m : Nat} {x : Proxy} (h : Canon s) : Canon (s.proxyResend m x) :=
  h.modLink.inject

theorem Canon.enterLocal {m sdn : Nat} {p : Pkt} (h : Canon s) : Canon (s.enterLocal m sdn p) := by
  unfold State.enterLocal
  dsimp only
  split
  · exact h
  · split
    · exact h
    · split
      · exact h.enterProxy
      · exact .ite h.noRouteDrop (.ite h.sysArrive h.sysAnswer)

theorem Canon.transit {sdn hops : Nat} {p : Pkt} (h : Canon s) : Canon (s.transit sdn hops p) := by
  unfold State.transit
  split
  · next e => exact h.sendSys e
  · exact .ite h.sysAnswer h.noRouteDrop

/-! ### Commands of rings, views, ports and the window (R440 to R465) -/

theorem Canon.doorbell {v n : Nat} (h : Canon s) : Canon (s.doorbell v n) :=
  .ite h.modRing.ringFault h.modRing

theorem keeps_execRingDoorbell {v : ViewNo} {w : Word} (h : Canon s) : Keeps (execRingDoorbell v w s) :=
  .next h.doorbell

theorem Canon.ringCfg {v w : Nat} (h : Canon s) : Canon (s.ringCfg v w) := by
  have hz : Canon (if s.ringOpen v then
      (s.setFld ringLog2n v (max 4 (min 12 (bits w 19 16)))).modRing v fun x => { x with sized := true }
    else s) := .ite h.setFld.modRing h
  exact .ite (.ite hz.setFld.releaseLocks hz) (.ite hz hz.setFld.setReg.setReg.setReg.setFld.modRing)

theorem keeps_execRingEnable {v : ViewNo} {w : Word} (h : Canon s) : Keeps (execRingEnable v w s) :=
  .ite (.next h.ringCfg) (.next h)

theorem keeps_execRingDisable {v : ViewNo} {w : Word} (h : Canon s) : Keeps (execRingDisable v w s) :=
  .ite (.next h) (.next h.ringCfg)

theorem keeps_execCommandFetch {v : ViewNo} {slot : List Byte} {fails : Bool} (h : Canon s) :
    Keeps (execCommandFetch v slot fails s) :=
  .ite (.next h) (.ite (.next h.ringFault) (.next h.takePacket))

theorem keeps_execReplyWrite {v : ViewNo} {fails : Bool} (h : Canon s) : Keeps (execReplyWrite v fails s) := by
  unfold execReplyWrite
  dsimp only
  split
  · exact .next h
  · exact .next (.ite h.others.ringFault.settleRevokes h.others.putReply.settleRevokes)

theorem keeps_execMsixCoalesceTimeout {v : ViewNo} (h : Canon s) : Keeps (execMsixCoalesceTimeout v s) :=
  .ite (.next h.signalRing) (.next h)

theorem Canon.resetPorts {p : Nat → Bool} (h : Canon s) : Canon (s.resetPorts p) :=
  .foldl h fun _ _ h => h.hqAbort.pendEdge

theorem Canon.hostReset {p : Nat → Bool} (h : Canon s) : Canon (s.hostReset p) :=
  (Canon.resetPorts (.foldl h fun _ _ h => h.resetRing)).releaseLocks.settleRevokes

theorem keeps_execPcieReset (h : Canon s) : Keeps (execPcieReset s) :=
  .next h.hostReset

theorem keeps_execVfFlr {v : ViewNo} (h : Canon s) : Keeps (execVfFlr v s) :=
  .ite (.next h) (.next h.hostReset)

theorem keeps_execDevInfo {c : Cmd} (h : Canon s) : Keeps (execDevInfo c s) :=
  .next (h.runCmd fun _ h => h.reply)

theorem keeps_execNop {c : Cmd} {data : List Byte} (h : Canon s) : Keeps (execNop c data s) :=
  .next (h.runCmd fun _ h => .ite h.badParam h.reply)

theorem Canon.viewCmd {c : Cmd} {op kind first n most : Nat} {busy : Bool} {body : State → State} (h : Canon s) (hbody : ∀ u,
    Canon u → Canon (body u)) : Canon (s.viewCmd c op kind first n most busy body) :=
  .ite h.badParam (.ite h.badParam (.ite h.reply (.ite h.badParam (.ite h.badParam (hbody _ h)))))

theorem keeps_execViewGrant {c : Cmd} {kind first n view : Nat} (h : Canon s) : Keeps (execViewGrant c kind first n view s) :=
  .ite (.next h) (.next (h.runCmd fun _ h => .ite h.badParam (.ite h.badParam (.ite h.badParam (h.viewCmd fun _ h =>
    h.setOwners.reply)))))

theorem keeps_execViewRevoke {c : Cmd} {kind first n : Nat} (h : Canon s) : Keeps (execViewRevoke c kind first n s) :=
  .next (h.runCmd fun _ h => h.viewCmd fun _ h => h.waitCmd.settleRevokes)

theorem keeps_execViewTable {c : Cmd} {kind first n : Nat} (h : Canon s) : Keeps (execViewTable c kind first n s) :=
  .next (h.runCmd fun _ h => h.viewCmd fun _ h => h.reply)

theorem keeps_execGuardDoorbell {c : Cmd} {t g : Nat} (h : Canon s) : Keeps (execGuardDoorbell c t g s) :=
  .next (h.runCmd fun _ h => .ite h.badParam (.ite h.badParam (.ite h.badParam (.ite h.reply (.ite h.reply h.notice.reply)))))

theorem keeps_execHostqBind {c : Cmd} {p q dir view : Nat} (h : Canon s) : Keeps (execHostqBind c p q dir view s) :=
  .next (h.runCmd fun _ h => .ite h.badParam (.ite h.badParam (.ite h.badParam (.ite h.badParam (.ite h.reply (.ite h.badParam
    h.setReg.modHport.pendEdge.reply))))))

theorem Canon.hostqCmd {c : Cmd} {p : Nat} {body : State → State} (h : Canon s) (hbody : ∀ u, Canon u → Canon (body u)) :
    Canon (s.hostqCmd c p body) :=
  .ite h.badParam (.ite h.reply (.ite h.reply (hbody _ h)))

theorem keeps_execHostqDisableDrain {c : Cmd} {p timeout : Nat} (h : Canon s) : Keeps (execHostqDisableDrain c p timeout s) :=
  .next (h.runCmd fun _ h => h.hostqCmd fun _ h => h.await.modHport.hqSettle)

theorem keeps_execHostqDisableAbort {c : Cmd} {p timeout : Nat} (h : Canon s) : Keeps (execHostqDisableAbort c p timeout s) :=
  .next (h.runCmd fun _ h => h.hostqCmd fun _ h => h.interim.hqAbort.pendEdge.reply)

theorem Canon.hqWrite {p off : Nat} {w : Word} (h : Canon s) : Canon (s.hqWrite p off w) :=
  .ite h.modHport.pendEdge (.ite h.hqPush (.ite h.hqPush h))

theorem keeps_execHqPushWrite {p : Fin 64} {view : ViewNo} {off : BitVec 12} {ws : List Word} {whole : Bool} (h : Canon s) :
    Keeps (execHqPushWrite p view off ws whole s) :=
  .ite (.next h) (.ite (.next (.ite h.hqOverrun h)) (.next (.foldl h fun _ _ h => h.hqWrite)))

theorem Canon.portPush {p q : Nat} (h : Canon s) : Canon (s.portPush p q) := by
  unfold State.portPush
  split
  · exact h
  · exact .ite h.pushWord.modHport h.pushWord

theorem Canon.portPop {p q : Nat} (h : Canon s) : Canon (s.portPop p q) := by
  refine .ite h ?_
  split
  · exact h
  · next e => exact (h.popWord e).modHport

theorem keeps_execHqPortTransfer {p : Fin 64} (h : Canon s) : Keeps (execHqPortTransfer p s) :=
  .ite (.next h) (.next (Canon.pendEdge (.ite h.portPop h.portPush)).hqSettle)

theorem keeps_execHqPopRead {p : Fin 64} {view : ViewNo} {off : BitVec 12} {wide : Bool} (h : Canon s) :
    Keeps (execHqPopRead p view off wide s) :=
  .ite (.next h) (.ite (.next h.modHport) (.ite (.next h.modHport.pendEdge.hqSettle) (.next h)))

theorem keeps_execHmwSet {c : Cmd} {seg en fn : Nat} {addr : DWord} (h : Canon s) : Keeps (execHmwSet c seg en fn addr s) :=
  .next (h.runCmd fun _ h => .ite h.badParam (.ite h.badParam (.ite h.badParam (.ite h.badParam h.setReg.reply))))

theorem Canon.hmwFail {p : Pkt} (h : Canon s) : Canon (s.hmwFail p) := by
  have hr := h.rsp (node := 32) (p := p) (status := stNoRoute) (result := 0)
  exact .ite hr (Canon.raise { hr with hmwAt := twf_tput hr.hmwAt })

theorem keeps_execHmwCompletion {p : Pkt} {res : Fin 3} {data : List Byte} (h : Canon s) :
    Keeps (execHmwCompletion p res data s) := by
  have hw : Canon { s with hmw := s.hmw.erase p } := h.others
  unfold execHmwCompletion
  refine .ite (.next h) (.ite (.next hw.rsp) (.ite (.next hw.hmwFail) (.ite (.next hw.dat)
    (.next (Canon.rsp (.foldl hw fun u x hu => ?_))))))
  dsimp only
  split
  · exact hu.putHost
  · exact hu

/-! ### Commands of links (R510 to R516, R536) -/

theorem keeps_execLinkEnable {m : LinkNo} {v : Word} (h : Canon s) : Keeps (execLinkEnable m v s) :=
  .ite (.next h.alkCtlWrite) (.next h)

theorem keeps_execLinkTrained {m : LinkNo} {ok : Bool} (h : Canon s) : Keeps (execLinkTrained m ok s) :=
  .ite (.next h) (.ite (.next h.putLinkState) (.next h.toLinkState))

theorem keeps_execLinkRetry {m : LinkNo} (h : Canon s) : Keeps (execLinkRetry m s) :=
  .ite (.next h.toLinkState) (.next h)

theorem keeps_execLinkReplay {m : LinkNo} (h : Canon s) : Keeps (execLinkReplay m s) :=
  .ite (.next h.bump.bump) (.next h)

theorem keeps_execLinkRetrain {m : LinkNo} (h : Canon s) : Keeps (execLinkRetrain m s) :=
  .ite (.next h) (.next h.bump.putLinkState.modLink)

theorem keeps_execLinkDown {m : LinkNo} (h : Canon s) : Keeps (execLinkDown m s) :=
  .ite (.next h.toLinkState) (.next h)

theorem keeps_execLinkEqStep {m : LinkNo} {k : Fin 4} {tx up : Bool} (h : Canon s) : Keeps (execLinkEqStep m k tx up s) :=
  .ite (.next h) (.next h.modLink)

theorem keeps_execSideSlotReceive {m : LinkNo} {slot : BitVec 80} (h : Canon s) : Keeps (execSideSlotReceive m slot s) :=
  .ite (.next h) (.ite (.next h.bump) (.next (.ite h.modLink.takeFrame h.modLink)))

theorem keeps_execMashRecordReceive {m : LinkNo} {r : MashRec} {held : Bool} (h : Canon s) :
    Keeps (execMashRecordReceive m r held s) :=
  .ite (.next h.mashIn) (.next h)

theorem keeps_execGatewayPacketEntry {m : LinkNo} {p : Pkt} {src : BitVec 12} {hops : Fin 64} (h : Canon s) :
    Keeps (execGatewayPacketEntry m p src hops s) :=
  .ite (.next h) (.ite (.next h.transit) (.ite (.next h.sysArrive) (.next h.enterLocal)))

theorem keeps_execSysRequestTimeout {id : Nat} (h : Canon s) : Keeps (execSysRequestTimeout id s) := by
  unfold execSysRequestTimeout
  dsimp only
  split
  · exact .next h
  · exact .next (Canon.sysDone (.ite h.bump h.bump.others.raise))

theorem Canon.sendPush {x tag : Nat} {w : QWord} (h : Canon s) : Canon (s.sendPush x tag w) := by
  have hn : Canon { s with nextSys := s.nextSys + 1 } := h.others
  refine .ite hn.others.enterLocal ?_
  split
  · next e => exact (hn.sendSys e).others
  · exact hn.xchFail

theorem keeps_execXchPush {m : LinkNo} {k : Fin 16} (h : Canon s) : Keeps (execXchPush m k s) := by
  refine .ite (.next h) ?_
  split
  · next e _ => exact .next (h.popWord e).sendPush
  · exact .next h

theorem keeps_execLinkStatus {c : Cmd} {l : Nat} (h : Canon s) : Keeps (execLinkStatus c l s) :=
  .next (h.runCmd fun _ h => .ite h.badParam h.reply)

theorem keeps_execLinkDisableDrain {c : Cmd} {l timeout : Nat} (h : Canon s) : Keeps (execLinkDisableDrain c l timeout s) :=
  .next (h.runCmd fun _ h => .ite h.badParam (.ite h.reply h.await.modLink.settleLinks))

theorem keeps_execLinkDisableAbort {c : Cmd} {l timeout : Nat} (h : Canon s) : Keeps (execLinkDisableAbort c l timeout s) :=
  .next (h.runCmd fun _ h => .ite h.badParam (.ite h.reply h.interim.abortLink.reply))

theorem keeps_execMashStatus {c : Cmd} (h : Canon s) : Keeps (execMashStatus c s) :=
  .next (h.runCmd fun _ h => h.reply)

theorem Canon.copyGrt {a b : Nat} (h : Canon s) : Canon (s.copyGrt a b) :=
  .foldl h fun _ _ h => h.setReg

theorem Canon.writeGrt {b : Nat} {l : List (Nat × Nat × Nat)} (h : Canon s) : Canon (s.writeGrt b l) :=
  .foldl h fun _ _ h => h.setReg

theorem Canon.commitGrt {l : List (Nat × Nat × Nat)} (h : Canon s) : Canon (s.commitGrt l) :=
  h.copyGrt.writeGrt.setFld

theorem keeps_execSysRoute {c : Cmd} {changes : List (Nat × Nat × Nat)} (h : Canon s) : Keeps (execSysRoute c changes s) := by
  refine .next (h.runCmd fun _ h => .ite h.badParam ?_)
  split
  · exact h.badParam
  · exact .ite h.reply h.commitGrt.commitGrt.reply

theorem Canon.sendForward {c : Cmd} {op : Nat} (h : Canon s) : Canon (s.sendForward c op) :=
  .ite h.unfetch.badParam (.ite h.unfetch.reply (.ite h.unfetch.reply (.ite h.unfetch.reply h.unfetch.await)))

theorem Canon.forwardBack {c : Cmd} {op : Nat} {back : Option (Nat × List Byte)} (h : Canon s) :
    Canon (s.forwardBack c op back) := by
  unfold State.forwardBack
  dsimp only
  split
  · exact h.others.reply
  · exact h

theorem keeps_execForwardedCommand {c : Cmd} {op : Nat} {params : List Byte} {back : Option (Nat × List Byte)} (h : Canon s) :
    Keeps (execForwardedCommand c op params back s) :=
  .ite (.next h) (.ite (.next h.forwardBack) (.ite (.next h) (.next h.sendForward.forwardBack)))

theorem keeps_execForwardTimeout {ring : ViewNo} {tag : Word} (h : Canon s) : Keeps (execForwardTimeout ring tag s) := by
  unfold execForwardTimeout
  dsimp only
  split
  · exact .next h
  · exact .next h.others.reply

theorem Canon.takeForwarded {c : Cmd} {op : Nat} {params : List Byte} (h : Canon s) : Canon (s.takeForwarded c op params) := by
  unfold State.takeForwarded
  split
  · exact h.reply
  · split
    · exact h.badParam
    · exact h.others

theorem keeps_execManagementCommandReceive {m : LinkNo} {c : Cmd} {op : Nat} {params : List Byte} (h : Canon s) :
    Keeps (execManagementCommandReceive m c op params s) :=
  .ite (.next h) (.next h.takeForwarded)

end Sys2Proof
end

section
/-! PROOFS. The table invariant (Canon) through queue commands, systems of devices, register accesses, packets at their node and floor power. -/

namespace Sys2Proof

open Sys2Proof.Machine

set_option Elab.async false

variable {s : State}

/-! ### Commands of queues (R257 to R259) -/

theorem keeps_execBankSwap {q : QueueNo} (h : Canon s) : Keeps (execBankSwap q s) :=
  .ite (.next h.swap) (.next h)

theorem keeps_execTruncationWordStore {q : QueueNo} (h : Canon s) : Keeps (execTruncationWordStore q s) :=
  .ite (.next h.storeTrunc) (.next h)

theorem Canon.cfgFields {view q v : Nat} (h : Canon s) : Canon (s.cfgFields view q v) :=
  Canon.setReg (.ite h.bump h)

theorem Canon.drainQueue {q : Nat} (h : Canon s) : Canon (s.drainQueue q) :=
  .ite h.setFld h

theorem keeps_execQueCfgEnableWrite {view : ViewNo} {q : QueueNo} {v : DWord} (h : Canon s) :
    Keeps (execQueCfgEnableWrite view q v s) :=
  .ite (.next h.cfgFields.enableQueue) (.next h)

theorem keeps_execQueCfgDisableWrite {view : ViewNo} {q : QueueNo} {v : DWord} (h : Canon s) :
    Keeps (execQueCfgDisableWrite view q v s) :=
  .ite (.next h.cfgFields.drainQueue) (.next h)

theorem keeps_execCmdpathLockTimeout {q : QueueNo} (h : Canon s) : Keeps (execCmdpathLockTimeout q s) := by
  unfold execCmdpathLockTimeout
  split
  · exact .ite (.next h.endProducer) (.next h)
  · exact .next h

theorem keeps_execQueueDrainDone {q : QueueNo} (h : Canon s) : Keeps (execQueueDrainDone q s) :=
  .ite (.next h.closeQueue.finish) (.next h)

theorem keeps_execPushPortStore {f : FloorNo} {k : Fin 16} (h : Canon s) : Keeps (execPushPortStore f k s) := by
  unfold execPushPortStore
  dsimp only
  split
  · exact .next h
  · split
    · exact .next h
    · exact .ite (.next h.pushWord.serve.modFloor) (.next h.pushWord)

theorem keeps_execPopPortOffer {f : FloorNo} {k : Fin 16} (h : Canon s) : Keeps (execPopPortOffer f k s) := by
  refine .ite (.next h) ?_
  split
  · exact .next h
  · next e => exact .next (h.popWord e).setHeld

theorem Canon.queueCmd {c : Cmd} {op q : Nat} {body : State → State} (h : Canon s) (hbody : ∀ u, Canon u → Canon (body u)) :
    Canon (s.queueCmd c op q body) :=
  .ite h.badParam (.ite h.reply (.ite h.reply (hbody _ h)))

theorem Canon.pushWords {q : Nat} {a : Agent} {l : List (Word × Byte)} (h : Canon s) : Canon (s.pushWords q a l).2 := by
  induction l generalizing s with
  | nil => exact h
  | cons w l ih => exact .ite_snd (ih h.pushWord) h.pushWord

theorem Canon.queuePushCmd {c : Cmd} {q : Nat} {l : List (Word × Byte)} (h : Canon s) : Canon (s.queuePushCmd c q l) :=
  .ite h.reply (Canon.reply (.ite h.pushWords h.pushWords.modQueue))

theorem keeps_execQueuePush {c : Cmd} {q : Nat} {words : List Word} {tags : List Byte} (h : Canon s) :
    Keeps (execQueuePush c q words tags s) :=
  .next (h.runCmd fun _ h => .ite h.badParam (h.queueCmd fun _ h => h.queuePushCmd))

theorem Canon.popWords {q : Nat} {a : Agent} {n : Nat} (h : Canon s) : Canon (s.popWords q a n).2 := by
  induction n generalizing s with
  | zero => exact h
  | succ n ih =>
    unfold State.popWords
    split
    · exact h
    · next e => exact .ite_snd (h.popWord e) (ih (h.popWord e))

theorem Canon.queuePopCmd {c : Cmd} {q n : Nat} (h : Canon s) : Canon (s.queuePopCmd c q n) :=
  .ite h.popWords.reply h.popWords.reply

theorem keeps_execQueuePop {c : Cmd} {q n : Nat} (h : Canon s) : Keeps (execQueuePop c q n s) :=
  .next (h.runCmd fun _ h => .ite h.badParam (h.queueCmd fun _ h => h.queuePopCmd))

theorem keeps_execQueueDrop {c : Cmd} {q : Nat} (h : Canon s) : Keeps (execQueueDrop c q s) :=
  .next (h.runCmd fun _ h => h.queueCmd fun _ h => h.dropBy.reply)

theorem keeps_execQueueFlush {c : Cmd} {q : Nat} (h : Canon s) : Keeps (execQueueFlush c q s) :=
  .next (h.runCmd fun _ h => h.queueCmd fun _ h => h.flush.reply)

theorem keeps_execQueueDisableDrain {c : Cmd} {q timeout : Nat} (h : Canon s) : Keeps (execQueueDisableDrain c q timeout s) :=
  .next (h.runCmd fun _ h => h.queueCmd fun _ h => .ite h.reply h.drainQueue.await)

theorem keeps_execQueueDisableAbort {c : Cmd} {q timeout : Nat} (h : Canon s) : Keeps (execQueueDisableAbort c q timeout s) :=
  .next (h.runCmd fun _ h => h.queueCmd fun _ h => .ite h.reply h.interim.finish.abortQueue.reply)

theorem keeps_execQueueStatus {c : Cmd} {q : Nat} (h : Canon s) : Keeps (execQueueStatus c q s) :=
  .next (h.runCmd fun _ h => h.queueCmd fun _ h => h.reply)

/-! ### Membership and twin mode (R519 to R530) -/

theorem keeps_execTimeServiceExchange {m : LinkNo} {delay off : Word} {hops : Fin 16} (h : Canon s) :
    Keeps (execTimeServiceExchange m delay off hops s) :=
  .ite (.next h) (.ite (.next (.ite h.setReg.modLink.retime.setReg.steer.setLock h.setReg.modLink.retime.setReg.steer)) (.next
    h.setReg.modLink.retime))

theorem keeps_execSystemLockLoss (h : Canon s) : Keeps (execSystemLockLoss s) :=
  .ite (.next h.setLock) (.next h)

theorem Canon.setMaster {sdn ecnt : Nat} {pinned : Bool} (h : Canon s) : Canon (s.setMaster sdn ecnt pinned) := by
  have own {u : State} (hu : Canon u) : Canon (if sdn = u.fld sysSdn 0 then u.setFld tepHops 0 0 else u) := .ite hu.setFld hu
  exact .ite (own h.setFld.setFld.setFld.setFld) (own h.setFld.setFld.setFld.setFld).raise

theorem keeps_execTimeMaster {sdn : BitVec 12} {ecnt : BitVec 16} {pinned : Bool} (h : Canon s) :
    Keeps (execTimeMaster sdn ecnt pinned s) :=
  .ite (.next h.setMaster) (.next h)

theorem keeps_execTimePin {c : Cmd} {sdn : Nat} {cap : Bool} (h : Canon s) : Keeps (execTimePin c sdn cap s) :=
  .next (h.runCmd fun _ h => .ite (Canon.reply (.others (.ite h.setFld h))) (.ite h.badParam (Canon.reply (.ite h.others
    h.others.setMaster))))

theorem Canon.joinCmd {c : Cmd} {epoch links align : Nat} (h : Canon s) : Canon (s.joinCmd c epoch links align) :=
  .ite h.reply (Canon.await (.foldl (Canon.setReg (.ite h.timeSet.setFld.sourceWritten h)) fun _ _ h => .ite h.modLink
    h)).settleJoins

theorem keeps_execJoin {c : Cmd} {epoch : Word} {links align : Nat} (h : Canon s) : Keeps (execJoin c epoch links align s) :=
  .next (h.runCmd fun _ h => .ite h.badParam (.ite h.badParam h.joinCmd))

theorem Canon.withAdcs {m : Tbl AdcSt} (h : Canon s) (hm : twf .init m = true) : Canon { s with adcs := m } :=
  { h with adcs := hm }

theorem Canon.leaveStandby (h : Canon s) : Canon s.leaveStandby :=
  (h.withAdcs (twf_foldl_tput h.adcs)).others

theorem Canon.setRole {mode : Nat} {act : Bool} (h : Canon s) : Canon (s.setRole mode act) := by
  unfold State.setRole
  exact .ite h.setFld.setFld (Canon.refreshGates (.ite h.setFld.setFld.others h.setFld.setFld.others.leaveStandby))

theorem Canon.demote (h : Canon s) : Canon s.demote :=
  h.setRole.bump.others.raise

theorem Canon.twinSet {mode role link batch hbovr : Nat} (h : Canon s) : Canon (s.twinSet mode role link batch hbovr) :=
  h.setReg.setFld.setFld.others.setRole

theorem keeps_execTwinCtl {c : Cmd} {mode role link batch hbovr : Nat} (h : Canon s) :
    Keeps (execTwinCtl c mode role link batch hbovr s) := by
  refine .ite (.next h) (.next (h.runCmd fun _ h => .ite h.badParam (.ite h.badParam (.ite h.badParam (.ite h.badParam (.ite
    h.badParam ?_))))))
  split
  · exact h.reply
  · exact h.twinSet.reply

theorem Canon.noteBeat {seen : Bool} (h : Canon s) : Canon (s.noteBeat seen) :=
  .ite h.setFld.setFld (.ite h.bumpFld.raise h.bumpFld)

theorem keeps_execTwinHbCheck {seen : Bool} (h : Canon s) : Keeps (execTwinHbCheck seen s) := by
  unfold execTwinHbCheck
  dsimp only
  split
  · exact .next h
  · exact .ite (.next h.noteBeat.others) (.ite (.ite (.next h.noteBeat.others.others) (.next h.noteBeat.others)) (.ite (.next
      h.noteBeat.others.demote) (.next h.noteBeat.others)))

theorem keeps_execTwinTakeover (h : Canon s) : Keeps (execTwinTakeover s) :=
  .ite (.next h.others.setRole.bump.raise) (.next h)

theorem keeps_execTwinDualActive (h : Canon s) : Keeps (execTwinDualActive s) :=
  .ite (.next h.demote.setFld.setFld) (.next h)

theorem keeps_execTwinActInput {high : Bool} (h : Canon s) : Keeps (execTwinActInput high s) :=
  .next (.ite h.others.setRole h.others)

/-! ### Register accesses (R14 to R18) -/

theorem Canon.clearRead {r : Reg} {i m : Nat} (h : Canon s) : Canon (s.clearRead r i m) :=
  .ite h h.setReg.rearm

theorem Canon.readReg {r : Reg} {i m : Nat} (h : Canon s) : Canon (s.readReg r i m).2 :=
  h.clearRead

theorem Canon.storeReg {r : Reg} {i m v : Nat} (h : Canon s) : Canon (s.storeReg r i m v) :=
  h.setReg

theorem Canon.clampFld {f : Fld} {i lo hi : Nat} (h : Canon s) : Canon (s.clampFld f i lo hi) :=
  .ite h.setFld (.ite h.setFld h)

theorem Canon.faultWrite {m v : Nat} (h : Canon s) : Canon (s.faultWrite m v) :=
  h.storeReg

theorem Canon.syscfgWrite {m v : Nat} (h : Canon s) : Canon (s.syscfgWrite m v) :=
  .ite h h.storeReg.clampFld

theorem Canon.baseWrite {r : Reg} {i m v : Nat} (h : Canon s) : Canon (s.baseWrite r i m v) :=
  .ite h.storeReg h

theorem Canon.devWrite {r : Reg} {i m v : Nat} (h : Canon s) : Canon (s.devWrite r i m v) := by
  unfold State.devWrite
  split
  · exact h.faultWrite
  · exact h.syscfgWrite
  · exact h.baseWrite
  · exact h.baseWrite
  · exact h.ringCfg
  · exact h.doorbell
  · exact h.storeReg.clampFld
  · exact h.flipCtlWrite
  · exact h.tailWrite
  · exact h.storeReg.clampFld
  · exact h.alkCtlWrite
  · exact h.storeReg

theorem Canon.tmbCtlWrite {m v : Nat} (h : Canon s) : Canon (s.tmbCtlWrite m v) :=
  .ite h.storeReg.sourceWritten h.storeReg.sourceWritten.others

theorem Canon.batchWrite {r : Reg} {b m v : Nat} (h : Canon s) : Canon (s.batchWrite r b m v) :=
  .ite h h.storeReg

theorem Canon.laneWrite {l m v : Nat} (h : Canon s) : Canon (s.laneWrite l m v) := by
  have switched {u : State} {c d : Prop} [Decidable c] [Decidable d] (hu : Canon u) :
      Canon (if c then u.laneOff l else if d then u.laneOn l else u) := .ite hu.laneOff (.ite hu.laneOn hu)
  have skipped {u : State} {c : Prop} [Decidable c] (hu : Canon u) : Canon (if c then u else u.skipPast (fun _ => true) l) :=
    .ite hu hu.skipPast
  exact (skipped (switched h.storeReg.clampFld)).setSrc.refreshMsrc

theorem Canon.portRestart {p : Nat} (h : Canon s) : Canon (s.portRestart p) :=
  .ite h.setFld.setRport h.setFld

theorem Canon.portWrite {p m v : Nat} (h : Canon s) : Canon (s.portWrite p m v) :=
  .ite h.storeReg.portRestart h.storeReg

theorem Canon.safewWrite {l m v : Nat} (h : Canon s) : Canon (s.safewWrite l m v) :=
  .ite h (.ite h.storeReg.laneToSafe h.storeReg)

theorem Canon.timeWrite {r : Reg} {i m v : Nat} (h : Canon s) : Canon (s.timeWrite r i m v) := by
  unfold State.timeWrite
  split
  · exact h.tmbCtlWrite
  · exact h.storeReg.clampFld
  · exact h.batchWrite
  · exact h.batchWrite
  · exact h.batchWrite
  · exact h.bctlWrite
  · exact h.laneWrite
  · exact h.portWrite
  · exact h.safewWrite
  · exact h.devWrite

theorem Canon.hostWdWrite {m v : Nat} (h : Canon s) : Canon (s.hostWdWrite m v) :=
  .ite h.storeReg.clampFld.others h.storeReg.clampFld

theorem Canon.vlinkWrite {l m v : Nat} (h : Canon s) : Canon (s.vlinkWrite l m v) :=
  .ite h.storeReg.vlHold h.storeReg

theorem Canon.routeWrite {r : Reg} {i bank m v : Nat} {active : Fld} (h : Canon s) : Canon (s.routeWrite r i bank m v active) :=
  .ite h.bump h.storeReg

theorem Canon.tripWrite {r : Reg} {i m v : Nat} (h : Canon s) : Canon (s.tripWrite r i m v) := by
  unfold State.tripWrite
  split
  · exact h.storeReg.clampFld
  · exact h.hostWdWrite
  · exact h.kick
  · exact h.storeReg.relatch
  · exact h.storeReg.refreshBank
  · exact h.vlinkWrite
  · exact h.storeReg.sendFrames
  · exact h.maskWrite
  · exact h.storeReg.clampFld
  · exact h.statCtlWrite
  · exact h.storeReg.clampFld
  · exact h.routeWrite
  · exact h.routeWrite
  · exact h.timeWrite

theorem Canon.mclkWrite {c m v : Nat} (h : Canon s) : Canon (s.mclkWrite c m v) :=
  .ite (.foldl h.storeReg.setFld.clampFld.others fun _ _ h => .ite h.setSd h) h.storeReg.setFld.clampFld

theorem Canon.sdWrite {i m v : Nat} (h : Canon s) : Canon (s.sdWrite i m v) :=
  .ite h.storeReg.clampFld.setSd.setFld (.ite h.storeReg.clampFld.setSd h.storeReg.clampFld)

theorem Canon.sdthWrite {i m v : Nat} (h : Canon s) : Canon (s.sdthWrite i m v) :=
  .ite h.storeReg.clampFld.sdFastOff h.storeReg.clampFld

theorem Canon.adcWrite {p m v : Nat} (h : Canon s) : Canon (s.adcWrite p m v) := by
  have hl : Canon (if s.flag adcEn p then s else s.setAdc p { s.adc p with lost := false }) := .ite h h.setAdc
  exact .ite hl.storeReg.clampFld (.ite hl.storeReg.clampFld.setFld hl.storeReg.clampFld.setFld.setFld)

theorem Canon.cnvWrite {p m v : Nat} (h : Canon s) : Canon (s.cnvWrite p m v) :=
  .ite h.storeReg.clampFld.clampFld { h.storeReg.clampFld.clampFld with adcs := twf_tput h.storeReg.clampFld.clampFld.adcs }

theorem Canon.carWrite {c m v : Nat} (h : Canon s) : Canon (s.carWrite c m v) :=
  .ite h.storeReg.clampFld (.ite h.storeReg.clampFld.carRealign.carStop h.storeReg.clampFld.carRealign)

theorem Canon.vlcfgWrite {l m v : Nat} (h : Canon s) : Canon (s.vlcfgWrite l m v) :=
  .ite (Canon.modVl (.ite h.storeReg.clampFld h.storeReg.clampFld.setFld)) (.ite h.storeReg.clampFld h.storeReg.clampFld.setFld)

theorem Canon.fieldWrite {r : Reg} {i m v : Nat} (h : Canon s) : Canon (s.fieldWrite r i m v) := by
  unfold State.fieldWrite
  split
  · exact h.mclkWrite
  · exact h.sdWrite
  · exact h.sdthWrite
  · exact h.adcWrite
  · exact h.cnvWrite
  · exact h.storeReg.clampFld.clampFld
  · exact h.storeReg.clampFld
  · exact h.storeReg.refreshBank
  · exact h.carWrite
  · exact h.vlcfgWrite
  · exact h.storeReg.gpioSource
  · exact h.tripWrite

theorem Canon.queCfgWrite {view q m v : Nat} (h : Canon s) : Canon (s.queCfgWrite view q m v) :=
  .ite h.cfgFields.enableQueue h.cfgFields.drainQueue

theorem Canon.kpairWrite {i m v : Nat} (h : Canon s) : Canon (s.kpairWrite i m v) :=
  h.setReg.setReg

theorem Canon.writeReg {view : Nat} {r : Reg} {i m v : Nat} (h : Canon s) : Canon (s.writeReg view r i m v) := by
  unfold State.writeReg
  split
  · exact h.queCfgWrite
  · exact h.storeReg.qEval
  · exact h.storeReg.qEval
  · exact h.storeReg.clampFld
  · exact .ite h h.storeReg
  · exact h.kpairWrite
  · exact h.fieldWrite

theorem Canon.writeUnit {view a : Nat} {wide : Bool} {v : Nat} (h : Canon s) : Canon (s.writeUnit view a wide v) := by
  unfold State.writeUnit
  split
  · exact h
  · exact h.writeReg

theorem Canon.readUnit {a : Nat} {wide : Bool} (h : Canon s) : Canon (s.readUnit a wide).2 := by
  unfold State.readUnit
  split
  · exact h
  · exact h.readReg

/-! ### RD, WR and CFGWR at their node (R294 to R305) -/

theorem Canon.readStore {p : Pkt} {t off n : Nat} (h : Canon s) : Canon (s.readStore p t off n) :=
  Canon.dat (.ite { h.noteRead with sharers := twf_tput h.noteRead.sharers } h.noteRead)

theorem Canon.readPoolAt {p : Pkt} {f off : Nat} (h : Canon s) : Canon (s.readPoolAt p f off) :=
  h.readPool.dat

theorem Canon.toHost {p : Pkt} (h : Canon s) : Canon (s.toHost p) :=
  h.others

theorem Canon.serveRead {p : Pkt} (h : Canon s) : Canon (s.serveRead p) := by
  unfold State.serveRead
  dsimp only
  split
  · exact h.readStore
  · exact h.readPoolAt
  · exact h.dat
  · exact h.readUnit.dat
  · exact h.toHost
  · exact h
  · exact h

theorem keeps_execPktRd {p : Pkt} (h : Canon s) : Keeps (execPktRd p s) := by
  unfold execPktRd
  dsimp only
  split
  · split
    · exact .next h.takePkt.rsp
    · exact .next h.takePkt.serveRead
  · exact .next h

theorem Canon.writeStorePkt {p : Pkt} {t off : Nat} (h : Canon s) : Canon (s.writeStorePkt p t off) :=
  .ite h.writeStore.rsp h.writeStore.modTile

theorem Canon.writePoolAt {p : Pkt} {f off : Nat} (h : Canon s) : Canon (s.writePoolAt p f off) :=
  h.setPool.rsp

theorem Canon.writeDescAt {p : Pkt} {f off : Nat} (h : Canon s) : Canon (s.writeDescAt p f off) :=
  Canon.rsp (.ite h.descWrite h)

theorem Canon.writeRegAt {p : Pkt} (h : Canon s) : Canon (s.writeRegAt p) :=
  .ite h.writeUnit.rsp h.rsp

theorem Canon.serveWrite {p : Pkt} (h : Canon s) : Canon (s.serveWrite p) := by
  unfold State.serveWrite
  split
  · exact h.writeStorePkt
  · exact h.writePoolAt
  · exact h.writeDescAt
  · exact h.writeRegAt
  · exact h.toHost
  · exact h
  · exact h

theorem keeps_execPktWr {p : Pkt} (h : Canon s) : Keeps (execPktWr p s) := by
  unfold execPktWr
  dsimp only
  split
  · split
    · exact .next h.takePkt.rsp
    · exact .next h.takePkt.serveWrite
  · exact .next h

theorem Canon.putCfs {a : Nat} {l : List Byte} (h : Canon s) : Canon (s.putCfs a l) :=
  { h with cfs := twf_foldl_tput h.cfs }

theorem keeps_execPktCfgwr {p : Pkt} (h : Canon s) : Keeps (execPktCfgwr p s) :=
  .ite (.ite (.next h.takePkt.rsp) (.ite (.next h.takePkt.rsp) (.next h.takePkt.putCfs.rsp))) (.next h)

theorem keeps_execParkFullResend {i : Fin 560} {tag : Nat} (h : Canon s) : Keeps (execParkFullResend i tag s) := by
  unfold execParkFullResend
  split
  · split
    · exact .next h.resend
    · exact .next h
  · split
    · split
      · exact .next h.proxyResend
      · exact .next h
    · exact .next h

theorem keeps_execResponseArrival {p : Pkt} (h : Canon s) : Keeps (execResponseArrival p s) :=
  .ite (.ite (.next h.takePkt.countAnswer.tileAnswer) (.ite (.next h.takePkt.countAnswer.hubAnswer) (.ite (.next
    h.takePkt.countAnswer.proxyAnswer) (.next h.takePkt.countAnswer)))) (.next h)

/-! ### Floors off and on (R315 to R318) -/

theorem keeps_execFloorPowerOffDrain {c : Cmd} {f timeout : Nat} (h : Canon s) : Keeps (execFloorPowerOffDrain c f timeout s) :=
  .next (h.runCmd fun _ h => .ite h.badParam (.ite h.reply (.ite h.badParam h.await.fence)))

theorem keeps_execFloorPowerOffAbort {c : Cmd} {f timeout : Nat} (h : Canon s) : Keeps (execFloorPowerOffAbort c f timeout s) :=
  .next (h.runCmd fun _ h => .ite h.badParam (.ite h.finish.await.modFloor (.ite h.reply (.ite h.badParam h.await.fence))))

theorem Canon.setSlots {f st : Nat} (h : Canon s) : Canon (s.setSlots f st) :=
  .foldl h fun _ _ h => h.setSstate

theorem Canon.becomeDrained {f : Nat} (h : Canon s) : Canon (s.becomeDrained f) :=
  .ite h.setFld.holdFloor.setSlots h.setFld

theorem keeps_execFloorDrained {f : FloorNo} (h : Canon s) : Keeps (execFloorDrained f s) :=
  .ite (.next h.becomeDrained) (.next h)

theorem keeps_execFloorDrainTimeout {f : FloorNo} (h : Canon s) : Keeps (execFloorDrainTimeout f s) :=
  .ite (.next h.drainAbort.becomeDrained) (.next h)

theorem keeps_execFloorOff {f : FloorNo} (h : Canon s) : Keeps (execFloorOff f s) :=
  .ite (.next h.powerOff.finish) (.next h)

theorem keeps_execFloorPowerOn {c : Cmd} {f : Nat} (h : Canon s) : Keeps (execFloorPowerOn c f s) :=
  .next (h.runCmd fun _ h => .ite h.badParam (.ite h.reply h.await.setFld.setCode))

theorem keeps_execFloorPowerOnDone {f : FloorNo} {ok : Bool} {clo : Fin 51} {lost : BitVec 16} (h : Canon s) :
    Keeps (execFloorPowerOnDone f ok clo lost s) :=
  .ite (.next (.ite h.initFloorMem.calibrated.setFld.holdCode.finish h.initFloorMem.calibrated.setFld.setFld.finish)) (.next h)

end Sys2Proof
end

section
/-! PROOFS. The table invariant (Canon) through image loads, freezing, the grader, reset and boot, and the timebase. -/

namespace Sys2Proof

open Sys2Proof.Machine

set_option Elab.async false

variable {s : State}

/-! ### Frames written (R481 to R484) -/

theorem Canon.imageUnit {a : Nat} {wide : Bool} {v : Nat} (h : Canon s) : Canon (s.imageUnit a wide v) := by
  unfold State.imageUnit
  dsimp only
  split
  · exact h
  · exact .ite h.writeReg h.setReg

theorem Canon.regFrameWrite {g : Frame} (h : Canon s) : Canon (s.regFrameWrite g) :=
  .foldl h fun _ _ h => h.imageUnit

theorem Canon.constByte {a : Nat} {b : Byte} (h : Canon s) : Canon (s.constByte a b) :=
  .ite (.ite h.setReg h.setReg) h

theorem Canon.cfsFrameWrite {g : Frame} (h : Canon s) : Canon (s.cfsFrameWrite g) :=
  .foldl h.putCfs fun _ _ h => h.constByte

theorem Canon.storeFrameWrite {g : Frame} (h : Canon s) : Canon (s.storeFrameWrite g) :=
  .foldl h fun _ _ h => h.writeStore

theorem Canon.descFrameWrite {g : Frame} (h : Canon s) : Canon (s.descFrameWrite g) :=
  .foldl h fun _ _ h => .ite h.descWrite h

theorem Canon.writeFrame {g : Frame} (h : Canon s) : Canon (s.writeFrame g) := by
  unfold State.writeFrame
  split
  · exact h.storeFrameWrite
  · exact h.descFrameWrite
  · exact h.cfsFrameWrite
  · exact h.regFrameWrite
  · exact h
  · exact h
  · exact h

theorem Canon.writeFrames {l : List Frame} (h : Canon s) : Canon (s.writeFrames l) :=
  .foldl h fun _ _ h => h.writeFrame

/-! ### Floor and guard images (R484, R490) -/

theorem Canon.blankFloor {f : Nat} (h : Canon s) : Canon (s.blankFloor f) := by
  have hw : Canon { s.wipeFrames f with
      moved := (s.wipeFrames f).moved.filter fun p => p.1 / 128 ≠ f
      turns := (s.wipeFrames f).turns.filter fun p => p.1 / 16 ≠ f } :=
    { h.wipeFrames with turns := twf_filter h.turns, moved := twf_filter h.moved }
  exact .foldl hw fun _ _ h => .foldl (.foldl h.setReg.setReg fun _ _ h => h.setReg.setReg) fun _ _ h =>
    h.setReg.setReg.setReg.setReg

theorem Canon.placeFloor {f : Nat} {l : List Frame} (h : Canon s) : Canon (s.placeFloor f l) :=
  h.blankFloor.writeFrames

theorem Canon.initCells {t k : Nat} (h : Canon s) : Canon (s.initCells t k) :=
  .foldl h fun _ _ h => h.setCell

theorem Canon.readySlot {t k entry : Nat} {pf : Bool} (h : Canon s) : Canon (s.readySlot t k entry pf) :=
  h.modSlot.initSlot.setSstate.setReg.initCells

theorem Canon.vacateSlot {t k : Nat} (h : Canon s) : Canon (s.vacateSlot t k) :=
  h.setReg.modSlot (by exact fun _ _ => rfl)

theorem Canon.readySlots {f : Nat} (h : Canon s) : Canon (s.readySlots f) :=
  .foldl h fun _ _ h => Canon.modTile (.foldl h fun _ _ h => .ite h.vacateSlot h.readySlot)

theorem Canon.spares {f : Nat} (h : Canon s) : Canon (s.spares f) :=
  .foldl h fun _ _ h' => .ite h' h'.setReg

theorem Canon.autoFail {floor entry status : Nat} (h : Canon s) : Canon (s.autoFail floor entry status) :=
  h.raise

theorem Canon.autoEnd {code : Nat} (h : Canon s) : Canon (s.autoEnd code) :=
  h.others.setFld

theorem Canon.autoStep {floor entry status next : Nat} (h : Canon s) : Canon (s.autoStep floor entry status next) :=
  .ite (Canon.autoEnd (.ite h h.autoFail)) (.others (.ite h h.autoFail))

theorem Canon.loadManifest {m : List Byte} {fails : Bool} (h : Canon s) : Canon (s.loadManifest m fails).2 :=
  .ite_snd h (.ite_snd h h.others.setReg.bump)

theorem Canon.guardFrame1 {g : Frame} (h : Canon s) : Canon (s.guardFrame1 g) := by
  refine .foldl h fun _ _ h => .ite ?_ h.imageUnit
  split
  · exact h.storeReg
  · exact h

theorem Canon.guardFrames {l : List Frame} (h : Canon s) : Canon (s.guardFrames l) :=
  (Canon.clampFld (.foldl h fun _ _ h => .ite h.cfsFrameWrite h.guardFrame1)).clampFld

theorem Canon.guardActs {old : State} (h : Canon s) : Canon (s.guardActs old) := by
  have kicked {u : State} {c : Prop} [Decidable c] (hu : Canon u) :
      Canon (if c then { u with trip := { u.trip with kick := u.tim.clk } } else u) := .ite hu.others hu
  exact (Canon.foldl (.foldl (.foldl (kicked (.foldl h.others fun _ _ h => h.setFld)) fun _ _ h => .ite h.vlHold h)
    fun _ _ h => .ite h.showSrc h) fun _ _ h => h.relatch).refreshGates.sendFrames

theorem Canon.loadGuard {img : List Byte} {fails : Bool} (h : Canon s) : Canon (s.loadGuard img fails).2.2 := by
  unfold State.loadGuard
  dsimp only
  split
  · exact .ite h.setFld h.setFld.setFld
  · exact h.guardFrames.guardActs.others.setFld.setFld.setFld.bump

/-! ### Loads (R480 to R491, R502; R145 to R149) -/

theorem Canon.imageTurn {c : Cmd} {kind floor src entry : Nat} {params : List Byte} {body : State → State} (h : Canon s)
    (hbody : ∀ u, Canon u → Canon (body u)) : Canon (s.imageTurn c kind floor src entry params body) := by
  unfold State.imageTurn
  split
  · refine .ite (.ite h (hbody _ h.others)) (h.runCmd fun u hu => ?_)
    split
    · exact hu.badParam
    · exact .ite hu.reply hu.await
  · refine h.runCmd fun u hu => ?_
    split
    · exact hu.badParam
    · exact .ite hu.reply (.ite hu.await (hbody _ hu.interim))

theorem keeps_execImageLoadManifest {c : Cmd} {floor src entry : Nat} {a : DWord} {len : Nat} {img : List Byte} {fails : Bool}
    (h : Canon s) : Keeps (execImageLoadManifest c floor src entry a len img fails s) :=
  .next (h.imageTurn fun _ h => h.loadManifest.reply)

theorem keeps_execImageLoadGuard {c : Cmd} {floor src entry : Nat} {a : DWord} {len : Nat} {img : List Byte} {fails : Bool} (h
    : Canon s) : Keeps (execImageLoadGuard c floor src entry a len img fails s) :=
  .next (h.imageTurn fun _ h => h.loadGuard.reply)

theorem Canon.startLoad {c : Option Cmd} {f entry len : Nat} (h : Canon s) : Canon (s.startLoad c f entry len) :=
  h.setFrz.setFld.others

theorem keeps_execImageLoadFloor {c : Cmd} {floor src entry : Nat} {a : DWord} {len : Nat} (h : Canon s) :
    Keeps (execImageLoadFloor c floor src entry a len s) := by
  refine .next (h.imageTurn fun _ h => ?_)
  split
  · exact h.reply
  · exact .ite h.badParam h.waitCmd.startLoad

theorem Canon.endLoad {x : LoadSt} {st : Nat} {data : List Byte} (h : Canon s) : Canon (s.endLoad x st data) := by
  unfold State.endLoad
  dsimp only
  split
  · exact Canon.finish (.ite h.others.setFld.setReg.bump h.others.setFld.setReg)
  · exact Canon.autoStep (.ite h.others.setFld.setReg.bump h.others.setFld.setReg)

theorem keeps_execLoadPass1Done {img : List Byte} {fails : Bool} (h : Canon s) : Keeps (execLoadPass1Done img fails s) := by
  unfold execLoadPass1Done
  dsimp only
  split
  · exact .next h
  · split
    · exact .next h
    · split
      · exact .next h.setFld.endLoad
      · exact .next (.others (.foldl h.fence fun _ _ h => h.portRestart))

theorem Canon.loadFailed {x : LoadSt} {m : List Byte} {cause : Nat} (h : Canon s) : Canon (s.loadFailed x m cause) :=
  (Canon.noImage (.foldl h.placeFloor fun _ _ h => .foldl h fun _ _ h => h.vacateSlot)).setFld.modFloor.setFld.raise.endLoad

theorem Canon.loadOpen {x : LoadSt} {l : List Frame} (h : Canon s) : Canon (s.loadOpen x l) :=
  h.placeFloor.readySlots.spares.setFld.modFloor.setFld.setFld.others.settleForks.endLoad

theorem keeps_execLoadPass2Done {img : List Byte} {fails : Bool} (h : Canon s) : Keeps (execLoadPass2Done img fails s) := by
  unfold execLoadPass2Done
  dsimp only
  split
  · exact .next h
  · split
    · exact .next h
    · split
      · exact .next h.loadFailed
      · split
        · exact .next h.loadFailed
        · split
          · exact .next h.loadOpen
          · exact .next h.loadFailed

theorem keeps_execAutoload {kind : Fin 4} {floor : FloorNo} {entry : Fin 63} {img : List Byte} {fails : Bool} (h : Canon s) :
    Keeps (execAutoload kind floor entry img fails s) := by
  unfold execAutoload
  dsimp only
  split
  · exact .next h
  · split
    · exact .next h.loadManifest.autoStep
    · split
      · exact .next h.loadGuard.autoStep
      · split
        · split
          · exact .next h.autoStep
          · exact .next h.startLoad
        · exact .ite (.next h.autoEnd) (.next h)

theorem keeps_execLoadStatus {c : Cmd} {f : Nat} (h : Canon s) : Keeps (execLoadStatus c f s) :=
  .next (h.runCmd fun _ h => .ite h.fresh64.reply (.ite h.badParam h.reply))

theorem keeps_execManifestRead {c : Cmd} {off len : Nat} (h : Canon s) : Keeps (execManifestRead c off len s) :=
  .next (h.runCmd fun _ h => .ite h.badParam (.ite h.badParam (.ite h.badParam (.ite h.reply h.reply))))

theorem Canon.staged {t src a len : Nat} {img : List Byte} {fails : Bool} (h : Canon s) :
    Canon (s.staged t src a len img fails).2.2 := by
  unfold State.staged
  split
  · exact h.noteRead
  · exact h

theorem Canon.blankSlot {t k : Nat} (h : Canon s) : Canon (s.blankSlot t k) :=
  Canon.setReg (.foldl { h with cfs := twf_filter h.cfs } fun _ _ h => h.setReg.setReg)

theorem Canon.placeSlot {t k : Nat} {l : List Frame} (h : Canon s) : Canon (s.placeSlot t k l) :=
  h.blankSlot.writeFrames

theorem Canon.placeLoading {t : Nat} (h : Canon s) : Canon (s.placeLoading t) :=
  .foldl h fun _ _ h => h.placeSlot

theorem Canon.dropSlotTokens {t k : Nat} (h : Canon s) : Canon (s.dropSlotTokens t k) :=
  { h with cells := twf_filter h.cells, stages := twf_filter h.stages }

theorem Canon.slotLoadCmd {c : Cmd} {t k src a len : Nat} {img : List Byte} {fails : Bool} (h : Canon s) :
    Canon (s.slotLoadCmd c t k src a len img fails) := by
  unfold State.slotLoadCmd
  dsimp only
  split
  · exact h.reply
  · split
    · exact h.reply
    · split
      · exact h.staged.reply
      · split
        · exact h.staged.reply
        · exact h.staged.await.dropSlotTokens.setSstate.endAgent.modTile

theorem keeps_execSlotLoad {c : Cmd} {t k src a len : Nat} {img : List Byte} {fails : Bool} (h : Canon s) :
    Keeps (execSlotLoad c t k src a len img fails s) := by
  refine .next (h.runCmd fun _ h => ?_)
  split
  · exact h.badParam
  · exact h.slotLoadCmd

theorem Canon.slotLoaded {t k : Nat} {img : List Byte} (h : Canon s) : Canon (s.slotLoaded t k img) :=
  h.placeSlot.setFld.readySlot.modTile.settleForks

theorem keeps_execSlotLoadDone {t : TileNo} {k : SlotNo} (h : Canon s) : Keeps (execSlotLoadDone t k s) := by
  unfold execSlotLoadDone
  dsimp only
  split
  · exact .next h
  · exact .next h.modTile.slotLoaded.finish

/-! ### Freezing, read-back, the test port (R492 to R499) -/

theorem Canon.startFreeze {f : Nat} {batch : Option Nat} (h : Canon s) : Canon (s.startFreeze f batch) := by
  unfold State.startFreeze
  dsimp only
  split
  · split
    · exact h
    · exact h.setFrz
  · exact h.setFrz.setFld

theorem keeps_execFloorFreeze {c : Cmd} {f b imm timeout : Nat} (h : Canon s) :
    Keeps (execFloorFreeze c f b imm timeout s) := by
  refine .next (h.runCmd fun _ h => .ite h.badParam (.ite h.badParam (.ite h.reply ?_)))
  split
  · exact h.reply
  · exact h.startFreeze.waitCmd

theorem keeps_execFreezeTakeEffect {f : FloorNo} (h : Canon s) : Keeps (execFreezeTakeEffect f s) :=
  .ite (.next h.setFrz.setFld.finish) (.next h)

theorem Canon.withdrawFreeze {f : Nat} (h : Canon s) : Canon (s.withdrawFreeze f) :=
  h.setFld.setFrz

theorem keeps_execFreezeTimeout {f : FloorNo} (h : Canon s) : Keeps (execFreezeTimeout f s) :=
  .ite (.ite (.next h) (.next (.ite (.foldl h.others fun _ _ h => h.reply) (Canon.withdrawFreeze (.foldl h.others fun _ _ h =>
    h.reply))))) (.next h)

theorem Canon.thaw {f : Nat} (h : Canon s) : Canon (s.thaw f) :=
  .ite h.withdrawFreeze (.ite h.withdrawFreeze.finish h)

theorem keeps_execFloorThaw {c : Cmd} {f : Nat} (h : Canon s) : Keeps (execFloorThaw c f s) :=
  .next (h.runCmd fun _ h => .ite h.badParam h.thaw.reply)

theorem keeps_execReadback {c : Cmd} {a len : Nat} (h : Canon s) : Keeps (execReadback c a len s) :=
  .next (h.runCmd fun _ h => .ite h.badParam (.ite h.badParam (.ite h.reply h.reply)))

theorem keeps_execCfgdata (h : Canon s) : Keeps (execCfgdata s) :=
  .ite (.next h.others) (.next h)

theorem keeps_execCfgaddr {a : LocalAddr} (h : Canon s) : Keeps (execCfgaddr a s) :=
  .ite (.next h.others) (.next h)

theorem keeps_execFrzctl {v : BitVec 8} (h : Canon s) : Keeps (execFrzctl v s) :=
  .ite (.next h) (.ite (.next h.thaw) (.ite (.next h) (.next h.startFreeze)))

theorem keeps_execFusepgm {v : BitVec 400} (h : Canon s) : Keeps (execFusepgm v s) :=
  .ite (.next h.others) (.next h)

theorem keeps_execExtest {pins : Option (List (Nat × Bool))} (h : Canon s) : Keeps (execExtest pins s) :=
  .ite (.next h.others) (.next h)

/-! ### The grader (R77 to R82) -/

theorem Canon.popItem {q : Nat} {a : Agent} {n : Nat} (h : Canon s) : Canon (s.popItem q a n).2 := by
  induction n generalizing s with
  | zero => exact h
  | succ n ih =>
    have hw : Canon (if s.swapReady q then s.swap q else s) := .ite h.swap h
    unfold State.popItem
    dsimp only
    split
    · exact hw
    · next e => exact .ite_snd (hw.popWord e) (ih (hw.popWord e))

theorem Canon.startJob {f j : Nat} (h : Canon s) : Canon (s.startJob f j) := by
  unfold State.startJob
  dsimp only
  refine (Canon.setFld ?_).setFld.modFloor
  split
  · exact (Canon.setFld (.ite h.popItem.setFld h.popItem)).raise
  · exact .ite h.popItem.setFld h.popItem

theorem keeps_execGraderJobStart {f : FloorNo} (h : Canon s) : Keeps (execGraderJobStart f s) := by
  unfold execGraderJobStart
  split
  · exact .next h
  · split
    · exact .next h
    · exact .next h.startJob

theorem Canon.pushOut {q : Nat} {a : Agent} {l : List QWord} (h : Canon s) : Canon (s.pushOut q a l).2 := by
  induction l generalizing s with
  | nil => exact h
  | cons w l ih => exact .ite_snd (ih h.pushWord) h.pushWord

theorem keeps_execGraderJobDone {f : FloorNo} (h : Canon s) : Keeps (execGraderJobDone f s) := by
  unfold execGraderJobDone
  dsimp only
  split
  · exact .next h
  · exact .ite (.next h.pushOut.fresh64.setFld.setFld.bump.setReg.modFloor) (.next h.pushOut.modFloor)

/-! ### REG_READ and REG_WRITE (R15, R457) -/

theorem keeps_execRegisterWrite {view : ViewNo} {a : LocalAddr} {wide : Bool} {v : DWord} (h : Canon s) :
    Keeps (execRegisterWrite view a wide v s) :=
  .ite (.next h) (.ite (.next h) (.next h.writeUnit))

theorem Canon.regCmd {c : Cmd} {op a n : Nat} {write : Bool} {body : State → State} (h : Canon s) (hbody : ∀ u, Canon u → Canon
    (body u)) : Canon (s.regCmd c op a n write body) := by
  unfold State.regCmd
  dsimp only
  split
  · exact h.badParam
  · exact .ite h.reply (.ite h.reply (hbody _ h))

theorem Canon.readUnits {l : List (Nat × Bool)} (h : Canon s) : Canon (s.readUnits l).2 :=
  .foldl_snd h fun _ _ hp => hp.readUnit

theorem keeps_execRegRead {c : Cmd} {a n : Nat} (h : Canon s) : Keeps (execRegRead c a n s) :=
  .next (h.runCmd fun _ h => .ite h.badParam (h.regCmd fun _ h => h.readUnits.reply))

theorem Canon.writeUnits {view a : Nat} {l : List (Nat × Bool)} {data : List Word} (h : Canon s) :
    Canon (s.writeUnits view a l data) :=
  .foldl h fun _ _ h => h.writeUnit

theorem keeps_execRegWrite {c : Cmd} {a pad : Nat} {data : List Word} (h : Canon s) : Keeps (execRegWrite c a pad data s) :=
  .next (h.runCmd fun _ h => .ite h.badParam (.ite h.badParam (h.regCmd fun _ h => h.writeUnits.reply)))

/-! ### Reset and boot (R469 to R480) -/

theorem Canon.reset : Canon State.reset := canon_of (by decide)

theorem Canon.resetState (h : Canon s) : Canon s.resetState :=
  { Canon.reset with hostMem := h.hostMem }

theorem keeps_execResetAssert (h : Canon s) : Keeps (execResetAssert s) :=
  .next h.resetState.refreshGates

theorem Canon.mirrorFuses (h : Canon s) : Canon s.mirrorFuses :=
  .foldl h.setReg.setReg fun _ _ h' => h'.setReg

theorem keeps_execResetRelease {bootsel : BitVec 3} (h : Canon s) : Keeps (execResetRelease bootsel s) :=
  .ite (.next h) (.next h.others.mirrorFuses.setFld)

theorem Canon.bootHalt (h : Canon s) : Canon s.bootHalt :=
  h.others.setReg.faultEdge

theorem Canon.bootRun {copyB : Bool} {l : List Byte} (h : Canon s) : Canon (s.bootRun copyB l) :=
  .ite (Canon.raise (.foldl h.setFld.setReg.setFld.setFld fun _ _ h => h.setCode)) (.foldl h.setFld.setReg.setFld.setFld fun _
    _ h => h.setCode)

theorem keeps_execBootCopyVerify {copyB : Bool} {r : BootRead} (h : Canon s) : Keeps (execBootCopyVerify copyB r s) := by
  unfold execBootCopyVerify
  dsimp only
  split
  · exact .next h
  · split
    · exact .next h.setFld.bootHalt
    · split
      · split
        · exact .next h.bootRun
        · exact .next h
      · exact .ite (.next h.bootHalt) (.ite (.next h.setFld.bootHalt) (.next h.setFld.others))

theorem Canon.initRoutes (h : Canon s) : Canon s.initRoutes :=
  .foldl h fun _ _ h => h.setReg

theorem keeps_execMemoryInitDone (h : Canon s) : Keeps (execMemoryInitDone s) :=
  .ite (.next (Canon.initRoutes (.foldl h fun _ _ h => h.initFloorMem)).others) (.next h)

theorem keeps_execKilnCalibrationDone {f : FloorNo} {ok : Bool} {clo : Fin 51} {lost : BitVec 16} (h : Canon s) :
    Keeps (execKilnCalibrationDone f ok clo lost s) :=
  .ite (.next (.ite h.others.calibrated h.others.calibrated.setFld.setFld)) (.next h)

theorem keeps_execReady (h : Canon s) : Keeps (execReady s) :=
  .ite (.next (.ite h.setFld.setFld.others.others.setFld h.setFld.setFld.others)) (.next h)

/-! ### Commands of the timebase (R321 to R327) -/

theorem Canon.timeSetEdge (h : Canon s) : Canon s.timeSetEdge :=
  .ite h.others.finish (Canon.finish (.foldl h.others fun _ _ h => h.timeSet))

theorem keeps_execPpsInEdge {rising : Bool} (h : Canon s) : Keeps (execPpsInEdge rising s) :=
  .ite (.next h) (.next (.ite h.timeSetEdge.ppsEdge h.timeSetEdge))

theorem keeps_execPpsMissing (h : Canon s) : Keeps (execPpsMissing s) :=
  .ite (.next h.others.setLock.setFld.raise) (.next h)

theorem keeps_execTimeFenced (h : Canon s) : Keeps (execTimeFenced s) :=
  .ite (.next h.setFld.bump.raise) (.next h)

theorem keeps_execTimeRestored (h : Canon s) : Keeps (execTimeRestored s) :=
  .ite (.next h.setFld.raise) (.next h)

theorem keeps_execPpsOutPulse {level : Bool} (h : Canon s) : Keeps (execPpsOutPulse level s) :=
  .ite (.ite (.next h.others) (.next h)) (.ite (.next h.others) (.next h))

theorem keeps_execRimPllLock (h : Canon s) : Keeps (execRimPllLock s) :=
  .ite (.next h) (.next (.ite h.others.setLock h.others))

theorem keeps_execRimPllLockLoss (h : Canon s) : Keeps (execRimPllLockLoss s) :=
  .next h.others.setLock

theorem Canon.timeSetCmd {c : Cmd} {time at_ : Nat} (h : Canon s) : Canon (s.timeSetCmd c time at_) :=
  .ite h.badParam (.ite h.reply (.ite h.badParam (.ite h.timeSet.reply h.others.waitCmd)))

theorem keeps_execTimeSet {c : Cmd} {time : DWord} {at_ : Nat} (h : Canon s) : Keeps (execTimeSet c time at_ s) :=
  .next (h.runCmd fun _ h => h.timeSetCmd)

theorem keeps_execTimeSetPpsTimeout (h : Canon s) : Keeps (execTimeSetPpsTimeout s) :=
  .next (.foldl h.others fun _ _ h => h.reply)

theorem keeps_execTimeRead {c : Cmd} (h : Canon s) : Keeps (execTimeRead c s) :=
  .next (h.runCmd fun _ h => h.reply)

end Sys2Proof
end

section
/-! PROOFS. Every step keeps the table invariant (Canon): the case split over the commands, and the rim clock of an idle step. -/

namespace Sys2Proof

open Sys2Proof.Machine

set_option Elab.async false

variable {s : State}

/-! ### Every command -/

theorem keeps_exec {i : Instr} (h : Canon s) : Keeps (exec i s) := by
  unfold exec
  split
  · exact keeps_execRegisterWrite h
  · exact keeps_execWireTokenTransfer h
  · exact keeps_execBoundaryTokenRelease h
  · exact keeps_execCellFire h
  · exact keeps_execCellResultEmit h
  · exact keeps_execExpressInject h
  · exact keeps_execBridgeSend h
  · exact keeps_execBridgeReceive h
  · exact keeps_execSchedSwitch h
  · exact keeps_execGuardCauseDeliver h
  · exact keeps_execGuardEntry h
  · exact keeps_execSpillWriteComplete h
  · exact keeps_execLeesFillComplete h
  · exact keeps_execSlotLoad h
  · exact keeps_execSlotLoadDone h
  · exact keeps_execSlotReset h
  · exact keeps_execIllegalInstruction h
  · exact keeps_execAdd h
  · exact keeps_execSub h
  · exact keeps_execMul h
  · exact keeps_execAnd h
  · exact keeps_execOr h
  · exact keeps_execXor h
  · exact keeps_execShl h
  · exact keeps_execShr h
  · exact keeps_execSar h
  · exact keeps_execSlt h
  · exact keeps_execSltu h
  · exact keeps_execAddi h
  · exact keeps_execAndi h
  · exact keeps_execOri h
  · exact keeps_execShi h
  · exact keeps_execLui h
  · exact keeps_execAdr h
  · exact keeps_execLdb h
  · exact keeps_execLdbu h
  · exact keeps_execLdh h
  · exact keeps_execLdhu h
  · exact keeps_execLdw h
  · exact keeps_execStb h
  · exact keeps_execSth h
  · exact keeps_execStw h
  · exact keeps_execLoadResultReturn h
  · exact keeps_execLineBufferDrain h
  · exact keeps_execIcacheFill h
  · exact keeps_execQpush h
  · exact keeps_execQpop h
  · exact keeps_execQdrop h
  · exact keeps_execQlvl h
  · exact keeps_execJmp h
  · exact keeps_execCall h
  · exact keeps_execJr h
  · exact keeps_execRet h
  · exact keeps_execBr h
  · exact keeps_execLoop h
  · exact keeps_execWaitQne h
  · exact keeps_execWaitQspc h
  · exact keeps_execWaitTime h
  · exact keeps_execWaitTicks h
  · exact keeps_execWaitFpinv h
  · exact keeps_execWaitConditionMet h
  · exact keeps_execYield h
  · exact keeps_execSignal h
  · exact keeps_execCancel h
  · exact keeps_execRdtime h
  · exact keeps_execRaise h
  · exact keeps_execFence h
  · exact keeps_execTrap h
  · exact keeps_execRdfl h
  · exact keeps_execClrfl h
  · exact keeps_execTriggerTqne h
  · exact keeps_execDelayExpiry h
  · exact keeps_execStepStart h
  · exact keeps_execPktStep h
  · exact keeps_execBatchDeadlineCheck h
  · exact keeps_execDispatchDecision h
  · exact keeps_execPktDispatch h
  · exact keeps_execFlowRelease h
  · exact keeps_execTaskDescWrite h
  · exact keeps_execTaskArm h
  · exact keeps_execTaskSignal h
  · exact keeps_execTaskCancel h
  · exact keeps_execTaskDisableDrain h
  · exact keeps_execTaskDisableAbort h
  · exact keeps_execTaskDrainDone h
  · exact keeps_execTaskStatus h
  · exact keeps_execBatchEnable h
  · exact keeps_execBatchDisableDrain h
  · exact keeps_execBatchDisableAbort h
  · exact keeps_execBatchDrainDone h
  · exact keeps_execDisableDrainTimeout h
  · exact keeps_execTmbBctlEnSet h
  · exact keeps_execTmbBctlEnClear h
  · exact keeps_execPktSignal h
  · exact keeps_execPktCancel h
  · exact keeps_execBankSwap h
  · exact keeps_execTruncationWordStore h
  · exact keeps_execQueCfgEnableWrite h
  · exact keeps_execQueCfgDisableWrite h
  · exact keeps_execCmdpathLockTimeout h
  · exact keeps_execPushPortStore h
  · exact keeps_execPopPortOffer h
  · exact keeps_execQueuePush h
  · exact keeps_execQueuePop h
  · exact keeps_execQueueDrop h
  · exact keeps_execQueueFlush h
  · exact keeps_execQueueDisableDrain h
  · exact keeps_execQueueDisableAbort h
  · exact keeps_execQueueDrainDone h
  · exact keeps_execQueueStatus h
  · exact keeps_execGraderJobStart h
  · exact keeps_execGraderJobDone h
  · exact keeps_execPktRd h
  · exact keeps_execPktWr h
  · exact keeps_execPktCfgwr h
  · exact keeps_execPktQpush h
  · exact keeps_execPktQpop h
  · exact keeps_execPktQdrop h
  · exact keeps_execPktQlvl h
  · exact keeps_execParkedRequestComplete h
  · exact keeps_execParkFullResend h
  · exact keeps_execResponseArrival h
  · exact keeps_execRouterForward h
  · exact keeps_execSnpInv h
  · exact keeps_execSnpInvAck h
  · exact keeps_execRoutePlan h
  · exact keeps_execRouteCommit h
  · exact keeps_execCommitDrainTimeout h
  · exact keeps_execRouteRead h
  · exact keeps_execFloorPowerOffDrain h
  · exact keeps_execFloorPowerOffAbort h
  · exact keeps_execFloorDrained h
  · exact keeps_execFloorDrainTimeout h
  · exact keeps_execFloorOff h
  · exact keeps_execFloorPowerOn h
  · exact keeps_execFloorPowerOnDone h
  · exact keeps_execNocStats h
  · exact keeps_execNocStatClear h
  · exact keeps_execCorrectionWriteback h
  · exact keeps_execScrubLine h
  · exact keeps_execEccFlipArm h
  · exact keeps_execPageRetire h
  · exact keeps_execPageCopyCommit h
  · exact keeps_execMemRead h
  · exact keeps_execMemWrite h
  · exact keeps_execMemInit h
  · exact keeps_execPageStatus h
  · exact keeps_execLogRead h
  · exact keeps_execLogRecordWrite h
  · exact keeps_execLogTailWrite h
  · exact keeps_execPpsInEdge h
  · exact keeps_execPpsMissing h
  · exact keeps_execTimeFenced h
  · exact keeps_execTimeRestored h
  · exact keeps_execPpsOutPulse h
  · exact keeps_execRimPllLock h
  · exact keeps_execTimeSet h
  · exact keeps_execTimeSetPpsTimeout h
  · exact keeps_execTimeRead h
  · exact keeps_execRackPortWord h
  · exact keeps_execRackRelease h
  · exact keeps_execRackDeadlineCheck h
  · exact keeps_execRackPut h
  · exact keeps_execRackClear h
  · exact keeps_execLaneDisableDrain h
  · exact keeps_execLaneDisableAbort h
  · exact keeps_execLaneDrainDone h
  · exact keeps_execRackStatus h
  · exact keeps_execSampleReady h
  · exact keeps_execStreamDeliver h
  · exact keeps_execSdFilterOutput h
  · exact keeps_execSdComparatorChange h
  · exact keeps_execSdStuck h
  · exact keeps_execAdcFrameReceive h
  · exact keeps_execAdcClockLoss h
  · exact keeps_execAdcCnvPulse h
  · exact keeps_execAdcTrain h
  · exact keeps_execEncEdge h
  · exact keeps_execEncSample h
  · exact keeps_execEncSerialDone h
  · exact keeps_execCarrierPeriodStart h
  · exact keeps_execGateEdgeHoldEnd h
  · exact keeps_execVlFrameDelayed h
  · exact keeps_execVlSafeRepeat h
  · exact keeps_execVlUplinkFrame h
  · exact keeps_execVlRxUp h
  · exact keeps_execVlDown h
  · exact keeps_execVlWatchdog h
  · exact keeps_execGpioEdge h
  · exact keeps_execIoSupply h
  · exact keeps_execIoSupplyOk h
  · exact keeps_execStreamDisableDrain h
  · exact keeps_execStreamDisableAbort h
  · exact keeps_execTripPinEdge h
  · exact keeps_execTripSafeInput h
  · exact keeps_execTrpMaskWrite h
  · exact keeps_execTripClear h
  · exact keeps_execTripClearSettle h
  · exact keeps_execTripForce h
  · exact keeps_execTripStatus h
  · exact keeps_execTripSnapshot h
  · exact keeps_execTripFrameRepeat h
  · exact keeps_execTripFrameReceive h
  · exact keeps_execHostWatchdogKick h
  · exact keeps_execHostWatchdog h
  · exact keeps_execKeeperWatchdog h
  · exact keeps_execGravityTrim h
  · exact keeps_execKilnConfirm h
  · exact keeps_execKilnTapChange h
  · exact keeps_execKilnWatchEnd h
  · exact keeps_execKlnRetreat h
  · exact keeps_execKilnSdPhaseStep h
  · exact keeps_execThermalSensorRead h
  · exact keeps_execPmbusPoll h
  · exact keeps_execTurnTrigger h
  · exact keeps_execTurnMoveStart h
  · exact keeps_execTurnCommit h
  · exact keeps_execGrvLimits h
  · exact keeps_execGrvStatus h
  · exact keeps_execTurnMove h
  · exact keeps_execTurnReturn h
  · exact keeps_execKlnRecal h
  · exact keeps_execRingDoorbell h
  · exact keeps_execRingEnable h
  · exact keeps_execRingDisable h
  · exact keeps_execCommandFetch h
  · exact keeps_execReplyWrite h
  · exact keeps_execMsixCoalesceTimeout h
  · exact keeps_execPcieReset h
  · exact keeps_execVfFlr h
  · exact keeps_execDevInfo h
  · exact keeps_execNop h
  · exact keeps_execViewGrant h
  · exact keeps_execViewRevoke h
  · exact keeps_execViewTable h
  · exact keeps_execGuardDoorbell h
  · exact keeps_execHostqBind h
  · exact keeps_execHostqDisableDrain h
  · exact keeps_execHostqDisableAbort h
  · exact keeps_execHmwSet h
  · exact keeps_execRegRead h
  · exact keeps_execRegWrite h
  · exact keeps_execForwardedCommand h
  · exact keeps_execForwardTimeout h
  · exact keeps_execHqPushWrite h
  · exact keeps_execHqPortTransfer h
  · exact keeps_execHqPopRead h
  · exact keeps_execHmwCompletion h
  · exact keeps_execResetAssert h
  · exact keeps_execResetRelease h
  · exact keeps_execBootCopyVerify h
  · exact keeps_execMemoryInitDone h
  · exact keeps_execKilnCalibrationDone h
  · exact keeps_execReady h
  · exact keeps_execAutoload h
  · exact keeps_execImageLoadManifest h
  · exact keeps_execImageLoadGuard h
  · exact keeps_execImageLoadFloor h
  · exact keeps_execLoadPass1Done h
  · exact keeps_execLoadPass2Done h
  · exact keeps_execLoadStatus h
  · exact keeps_execManifestRead h
  · exact keeps_execFloorFreeze h
  · exact keeps_execFreezeTakeEffect h
  · exact keeps_execReadback h
  · exact keeps_execFloorThaw h
  · exact keeps_execCfgdata h
  · exact keeps_execCfgaddr h
  · exact keeps_execFrzctl h
  · exact keeps_execFusepgm h
  · exact keeps_execExtest h
  · exact keeps_execLinkEnable h
  · exact keeps_execLinkTrained h
  · exact keeps_execLinkRetry h
  · exact keeps_execLinkReplay h
  · exact keeps_execLinkRetrain h
  · exact keeps_execLinkDown h
  · exact keeps_execLinkEqStep h
  · exact keeps_execSideSlotReceive h
  · exact keeps_execMashRecordReceive h
  · exact keeps_execGatewayPacketEntry h
  · exact keeps_execSysRequestTimeout h
  · exact keeps_execXchPush h
  · exact keeps_execTimeServiceExchange h
  · exact keeps_execTimeMaster h
  · exact keeps_execLinkStatus h
  · exact keeps_execLinkDisableDrain h
  · exact keeps_execLinkDisableAbort h
  · exact keeps_execMashStatus h
  · exact keeps_execJoin h
  · exact keeps_execSysRoute h
  · exact keeps_execTimePin h
  · exact keeps_execTwinCtl h
  · exact keeps_execTwinHbCheck h
  · exact keeps_execTwinTakeover h
  · exact keeps_execTwinDualActive h
  · exact keeps_execTwinActInput h
  · exact keeps_execTrnDeferred h
  · exact keeps_execTurnMoveTimeout h
  · exact keeps_execRouteCommitTimeout h
  · exact keeps_execFreezeTimeout h
  · exact keeps_execRimPllLockLoss h
  · exact keeps_execSystemLockLoss h
  · exact keeps_execSdStuckClear h
  · exact keeps_execAdcClockReturn h
  · exact keeps_execPwmLevelChange h
  · exact keeps_execPwmMidPeriodUpdate h
  · exact keeps_execSafePolChange h
  · exact keeps_execKeeperWatchdogService h
  · exact keeps_execManagementCommandReceive h
  · exact keeps_execAdcTrainDone h
  · exact keeps_execKlnRecalDone h

/-! ### One rim clock -/

theorem Canon.advanceTime (h : Canon s) : Canon s.advanceTime :=
  h.others

theorem Canon.tick (h : Canon s) : Canon s.tick :=
  Canon.commitTick (.ite h.others.advanceTime h.others)

/-! ### One step -/

theorem keeps_step (h : Canon s) : Keeps (step s) := by
  unfold step
  split
  · exact .next h.tick
  · exact keeps_exec h.others

/-- Settles O4: the invariant passes through every command (`keeps_exec`), and the rim clock of a step with no command writes
no table but the registers. -/
theorem stepKeepsCanon : Obligations.StepKeepsCanon := fun _ u h e => keeps_step h u e

end Sys2Proof
end

section
/-! PROOFS. CALL and RET (R133, R134): how the frames that they build read as registers, and what a bank reads once its frames and its
program counter are set. -/

namespace Sys2Proof

open Sys2Proof.Machine

set_option Elab.async false

variable {s : State} {t k : Nat}

/-! ### Registers of the current frame and globals -/

theorem gpr_frame (s : State) (t k : Nat) {i : Nat} (hi : i < 16) :
    s.gpr t k (Fin.ofNat 32 (16 + i)) = ((s.slot t k).frames.headD []).getD i 0#32 := by
  simp [State.gpr, show (16 + i) % 32 = 16 + i by omega]

theorem gpr_global (s : State) (t k : Nat) {i : Nat} (hi : i < 16) :
    s.gpr t k (Fin.ofNat 32 i) = (s.slot t k).globals.getD i 0#32 := by
  simp [State.gpr, show i % 32 = i by omega, hi]

/-! ### Frames built by CALL and RET -/

theorem getD_calleeFrame_low {c : List Word} (hc : c.length = 16) {i : Nat} (hi : i < 8) :
    (calleeFrame c).getD i 0#32 = c.getD (8 + i) 0#32 := by
  rw [calleeFrame, List.getD_append _ _ _ _ (by simp [hc, hi])]
  simp

theorem getD_calleeFrame_high {c : List Word} (hc : c.length = 16) {i : Nat} (hi : i < 8) :
    (calleeFrame c).getD (8 + i) 0#32 = 0#32 := by
  rw [calleeFrame, List.getD_append_right _ _ _ _ (by simp [hc])]
  rw [List.getD_replicate]
  rw [List.length_drop]
  omega

theorem getD_returnTo_low {r c : List Word} (hc : c.length = 16) {i : Nat} (hi : i < 8) :
    (returnTo r c).getD i 0#32 = c.getD i 0#32 := by
  rw [returnTo, List.getD_append _ _ _ _ (by simp [hc, hi])]
  simp [hi]

theorem getD_returnTo_high {r c : List Word} (hc : c.length = 16) {i : Nat} (hi : i < 8) :
    (returnTo r c).getD (8 + i) 0#32 = r.getD i 0#32 := by
  rw [returnTo, List.getD_append_right _ _ _ _ (by simp [hc])]
  simp [hc, hi]

theorem getD_one_eq_headD_drop (l : List (List Word)) : l.getD 1 [] = (l.drop 1).headD [] := by
  simp [List.getD_eq_getElem?_getD, List.headD_eq_head?_getD]

/-! ### A bank with new frames at a new place -/

/-- The instruction line touched, the bank with new frames and program counter, HDEPTH set. -/
def State.enterFrame (s : State) (t k : Nat) (g : List (List Word) → List (List Word)) (h n : Nat) : State :=
  (((s.touchIc t k).setFld leesHdepth (8 * t + k) h).modSlot t k fun x => { x with frames := g x.frames }).setPc t k n

variable (hc : Canon s) (g : List (List Word) → List (List Word)) (h n : Nat)
include hc

theorem slot_enterFrame : (State.enterFrame s t k g h n).slot t k =
    { s.slot t k with frames := g (s.slot t k).frames, pc := n % 0x80000 } := by
  have hr : rising ((s.touchIc t k).setFld leesHdepth (8 * t + k) h).slots = true := rising_of_twf hc.slots
  have hr' := Machine.rising_tput (d := SlotSt.init) (n := 8 * t + k)
    (v := { s.slot t k with frames := g (s.slot t k).frames }) hr
  rw [State.enterFrame, State.setPc, State.modSlot_eq, slot_setSlot hr', State.modSlot_eq, slot_setSlot hr]
  rfl

theorem hdepth_enterFrame (hh : h < 8) : (State.enterFrame s t k g h n).fld leesHdepth (8 * t + k) = h := by
  have hset : (State.enterFrame s t k g h n).fld leesHdepth (8 * t + k) =
      ((s.touchIc t k).setFld leesHdepth (8 * t + k) h).fld leesHdepth (8 * t + k) := rfl
  rw [hset, fld_setFld_self (s := s.touchIc t k) (f := leesHdepth) hc.regs (by decide) (by decide)]
  exact Nat.mod_eq_of_lt hh

theorem gpr_enterFrame_global {i : Nat} (hi : i < 16) :
    (State.enterFrame s t k g h n).gpr t k (Fin.ofNat 32 i) = s.gpr t k (Fin.ofNat 32 i) := by
  rw [gpr_global _ _ _ hi, gpr_global _ _ _ hi, slot_enterFrame hc]

theorem gpr_enterFrame_frame {i : Nat} (hi : i < 16) :
    (State.enterFrame s t k g h n).gpr t k (Fin.ofNat 32 (16 + i)) = ((g (s.slot t k).frames).headD []).getD i 0#32 := by
  rw [gpr_frame _ _ _ hi, slot_enterFrame hc]

omit hc in
theorem enterFrame_only : State.enterFrame s t k g h n =
    { s with slots := (State.enterFrame s t k g h n).slots, tiles := (State.enterFrame s t k g h n).tiles,
             regs := (State.enterFrame s t k g h n).regs } := rfl

end Sys2Proof
end

section
/-! PROOFS. The settled statement about CALL and RET. -/

namespace Sys2Proof

open Sys2Proof.Machine

set_option Elab.async false

theorem exec_call {s : State} {t : TileNo} {k : Nat} {off : BitVec 26} (hi : s.issue t (.call t off) frameRegs = some k)
    (hh : s.fld leesHdepth (8 * t + k) < 6) : exec (.call t off) s =
      .next (State.enterFrame s t k pushFrame (s.fld leesHdepth (8 * t + k) + 1) (relTarget (s.pc t k) off.toInt)) := by
  have harm : exec (.call t off) s = execCall t off s := rfl
  rw [harm, execCall, seqStep_some hi]
  have h6 : (s.touchIc t k).fld leesHdepth (8 * t + k) ≠ 6 := Nat.ne_of_lt hh
  simp only [State.callTo, h6, if_false]
  rfl

theorem exec_ret {s : State} {t : TileNo} {k : Nat} {ra : SReg} (hi : s.issue t (.ret t ra) (ra :: frameRegs) = some k)
    (hh : 1 < s.fld leesHdepth (8 * t + k)) (ha : (s.gpr t k ra).toNat % 4 = 0) : exec (.ret t ra) s =
      .next (State.enterFrame s t k popFrame (s.fld leesHdepth (8 * t + k) - 1) (s.gpr t k ra).toNat) := by
  have harm : exec (.ret t ra) s = execRet t ra s := rfl
  have hactive : s.active t = some k := by
    unfold State.issue at hi
    split at hi
    · exact absurd hi (by simp)
    · rename_i j hj
      split at hi
      · rw [hj, ← hi]
      · exact absurd hi (by simp)
  have hroot : ∀ u : State, u.regs = s.regs → u.atRoot t k = false := by
    intro u hu
    have : u.fld leesHdepth (8 * t + k) = s.fld leesHdepth (8 * t + k) := by rw [State.fld, State.reg, hu]; rfl
    simp only [State.atRoot, this, Bool.and_eq_false_iff, decide_eq_false_iff_not]
    exact .inl (by omega)
  have hh' : 1 < (s.touchIc t k).fld leesHdepth (8 * t + k) := hh
  simp only [harm, execRet, hactive, hroot s rfl, Bool.false_eq_true, if_false]
  rw [seqStep_some hi]
  simp only [State.ret, hroot (s.touchIc t k) rfl, Bool.false_eq_true, if_false, touchIc_gpr, ha, ne_eq, not_true_eq_false, hh', if_true]
  rfl

/-- Settles O11: either instruction sets the frames, the program counter and HDEPTH, and what a register of the new current frame holds
is read off the frame that CALL or RET builds. -/
theorem callAndReturnFrames : Obligations.CallAndReturnFrames := by
  unfold Obligations.CallAndReturnFrames
  intro s t k hc hk
  have hbank := bank_of_canon hc t k
  have hframe := length_frame hbank (i := 0) (by decide)
  have hcaller := length_frame hbank (i := 1) (by decide)
  refine ⟨fun off hi hh => ⟨_, exec_call hi hh, ?_, fun i => ⟨?_, ?_⟩, fun i => ?_, ?_, ?_, ?_, ?_⟩,
    fun ra hi hh ha => ⟨_, exec_ret hi hh ha, ?_, fun i => ⟨?_, ?_⟩, fun i => ?_, ?_, ?_, ?_⟩⟩
  · rw [State.pc, slot_enterFrame hc]
    have := Int.emod_lt_of_pos ((s.pc t k : Int) + 4 * off.toInt) (show (0 : Int) < 0x80000 by decide)
    simp only [relTarget]
    omega
  · rw [gpr_enterFrame_frame hc _ _ _ (by omega), show 24 + i.val = 16 + (8 + i.val) by omega, gpr_frame _ _ _ (by omega)]
    exact getD_calleeFrame_low hframe i.isLt
  · rw [show 24 + i.val = 16 + (8 + i.val) by omega, gpr_enterFrame_frame hc _ _ _ (by omega)]
    exact getD_calleeFrame_high hframe i.isLt
  · exact gpr_enterFrame_global hc _ _ _ i.isLt
  · rw [slot_enterFrame hc]
    rfl
  · rw [slot_enterFrame hc]
  · exact hdepth_enterFrame hc _ _ _ (by omega)
  · exact enterFrame_only _ _ _
  · rw [State.pc, slot_enterFrame hc]
  · rw [gpr_enterFrame_frame hc _ _ _ (by omega), getD_one_eq_headD_drop]
    exact getD_returnTo_low hcaller i.isLt
  · rw [show 24 + i.val = 16 + (8 + i.val) by omega, gpr_enterFrame_frame hc _ _ _ (by omega), gpr_frame _ _ _ (by omega)]
    exact getD_returnTo_high hcaller i.isLt
  · exact gpr_enterFrame_global hc _ _ _ i.isLt
  · rw [slot_enterFrame hc]
  · refine hdepth_enterFrame hc _ _ _ ?_
    have : s.fld leesHdepth (8 * t + k) < 2 ^ (26 + 1 - 24) := Nat.mod_lt _ (by decide)
    omega
  · exact enterFrame_only _ _ _

end Sys2Proof
end

section
/-! PROOFS. Guard causes on a floor that is not OPEN (R123): GUARD_CAUSE_DELIVER takes the notice and records nothing, so a statement
that asks only for the notice fails there. -/

namespace Sys2Proof

open Sys2Proof.Machine

set_option Elab.async false

theorem exec_of_nextIs {i : Instr} {s u : State} {p : State → Bool} (h : Tests.nextIs i s p = true) (hu : exec i s = .next u) :
    p u = true := by
  simpa [Tests.nextIs, hu] using h

/-- Floor 0 is FENCED; a Doorbell is on its way to guard A of tile 0, slot 1, which is enabled. -/
def noticeAtFence : State := { (State.reset.setFld nocState 0 1).setReg .TIL_GCFG 0 9 with notices := [(0, 12, 0)] }

theorem noticeAtFence_canon : Canon noticeAtFence := canon_of (by decide +kernel)

/-- The notice is the one that the command delivers, and no cause stands at the guard after it. -/
theorem noticeAtFence_delivers :
    (noticeAtFence.notices.find? fun n => n.1 = (0 : TileNo).val ∧ n.2.1 = (12 : Fin 16).val ∧
      noticeAtFence.noticeGuard n = some (0 : Fin 2).val) = some (0, 12, 0) ∧
    Tests.nextIs (.guardCauseDeliver 0 12 0) noticeAtFence (fun u => !bit (u.reg .TIL_GCAUSE 0) 12) = true := by
  decide +kernel

/-- Refutes O21: the clause of GUARD_CAUSE_DELIVER says that the cause's bit is set, and does not ask that the floor be OPEN. On a
FENCED floor no cause is recorded (R123). -/
theorem not_contextSwitches : ¬ Obligations.ContextSwitches := by
  unfold Obligations.ContextSwitches
  intro h
  obtain ⟨-, hdeliver, -⟩ := h noticeAtFence 0 noticeAtFence_canon
  obtain ⟨hfind, hclear⟩ := noticeAtFence_delivers
  obtain ⟨u, hu, -, hset, -⟩ := hdeliver 12 0 _ hfind
  have hunset : (!bit (u.reg .TIL_GCAUSE 0) 12) = true := exec_of_nextIs hclear hu
  rw [show bit (u.reg .TIL_GCAUSE 0) 12 = true from hset] at hunset
  exact absurd hunset (by decide)

end Sys2Proof
end

section
/-! PROOFS. Spilled frames written to a line that another tile has read (R138, R166): the invalidation that the write sends is counted
as an injected packet (R313). -/

namespace Sys2Proof

open Sys2Proof.Machine

set_option Elab.async false

/-- Tile 0's line buffer holds a spilled frame for the line at byte 64, which the sharer filter records for tile 16. -/
def spillToShared : State :=
  let buf : LineBuf :=
    { spill := true, slot := 1, base := 64, window := false, view := 0, pc := 0, bytes := (List.range 64).map (·, 0#8) }
  let s := State.reset.setTile 0 { TileSt.init with lineBuf := some buf }
  { s with sharers := [(1, [16])] }

theorem spillToShared_canon : Canon spillToShared := canon_of (by decide +kernel)

/-- The buffer holds a spilled frame, no flip is armed, and the packet that the write sends is counted at tile 0. -/
theorem spillToShared_counts :
    ((spillToShared.tile (0 : TileNo)).lineBuf.any (·.spill)) = true ∧ spillToShared.flag flipArm 0 = false ∧
    spillToShared.reg .NOC_ISTAT_PKTS 0 = 0 ∧
    Tests.nextIs (.spillWriteComplete 0) spillToShared (fun u => decide (u.reg .NOC_ISTAT_PKTS 0 = 1)) = true := by
  decide +kernel

/-- Refutes O22: SPILL_WRITE_COMPLETE is said to leave every register as it is while no flip is armed. A frame written to a line that
another tile has read sends an invalidation (R166), which NOC_ISTAT_PKTS counts (R313). -/
theorem not_spillsFillsAndSlotReset : ¬ Obligations.SpillsFillsAndSlotReset := by
  unfold Obligations.SpillsFillsAndSlotReset
  intro h
  obtain ⟨hspill, -⟩ := h spillToShared 0 spillToShared_canon
  obtain ⟨hbuf, hflip, hzero, hone⟩ := spillToShared_counts
  obtain ⟨b, hb, hs⟩ : ∃ b, (spillToShared.tile (0 : TileNo)).lineBuf = some b ∧ b.spill = true := by
    simpa [Option.any_eq_true] using hbuf
  obtain ⟨u, hu, -, -, hregs⟩ := hspill b hb hs
  rw [hflip] at hregs
  have hcount : u.reg .NOC_ISTAT_PKTS 0 = 1 := of_decide_eq_true (exec_of_nextIs hone hu)
  rw [reg_congr hregs, hzero] at hcount
  exact absurd hcount (by decide)

end Sys2Proof
end

section
/-! PROOFS. A trip source that an image brings up in the rim clock in which a line has latched (R403, R405): the record of the latch,
which still waits for its log, is rewritten, so what waits after the load ended does not begin with what waited before it. -/

namespace Sys2Proof

open Sys2Proof.Machine

set_option Elab.async false

/-! ### A floor with nothing on it -/

theorem tput_unlisted {α : Type} [DecidableEq α] {d : α} {n : Nat} {t : Tbl α} (h : ∀ p ∈ t, p.1 ≠ n) : tput d t n d = t := by
  induction t with
  | nil => simp [tput]
  | cons p t ih =>
    obtain ⟨k, w⟩ := p
    have hk : n ≠ k := fun e => h _ List.mem_cons_self e.symm
    simp [tput, hk, ih fun q hq => h q (List.mem_cons_of_mem _ hq)]

theorem tget_unlisted {α : Type} {d : α} {n : Nat} {t : Tbl α} (h : ∀ p ∈ t, p.1 ≠ n) : tget d t n = d := by
  induction t with
  | nil => rfl
  | cons p t ih =>
    obtain ⟨k, w⟩ := p
    have hk : n ≠ k := fun e => h _ List.mem_cons_self e.symm
    simp [tget, hk, ih fun q hq => h q (List.mem_cons_of_mem _ hq)]

theorem foldl_fixed {α β : Type} {f : α → β → α} {a : α} {l : List β} (h : ∀ x ∈ l, f a x = a) : l.foldl f a = a := by
  induction l with
  | nil => rfl
  | cons x l ih =>
    rw [List.foldl_cons, h x List.mem_cons_self]
    exact ih fun y hy => h y (List.mem_cons_of_mem _ hy)

/-- Where the register blocks of the tiles begin (R42). -/
def tileBlocks : Nat := 0x0440000000

/-- No register of a tile is listed: each reads its Reset value. -/
def TilesUnset (s : State) : Prop := ∀ p ∈ s.regs, p.1 < tileBlocks

section
variable {s : State} (hs : TilesUnset s) {r : Reg} (hr : tileBlocks ≤ r.info.base)
include hs hr

theorem TilesUnset.unlisted (i : Nat) : ∀ p ∈ s.regs, p.1 ≠ r.addr i := by
  intro p hp
  have hlt := hs p hp
  have hle : r.info.base ≤ r.addr i := by unfold Reg.addr; omega
  omega

theorem TilesUnset.setReg_zero {i : Nat} (hz : r.resetVal i = 0) : s.setReg r i 0 = s := by
  rw [State.setReg, hz, tput_unlisted (hs.unlisted hr i)]

theorem TilesUnset.reg_zero {i : Nat} (hz : r.resetVal i = 0) : s.reg r i = 0 := by
  rw [State.reg, tget_unlisted (hs.unlisted hr i), hz]
  rfl

end

/-- Where no tile register is set and no configuration frame is written, the blank floor that a load starts from is the state itself. -/
theorem blankFloor_eq_self {s : State} (hs : TilesUnset s) (hcfs : s.cfs = []) (hmoved : s.moved = []) (hturns : s.turns = []) (f : Nat) :
    s.blankFloor f = s := by
  have hwipe : s.wipeFrames f = s := by rw [State.wipeFrames, hcfs, List.filter_nil, ← hcfs]
  have hlists : ({ s with moved := s.moved.filter fun p => p.1 / 128 ≠ f, turns := s.turns.filter fun p => p.1 / 16 ≠ f } : State) = s := by
    rw [hmoved, hturns, List.filter_nil, List.filter_nil, ← hmoved, ← hturns]
  have hconst (t : Nat) : (List.range 128).foldl (fun s i => (s.setReg .TIL_K0 (128 * t + i) 0).setReg .TIL_K1 (128 * t + i) 0) s = s :=
    foldl_fixed fun i _ => by
      rw [hs.setReg_zero (r := .TIL_K0) (by decide) rfl, hs.setReg_zero (r := .TIL_K1) (by decide) rfl]
  simp only [State.blankFloor, hwipe, hlists]
  refine foldl_fixed fun t _ => ?_
  rw [hs.setReg_zero (r := .TIL_GCFG) (by decide) rfl, hs.setReg_zero (r := .TIL_CTX) (by decide) rfl, hconst]
  refine foldl_fixed fun k _ => ?_
  rw [hs.reg_zero (r := .TIL_SLOT) (by decide) rfl, hs.setReg_zero (r := .TIL_SLOT) (by decide) rfl,
    hs.setReg_zero (r := .TIL_LEES) (by decide) rfl, hs.setReg_zero (r := .TIL_SLN) (by decide) rfl,
    hs.setReg_zero (r := .TIL_FAULT) (by decide) rfl]

/-- A second pass whose source fails ends the load as failed (R486). -/
theorem exec_loadPass2Done_fails {s : State} {x : LoadSt} (img : List Byte) (hx : s.cfg.load = some x) (hp : x.pass2 = true)
    (hn : s.fld nocState x.floor = 2) : exec (.loadPass2Done img true) s = .next (s.loadFailed x (img.take x.len) 1) := by
  have harm : exec (.loadPass2Done img true) s = execLoadPass2Done img true s := rfl
  rw [harm, execLoadPass2Done, hx]
  simp [hp, hn]

/-! ### The load that rewrites a record -/

/-- An image of one frame, which writes 0 to FIO_GPIO 3; what a load that then fails has read of it. -/
def gpioImage : List Byte :=
  leBytes 12 0 ++ leBytes 4 1 ++ List.replicate 48 0#8 ++
    leBytes 5 (Reg.FIO_GPIO.addr 3) ++ leBytes 3 0 ++ leBytes 4 4 ++ leBytes 4 0 ++ leBytes 8 0

/-- The record of line 0 latched by source 0, not yet logged. -/
def latchRecord : LogRec := ⟨2, 0, 0x7101, 9, 0, 2, 0⟩

/-- Pass 2 of a load of floor 0 runs, from host memory. -/
def loadInPass2 : LoadSt :=
  { cmd := some Tests.cmd1, floor := 0, entry := 0xFF, pass2 := true, len := 88, digest := 0, fenceAt := 0 }

/-- That load has fenced and drained its floor. Line 0, whose mask names GPIO3's source, has latched in this rim clock. -/
def latchedAtLoad : State :=
  let s := Tests.put State.reset [(nocState, 0, 2), (bankVsel, 21, 1)]
  let s := ((s.setReg .TRP_STATUS 0 1).setReg .TRP_MASK 16 8).setReg .TRP_CAPS 0 (2 ^ 31)
  { s with
    logQ := [latchRecord]
    trip := { s.trip with latchAt := [(0, s.tim.clk + 1)] }
    cfg := { s.cfg with load := some loadInPass2 } }

theorem latchedAtLoad_canon : Canon latchedAtLoad := canon_of (by decide +kernel)

theorem latchedAtLoad_held : latchedAtLoad.fld nocState loadInPass2.floor = 2 := by decide +kernel

theorem latchedAtLoad_tilesUnset : TilesUnset latchedAtLoad := by
  unfold TilesUnset
  decide +kernel

/-- What the frame writes rewrites the record, and the record of the failed load stands behind it. -/
theorem latchedAtLoad_rewrites :
    (latchedAtLoad.loadFailed loadInPass2 (gpioImage.take loadInPass2.len) 1).logQ.head? = some { latchRecord with data := 0x10000 } := by
  simp only [State.loadFailed, State.placeFloor, blankFloor_eq_self latchedAtLoad_tilesUnset rfl rfl rfl]
  decide +kernel

/-- Refutes O57: a second pass that fails is said to add its record behind the records that waited before. The frames that it has
written stay (R486); one that brings up a source in the rim clock in which a line of its mask has latched rewrites that line's record
(R403), which is then no longer the record that waited. -/
theorem not_resetBootAndLoads : ¬ Obligations.ResetBootAndLoads := by
  unfold Obligations.ResetBootAndLoads
  intro h
  obtain ⟨-, -, -, -, -, -, -, -, hpass, -⟩ := h latchedAtLoad latchedAtLoad_canon
  obtain ⟨u, hu, -, -, -, -, l, hl, -⟩ := ((hpass loadInPass2 Tests.cmd1 gpioImage rfl rfl (by decide)).2 rfl latchedAtLoad_held).2
  rw [exec_loadPass2Done_fails gpioImage rfl rfl latchedAtLoad_held] at hu
  obtain rfl : _ = u := by simpa using hu
  have hhead : some latchRecord = some { latchRecord with data := 0x10000 } := by
    rw [← latchedAtLoad_rewrites, hl]
    rfl
  exact absurd hhead (by decide)

end Sys2Proof
end

section
/-! PROOFS. Ownership (R456 to R459): what owners a grant and a revocation leave, and how the three ownership commands end. -/

namespace Sys2Proof

open Sys2Proof.Machine

set_option Elab.async false

variable {s : State}

/-! ### Owners set -/

theorem setOwners_succ (s : State) (kind first n v : Nat) :
    s.setOwners kind first (n + 1) v = (s.setOwners kind first n v).setOwner kind (first + n) v := by
  rw [State.setOwners, List.range_succ, List.foldl_append]
  rfl

theorem setOwners_frame (s : State) (kind first n v : Nat) :
    ∃ l, s.setOwners kind first n v = { s with owners := l } ∧ (rising s.owners = true → rising l = true) := by
  induction n with
  | zero => exact ⟨_, rfl, id⟩
  | succ n ih =>
    obtain ⟨l, hl, hr⟩ := ih
    rw [setOwners_succ, hl]
    exact ⟨_, rfl, fun h => Machine.rising_tput (hr h)⟩

/-- The resources of the range have the new owner, every other keeps its own. -/
theorem ownerOf_setOwners (h : rising s.owners = true) (kind first n v k i : Nat) :
    (s.setOwners kind first n v).ownerOf k i =
      if kind * 65536 + first ≤ k * 65536 + i ∧ k * 65536 + i < kind * 65536 + first + n then v else s.ownerOf k i := by
  induction n with
  | zero =>
    rw [if_neg (by omega)]
    rfl
  | succ n ih =>
    obtain ⟨l, hl, hr⟩ := setOwners_frame s kind first n v
    have hset : rising (s.setOwners kind first n v).owners = true := by rw [hl]; exact hr h
    rw [setOwners_succ, State.setOwner, State.ownerOf, tget_tput hset]
    split_ifs with hlast hin hin
    · rfl
    · omega
    · exact ih.trans (if_pos (by omega))
    · exact ih.trans (if_neg (by omega))

/-! ### The ownership commands -/

section
variable {c : Cmd} {kind first n most : Nat} (hk : kind ≤ 5) (hn : 1 ≤ n) (hsize : first + n ≤ kindSize kind)
include hk hn hsize

/-- A range inside its kind passes the checks, and the command's own test of BUSY decides. -/
theorem viewCmd_of_range (hmost : n ≤ most) (op : Nat) (busy : Bool) (body : State → State) :
    s.viewCmd c op kind first n most busy body = if busy then s.reply c op stBusy [] else body s := by
  have hfirst : ¬ kindSize kind ≤ first := by omega
  simp [State.viewCmd, show ¬ 5 < kind by omega, show ¬ (n = 0 ∨ most < n) by omega, hfirst, show ¬ kindSize kind < first + n by omega]

theorem exec_viewGrant {view : Nat} (hv : 1 ≤ view) (hv' : view ≤ 15) (hp : s.revokePending kind first n = false)
    (ha : Accepted s c 0x0003 (rangeParams kind first n ++ leBytes 1 view) false) :
    exec (.viewGrant c kind first n view) s = .next (
      if (List.range n).any fun i => s.ownerOf kind (first + i) != 0 && s.ownerOf kind (first + i) != view
      then (s.unfetch c).reply c 0x0003 stBusy []
      else ((s.unfetch c).setOwners kind first n view).reply c 0x0003 stOk []) := by
  have harm : exec (.viewGrant c kind first n view) s = execViewGrant c kind first n view s := rfl
  rw [harm, execViewGrant, hp, if_neg Bool.false_ne_true, runCmd_of_accepted ha, if_neg (by omega), if_neg (by omega), if_neg (by omega),
    viewCmd_of_range hk hn hsize (by omega)]
  rfl

theorem exec_viewTable (hmost : n ≤ 1008) (ha : Accepted s c 0x0005 (rangeParams kind first n) false) :
    exec (.viewTable c kind first n) s = .next ((s.unfetch c).reply c 0x0005 stOk
      ((List.range n).map fun i => BitVec.ofNat 8 (s.ownerOf kind (first + i)))) := by
  have harm : exec (.viewTable c kind first n) s = execViewTable c kind first n s := rfl
  rw [harm, execViewTable, runCmd_of_accepted ha, viewCmd_of_range hk hn hsize hmost, List.map_eq_flatMap]
  rfl

theorem exec_viewRevoke (ha : Accepted s c 0x0004 (rangeParams kind first n) false) :
    exec (.viewRevoke c kind first n) s =
      .next ((s.unfetch c).waitCmd c 0x0004 (.viewRevoke kind first n) 0).settleRevokes := by
  have harm : exec (.viewRevoke c kind first n) s = execViewRevoke c kind first n s := rfl
  rw [harm, execViewRevoke, runCmd_of_accepted ha, viewCmd_of_range hk hn hsize (by omega)]
  rfl

theorem completes_viewGrant_free {view : Nat} (hc : Canon s) (hv : 1 ≤ view) (hv' : view ≤ 15) (hp : s.revokePending kind first n = false)
    (ha : Accepted s c 0x0003 (rangeParams kind first n ++ leBytes 1 view) false)
    (hfree : ∀ i, i < n → s.ownerOf kind (first + i) = 0 ∨ s.ownerOf kind (first + i) = view) :
    Completes (.viewGrant c kind first n view) s fun u => Replies s u c 0x0003 stOk [] ∧
      (∀ i, i < n → u.ownerOf kind (first + i) = view) ∧
      ∀ k i, i < 65536 → (k ≠ kind ∨ i < first ∨ first + n ≤ i) → u.ownerOf k i = s.ownerOf k i := by
  have hbusy : ¬ ((List.range n).any fun i => s.ownerOf kind (first + i) != 0 && s.ownerOf kind (first + i) != view) = true := by
    simp only [List.any_eq_true, List.mem_range, Bool.and_eq_true, bne_iff_ne, not_exists, not_and]
    intro i hi h0 hne
    exact (hfree i hi).elim h0 hne
  have hsmall : kindSize kind ≤ 65536 := by
    interval_cases kind <;> decide
  obtain ⟨l, hl, -⟩ := setOwners_frame (s.unfetch c) kind first n view
  have howner := ownerOf_setOwners (s := s.unfetch c) (rising_of_twf hc.owners) kind first n view
  refine ⟨_, exec_viewGrant hk hn hsize hv hv' hp ha, ?_⟩
  rw [if_neg hbusy, reply_live ha.here (by rw [hl]; exact ha.live)]
  refine ⟨?_, fun i hi => ?_, fun k i hi hne => ?_⟩
  · rw [hl]
    rfl
  · exact (howner kind (first + i)).trans (if_pos (by omega))
  · exact (howner k i).trans (if_neg (by omega))

theorem completes_viewGrant_busy {view : Nat} (hv : 1 ≤ view) (hv' : view ≤ 15) (hp : s.revokePending kind first n = false)
    (ha : Accepted s c 0x0003 (rangeParams kind first n ++ leBytes 1 view) false)
    (htaken : ∃ i, i < n ∧ s.ownerOf kind (first + i) ≠ 0 ∧ s.ownerOf kind (first + i) ≠ view) :
    Completes (.viewGrant c kind first n view) s fun u => Replies s u c 0x0003 stBusy [] ∧ OnlyAnswers s u := by
  have hbusy : ((List.range n).any fun i => s.ownerOf kind (first + i) != 0 && s.ownerOf kind (first + i) != view) = true := by
    simpa using htaken
  refine ⟨_, exec_viewGrant hk hn hsize hv hv' hp ha, ?_⟩
  rw [if_pos hbusy]
  exact ⟨replies_reply (s := s.unfetch c) ha.here ha.live, reply_onlyAnswers ha.here ha.live⟩

end

/-! ### The end of a revocation (R459) -/

/-- No queue is locked by the command path. -/
def NoPathLock (s : State) : Prop := ∀ q v, (s.queue q).ilock ≠ some (.cmdPath v)

theorem endProducer_of_unlocked {q : Nat} {a : Agent} (h : (s.queue q).ilock ≠ some a) :
    s.endProducer q a = s.modQueue q fun x => { x with skips := x.skips.filter (· ≠ a) } := by
  simp [State.endProducer, h]

theorem queue_setQueue (h : rising s.queues = true) (q : Nat) (x : Queue) (j : Nat) :
    (s.setQueue q x).queue j = if j = q then x else s.queue j := tget_tput h

theorem NoPathLock.endProducer (h : NoPathLock s) (hr : rising s.queues = true) (q v : Nat) :
    NoPathLock (s.endProducer q (.cmdPath v)) ∧ ∃ l, s.endProducer q (.cmdPath v) = { s with queues := l } ∧ rising l = true := by
  rw [endProducer_of_unlocked (h q v)]
  refine ⟨fun j w => ?_, _, rfl, Machine.rising_tput hr⟩
  rw [State.modQueue, queue_setQueue hr]
  split_ifs
  · exact h q w
  · exact h j w

/-- With no lock of the command path, ending its part in a run of queues touches nothing but queues. -/
theorem foldl_endProducer_frame (h : NoPathLock s) (hr : rising s.queues = true) (q : Nat → Nat) (v : State → Nat → Nat) (l : List Nat) :
    ∃ m, l.foldl (fun s i => s.endProducer (q i) (.cmdPath (v s i))) s = { s with queues := m } := by
  induction l generalizing s with
  | nil => exact ⟨_, rfl⟩
  | cons i l ih =>
    obtain ⟨hnext, m, hm, hrm⟩ := h.endProducer hr (q i) (v s i)
    have hr' : rising (s.endProducer (q i) (.cmdPath (v s i))).queues = true := by rw [hm]; exact hrm
    obtain ⟨m', hm'⟩ := ih hnext hr'
    rw [List.foldl_cons, hm', hm]
    exact ⟨_, rfl⟩

theorem revokeDone_frame (h : NoPathLock s) (hr : rising s.queues = true) (kind first n : Nat) :
    ∃ m, s.revokeDone kind first n = ({ s with queues := m } : State).setOwners kind first n 0 := by
  unfold State.revokeDone
  split
  · obtain ⟨m, hm⟩ := foldl_endProducer_frame h hr (first + ·) (fun s i => s.ownerOf 1 (first + i)) (List.range n)
    exact ⟨m, congrArg (State.setOwners · kind first n 0) hm⟩
  · exact ⟨s.queues, rfl⟩

/-- Where one VIEW_REVOKE waits, behind commands that are none, it is the one that settling looks at. -/
theorem settleRevokes_of_last {l : List InProg} {x : InProg} {kind first n : Nat} (hcmds : s.cmds = l ++ [x])
    (hl : ∀ y ∈ l, ∀ k f m, y.wait ≠ .viewRevoke k f m) (hx : x.wait = .viewRevoke kind first n) :
    s.settleRevokes = if s.revokeBlocked kind first n then s
      else State.reply { s.revokeDone kind first n with cmds := s.cmds.erase x } x.cmd x.op stOk [] := by
  rw [State.settleRevokes]
  conv_lhs => rw [hcmds]
  rw [List.foldl_append, foldl_fixed (l := l)]
  · simp only [List.foldl_cons, List.foldl_nil, hx]
  · intro y hy
    split
    · rename_i k f m hw
      exact absurd hw (hl y hy k f m)
    · rfl

/-- A VIEW_REVOKE that waits blocks no VIEW_REVOKE: it names no resource as a tenant command does. -/
theorem revokeBlocked_waitCmd (s : State) (c : Cmd) (op kind first n k f m timeout : Nat) :
    (s.waitCmd c op (.viewRevoke k f m) timeout).revokeBlocked kind first n = s.revokeBlocked kind first n := by
  simp [State.revokeBlocked, State.waitCmd, State.ownerOf, waitNames]

/-- A VIEW_REVOKE that waits. -/
def waitingRevoke (c : Cmd) (kind first n : Nat) : InProg :=
  { cmd := c, op := 0x0004, wait := .viewRevoke kind first n, deadline := none }

section
variable {c : Cmd} {kind first n : Nat} (hk : kind ≤ 5) (hn : 1 ≤ n) (hsize : first + n ≤ kindSize kind)
  (ha : Accepted s c 0x0004 (rangeParams kind first n) false) (hnone : ∀ x ∈ s.cmds, ∀ k f m, x.wait ≠ .viewRevoke k f m)
include hk hn hsize ha hnone

theorem exec_viewRevoke_settled : exec (.viewRevoke c kind first n) s = .next (
    let t := (s.unfetch c).waitCmd c 0x0004 (.viewRevoke kind first n) 0
    if s.revokeBlocked kind first n then t
    else State.reply { t.revokeDone kind first n with cmds := s.cmds } c 0x0004 stOk []) := by
  rw [exec_viewRevoke hk hn hsize ha, settleRevokes_of_last (l := s.cmds) rfl hnone rfl, revokeBlocked_waitCmd]
  have hfresh : waitingRevoke c kind first n ∉ s.cmds := fun hmem => hnone _ hmem kind first n rfl
  have herase : (s.cmds ++ [waitingRevoke c kind first n]).erase (waitingRevoke c kind first n) = s.cmds := by
    rw [List.erase_append_right _ hfresh]
    simp
  exact congrArg Host.Outcome.next (if_congr Iff.rfl rfl (by rw [← herase]; rfl))

theorem completes_viewRevoke_free (hc : Canon s) (hfree : s.revokeBlocked kind first n = false) (hpath : NoPathLock s) :
    Completes (.viewRevoke c kind first n) s fun u => Replies s u c 0x0004 stOk [] ∧ u.cmds = s.cmds ∧
      ∀ i, i < n → u.ownerOf kind (first + i) = 0 := by
  refine ⟨_, exec_viewRevoke_settled hk hn hsize ha hnone, ?_⟩
  obtain ⟨m, hm⟩ := revokeDone_frame (s := (s.unfetch c).waitCmd c 0x0004 (.viewRevoke kind first n) 0) hpath
    (rising_of_twf hc.queues) kind first n
  obtain ⟨l, hl, -⟩ := setOwners_frame { (s.unfetch c).waitCmd c 0x0004 (.viewRevoke kind first n) 0 with queues := m } kind first n 0
  have howner := ownerOf_setOwners (s := { (s.unfetch c).waitCmd c 0x0004 (.viewRevoke kind first n) 0 with queues := m })
    (rising_of_twf hc.owners) kind first n 0
  simp only [hfree, Bool.false_eq_true, if_false]
  rw [reply_live ha.here (by rw [hm, hl]; exact ha.live)]
  refine ⟨?_, rfl, fun i hi => ?_⟩
  · rw [hm, hl]
    rfl
  · rw [← hm] at howner
    exact (howner kind (first + i)).trans (if_pos (by omega))

theorem completes_viewRevoke_blocked (hblocked : s.revokeBlocked kind first n = true) :
    Completes (.viewRevoke c kind first n) s fun u => u.owners = s.owners ∧ u.replies = s.replies ∧
      u.cmds = s.cmds ++ [{ cmd := c, op := 0x0004, wait := .viewRevoke kind first n, deadline := none }] := by
  refine ⟨_, exec_viewRevoke_settled hk hn hsize ha hnone, ?_⟩
  simp only [hblocked, if_true]
  exact ⟨rfl, rfl, rfl⟩

end

end Sys2Proof
end

section
/-! PROOFS. Guard doorbells and host queue ports (R123, R461 to R463): how a port is bound and disabled, and what its page takes and
gives. -/

namespace Sys2Proof

open Sys2Proof.Machine

set_option Elab.async false

variable {s : State}

/-! ### GUARD_DOORBELL -/

theorem exec_guardDoorbell {c : Cmd} {t g : Nat} (ht : t ≤ 511) (hg : g ≤ 1)
    (ha : Accepted s c 0x0006 (leBytes 2 t ++ leBytes 1 g) false) (hslot : (s.guardSlot t g).isSome = true)
    (hen : bit (s.reg .TIL_GEN (2 * t + g)) 12 = true) (hopen : s.floorOpen (t / 16) = true) :
    exec (.guardDoorbell c t g) s =
      .next (State.reply { s.unfetch c with notices := s.notices ++ [(t, 12, g)] } c 0x0006 stOk []) := by
  have harm : exec (.guardDoorbell c t g) s = execGuardDoorbell c t g s := rfl
  have hslot' : ¬ ((s.unfetch c).guardSlot t g).isNone = true := by
    have : ((s.unfetch c).guardSlot t g).isSome = true := hslot
    simpa using Option.isSome_iff_ne_none.mp this
  have hen' : ¬ (!bit ((s.unfetch c).reg .TIL_GEN (2 * t + g)) 12) = true := by
    have : bit ((s.unfetch c).reg .TIL_GEN (2 * t + g)) 12 = true := hen
    simp [this]
  have hopen' : (s.unfetch c).floorOpen (t / 16) = true := hopen
  rw [harm, execGuardDoorbell, runCmd_of_accepted ha, if_neg (by omega), if_neg (by omega), if_neg hslot', if_neg hen',
    State.domainOff, hopen', if_neg (by decide), State.notice, hopen', if_pos rfl]
  rfl

/-! ### A port's state and its registers -/

theorem hport_modHport (h : rising s.hports = true) (p : Nat) (f : HPort → HPort) (q : Nat) :
    (s.modHport p f).hport q = if q = p then f (s.hport p) else s.hport q := tget_tput h

theorem hport_modHport_self (h : rising s.hports = true) (p : Nat) (f : HPort → HPort) :
    (s.modHport p f).hport p = f (s.hport p) := by rw [hport_modHport h, if_pos rfl]

theorem pendEdge_frame (s old : State) (h : Nat) : ∃ l, s.pendEdge old h = { s with irqs := l } := by
  unfold State.pendEdge
  split
  · exact ⟨_, rfl⟩
  · exact ⟨s.irqs, rfl⟩

/-- A port whose FIFO holds words is not drained. -/
theorem hqSettle_of_fifo {h : Nat} (hf : (s.hport h).fifo ≠ []) : s.hqSettle h = s := by
  simp [State.hqSettle, State.hqDrained, List.isEmpty_eq_false_iff.mpr hf]

/-- A port with no DRAIN has none that could end. -/
theorem hqSettle_of_no_drain {h : Nat} (hd : (s.hport h).drain = false) : s.hqSettle h = s := by
  simp [State.hqSettle, State.hqDrained, hd]

/-- With nothing that waits for `w`, ending that wait answers nothing. -/
theorem finish_of_none {w : CmdWait} (h : s.waitsFor w = false) (status : Nat) (data : List Byte) :
    s.finish w status data = { s with drains := s.drains.filter (· ≠ w) } := by
  simp only [State.waitsFor, Bool.or_eq_false_iff, List.any_eq_false, decide_eq_true_eq] at h
  have hnone : (s.cmds.filter fun x => x.wait = w) = [] := by simpa using h.1
  have hall : (s.cmds.filter fun x => x.wait ≠ w) = s.cmds := by
    rw [List.filter_eq_self]
    simpa using h.1
  simp only [State.finish, hnone, hall, List.foldl_nil]

/-! ### HOSTQ_BIND -/

/-- What HOSTQ_BIND writes to CMD_HQ. -/
def portWord (q dir view : Nat) : Nat := 2 ^ 31 + dir * 2 ^ 30 + view * 2 ^ 26 + q

theorem fld_of_reg {s : State} {f : Fld} {i v : Nat} (h : s.reg f.r i = v) : s.fld f i = bits v f.hi f.lo := by rw [State.fld, h]

section
variable {c : Cmd} {p q dir view : Nat} (hp : p ≤ 63) (hq : q ≤ 16383) (hdir : dir ≤ 1) (hview : view ≤ 15)
include hp hq hdir hview

theorem exec_hostqBind (hen : s.flag hqEn p = false) (hown : view = 0 ∨ (s.ownerOf 1 q = view ∧ s.revoked 1 q = false))
    (ha : Accepted s c 0x0007 (leBytes 1 p ++ leBytes 2 q ++ leBytes 1 dir ++ leBytes 1 view) false) :
    exec (.hostqBind c p q dir view) s = .next (
      let t := ((s.unfetch c).setReg .CMD_HQ p (portWord q dir view)).modHport p fun x =>
        { x with fifo := [], drain := false, mid := false }
      (t.pendEdge (s.unfetch c) p).reply c 0x0007 stOk []) := by
  have harm : exec (.hostqBind c p q dir view) s = execHostqBind c p q dir view s := rfl
  have hen' : ¬ (s.unfetch c).flag hqEn p = true := by
    have : (s.unfetch c).flag hqEn p = false := hen
    simp [this]
  have hown' : ¬ (view ≠ 0 ∧ ((s.unfetch c).ownerOf 1 q ≠ view ∨ (s.unfetch c).revoked 1 q = true)) := by
    rintro ⟨hv, hor⟩
    obtain ⟨ho, hr⟩ := hown.resolve_left hv
    exact hor.elim (fun h => h ho) fun h => absurd (h.symm.trans hr) (by decide)
  rw [harm, execHostqBind, runCmd_of_accepted ha, if_neg (by omega), if_neg (by omega), if_neg (by omega), if_neg (by omega),
    if_neg hen', if_neg hown']
  rfl

theorem completes_hostqBind (hc : Canon s) (hen : s.flag hqEn p = false)
    (hown : view = 0 ∨ (s.ownerOf 1 q = view ∧ s.revoked 1 q = false))
    (ha : Accepted s c 0x0007 (leBytes 1 p ++ leBytes 2 q ++ leBytes 1 dir ++ leBytes 1 view) false) :
    Completes (.hostqBind c p q dir view) s fun u => Replies s u c 0x0007 stOk [] ∧ u.flag hqEn p = true ∧
      u.fld hqQueue p = q ∧ u.fld hqDir p = dir ∧ u.fld hqView p = view ∧ (u.hport p).fifo = [] := by
  refine ⟨_, exec_hostqBind hp hq hdir hview hen hown ha, ?_⟩
  simp only
  generalize ht : ((s.unfetch c).setReg .CMD_HQ p (portWord q dir view)).modHport p
    (fun x => { x with fifo := [], drain := false, mid := false }) = t
  have hreg : t.reg .CMD_HQ p = portWord q dir view := by
    rw [← ht]
    refine (reg_setReg_self (s := s.unfetch c) hc.regs .CMD_HQ p (portWord q dir view)).trans (Nat.mod_eq_of_lt ?_)
    unfold portWord
    omega
  have hfifo : (t.hport p).fifo = [] := by
    rw [← ht]
    exact congrArg HPort.fifo (hport_modHport_self (s := (s.unfetch c).setReg .CMD_HQ p (portWord q dir view)) (rising_of_twf hc.hports) p _)
  have hrest : t.replies = s.replies ∧ t.orphans = s.orphans := by
    rw [← ht]
    exact ⟨rfl, rfl⟩
  obtain ⟨l, hl⟩ := pendEdge_frame t (s.unfetch c) p
  rw [hl, reply_live ha.here (by rw [show ({ t with irqs := l } : State).orphans = s.orphans from hrest.2]; exact ha.live)]
  have hfld (f : Fld) (hf : f.r = .CMD_HQ) : t.fld f p = bits (portWord q dir view) f.hi f.lo := fld_of_reg (by rw [hf, hreg])
  refine ⟨by rw [Replies, ← hrest.1], ?_, ?_, ?_, ?_, hfifo⟩
  · refine decide_eq_true ((hfld hqEn rfl).trans ?_)
    simp only [bits, hqEn, portWord]
    omega
  · refine (hfld hqQueue rfl).trans ?_
    simp only [bits, hqQueue, portWord]
    omega
  · refine (hfld hqDir rfl).trans ?_
    simp only [bits, hqDir, portWord]
    omega
  · refine (hfld hqView rfl).trans ?_
    simp only [bits, hqView, portWord]
    omega

end

/-! ### HOSTQ_DISABLE -/

/-- The port off, with an empty FIFO. -/
def portOff (s : State) (p : Nat) : State :=
  ((s.modHport p fun x => { x with fifo := [] }).setFld hqEn p 0).modHport p fun x => { x with drain := false, mid := false }

section
variable {c : Cmd} {p timeout : Nat} (hp : p ≤ 63) (hown : s.cmdOwns c 5 p = true) (hen : s.flag hqEn p = true)
include hp hown hen

theorem hostqCmd_of_open (body : State → State) : (s.unfetch c).hostqCmd c p body = body (s.unfetch c) := by
  have hown' : ¬ (!(s.unfetch c).cmdOwns c 5 p) = true := by
    rw [show (s.unfetch c).cmdOwns c 5 p = true from hown]
    decide
  have hen' : ¬ (!(s.unfetch c).flag hqEn p) = true := by
    rw [show (s.unfetch c).flag hqEn p = true from hen]
    decide
  rw [State.hostqCmd, if_neg (by omega), if_neg hown', if_neg hen']

theorem completes_hostqDisableDrain (hc : Canon s)
    (ha : Accepted s c 0x0008 (leBytes 1 p ++ leBytes 1 0 ++ leBytes 2 timeout) true) (hf : (s.hport p).fifo ≠ []) :
    Completes (.hostqDisableDrain c p timeout) s fun u => WaitsFor s u c 0x0008 (.portDrain p) timeout ∧
      (u.hport p).drain = true ∧ u.flag hqEn p = true := by
  have harm : exec (.hostqDisableDrain c p timeout) s = execHostqDisableDrain c p timeout s := rfl
  have hwait : ∃ cs rs, (s.unfetch c).await c 0x0008 (.portDrain p) timeout = { s.unfetch c with cmds := cs, replies := rs } := by
    unfold State.await State.interim
    split <;> exact ⟨_, _, rfl⟩
  have hwaits : WaitsFor s ((s.unfetch c).await c 0x0008 (.portDrain p) timeout) c 0x0008 (.portDrain p) timeout :=
    await_waitsFor (s := s.unfetch c) ha.here ha.live
  obtain ⟨cs, rs, hawait⟩ := hwait
  rw [hawait] at hwaits
  have hport : (({ s.unfetch c with cmds := cs, replies := rs } : State).modHport p fun x => { x with drain := true }).hport p =
      { s.hport p with drain := true } :=
    hport_modHport_self (s := { s.unfetch c with cmds := cs, replies := rs }) (rising_of_twf hc.hports) p _
  refine ⟨({ s.unfetch c with cmds := cs, replies := rs } : State).modHport p fun x => { x with drain := true }, ?_, hwaits, ?_, hen⟩
  · rw [harm, execHostqDisableDrain, runCmd_of_accepted ha, hostqCmd_of_open hp hown hen, hawait, hqSettle_of_fifo]
    rw [hport]
    exact hf
  · rw [hport]

omit hp hown hen in
/-- The abort of a port that holds no lock and that no DRAIN waits for turns it off; beside it only queues and drains can change (R463). -/
theorem hqAbort_frame {t : State} (hmid : t.hqMid p = false) (hnone : t.waitsFor (.portDrain p) = false) :
    ∃ m d, t.hqAbort p = { portOff t p with queues := m, drains := d } := by
  simp only [State.hqMid, Bool.or_eq_false_iff, beq_eq_false_iff_ne] at hmid
  obtain ⟨hin, hout⟩ := hmid
  have hdone (m : Tbl Queue) : ∃ d, ({ t.modHport p (fun x => { x with fifo := [] }) with queues := m } : State).hqDone p stAborted =
      { portOff t p with queues := m, drains := d } :=
    ⟨_, finish_of_none (s := { portOff t p with queues := m }) hnone _ _⟩
  simp only [State.hqAbort]
  split
  · have hdrop : (t.modHport p fun x => { x with fifo := [] }).endConsumer (t.fld hqQueue p) (.hostPort p) =
        t.modHport p fun x => { x with fifo := [] } := if_neg fun h => hout h.1
    rw [hdrop]
    exact ⟨t.queues, hdone t.queues⟩
  · have hend := endProducer_of_unlocked (s := t.modHport p fun x => { x with fifo := [] }) (q := t.fld hqQueue p)
      (a := .hostPort p) hin
    rw [hend]
    exact ⟨_, hdone _⟩

theorem completes_hostqDisableAbort (hc : Canon s)
    (ha : Accepted s c 0x0008 (leBytes 1 p ++ leBytes 1 1 ++ leBytes 2 timeout) true) (hpack : c.pack = false)
    (hnone : s.waitsFor (.portDrain p) = false) (hmid : s.hqMid p = false) :
    Completes (.hostqDisableAbort c p timeout) s fun u =>
      Replies s u c 0x0008 stOk [] ∧ u.flag hqEn p = false ∧ (u.hport p).fifo = [] := by
  have harm : exec (.hostqDisableAbort c p timeout) s = execHostqDisableAbort c p timeout s := rfl
  have hinterim : (s.unfetch c).interim c 0x0008 = s.unfetch c := by simp [State.interim, hpack]
  obtain ⟨m, d, habort⟩ := hqAbort_frame (t := s.unfetch c) hmid hnone
  obtain ⟨l, hl⟩ := pendEdge_frame { portOff (s.unfetch c) p with queues := m, drains := d } (s.unfetch c) p
  refine ⟨State.reply { portOff (s.unfetch c) p with queues := m, drains := d, irqs := l } c 0x0008 stOk [], ?_, ?_⟩
  · rw [harm, execHostqDisableAbort, runCmd_of_accepted ha, hostqCmd_of_open hp hown hen, hinterim, habort, hl]
  rw [reply_live (s := { portOff (s.unfetch c) p with queues := m, drains := d, irqs := l }) ha.here ha.live]
  refine ⟨rfl, ?_, ?_⟩
  · have hset : ((s.unfetch c).setFld hqEn p 0).flag hqEn p = false := by
      rw [State.flag, fld_setFld_self (s := s.unfetch c) hc.regs (by decide) (by decide)]
      decide
    exact hset
  · have hoff : (portOff (s.unfetch c) p).hport p = { s.hport p with fifo := [], drain := false, mid := false } := by
      rw [portOff, hport_modHport_self (Machine.rising_tput (rising_of_twf hc.hports))]
      exact congrArg (fun x : HPort => { x with drain := false, mid := false })
        (hport_modHport_self (s := s.unfetch c) (rising_of_twf hc.hports) p fun x => { x with fifo := [] })
    exact congrArg HPort.fifo hoff

end

end Sys2Proof
end

section
/-! PROOFS. The pages of host queue ports (R461, R462): what a write to a push port and a read of a pop port leave of its FIFO. -/

namespace Sys2Proof

open Sys2Proof.Machine

set_option Elab.async false

variable {s : State} {h : Nat}

theorem hqPush_of_room (hen : s.flag hqEn h = true) (hdir : s.flag hqDir h = false) (hdrain : (s.hport h).drain = false)
    (hroom : (s.hport h).fifo.length < 256) (w : Word) (sop eop psn : Bool) :
    s.hqPush h w sop eop psn = s.setHport h { s.hport h with fifo := (s.hport h).fifo ++ [mkWord w sop eop psn], mid := !eop } := by
  have hgo : ¬ (!s.flag hqEn h ∨ s.flag hqDir h ∨ 256 ≤ (s.hport h).fifo.length ∨ ((s.hport h).drain ∧ !(s.hport h).mid)) := by
    simp [hen, hdir, hdrain, hroom]
  rw [State.hqPush, if_neg hgo]

theorem hqPush_of_full (hfull : 256 ≤ (s.hport h).fifo.length) (w : Word) (sop eop psn : Bool) :
    s.hqPush h w sop eop psn = s.hqOverrun h := if_pos (.inr (.inr (.inl hfull)))

/-- A discarded write is counted at its port; its event changes no port. -/
theorem hport_hqOverrun (hr : rising s.hports = true) :
    (s.hqOverrun h).hport h = { s.hport h with err := min 0xFFFFFFFF ((s.hport h).err + 1) } := by
  have hports : (s.hqOverrun h).hports = (s.modHport h fun x => { x with err := min 0xFFFFFFFF (x.err + 1) }).hports := by
    unfold State.hqOverrun
    dsimp only
    split
    · rw [State.raise, raiseAt_plain (by decide)]
      rfl
    · rfl
  rw [State.hport, hports]
  exact hport_modHport_self hr h _

/-- A word written at the page's address for tags `g` (R462). -/
theorem exec_hqPushWrite {p : Fin 64} {view : ViewNo} (hsees : s.hqSees view p = true) {g : Nat} (hg : g < 8) (w : Word) :
    exec (.hqPushWrite p view (BitVec.ofNat 12 (0x100 + 4 * g)) [w] true) s =
      .next (s.hqPush p w (bit g 0) (bit g 1) (bit g 2)) := by
  have harm : exec (.hqPushWrite p view (BitVec.ofNat 12 (0x100 + 4 * g)) [w] true) s =
      execHqPushWrite p view (BitVec.ofNat 12 (0x100 + 4 * g)) [w] true s := rfl
  have haddr : (BitVec.ofNat 12 (0x100 + 4 * g)).toNat = 0x100 + 4 * g := by
    rw [BitVec.toNat_ofNat]
    omega
  have hword : s.hqWrite p (0x100 + 4 * g) w = s.hqPush p w (bit g 0) (bit g 1) (bit g 2) := by
    rw [State.hqWrite, if_neg (by omega), if_pos (by omega)]
    simp only [show (0x100 + 4 * g - 0x100) / 4 = g by omega]
  rw [harm, execHqPushWrite, hsees, haddr, ← hword]
  simp [show (0x100 + 4 * g) / 4 * 4 = 0x100 + 4 * g by omega]

/-- A read of HQ_POP takes the word it reads (R462). -/
theorem exec_hqPopRead {p : Fin 64} {view : ViewNo} (hsees : s.hqSees view p = true) (hdir : s.flag hqDir p = true) :
    exec (.hqPopRead p view 0x200 true) s = .next (
      let t := s.modHport p fun x => { x with fifo := x.fifo.tail }
      (t.pendEdge s p).hqSettle p) := by
  have harm : exec (.hqPopRead p view 0x200 true) s = execHqPopRead p view 0x200 true s := rfl
  rw [harm, execHqPopRead, hsees, if_neg (by decide), if_neg (by decide), if_pos ⟨rfl, rfl, hdir⟩]

theorem completes_hqPushWrite (hc : Canon s) {p : Fin 64} {view : ViewNo} (hsees : s.hqSees view p = true) (hen : s.flag hqEn p = true)
    (hdir : s.flag hqDir p = false) (hdrain : (s.hport p).drain = false) (w : Word) {g : Nat} (hg : g < 8) :
    ((s.hport p).fifo.length < 256 → Completes (.hqPushWrite p view (BitVec.ofNat 12 (0x100 + 4 * g)) [w] true) s fun u =>
      (u.hport p).fifo = (s.hport p).fifo ++ [mkWord w (bit g 0) (bit g 1) (bit g 2)]) ∧
    (256 ≤ (s.hport p).fifo.length → Completes (.hqPushWrite p view (BitVec.ofNat 12 (0x100 + 4 * g)) [w] true) s fun u =>
      (u.hport p).fifo = (s.hport p).fifo ∧ (u.hport p).err = min 0xFFFFFFFF ((s.hport p).err + 1)) := by
  have hr := rising_of_twf hc.hports
  refine ⟨fun hroom => ⟨_, exec_hqPushWrite hsees hg w, ?_⟩, fun hfull => ⟨_, exec_hqPushWrite hsees hg w, ?_⟩⟩
  · rw [hqPush_of_room hen hdir hdrain hroom]
    exact congrArg HPort.fifo (hport_modHport_self hr p fun x =>
      { x with fifo := x.fifo ++ [mkWord w (bit g 0) (bit g 1) (bit g 2)], mid := !bit g 1 })
  · have hport := hport_hqOverrun (s := s) (h := p) hr
    rw [hqPush_of_full hfull]
    exact ⟨by rw [hport], by rw [hport]⟩

theorem completes_hqPopRead (hc : Canon s) {p : Fin 64} {view : ViewNo} (hsees : s.hqSees view p = true) (hdir : s.flag hqDir p = true)
    (hdrain : (s.hport p).drain = false) : Completes (.hqPopRead p view 0x200 true) s fun u =>
      (u.hport p).fifo = (s.hport p).fifo.tail := by
  refine ⟨_, exec_hqPopRead hsees hdir, ?_⟩
  dsimp only
  have hport := hport_modHport_self (rising_of_twf hc.hports) p fun x => { x with fifo := x.fifo.tail }
  obtain ⟨l, hl⟩ := pendEdge_frame (s.modHport p fun x => { x with fifo := x.fifo.tail }) s p
  have hidle : (((s.modHport p fun x => { x with fifo := x.fifo.tail }).pendEdge s p).hport p).drain = false := by
    rw [hl]
    exact (congrArg HPort.drain hport).trans hdrain
  rw [hqSettle_of_no_drain hidle, hl]
  exact congrArg HPort.fifo hport

end Sys2Proof
end

section
/-! PROOFS. One word stored in a queue (R228, R241): where it stands among the queue's words, and what it leaves of the rest. -/

namespace Sys2Proof

open Sys2Proof.Machine

set_option Elab.async false

variable {s : State}

/-! ### The banks of one queue -/

@[simp] theorem drain_setTail (x : Queue) (n : Nat) (l : List Ent) : (x.setTail n l).drain = x.drain := by
  cases hx : x.fill1 <;> simp [Queue.setTail, Queue.setFill, Queue.drain, hx]

@[simp] theorem words_setTail (x : Queue) (n : Nat) (l : List Ent) : (x.setTail n l).words = x.drain ++ l := by
  cases hx : x.fill1 <;> simp [Queue.words, Queue.tail, Queue.setTail, Queue.setFill, Queue.drain, Queue.fill, hx]

@[simp] theorem late_setTail (x : Queue) (n : Nat) (l : List Ent) : (x.setTail n l).late = x.late := by
  cases hx : x.fill1 <;> simp [Queue.setTail, Queue.setFill, hx]

theorem level_setTail (x : Queue) (n : Nat) (l : List Ent) : (x.setTail n l).level + x.tail.length = x.level + l.length := by
  have hl : (l.take n).length + (l.drop n).length = l.length := by rw [← List.length_append, List.take_append_drop]
  cases hx : x.fill1 <;>
    simp only [Queue.level, Queue.all, Queue.tail, Queue.setTail, Queue.setFill, Queue.fill, hx, List.length_append, List.length_map,
      if_true, if_false, Bool.false_eq_true] <;>
    omega

/-- The banks of a queue exchanged, as a swap does it. -/
def swapBanks (x : Queue) (full : Bool) (n : Nat) : Queue :=
  let y := { x with fill1 := !x.fill1, drainFull := full }
  y.setTail n y.tail

/-- With the draining bank empty, a swap moves no word past another. -/
theorem words_swapBanks {x : Queue} (hx : x.drain = []) (full : Bool) (n : Nat) : (swapBanks x full n).words = x.words := by
  rw [swapBanks, words_setTail]
  cases hf : x.fill1 <;> simp_all [Queue.words, Queue.tail, Queue.drain, Queue.fill]

theorem level_swapBanks (x : Queue) (full : Bool) (n : Nat) : (swapBanks x full n).level = x.level := by
  have hset := level_setTail { x with fill1 := !x.fill1, drainFull := full } n
    (Queue.tail { x with fill1 := !x.fill1, drainFull := full })
  have hsame : Queue.level { x with fill1 := !x.fill1, drainFull := full } = x.level := rfl
  rw [swapBanks]
  omega

theorem late_swapBanks (x : Queue) (full : Bool) (n : Nat) : (swapBanks x full n).late = x.late := late_setTail _ _ _

/-! ### Pool words -/

theorem b2n_le_one (b : Bool) : b2n b ≤ 1 := by cases b <;> decide

theorem decide_b2n (b : Bool) : decide (b2n b = 1) = b := by cases b <;> rfl

theorem toNat_encodeWord (w : QWord) : (encodeWord w).toNat = wordBits w + 2 ^ 35 * b2n w.par := by
  have := w.data.isLt
  have := b2n_le_one w.sop
  have := b2n_le_one w.eop
  have := b2n_le_one w.psn
  have := b2n_le_one w.par
  rw [encodeWord, BitVec.toNat_ofNat, wordBits]
  omega

/-- A word read back from the pool is the word stored. -/
theorem decodeWord_encodeWord (w : QWord) : decodeWord (encodeWord w) = w := by
  obtain ⟨data, sop, eop, psn, par⟩ := w
  have hdata := data.isLt
  have hsop := b2n_le_one sop
  have heop := b2n_le_one eop
  have hpsn := b2n_le_one psn
  have hpar := b2n_le_one par
  have hn := toNat_encodeWord ⟨data, sop, eop, psn, par⟩
  simp only [wordBits] at hn
  have hbit (i : Nat) (b : Bool) (h : (encodeWord ⟨data, sop, eop, psn, par⟩).toNat / 2 ^ i % 2 = b2n b) :
      (encodeWord ⟨data, sop, eop, psn, par⟩).getLsbD i = b := by
    rw [← BitVec.testBit_toNat, Nat.testBit_eq_decide_div_mod_eq, h, decide_b2n]
  simp only [decodeWord, QWord.mk.injEq]
  refine ⟨?_, hbit 32 sop (by omega), hbit 33 eop (by omega), hbit 34 psn (by omega), hbit 35 par (by omega)⟩
  apply BitVec.eq_of_toNat_eq
  rw [BitVec.toNat_setWidth]
  omega

/-! ### One word stored -/

/-- Between `s` and `u` queue `q` has got the entry `e` behind its words, which holds `w`; ports are as before. -/
structure Appended (s u : State) (q : Nat) (e : Ent) (w : QWord) : Prop where
  words : (u.queue q).words = (s.queue q).words ++ [e]
  level : (u.queue q).level = (s.queue q).level + 1
  late : (u.queue q).late = (s.queue q).late
  entry : u.entWord q e = w
  hports : u.hports = s.hports
  rising : Machine.rising u.queues = true

/-- A swap that finds the draining bank empty leaves the words of its queue, the pool and the ports. -/
theorem queue_swap (hq : rising s.queues = true) (q : Nat) :
    ∃ full n, (s.swap q).queue q = swapBanks (s.queue q) full n ∧ (s.swap q).pool = s.pool ∧ (s.swap q).hports = s.hports ∧
      rising (s.swap q).queues = true :=
  ⟨s.bankFull q, s.bankSize q, (queue_setQueue hq q _ q).trans (if_pos rfl), rfl, rfl, Machine.rising_tput hq⟩

/-- A word put into the pool, and its entry behind the others. -/
theorem appended_setPool (hq : rising s.queues = true) (hp : rising s.pool = true) (q : Nat) (e : Ent) (w : QWord) (n : Nat) :
    Appended s ((s.setPool (q / 512) e.pos w).modQueue q fun x => x.setTail n (x.tail ++ [e])) q e w where
  words := by
    rw [State.modQueue, queue_setQueue (s := s.setPool (q / 512) e.pos w) hq, if_pos rfl, words_setTail, ← List.append_assoc]
    rfl
  level := by
    have hlevel := level_setTail (s.queue q) n ((s.queue q).tail ++ [e])
    rw [State.modQueue, queue_setQueue (s := s.setPool (q / 512) e.pos w) hq, if_pos rfl]
    rw [List.length_append, List.length_singleton] at hlevel
    have hsame : (s.setPool (q / 512) e.pos w).queue q = s.queue q := rfl
    rw [hsame]
    omega
  late := by
    rw [State.modQueue, queue_setQueue (s := s.setPool (q / 512) e.pos w) hq, if_pos rfl, late_setTail]
    rfl
  entry := (poolWord_setPool hp _ _ _ _ w).trans ((if_pos rfl).trans (decodeWord_encodeWord w))
  hports := rfl
  rising := Machine.rising_tput hq

theorem appended_storeWord (hq : rising s.queues = true) (hp : rising s.pool = true) {q : Nat} (hd : (s.queue q).dropping = false)
    (a : Agent) (w : QWord) : ∃ e, Appended s (s.storeWord q a none w) q e w := by
  unfold State.storeWord
  simp only [hd, Bool.false_eq_true, false_and, if_false]
  split
  · rename_i hswap
    obtain ⟨full, n, hqueue, hpool, hports, hrising⟩ := queue_swap hq q
    have happ := appended_setPool (s := s.swap q) hrising (by rw [hpool]; exact hp) q
      { pos := (s.swap q).freePos q, prod := a, credited := false } w ((s.swap q).bankSize q)
    refine ⟨_, ?_, ?_, ?_, happ.entry, happ.hports.trans hports, happ.rising⟩
    · exact happ.words.trans (by rw [hqueue, words_swapBanks hswap.2.1])
    · exact happ.level.trans (by rw [hqueue, level_swapBanks])
    · exact happ.late.trans (by rw [hqueue, late_swapBanks])
  · exact ⟨_, appended_setPool hq hp q { pos := s.freePos q, prod := a, credited := false } w _⟩

/-! ### A push that a queue accepts -/

/-- The producer's side of the queue after its word: the item goes on, or has ended. -/
def afterPush (a : Agent) (eop : Bool) (x : Queue) : Queue :=
  if eop then { x with ilock := none, fl := none, itemLen := 0 } else { x with ilock := some a, fl := none, itemLen := 1 }

theorem afterPush_words (a : Agent) (eop : Bool) (x : Queue) : (afterPush a eop x).words = x.words ∧
    (afterPush a eop x).level = x.level ∧ (afterPush a eop x).late = x.late := by
  cases eop <;> exact ⟨rfl, rfl, rfl⟩

theorem pushWord_of_canPush {q : Nat} (h : CanPush s q) (a : Agent) (data : Word) (eop psn : Bool) :
    s.pushWord q a none data true eop psn =
      (true, ((((s.setFld quePinj q 0).storeWord q a none (mkWord data true eop psn)).modQueue q (afterPush a eop)).settleLate q).qEval q) := by
  have hfun : (fun x : Queue => if eop = true then { x with ilock := none, fl := none, itemLen := 0 }
      else { x with ilock := some a, fl := none, itemLen := 1 }) = afterPush a eop := rfl
  simp [State.pushWord, h.skips, h.skip, h.isOpen, h.lock, h.wait, h.room, h.inj, hfun]

/-- Only registers and the records that wait for their logs have changed. -/
def OnlyRegsLogs (s u : State) : Prop := ∃ regs logQ, u = { s with regs := regs, logQ := logQ }

theorem OnlyRegsLogs.raise {u : State} (h : OnlyRegsLogs s u) {code : Nat} (hc : faultBit code = 0) (sclass loc data : Nat) :
    OnlyRegsLogs s (u.raise code sclass loc data) := by
  obtain ⟨regs, logQ, rfl⟩ := h
  rw [State.raise, raiseAt_plain hc]
  exact ⟨_, _, rfl⟩

theorem OnlyRegsLogs.ite {u v : State} {c : Prop} [Decidable c] (hu : OnlyRegsLogs s u) (hv : OnlyRegsLogs s v) :
    OnlyRegsLogs s (if c then u else v) := by
  split
  · exact hu
  · exact hv

theorem onlyRegsLogs_qEval (s : State) (q : Nat) : OnlyRegsLogs s (s.qEval q) :=
  .ite ⟨_, _, rfl⟩ (.ite (.raise ⟨_, _, rfl⟩ (by decide) _ _ _) ⟨_, _, rfl⟩)

/-- Released items that waited come behind the words, or stay where they wait. -/
theorem settleLate_words (hq : rising s.queues = true) (q : Nat) :
    (((s.settleLate q).queue q).words = (s.queue q).words ∨
      ((s.settleLate q).queue q).words = (s.queue q).words ++ (s.queue q).late) ∧
    ((s.settleLate q).queue q).level = (s.queue q).level ∧
    (s.settleLate q).pool = s.pool ∧ (s.settleLate q).hports = s.hports := by
  unfold State.settleLate
  split
  · exact ⟨.inl rfl, rfl, rfl, rfl⟩
  · rw [State.modQueue, queue_setQueue hq, if_pos rfl]
    refine ⟨.inr ?_, ?_, rfl, rfl⟩
    · have hwords := words_setTail (s.queue q) (s.bankSize q) ((s.queue q).tail ++ (s.queue q).late)
      rw [← List.append_assoc] at hwords
      exact hwords
    · have hlevel := level_setTail (s.queue q) (s.bankSize q) ((s.queue q).tail ++ (s.queue q).late)
      have hgone : Queue.level { (s.queue q).setTail (s.bankSize q) ((s.queue q).tail ++ (s.queue q).late) with late := [] } +
          (s.queue q).late.length = ((s.queue q).setTail (s.bankSize q) ((s.queue q).tail ++ (s.queue q).late)).level := by
        conv_rhs => rw [Queue.level, Queue.all, late_setTail]
        simp only [Queue.level, Queue.all, List.length_append, List.length_nil]
        omega
      rw [List.length_append] at hlevel
      omega

/-- Where the queues and the pool are the same, the same word is stored. -/
theorem Stored.congr {u v : State} {q : Nat} {w : QWord} (h : Stored s u q w) (hq : v.queues = u.queues) (hp : v.pool = u.pool) :
    Stored s v q w := by
  have hqueue : v.queue q = u.queue q := by rw [State.queue, State.queue, hq]
  have hword (e : Ent) : v.entWord q e = u.entWord q e := congrArg (fun m => decodeWord (tget 0#36 m (poolKey (q / 512) e.pos))) hp
  obtain ⟨hlevel, e, hmem, hentry, hlast⟩ := h
  exact ⟨by rw [hqueue]; exact hlevel, e, by rw [hqueue]; exact hmem, (hword e).trans hentry, by rw [hqueue]; exact hlast⟩

/-- What an accepted word leaves: it is stored, as the last word where no released item waits, and no port changes. -/
theorem stored_pushWord (hc : Canon s) {q : Nat} (h : CanPush s q) (a : Agent) (data : Word) (eop psn : Bool) :
    ∃ u, s.pushWord q a none data true eop psn = (true, u) ∧ Stored s u q (mkWord data true eop psn) ∧ u.hports = s.hports := by
  have hq := rising_of_twf hc.queues
  obtain ⟨e, happ⟩ := appended_storeWord (s := s.setFld quePinj q 0) hq (rising_of_twf hc.pool) h.drop a (mkWord data true eop psn)
  refine ⟨_, pushWord_of_canPush h a data eop psn, ?_⟩
  generalize (s.setFld quePinj q 0).storeWord q a none (mkWord data true eop psn) = t at happ ⊢
  have hafter : (t.modQueue q (afterPush a eop)).queue q = afterPush a eop (t.queue q) :=
    (queue_setQueue happ.rising q _ q).trans (if_pos rfl)
  obtain ⟨hwords, hlevel, hlate⟩ := afterPush_words a eop (t.queue q)
  obtain ⟨hsettled, hslevel, hpool, hports⟩ :=
    settleLate_words (s := t.modQueue q (afterPush a eop)) (Machine.rising_tput happ.rising) q
  obtain ⟨regs, logQ, heval⟩ := onlyRegsLogs_qEval ((t.modQueue q (afterPush a eop)).settleLate q) q
  rw [heval]
  rw [hafter, hwords, hlate, happ.words, happ.late] at hsettled
  refine ⟨Stored.congr (u := (t.modQueue q (afterPush a eop)).settleLate q) ⟨?_, e, ?_, ?_, fun hnone => ?_⟩ rfl rfl,
    hports.trans happ.hports⟩
  · exact hslevel.trans (by rw [hafter, hlevel]; exact happ.level)
  · exact hsettled.elim (fun hw => by rw [hw]; simp) fun hw => by rw [hw]; simp
  · rw [← happ.entry]
    exact congrArg (fun m => decodeWord (tget 0#36 m (poolKey (q / 512) e.pos))) hpool
  · rw [show (s.setFld quePinj q 0).queue q = s.queue q from rfl, hnone, List.append_nil, or_self] at hsettled
    rw [hsettled]
    simp

end Sys2Proof
end

section
/-! PROOFS. What HQ_PORT_TRANSFER moves between a queue and the FIFO of its port (R462). -/

namespace Sys2Proof

open Sys2Proof.Machine

set_option Elab.async false

variable {s : State}

/-! ### A port that settles -/

/-- Replies to several commands change no more than the replies, the management replies and the orphans. -/
theorem foldl_reply_frame {status : Nat} {data : List Byte} (l : List InProg) (s : State) : ∃ replies mgmt orphans,
    l.foldl (fun s x => s.reply x.cmd x.op status data) s = { s with replies := replies, mgmt := mgmt, orphans := orphans } := by
  induction l generalizing s with
  | nil => exact ⟨_, _, _, rfl⟩
  | cons x l ih =>
    obtain ⟨replies, mgmt, orphans, h⟩ := ih (s.reply x.cmd x.op status data)
    rw [List.foldl_cons, h]
    rcases reply_cases s x.cmd x.op status data with h | ⟨-, h⟩ | ⟨-, h⟩ <;> rw [h] <;> exact ⟨_, _, _, rfl⟩

theorem finish_ports (s : State) (w : CmdWait) (status : Nat) (data : List Byte) :
    (s.finish w status data).queues = s.queues ∧ (s.finish w status data).pool = s.pool ∧ (s.finish w status data).hports = s.hports := by
  unfold State.finish
  dsimp only
  obtain ⟨replies, mgmt, orphans, h⟩ := foldl_reply_frame (status := status) (data := data) (s.cmds.filter fun x => x.wait = w)
    { s with cmds := s.cmds.filter fun x => x.wait ≠ w, drains := s.drains.filter (· ≠ w) }
  rw [h]
  exact ⟨rfl, rfl, rfl⟩

/-- The end of a DRAIN leaves the queues and the words of the port's FIFO. -/
theorem hqSettle_frame (hr : rising s.hports = true) (h : Nat) : (s.hqSettle h).queues = s.queues ∧ (s.hqSettle h).pool = s.pool ∧
    ((s.hqSettle h).hport h).fifo = (s.hport h).fifo := by
  unfold State.hqSettle
  split
  · obtain ⟨hqueues, hpool, hports⟩ := finish_ports ((s.setFld hqEn h 0).modHport h fun x => { x with drain := false, mid := false })
      (.portDrain h) stOk []
    refine ⟨hqueues, hpool, ?_⟩
    rw [State.hport, State.hqDone, hports]
    have hport := congrArg HPort.fifo
      (hport_modHport_self (s := s.setFld hqEn h 0) hr h fun x => { x with drain := false, mid := false })
    exact hport
  · exact ⟨rfl, rfl, rfl⟩

/-! ### The transfer -/

section
variable {h : Fin 64} (hen : s.flag hqEn h = true) (hopen : s.floorOpen (s.fld hqQueue h / 512) = true)
include hen hopen

theorem exec_hqPortTransfer : exec (.hqPortTransfer h) s = .next (
    let t := if s.flag hqDir h then s.portPop h (s.fld hqQueue h) else s.portPush h (s.fld hqQueue h)
    (t.pendEdge s h).hqSettle h) := by
  have harm : exec (.hqPortTransfer h) s = execHqPortTransfer h s := rfl
  rw [harm, execHqPortTransfer]
  simp [hen, hopen]

theorem completes_hqPortTransfer_push (hc : Canon s) {w : QWord} {rest : List QWord} (hdir : s.flag hqDir h = false)
    (hfifo : (s.hport h).fifo = w :: rest) (hsop : w.sop = true) (hq : CanPush s (s.fld hqQueue h)) :
    Completes (.hqPortTransfer h) s fun u => (u.hport h).fifo = rest ∧
      Stored s u (s.fld hqQueue h) (mkWord w.data true w.eop w.psn) := by
  obtain ⟨t, hpush, hstored, hports⟩ := stored_pushWord hc hq (.hostPort h) w.data w.eop w.psn
  have hr : rising t.hports = true := hports ▸ rising_of_twf hc.hports
  have hmoved : s.portPush h (s.fld hqQueue h) = t.modHport h fun x => { x with fifo := rest } := by
    rw [State.portPush, hfifo]
    simp only [hsop, hpush, if_true]
  refine ⟨_, exec_hqPortTransfer hen hopen, ?_⟩
  simp only [hdir, Bool.false_eq_true, if_false, hmoved]
  obtain ⟨l, hl⟩ := pendEdge_frame (t.modHport h fun x => { x with fifo := rest }) s h
  rw [hl]
  obtain ⟨hqueues, hpool, hsettled⟩ :=
    hqSettle_frame (s := { t.modHport h (fun x => { x with fifo := rest }) with irqs := l }) (Machine.rising_tput hr) h
  have hport := hport_modHport_self hr h fun x => { x with fifo := rest }
  exact ⟨hsettled.trans (congrArg HPort.fifo hport), hstored.congr hqueues hpool⟩

end

/-! ### A word taken from a queue -/

theorem drain_setDrain (x : Queue) (l : List Ent) : (x.setDrain l).drain = l := by
  cases hx : x.fill1 <;> simp [Queue.setDrain, Queue.drain, hx]

/-- A sound word leaves the draining bank; beside its queue only registers and waiting records change. -/
theorem popWord_of_canPop {q : Nat} {a : Agent} {w : QWord} (h : CanPop s q a w) : ∃ o regs logQ, s.popWord q a =
    some (w, { s.modQueue q (fun x => { x.setDrain (s.queue q).drain.tail with olock := o }) with regs := regs, logQ := logQ }) := by
  obtain ⟨hmay, hhead, hsound⟩ := h
  cases hd : (s.queue q).drain with
  | nil => simp [hd] at hhead
  | cons e rest =>
    have hword : s.poolWord (q / 512) e.pos = w := by
      rw [hd] at hhead
      exact Option.some.inj hhead
    have hread : s.readPool q e.pos = (w, s) := by
      rw [State.readPool, hword]
      simp [hsound]
    obtain ⟨regs, logQ, heval⟩ :=
      onlyRegsLogs_qEval (s.modQueue q fun x => { x.setDrain rest with olock := if w.eop then none else some a }) q
    refine ⟨if w.eop then none else some a, regs, logQ, ?_⟩
    rw [State.popWord, if_pos hmay, hd]
    simp only [hread, heval, List.tail_cons]

theorem completes_hqPortTransfer_pop (hc : Canon s) {h : Fin 64} (hen : s.flag hqEn h = true)
    (hopen : s.floorOpen (s.fld hqQueue h / 512) = true) {w : QWord} (hdir : s.flag hqDir h = true)
    (hroom : (s.hport h).fifo.length < 256) (hdrain : (s.hport h).drain = false)
    (hq : CanPop s (s.fld hqQueue h) (.hostPort h) w) :
    Completes (.hqPortTransfer h) s fun u => (u.hport h).fifo = (s.hport h).fifo ++ [w] ∧
      (u.queue (s.fld hqQueue h)).drain = (s.queue (s.fld hqQueue h)).drain.tail := by
  obtain ⟨o, regs, logQ, hpop⟩ := popWord_of_canPop hq
  generalize ht : ({ s.modQueue (s.fld hqQueue h) (fun x => { x.setDrain (s.queue (s.fld hqQueue h)).drain.tail with olock := o }) with
    regs := regs, logQ := logQ } : State) = t at hpop
  have hports : t.hports = s.hports := by rw [← ht]; rfl
  have hqueue : (t.queue (s.fld hqQueue h)).drain = (s.queue (s.fld hqQueue h)).drain.tail := by
    rw [← ht]
    have hset := queue_setQueue (rising_of_twf hc.queues) (s.fld hqQueue h)
      { (s.queue (s.fld hqQueue h)).setDrain (s.queue (s.fld hqQueue h)).drain.tail with olock := o } (s.fld hqQueue h)
    rw [if_pos rfl] at hset
    exact (congrArg Queue.drain hset).trans (drain_setDrain _ _)
  have hr : rising t.hports = true := hports ▸ rising_of_twf hc.hports
  have hport : (t.modHport h fun x => { x with fifo := x.fifo ++ [w] }).hport h =
      { s.hport h with fifo := (s.hport h).fifo ++ [w] } := by
    rw [hport_modHport_self hr, State.hport, hports]
    rfl
  have hmoved : s.portPop h (s.fld hqQueue h) = t.modHport h fun x => { x with fifo := x.fifo ++ [w] } := by
    have hgo : ¬ (256 ≤ (s.hport h).fifo.length ∨
        ((s.hport h).drain = true ∧ (s.queue (s.fld hqQueue h)).olock ≠ some (.hostPort h))) := by
      simp [hroom, hdrain]
    rw [State.portPop, if_neg hgo, hpop]
  obtain ⟨l, hl⟩ := pendEdge_frame (t.modHport h fun x => { x with fifo := x.fifo ++ [w] }) s h
  have hidle : (({ t.modHport h (fun x => { x with fifo := x.fifo ++ [w] }) with irqs := l } : State).hport h).drain = false :=
    (congrArg HPort.drain hport).trans hdrain
  refine ⟨_, exec_hqPortTransfer hen hopen, ?_⟩
  simp only [hdir, if_true, hmoved]
  rw [hl, hqSettle_of_no_drain hidle]
  exact ⟨congrArg HPort.fifo hport, hqueue⟩

end Sys2Proof
end

section
/-! PROOFS. The host memory window (R464, R465), and the commands that only answer; what HMW_SET writes and how a window access ends. -/

namespace Sys2Proof

open Sys2Proof.Machine

set_option Elab.async false

variable {s : State}

theorem completes_hmwSet (hc : Canon s) {c : Cmd} {seg en fn : Nat} {addr : DWord} (hseg : seg ≤ 31) (hen : en ≤ 1) (hfn : fn ≤ 15)
    (haddr : addr.toNat % 2 ^ 30 = 0)
    (ha : Accepted s c 0x0009 (leBytes 1 seg ++ leBytes 1 en ++ leBytes 1 fn ++ leBytes 8 addr.toNat) false) :
    Completes (.hmwSet c seg en fn addr) s fun u => Replies s u c 0x0009 stOk [] ∧
      u.reg .CMD_HMW seg = en * 2 ^ 63 + fn * 2 ^ 59 + addr.toNat / 2 ^ 30 := by
  have harm : exec (.hmwSet c seg en fn addr) s = execHmwSet c seg en fn addr s := rfl
  have hlt := addr.isLt
  refine ⟨((s.unfetch c).setReg .CMD_HMW seg (en * 2 ^ 63 + fn * 2 ^ 59 + addr.toNat / 2 ^ 30)).reply c 0x0009 stOk [], ?_, ?_⟩
  · rw [harm, execHmwSet, runCmd_of_accepted ha, if_neg (by omega), if_neg (by omega), if_neg (by omega), if_neg (not_not.mpr haddr)]
  · rw [reply_live (s := (s.unfetch c).setReg _ _ _) ha.here ha.live]
    refine ⟨rfl, (reg_setReg_self (s := s.unfetch c) hc.regs .CMD_HMW seg _).trans (Nat.mod_eq_of_lt ?_)⟩
    omega

/-! ### Bytes written to host memory -/

/-- One byte of a write through the window, if it is enabled. -/
def putEnabled (a : Nat) (s : State) (x : Option Byte × Nat) : State :=
  match x.1 with
  | some b => s.putHost (a + x.2) [b]
  | none => s

theorem putEnabled_frame (a : Nat) (s : State) (x : Option Byte × Nat) : ∃ m, putEnabled a s x = { s with hostMem := m } := by
  obtain ⟨_ | b, i⟩ := x <;> exact ⟨_, rfl⟩

theorem rising_putEnabled (hr : rising s.hostMem = true) (a : Nat) (x : Option Byte × Nat) :
    rising (putEnabled a s x).hostMem = true := by
  obtain ⟨_ | b, i⟩ := x
  · exact hr
  · exact Machine.rising_tput hr

theorem hostByte_putEnabled (hr : rising s.hostMem = true) (a : Nat) (x : Option Byte × Nat) (j : Nat) :
    (putEnabled a s x).hostByte j = if j = a + x.2 then x.1.getD (s.hostByte j) else s.hostByte j := by
  obtain ⟨_ | b, i⟩ := x
  · exact (ite_self _).symm
  · exact tget_tput hr

theorem foldl_putEnabled_frame (a : Nat) (l : List (Option Byte × Nat)) (s : State) :
    ∃ m, l.foldl (putEnabled a) s = { s with hostMem := m } := by
  induction l generalizing s with
  | nil => exact ⟨_, rfl⟩
  | cons x l ih =>
    obtain ⟨m, hm⟩ := putEnabled_frame a s x
    obtain ⟨m', hm'⟩ := ih (putEnabled a s x)
    exact ⟨m', by rw [List.foldl_cons, hm', hm]⟩

/-- Every enabled byte lies at its place; bytes before the first are as they were. -/
theorem hostByte_foldl_putEnabled (a : Nat) (l : List (Option Byte)) (k : Nat) {s : State} (hr : rising s.hostMem = true) :
    (∀ i b, l[i]? = some (some b) → ((l.zipIdx k).foldl (putEnabled a) s).hostByte (a + (k + i)) = b) ∧
      ∀ j, j < a + k → ((l.zipIdx k).foldl (putEnabled a) s).hostByte j = s.hostByte j := by
  induction l generalizing k s with
  | nil => exact ⟨fun i b h => by simp at h, fun j _ => rfl⟩
  | cons x l ih =>
    obtain ⟨hlater, hbefore⟩ := ih (k + 1) (rising_putEnabled hr a (x, k))
    have hput := hostByte_putEnabled hr a (x, k)
    rw [List.zipIdx_cons, List.foldl_cons]
    refine ⟨fun i b h => ?_, fun j hj => ?_⟩
    · cases i with
      | zero =>
        obtain rfl : x = some b := by simpa using h
        rw [hbefore _ (by omega), hput]
        exact if_pos rfl
      | succ i => simpa [Nat.add_assoc, Nat.add_comm 1] using hlater i b (by simpa using h)
    · rw [hbefore j (by omega), hput, if_neg (by dsimp only; omega)]

/-! ### HMW_COMPLETION -/

section
variable {p : Pkt} {data : List Byte} (hin : s.hmw.contains p = true)
include hin

theorem completes_hmwCompletion_rd (hop : p.op = .rd) (hlen : data.length = reqBytes p.size) :
    Completes (.hmwCompletion p 0 data) s fun u => u.hmw = s.hmw.erase p ∧
      ∃ x, u.net = s.net ++ [x] ∧ x.tag = p.tag ∧ x.src = p.src ∧ x.data = data.map some ∧ x.psn = 0 := by
  have harm : exec (.hmwCompletion p 0 data) s = execHmwCompletion p 0 data s := rfl
  have hdata : (data ++ List.replicate (reqBytes p.size) 0#8).take (reqBytes p.size) = data := by
    rw [← hlen, List.take_left]
  refine ⟨State.dat { s with hmw := s.hmw.erase p } 32 p data 0, ?_, rfl, _, rfl, rfl, rfl, rfl, rfl⟩
  rw [harm, execHmwCompletion, hin, if_neg (by decide), if_neg (by decide), if_neg (by decide), if_pos hop, hdata]

/-- Where byte 0 of a window access lies in host memory (R464). -/
def windowAddr (s : State) (p : Pkt) : Nat := s.reg .CMD_HMW (p.addr / 2 ^ 30 % 32) % 2 ^ 34 * 2 ^ 30 + p.addr % 2 ^ 30

theorem exec_hmwCompletion_wr (hop : p.op = .wr) : exec (.hmwCompletion p 0 data) s = .next (
    (p.data.zipIdx.foldl (putEnabled (windowAddr s p)) { s with hmw := s.hmw.erase p }).rsp 32 p stOk 0) := by
  have harm : exec (.hmwCompletion p 0 data) s = execHmwCompletion p 0 data s := rfl
  have hrd : ¬ p.op = .rd := by simp [hop]
  rw [harm, execHmwCompletion, hin, if_neg (by decide), if_neg (by decide), if_neg (by decide), if_neg hrd]
  rfl

theorem completes_hmwCompletion_wr (hc : Canon s) (hop : p.op = .wr) :
    Completes (.hmwCompletion p 0 data) s fun u => u.hmw = s.hmw.erase p ∧
      (∃ x, u.net = s.net ++ [x] ∧ x.op = .rsp ∧ x.status = stOk ∧ x.tag = p.tag) ∧
      ∀ i b, p.data[i]? = some (some b) →
        u.hostByte (s.reg .CMD_HMW (p.addr / 2 ^ 30 % 32) % 2 ^ 34 * 2 ^ 30 + p.addr % 2 ^ 30 + i) = b := by
  obtain ⟨hbyte, -⟩ := hostByte_foldl_putEnabled (windowAddr s p) p.data 0 (s := { s with hmw := s.hmw.erase p })
    (rising_of_twf hc.hostMem)
  obtain ⟨m, hm⟩ := foldl_putEnabled_frame (windowAddr s p) p.data.zipIdx { s with hmw := s.hmw.erase p }
  refine ⟨_, exec_hmwCompletion_wr hin hop, ?_⟩
  rw [hm] at hbyte ⊢
  refine ⟨rfl, ⟨_, rfl, rfl, rfl, rfl⟩, fun i b h => ?_⟩
  have hplaced := hbyte i b h
  rw [Nat.zero_add] at hplaced
  exact hplaced

theorem completes_hmwCompletion_fails {res : Fin 3} (hres : res ≠ 0) :
    Completes (.hmwCompletion p res data) s fun u => u.hmw = s.hmw.erase p ∧
      (∃ x, u.net = s.net ++ [x] ∧ x.op = .rsp ∧ x.status = stNoRoute ∧ x.tag = p.tag) ∧
      (res = 2 → tget 0 s.hmwAt (p.addr / 2 ^ 30 % 32) = 0 →
        ∃ r ∈ u.logQ, r.code = 0xB301 ∧ r.loc % 256 = s.fld hmwFn (p.addr / 2 ^ 30 % 32)) := by
  have harm : exec (.hmwCompletion p res data) s = execHmwCompletion p res data s := rfl
  by_cases hone : res = 1
  · refine ⟨State.rsp { s with hmw := s.hmw.erase p } 32 p stNoRoute 0, ?_, rfl, ⟨_, rfl, rfl, rfl, rfl⟩, ?_⟩
    · rw [harm, execHmwCompletion, hin, if_neg (by decide), if_pos hone]
    · rw [hone]
      exact fun h => absurd h (by decide)
  obtain rfl : res = 2 := by omega
  refine ⟨State.hmwFail { s with hmw := s.hmw.erase p } p, ?_, ?_⟩
  · rw [harm, execHmwCompletion, hin, if_neg (by decide), if_neg (by decide), if_pos rfl]
  have hfn : s.fld hmwFn (p.addr / 2 ^ 30 % 32) < 256 := by
    simp only [State.fld, bits, hmwFn]
    omega
  unfold State.hmwFail
  dsimp only
  split
  · rename_i hrecent
    exact ⟨rfl, ⟨_, rfl, rfl, rfl, rfl⟩, fun _ hnever => absurd hnever hrecent.1⟩
  · rw [State.raise, raiseAt_plain (by decide)]
    refine ⟨rfl, ⟨_, rfl, rfl, rfl, rfl⟩, fun _ _ => ⟨_, List.mem_append_right _ (List.mem_singleton_self _), rfl, ?_⟩⟩
    have hloc (k : Nat) : locView (s.fld hmwFn (p.addr / 2 ^ 30 % 32)) k % 256 = s.fld hmwFn (p.addr / 2 ^ 30 % 32) := by
      rw [locView]
      omega
    exact hloc _

end

end Sys2Proof
end

section
/-! PROOFS. Ownership, guard doorbells, host queue ports and the host memory window together. -/

namespace Sys2Proof

open Sys2Proof.Machine

set_option Elab.async false

variable {s : State}

theorem completes_viewTable {c : Cmd} {kind first n : Nat} (hk : kind ≤ 5) (hn : 1 ≤ n) (hsize : first + n ≤ kindSize kind)
    (hmost : n ≤ 1008) (ha : Accepted s c 0x0005 (rangeParams kind first n) false) : Completes (.viewTable c kind first n) s fun u =>
      Replies s u c 0x0005 stOk ((List.range n).map fun i => BitVec.ofNat 8 (s.ownerOf kind (first + i))) ∧ OnlyAnswers s u :=
  ⟨_, exec_viewTable hk hn hsize hmost ha, replies_reply ha.here ha.live, reply_onlyAnswers ha.here ha.live⟩

theorem completes_guardDoorbell {c : Cmd} {t g : Nat} (ht : t ≤ 511) (hg : g ≤ 1)
    (ha : Accepted s c 0x0006 (leBytes 2 t ++ leBytes 1 g) false) (hslot : (s.guardSlot t g).isSome = true)
    (hen : bit (s.reg .TIL_GEN (2 * t + g)) 12 = true) (hopen : s.floorOpen (t / 16) = true) :
    Completes (.guardDoorbell c t g) s fun u => Replies s u c 0x0006 stOk [] ∧ u.notices = s.notices ++ [(t, 12, g)] := by
  refine ⟨_, exec_guardDoorbell ht hg ha hslot hen hopen, ?_⟩
  rw [reply_live (s := { s.unfetch c with notices := s.notices ++ [(t, 12, g)] }) ha.here ha.live]
  exact ⟨rfl, rfl⟩

/-- Settles O56: each clause by the lemma about its instruction. -/
theorem viewsAndHostPorts : Obligations.ViewsAndHostPorts := by
  unfold Obligations.ViewsAndHostPorts
  intro s hc
  refine ⟨fun c kind first n hk hn hsize => ⟨fun view hv hv' hp ha => ⟨?_, ?_⟩, fun ha hnone => ⟨?_, ?_⟩, ?_⟩, ?_, ?_,
    fun c p timeout hp hown hen => ⟨?_, ?_⟩, fun h view hsees hen => ⟨?_, ?_⟩, fun h hen hopen => ⟨?_, ?_⟩, ?_,
    fun p data hin => ⟨?_, ?_, ?_⟩⟩
  · exact completes_viewGrant_free hk hn hsize hc hv hv' hp ha
  · exact completes_viewGrant_busy hk hn hsize hv hv' hp ha
  · exact completes_viewRevoke_free hk hn hsize ha hnone hc
  · exact completes_viewRevoke_blocked hk hn hsize ha hnone
  · exact completes_viewTable hk hn hsize
  · exact fun c t g => completes_guardDoorbell
  · exact fun c p q dir view hp hq hdir hview hen hown ha => completes_hostqBind hp hq hdir hview hc hen hown ha
  · exact completes_hostqDisableDrain hp hown hen hc
  · exact completes_hostqDisableAbort hp hown hen hc
  · exact fun hdir hdrain w g hg => completes_hqPushWrite hc hsees hen hdir hdrain w hg
  · exact completes_hqPopRead hc hsees
  · exact fun w rest => completes_hqPortTransfer_push hen hopen hc
  · exact fun w hdir hroom hdrain => completes_hqPortTransfer_pop hc hen hopen hdir hroom hdrain
  · exact fun c seg en fn addr => completes_hmwSet hc
  · exact completes_hmwCompletion_rd hin
  · exact completes_hmwCompletion_wr hin hc
  · exact fun res => completes_hmwCompletion_fails hin

end Sys2Proof
end

section
/-! PROOFS. Words of sequencer instructions (R154 to R157, R175): a word of each format is its fields and its fields are the word, so the
decoder and the encoder undo each other. -/

namespace Sys2Proof

/-! ### The formats: a word is its fields (R154, R175) -/

section
variable {w : Word}

theorem bit1_seqBit (w : Word) (i : Nat) : bit1 (seqBit w i) = w.extractLsb' i 1 := by
  ext j hj
  obtain rfl : j = 0 := by omega
  simp [bit1, seqBit]

theorem extractLsb'_opcode {op : BitVec 6} : w.extractLsb' 26 6 = op ↔ seqOp w = op.toNat :=
  BitVec.toNat_inj.symm

theorem encR_eq_iff {op : BitVec 6} {d a b : SReg} : encR op d a b = w ↔
    seqOp w = op.toNat ∧ seqRd w = d ∧ seqRa w = a ∧ seqRb w = b ∧ rZero w = true := by
  rw [← extractLsb'_opcode]
  constructor
  · rintro rfl
    simp (disch := decide) only [seqRd, seqRa, seqRb, rZero, encR, reg5, BitVec.extractLsb'_append_eq_of_le,
      BitVec.extractLsb'_append_eq_of_add_le, Nat.reduceSub, BitVec.extractLsb'_eq_self, beq_self_eq_true, and_self]
  · rintro ⟨rfl, rfl, rfl, rfl, hz⟩
    simp (disch := decide) only [encR, ← eq_of_beq hz, seqRd, seqRa, seqRb, reg5, BitVec.ofFin_toFin,
      BitVec.extractLsb'_append_extractLsb'_eq_extractLsb', BitVec.extractLsb'_eq_self]

theorem encI_eq_iff {op : BitVec 6} {d a : SReg} {m : BitVec 16} : encI op d a m = w ↔
    seqOp w = op.toNat ∧ seqRd w = d ∧ seqRa w = a ∧ seqImm w = m := by
  rw [← extractLsb'_opcode]
  constructor
  · rintro rfl
    simp (disch := decide) only [seqRd, seqRa, seqImm, encI, reg5, BitVec.extractLsb'_append_eq_of_le,
      BitVec.extractLsb'_append_eq_of_add_le, Nat.reduceSub, BitVec.extractLsb'_eq_self, and_self]
  · rintro ⟨rfl, rfl, rfl, rfl⟩
    simp (disch := decide) only [encI, seqRd, seqRa, seqImm, reg5, BitVec.ofFin_toFin,
      BitVec.extractLsb'_append_extractLsb'_eq_extractLsb', BitVec.extractLsb'_eq_self]

theorem encQ_eq_iff {op : BitVec 6} {r : SReg} {q : Fin 16384} {ind : Bool} {low : BitVec 6} : encQ op r q ind low = w ↔
    seqOp w = op.toNat ∧ seqRd w = r ∧ seqQ w = q ∧ seqBit w 6 = ind ∧ w.extractLsb' 0 6 = low := by
  rw [← extractLsb'_opcode]
  constructor
  · rintro rfl
    simp (disch := decide) only [seqRd, seqQ, encQ, reg5, q14, BitVec.extractLsb'_append_eq_of_le,
      BitVec.extractLsb'_append_eq_of_add_le, Nat.reduceSub, BitVec.extractLsb'_eq_self, true_and, and_true]
    simp only [seqBit, BitVec.getLsbD_append]
    simp [bit1]
  · rintro ⟨rfl, rfl, rfl, rfl, rfl⟩
    simp (disch := decide) only [encQ, seqRd, seqQ, reg5, q14, BitVec.ofFin_toFin, bit1_seqBit,
      BitVec.extractLsb'_append_extractLsb'_eq_extractLsb', BitVec.extractLsb'_eq_self]

theorem encW_eq_iff {kind : BitVec 3} {a : SReg} {m : BitVec 16} : encW kind a m = w ↔
    seqOp w = (0x30#6).toNat ∧ w.extractLsb' 23 3 = kind ∧ w.extractLsb' 21 2 = 0#2 ∧ seqRa w = a ∧ seqImm w = m := by
  rw [← extractLsb'_opcode]
  constructor
  · rintro rfl
    simp (disch := decide) only [seqRa, seqImm, encW, reg5, BitVec.extractLsb'_append_eq_of_le,
      BitVec.extractLsb'_append_eq_of_add_le, Nat.reduceSub, BitVec.extractLsb'_eq_self, and_self]
  · rintro ⟨hop, rfl, hz, rfl, rfl⟩
    simp (disch := decide) only [encW, ← hop, ← hz, seqRa, seqImm, reg5, BitVec.ofFin_toFin,
      BitVec.extractLsb'_append_extractLsb'_eq_extractLsb', BitVec.extractLsb'_eq_self]

/-- JMP and CALL: an opcode and a 26-bit offset. -/
theorem enc26_eq_iff {op : BitVec 6} {o : BitVec 26} : op ++ o = w ↔ seqOp w = op.toNat ∧ w.extractLsb' 0 26 = o := by
  rw [← extractLsb'_opcode]
  constructor
  · rintro rfl
    simp (disch := decide) only [BitVec.extractLsb'_append_eq_of_le, BitVec.extractLsb'_append_eq_of_add_le, Nat.reduceSub,
      BitVec.extractLsb'_eq_self, and_self]
  · rintro ⟨rfl, rfl⟩
    simp (disch := decide) only [BitVec.extractLsb'_append_extractLsb'_eq_extractLsb', BitVec.extractLsb'_eq_self]

/-- BR: two registers, a condition and a 13-bit offset. -/
theorem encBr_eq_iff {op : BitVec 6} {a b : SReg} {c : BitVec 3} {o : BitVec 13} : op ++ reg5 a ++ reg5 b ++ c ++ o = w ↔
    seqOp w = op.toNat ∧ seqRd w = a ∧ seqRa w = b ∧ w.extractLsb' 13 3 = c ∧ w.extractLsb' 0 13 = o := by
  rw [← extractLsb'_opcode]
  constructor
  · rintro rfl
    simp (disch := decide) only [seqRd, seqRa, reg5, BitVec.extractLsb'_append_eq_of_le, BitVec.extractLsb'_append_eq_of_add_le,
      Nat.reduceSub, BitVec.extractLsb'_eq_self, and_self]
  · rintro ⟨rfl, rfl, rfl, rfl, rfl⟩
    simp (disch := decide) only [seqRd, seqRa, reg5, BitVec.ofFin_toFin, BitVec.extractLsb'_append_extractLsb'_eq_extractLsb',
      BitVec.extractLsb'_eq_self]

end

/-! ### Decoded instructions encode back -/

section
variable {t : TileNo} {w : Word} {i : Instr}

/-- The instruction can be formed and stands for the word. -/
def SpellsBack (i : Instr) (w : Word) : Prop := wellFormed i = true ∧ encodeSeq i = some w

theorem seqIf_eq_some {z : Bool} {j : Instr} : seqIf z j = some i ↔ z = true ∧ j = i := by
  cases z <;> simp [seqIf]

theorem spellsBack_of_decodeR (hz : rZero w = true) (h : decodeR t w = some i) : SpellsBack i w := by
  unfold decodeR at h
  dsimp only at h
  split at h <;> cases h
  all_goals
    rename_i hop
    exact ⟨rfl, congrArg some (encR_eq_iff.mpr ⟨hop, rfl, rfl, rfl, hz⟩)⟩

theorem spellsBack_of_decodeI (h : decodeI t w = some i) : SpellsBack i w := by
  unfold decodeI at h
  dsimp only at h
  split at h
  all_goals rename_i hop
  case h_4 =>
    obtain ⟨hz, rfl⟩ := seqIf_eq_some.mp h
    refine ⟨rfl, congrArg some (encI_eq_iff.mpr ⟨hop, rfl, rfl, ?_⟩)⟩
    simp (disch := decide) only [seqImm, ← eq_of_beq hz, BitVec.ofFin_toFin, BitVec.extractLsb'_append_extractLsb'_eq_extractLsb']
  case h_5 | h_6 =>
    obtain ⟨hz, rfl⟩ := seqIf_eq_some.mp h
    exact ⟨rfl, congrArg some (encI_eq_iff.mpr ⟨hop, rfl, eq_of_beq hz, rfl⟩)⟩
  case h_15 => cases h
  all_goals
    cases h
    exact ⟨rfl, congrArg some (encI_eq_iff.mpr ⟨hop, rfl, rfl, rfl⟩)⟩


/-- An indirect queue number is a register number exactly when its high bits are zero (R154). -/
theorem qOk_seqQ (w : Word) : qOk (seqQ w) (seqBit w 6) = qInd w := by
  have h : decide ((seqQ w).val < 32) = (w.extractLsb' 12 9 == 0#9) := by
    rw [Bool.eq_iff_iff, decide_eq_true_iff, beq_iff_eq, ← BitVec.toNat_inj]
    simp only [seqQ, BitVec.val_toFin, BitVec.extractLsb'_toNat, Nat.shiftRight_eq_div_pow, BitVec.toNat_ofNat]
    omega
  rw [qOk, qInd, h]

theorem spellsBack_of_decodeQ (h : decodeQ t w = some i) : SpellsBack i w := by
  unfold decodeQ at h
  dsimp only at h
  split at h
  case h_5 => cases h
  all_goals
    rename_i hop
    obtain ⟨hz, rfl⟩ := seqIf_eq_some.mp h
    simp only [Bool.and_eq_true, beq_iff_eq, rd0] at hz
  case h_1 =>
    refine ⟨(qOk_seqQ w).trans hz.1, congrArg some (encQ_eq_iff.mpr ⟨hop, rfl, rfl, rfl, ?_⟩)⟩
    simp (disch := decide) only [bit1_seqBit, ← hz.2, BitVec.extractLsb'_append_extractLsb'_eq_extractLsb']
  case h_2 =>
    refine ⟨(qOk_seqQ w).trans hz.1, congrArg some (encQ_eq_iff.mpr ⟨hop, rfl, rfl, rfl, ?_⟩)⟩
    simp (disch := decide) only [bit1_seqBit, ← hz.2, BitVec.extractLsb'_append_extractLsb'_eq_extractLsb']
  case h_3 => exact ⟨(qOk_seqQ w).trans hz.1.1, congrArg some (encQ_eq_iff.mpr ⟨hop, hz.1.2, rfl, rfl, hz.2⟩)⟩
  case h_4 => exact ⟨(qOk_seqQ w).trans hz.1, congrArg some (encQ_eq_iff.mpr ⟨hop, rfl, rfl, rfl, hz.2⟩)⟩

theorem spellsBack_of_decodeJ (h : decodeJ t w = some i) : SpellsBack i w := by
  unfold decodeJ at h
  split at h
  all_goals rename_i hop
  case h_1 | h_2 =>
    cases h
    exact ⟨rfl, congrArg some (enc26_eq_iff.mpr ⟨hop, rfl⟩)⟩
  case h_3 | h_4 =>
    obtain ⟨hz, rfl⟩ := seqIf_eq_some.mp h
    simp only [Bool.and_eq_true, rd0, rb0, beq_iff_eq] at hz
    exact ⟨rfl, congrArg some (encR_eq_iff.mpr ⟨hop, hz.1.1, rfl, hz.1.2, hz.2⟩)⟩
  case h_5 =>
    obtain ⟨c, hc, rfl⟩ := Option.map_eq_some_iff.mp h
    simp only [brCond, Option.dite_none_right_eq_some, Option.some.injEq] at hc
    obtain ⟨-, rfl⟩ := hc
    exact ⟨rfl, congrArg some (encBr_eq_iff.mpr ⟨hop, rfl, rfl, by rw [BitVec.ofNat_toNat, BitVec.setWidth_eq], rfl⟩)⟩
  case h_6 =>
    obtain ⟨hz, rfl⟩ := seqIf_eq_some.mp h
    exact ⟨rfl, congrArg some (encI_eq_iff.mpr ⟨hop, rfl, eq_of_beq hz, rfl⟩)⟩
  case h_7 => cases h

/-- The immediate of a queue WAIT: its queue number, bit 14 zero, and the indirection bit (R175). -/
theorem seqImm_of_bit14 (h : seqBit w 14 = false) :
    seqImm w = bit1 (seqBit w 15) ++ 0#1 ++ q14 (w.extractLsb' 0 14).toFin := by
  have hz : 0#1 = w.extractLsb' 14 1 := by rw [← bit1_seqBit, h]; rfl
  simp (disch := decide) only [seqImm, bit1_seqBit, hz, q14, BitVec.ofFin_toFin,
    BitVec.extractLsb'_append_extractLsb'_eq_extractLsb']

theorem kind_of_toNat {n : Nat} (h : (w.extractLsb' 23 3).toNat = n) : w.extractLsb' 23 3 = BitVec.ofNat 3 n := by
  rw [← h, BitVec.ofNat_toNat, BitVec.setWidth_eq]

theorem val_beq_zero : ∀ r : SReg, (r.val == 0) = (r == 0) := by decide

theorem spellsBack_of_decodeWait (hop : seqOp w = 0x30) (hz : w.extractLsb' 21 2 = 0#2) (h : decodeWait t w = some i) :
    SpellsBack i w := by
  unfold decodeWait at h
  dsimp only at h
  split at h
  case h_6 => cases h
  all_goals
    rename_i hk
    obtain ⟨hf, rfl⟩ := seqIf_eq_some.mp h
    simp only [Bool.and_eq_true, Bool.not_eq_true', beq_iff_eq, ra0] at hf
  case h_1 | h_2 =>
    refine ⟨?_, congrArg some (encW_eq_iff.mpr ⟨hop, kind_of_toNat hk, hz, rfl, seqImm_of_bit14 hf.1⟩)⟩
    change (seqBit w 15 || (seqRa w).val == 0) = true
    rw [val_beq_zero]
    exact hf.2
  case h_3 =>
    refine ⟨beq_iff_eq.mpr hf.1, congrArg some (encW_eq_iff.mpr ⟨hop, kind_of_toNat hk, hz, rfl, hf.2⟩)⟩
  case h_4 =>
    refine ⟨?_, congrArg some (encW_eq_iff.mpr ⟨hop, kind_of_toNat hk, hz, rfl, rfl⟩)⟩
    change (seqImm w == 0#16 || (seqRa w).val == 0) = true
    rw [val_beq_zero]
    exact hf
  case h_5 => exact ⟨rfl, congrArg some (encW_eq_iff.mpr ⟨hop, kind_of_toNat hk, hz, hf.1, hf.2⟩)⟩

/-- What FENCE reads of its word: the opcode and imm16[2:0] (R181). -/
def fenceMask : Word := 0xFC000007#32

theorem seqImm_and_fenceMask (w : Word) :
    seqImm (w &&& fenceMask) = 0#13 ++ bit1 (seqBit w 2) ++ bit1 (seqBit w 1) ++ bit1 (seqBit w 0) := by
  ext j hj
  have hmask : fenceMask.getLsbD j = decide (j < 3) := by
    revert j
    decide
  rw [← BitVec.getLsbD_eq_getElem, ← BitVec.getLsbD_eq_getElem]
  simp only [seqImm, BitVec.getLsbD_extractLsb', BitVec.getLsbD_append, bit1, seqBit, BitVec.getLsbD_and, Nat.zero_add, hmask]
  interval_cases j <;> simp

theorem encodeSeq_fence (hop : seqOp w = 0x36) :
    encodeSeq (.fence t (seqBit w 0) (seqBit w 1) (seqBit w 2)) = some (w &&& fenceMask) := by
  have hfield (k n : Nat) : (w &&& fenceMask).extractLsb' k n = w.extractLsb' k n &&& fenceMask.extractLsb' k n :=
    BitVec.extractLsb'_and ..
  have hop' : w.extractLsb' 26 6 = 0x36#6 := extractLsb'_opcode.mpr hop
  have hzero (x : BitVec 5) : (x &&& 0#5).toFin = 0 := by rw [BitVec.and_zero]; rfl
  refine congrArg some (encI_eq_iff.mpr ⟨?_, ?_, ?_, seqImm_and_fenceMask w⟩)
  · rw [seqOp, hfield, hop']
    rfl
  · rw [seqRd, hfield]
    exact hzero _
  · rw [seqRa, hfield]
    exact hzero _

theorem spellsBack_of_decodeS (hop : seqOp w ≠ 0x36) (h : decodeS t w = some i) : SpellsBack i w := by
  unfold decodeS at h
  dsimp only at h
  split at h
  case h_11 => cases h
  case h_7 => exact absurd ‹_› hop
  case h_1 hop =>
    split at h
    · exact spellsBack_of_decodeWait hop ‹_› h
    · cases h
  all_goals
    rename_i hcode
    obtain ⟨hz, rfl⟩ := seqIf_eq_some.mp h
    simp only [Bool.and_eq_true, beq_iff_eq, rd0, ra0, rb0] at hz
  case h_2 => exact ⟨rfl, congrArg some (enc26_eq_iff.mpr ⟨hcode, hz⟩)⟩
  case h_3 | h_4 => exact ⟨rfl, congrArg some (encR_eq_iff.mpr ⟨hcode, hz.1.1, rfl, hz.1.2, hz.2⟩)⟩
  case h_5 =>
    obtain ⟨⟨⟨heven, ha⟩, hb⟩, hz⟩ := hz
    exact ⟨beq_iff_eq.mpr heven, congrArg some (encR_eq_iff.mpr ⟨hcode, rfl, ha, hb, hz⟩)⟩
  case h_6 =>
    refine ⟨rfl, congrArg some (encI_eq_iff.mpr ⟨hcode, hz.1.1, hz.1.2, ?_⟩)⟩
    simp (disch := decide) only [seqImm, bit1_seqBit, ← hz.2, BitVec.ofFin_toFin,
      BitVec.extractLsb'_append_extractLsb'_eq_extractLsb']
  case h_8 => exact ⟨rfl, congrArg some (encI_eq_iff.mpr ⟨hcode, hz.1, hz.2, rfl⟩)⟩
  case h_9 => exact ⟨rfl, congrArg some (encR_eq_iff.mpr ⟨hcode, rfl, hz.1.1, hz.1.2, hz.2⟩)⟩
  case h_10 =>
    obtain ⟨⟨⟨hd, ha⟩, hhigh⟩, hlow⟩ := hz
    refine ⟨rfl, congrArg some (encI_eq_iff.mpr ⟨hcode, hd, ha, ?_⟩)⟩
    simp (disch := decide) only [seqImm, bit1_seqBit, ← hhigh, ← hlow, BitVec.extractLsb'_append_extractLsb'_eq_extractLsb']

/-- FENCE ignores imm16[15:3] (log 36). -/
theorem fence_of_decodeS (hop : seqOp w = 0x36) (h : decodeS t w = some i) :
    wellFormed i = true ∧ encodeSeq i = some (w &&& fenceMask) := by
  rw [decodeS] at h
  simp only [hop] at h
  obtain ⟨-, rfl⟩ := seqIf_eq_some.mp h
  exact ⟨rfl, encodeSeq_fence hop⟩

theorem spells_of_decodeSeq (h : decodeSeq t w = some i) :
    wellFormed i = true ∧ (encodeSeq i = some w ∨ (seqOp w = 0x36 ∧ encodeSeq i = some (w &&& fenceMask))) := by
  have plain (h : SpellsBack i w) :
      wellFormed i = true ∧ (encodeSeq i = some w ∨ (seqOp w = 0x36 ∧ encodeSeq i = some (w &&& fenceMask))) := ⟨h.1, .inl h.2⟩
  unfold decodeSeq at h
  dsimp only at h
  split at h
  · split at h
    · exact plain (spellsBack_of_decodeR ‹_› h)
    · cases h
  split at h
  · exact plain (spellsBack_of_decodeI h)
  split at h
  · exact plain (spellsBack_of_decodeQ h)
  split at h
  · exact plain (spellsBack_of_decodeJ h)
  by_cases hop : seqOp w = 0x36
  · obtain ⟨hwf, henc⟩ := fence_of_decodeS hop h
    exact ⟨hwf, .inr ⟨hop, henc⟩⟩
  · exact plain (spellsBack_of_decodeS hop h)

end

/-! ### Encoded instructions decode back -/

section
variable {w : Word} {i : Instr}

/-- A field put together from two is read as those two. -/
theorem fields_of_append {k : Nat} (m n : Nat) {x : BitVec m} {y : BitVec n} (h : w.extractLsb' k (m + n) = x ++ y) :
    w.extractLsb' (k + n) m = x ∧ w.extractLsb' k n = y := by
  rw [← BitVec.extractLsb'_append_extractLsb'_eq_extractLsb' rfl] at h
  have hx := congrArg (BitVec.extractLsb' n m) h
  have hy := congrArg (BitVec.extractLsb' 0 n) h
  rw [BitVec.extractLsb'_append_eq_left, BitVec.extractLsb'_append_eq_left] at hx
  rw [BitVec.extractLsb'_append_eq_right, BitVec.extractLsb'_append_eq_right] at hy
  exact ⟨hx, hy⟩

theorem seqBit_of_field {k : Nat} {b : Bool} (h : w.extractLsb' k 1 = bit1 b) : seqBit w k = b := by
  have hb := congrArg (BitVec.getLsbD · 0) ((bit1_seqBit w k).trans h)
  simpa [bit1] using hb

theorem toFin_of_field {k n : Nat} {x : Fin (2 ^ n)} (h : w.extractLsb' k n = BitVec.ofFin x) : (w.extractLsb' k n).toFin = x :=
  congrArg BitVec.toFin h

theorem decodeSeq_encodeSeq (hi : wellFormed i = true) (h : encodeSeq i = some w) : ∃ t, decodeSeq t w = some i := by
  cases i with
  | add t d a b | sub t d a b | mul t d a b | and_ t d a b | or_ t d a b | xor_ t d a b | shl t d a b | shr t d a b | sar t d a b
  | slt t d a b | sltu t d a b =>
    obtain ⟨hop, rfl, rfl, rfl, hz⟩ := encR_eq_iff.mp (Option.some.inj h)
    exact ⟨t, by simp [decodeSeq, decodeR, hop, hz]⟩
  | addi t d a m | andi t d a m | ori t d a m | ldb t d a m | ldbu t d a m | ldh t d a m | ldhu t d a m | ldw t d a m
  | stb t d a m | sth t d a m | stw t d a m =>
    obtain ⟨hop, rfl, rfl, rfl⟩ := encI_eq_iff.mp (Option.some.inj h)
    exact ⟨t, by simp [decodeSeq, decodeI, hop]⟩
  | lui t d m | adr t d m =>
    obtain ⟨hop, rfl, ha, rfl⟩ := encI_eq_iff.mp (Option.some.inj h)
    exact ⟨t, by simp [decodeSeq, decodeI, seqIf, ra0, hop, ha]⟩
  | shi t d a kind n =>
    obtain ⟨hop, rfl, rfl, hm⟩ := encI_eq_iff.mp (Option.some.inj h)
    obtain ⟨hhigh, hn⟩ := fields_of_append 11 5 hm
    obtain ⟨hz, hk⟩ := fields_of_append 9 2 hhigh
    obtain rfl : (w.extractLsb' 0 5).toFin = n := toFin_of_field hn
    obtain rfl : (w.extractLsb' 5 2).toFin = kind := toFin_of_field hk
    exact ⟨t, by simp only [decodeSeq, decodeI, seqIf, hop, show w.extractLsb' 7 9 = 0#9 from hz]; rfl⟩
  | jmp t o | call t o =>
    obtain ⟨hop, rfl⟩ := enc26_eq_iff.mp (Option.some.inj h)
    exact ⟨t, by simp [decodeSeq, decodeJ, hop]⟩
  | jr t a | ret t a =>
    obtain ⟨hop, hd, rfl, hb, hz⟩ := encR_eq_iff.mp (Option.some.inj h)
    exact ⟨t, by simp [decodeSeq, decodeJ, seqIf, rd0, rb0, hop, hd, hb, hz]⟩
  | signal t a | cancel t a =>
    obtain ⟨hop, hd, rfl, hb, hz⟩ := encR_eq_iff.mp (Option.some.inj h)
    exact ⟨t, by simp [decodeSeq, decodeS, seqIf, rd0, rb0, hop, hd, hb, hz]⟩
  | rdfl t d  =>
    obtain ⟨hop, rfl, ha, hb, hz⟩ := encR_eq_iff.mp (Option.some.inj h)
    exact ⟨t, by simp [decodeSeq, decodeS, seqIf, ra0, rb0, hop, ha, hb, hz]⟩
  | rdtime t d  =>
    obtain ⟨hop, rfl, ha, hb, hz⟩ := encR_eq_iff.mp (Option.some.inj h)
    have heven : (seqRd w).val % 2 = 0 := eq_of_beq hi
    exact ⟨t, by simp [decodeSeq, decodeS, seqIf, ra0, rb0, hop, ha, hb, hz, heven]⟩
  | loop t d m =>
    obtain ⟨hop, rfl, ha, rfl⟩ := encI_eq_iff.mp (Option.some.inj h)
    exact ⟨t, by simp [decodeSeq, decodeJ, seqIf, ra0, hop, ha]⟩
  | trap t m =>
    obtain ⟨hop, hd, ha, rfl⟩ := encI_eq_iff.mp (Option.some.inj h)
    exact ⟨t, by simp [decodeSeq, decodeS, seqIf, rd0, ra0, hop, hd, ha]⟩
  | yield t =>
    obtain ⟨hop, hz⟩ := enc26_eq_iff.mp (Option.some.inj h)
    exact ⟨t, by simp [decodeSeq, decodeS, seqIf, hop, hz]⟩
  | br t a b c o =>
    obtain ⟨hop, rfl, rfl, hc, rfl⟩ := encBr_eq_iff.mp (Option.some.inj h)
    have hcond : brCond w = some c := by
      have hc8 := c.isLt
      simp only [brCond, hc, BitVec.toNat_ofNat, Nat.mod_eq_of_lt (show c.val < 2 ^ 3 by omega), hc8, dite_true]
    exact ⟨t, by simp [decodeSeq, decodeJ, hop, hcond]⟩
  | waitTime t a =>
    obtain ⟨hop, hk, hz, rfl, hm⟩ := encW_eq_iff.mp (Option.some.inj h)
    have heven : (seqRa w).val % 2 = 0 := eq_of_beq hi
    exact ⟨t, by simp [decodeSeq, decodeS, decodeWait, seqIf, hop, hk, hz, hm, heven]⟩
  | waitTicks t a m =>
    obtain ⟨hop, hk, hz, rfl, rfl⟩ := encW_eq_iff.mp (Option.some.inj h)
    have hwf : (seqImm w == 0#16 || ra0 w) = true := by
      rw [ra0, ← val_beq_zero]
      exact hi
    exact ⟨t, by simp only [decodeSeq, decodeS, decodeWait, seqIf, hop, hk, hz, hwf]; rfl⟩
  | waitFpinv t =>
    obtain ⟨hop, hk, hz, ha, hm⟩ := encW_eq_iff.mp (Option.some.inj h)
    exact ⟨t, by simp [decodeSeq, decodeS, decodeWait, seqIf, ra0, hop, hk, hz, hm, ha]⟩
  | waitQne t a ind q | waitQspc t a ind q =>
    obtain ⟨hop, hk, hz, rfl, hm⟩ := encW_eq_iff.mp (Option.some.inj h)
    obtain ⟨hhigh, hq⟩ := fields_of_append 2 14 hm
    obtain ⟨hind, h14⟩ := fields_of_append 1 1 hhigh
    obtain rfl : (w.extractLsb' 0 14).toFin = q := toFin_of_field hq
    obtain rfl : seqBit w 15 = ind := seqBit_of_field hind
    have hclear : seqBit w 14 = false := seqBit_of_field h14
    have hwf : (seqBit w 15 || ra0 w) = true := by
      rw [ra0, ← val_beq_zero]
      exact hi
    exact ⟨t, by simp only [decodeSeq, decodeS, decodeWait, seqIf, hop, hk, hz, hclear, hwf]; rfl⟩
  | qpush t r q ind nb sop eop psn =>
    obtain ⟨hop, rfl, rfl, rfl, hl⟩ := encQ_eq_iff.mp (Option.some.inj h)
    have hq := (qOk_seqQ w).symm.trans hi
    obtain ⟨h4, hz⟩ := fields_of_append 4 2 hl
    obtain ⟨h3, hp⟩ := fields_of_append 3 1 h4
    obtain ⟨h2, he⟩ := fields_of_append 2 1 h3
    obtain ⟨hn, hs⟩ := fields_of_append 1 1 h2
    obtain rfl : seqBit w 5 = nb := seqBit_of_field hn
    obtain rfl : seqBit w 4 = sop := seqBit_of_field hs
    obtain rfl : seqBit w 3 = eop := seqBit_of_field he
    obtain rfl : seqBit w 2 = psn := seqBit_of_field hp
    exact ⟨t, by simp [decodeSeq, decodeQ, seqIf, hop, hq, hz]⟩
  | qpop t r q ind nb =>
    obtain ⟨hop, rfl, rfl, rfl, hl⟩ := encQ_eq_iff.mp (Option.some.inj h)
    have hq := (qOk_seqQ w).symm.trans hi
    obtain ⟨hn, hz⟩ := fields_of_append 1 5 hl
    obtain rfl : seqBit w 5 = nb := seqBit_of_field hn
    exact ⟨t, by simp [decodeSeq, decodeQ, seqIf, hop, hq, hz]⟩
  | qdrop t q ind =>
    obtain ⟨hop, hd, rfl, rfl, hl⟩ := encQ_eq_iff.mp (Option.some.inj h)
    have hq := (qOk_seqQ w).symm.trans hi
    exact ⟨t, by simp [decodeSeq, decodeQ, seqIf, rd0, hop, hd, hq, hl]⟩
  | qlvl t r q ind =>
    obtain ⟨hop, rfl, rfl, rfl, hl⟩ := encQ_eq_iff.mp (Option.some.inj h)
    have hq := (qOk_seqQ w).symm.trans hi
    exact ⟨t, by simp [decodeSeq, decodeQ, seqIf, hop, hq, hl]⟩
  | raise t n st =>
    obtain ⟨hop, hd, ha, hm⟩ := encI_eq_iff.mp (Option.some.inj h)
    obtain ⟨hhigh, hn⟩ := fields_of_append 10 6 hm
    obtain ⟨hs, hz⟩ := fields_of_append 1 9 hhigh
    obtain rfl : (w.extractLsb' 0 6).toFin = n := toFin_of_field hn
    obtain rfl : seqBit w 15 = st := seqBit_of_field hs
    exact ⟨t, by simp only [decodeSeq, decodeS, seqIf, rd0, ra0, hop, hd, ha, show w.extractLsb' 6 9 = 0#9 from hz]; rfl⟩
  | fence t m q ic =>
    obtain ⟨hop, hd, ha, hm⟩ := encI_eq_iff.mp (Option.some.inj h)
    obtain ⟨h2, hm⟩ := fields_of_append 15 1 hm
    obtain ⟨h1, hq⟩ := fields_of_append 14 1 h2
    obtain ⟨-, hc⟩ := fields_of_append 13 1 h1
    obtain rfl : seqBit w 0 = m := seqBit_of_field hm
    obtain rfl : seqBit w 1 = q := seqBit_of_field hq
    obtain rfl : seqBit w 2 = ic := seqBit_of_field hc
    exact ⟨t, by simp [decodeSeq, decodeS, seqIf, rd0, ra0, hop, hd, ha]⟩
  | clrfl t lp qp fr =>
    obtain ⟨hop, hd, ha, hm⟩ := encI_eq_iff.mp (Option.some.inj h)
    obtain ⟨h3, hlow⟩ := fields_of_append 12 4 hm
    obtain ⟨h2, hf⟩ := fields_of_append 11 1 h3
    obtain ⟨h1, hq⟩ := fields_of_append 10 1 h2
    obtain ⟨hhigh, hl⟩ := fields_of_append 9 1 h1
    obtain rfl : seqBit w 6 = lp := seqBit_of_field hl
    obtain rfl : seqBit w 5 = qp := seqBit_of_field hq
    obtain rfl : seqBit w 4 = fr := seqBit_of_field hf
    exact ⟨t, by simp only [decodeSeq, decodeS, seqIf, rd0, ra0, hop, hd, ha, hlow, show w.extractLsb' 7 9 = 0#9 from hhigh]; rfl⟩
  | _ => cases h
end

/-- Settles O7: every format is its fields both ways; what FENCE ignores is masked off (log 36). -/
theorem sequencerWordsRoundTrip : Obligations.SequencerWordsRoundTrip := by
  unfold Obligations.SequencerWordsRoundTrip
  exact ⟨fun _ _ => decodeSeq_encodeSeq, fun _ _ _ => spells_of_decodeSeq⟩

/-- Settles O8: each word is a literal, which the decoder reads field by field. -/
theorem decodedWords : Obligations.DecodedWords := by
  unfold Obligations.DecodedWords
  intro t
  exact ⟨rfl, rfl, rfl, rfl, rfl, rfl, rfl, rfl, rfl, rfl, rfl, rfl, rfl, rfl⟩

end Sys2Proof
end

section
/-! PROOFS. Results and jumps (R153 to R157, R173, R174): an instruction that writes one register, and one that only sets the program
counter, by what it puts there. -/

namespace Sys2Proof

open Sys2Proof.Machine

set_option Elab.async false

/-! ### One result, one jump -/

section
variable {s : State} {t : TileNo} {k : Nat} {i : Instr} {o : Out} (hc : Canon s) (harm : exec i s = o)
include hc harm

/-- An instruction whose effect is to write `v` to `rd` and go to the next one. -/
theorem completes_result {rd : SReg} {v w : Word} (ho : o = .next ((s.touchIc t k).aluRes t k rd v)) (hv : v = w := by rfl) :
    Completes i s fun u => WritesReg s u t k rd w :=
  ⟨_, harm.trans ho, hv ▸ writesReg_aluRes hc⟩

/-- An instruction whose effect is to go to `n`. -/
theorem completes_jump {n m : Nat} (ho : o = .next ((s.touchIc t k).setPc t k n)) (hm : n % 0x80000 = m := by rfl) :
    Completes i s fun u => JumpsTo s u t k m :=
  ⟨_, harm.trans ho, hm ▸ jumpsTo_setPc hc⟩

end

/-! ### Results -/

theorem ofInt_pc_add (pc : Nat) (m : BitVec 16) :
    BitVec.ofNat 32 pc + BitVec.ofInt 32 (4 * m.toInt) = BitVec.ofInt 32 ((pc : Int) + 4 * m.toInt) := by
  rw [BitVec.ofInt_add, BitVec.ofInt_natCast]

theorem append_zero_eq_mul (m : BitVec 16) : m ++ 0#16 = BitVec.ofNat 32 (m.toNat * 65536) := by
  apply BitVec.eq_of_toNat_eq
  rw [BitVec.toNat_append, Nat.shiftLeft_eq, BitVec.toNat_ofNat, BitVec.toNat_ofNat, Nat.zero_mod, Nat.or_zero]
  have := m.isLt
  omega

/-- Settles O9: each of the instructions writes one result, which is the value named. -/
theorem registerAndImmediateArithmetic : Obligations.RegisterAndImmediateArithmetic := by
  unfold Obligations.RegisterAndImmediateArithmetic
  intro s t k rd ra rb m n hc
  have hslt (a b : Word) : (if a.slt b then 1#32 else 0#32) = if a.toInt < b.toInt then 1#32 else 0#32 := by
    simp [BitVec.slt]
  have hult (a b : Word) : (if a.ult b then 1#32 else 0#32) = if a.toNat < b.toNat then 1#32 else 0#32 := by
    simp [BitVec.ult]
  simp only [List.forall_mem_cons, List.not_mem_nil, false_imp_iff, implies_true, and_true]
  refine ⟨⟨?add, ?sub, ?mul, ?and_, ?or_, ?xor_, ?shl, ?shr, ?sar, ?slt, ?sltu⟩,
    ⟨?addi, ?andi, ?ori, ?left, ?right, ?arith, ?rotate⟩, ?lui, ?adr, ?rdfl⟩
  case add => exact fun hi => completes_result hc (o := execAdd t rd ra rb s) rfl (seqStep_some hi)
  case sub => exact fun hi => completes_result hc (o := execSub t rd ra rb s) rfl (seqStep_some hi)
  case mul => exact fun hi => completes_result hc (o := execMul t rd ra rb s) rfl (seqStep_some hi)
  case and_ => exact fun hi => completes_result hc (o := execAnd t rd ra rb s) rfl (seqStep_some hi)
  case or_ => exact fun hi => completes_result hc (o := execOr t rd ra rb s) rfl (seqStep_some hi)
  case xor_ => exact fun hi => completes_result hc (o := execXor t rd ra rb s) rfl (seqStep_some hi)
  case shl => exact fun hi => completes_result hc (o := execShl t rd ra rb s) rfl (seqStep_some hi)
  case shr => exact fun hi => completes_result hc (o := execShr t rd ra rb s) rfl (seqStep_some hi)
  case sar => exact fun hi => completes_result hc (o := execSar t rd ra rb s) rfl (seqStep_some hi)
  case slt => exact fun hi => completes_result hc (o := execSlt t rd ra rb s) rfl (seqStep_some hi) (hslt _ _)
  case sltu => exact fun hi => completes_result hc (o := execSltu t rd ra rb s) rfl (seqStep_some hi) (hult _ _)
  case addi => exact fun hi => completes_result hc (o := execAddi t rd ra m s) rfl (seqStep_some hi)
  case andi => exact fun hi => completes_result hc (o := execAndi t rd ra m s) rfl (seqStep_some hi)
  case ori => exact fun hi => completes_result hc (o := execOri t rd ra m s) rfl (seqStep_some hi)
  case left => exact fun hi => completes_result hc (o := execShi t rd ra 0 n s) rfl (seqStep_some hi)
  case right => exact fun hi => completes_result hc (o := execShi t rd ra 1 n s) rfl (seqStep_some hi)
  case arith => exact fun hi => completes_result hc (o := execShi t rd ra 2 n s) rfl (seqStep_some hi)
  case rotate => exact fun hi => completes_result hc (o := execShi t rd ra 3 n s) rfl (seqStep_some hi)
  case lui => exact fun hi => completes_result hc (o := execLui t rd m s) rfl (seqStep_some hi) (append_zero_eq_mul m)
  case adr => exact fun hi => completes_result hc (o := execAdr t rd m s) rfl (seqStep_some hi) (ofInt_pc_add _ m)
  case rdfl => exact fun hi => completes_result hc (o := execRdfl t rd s) rfl (seqStep_some hi)

/-! ### Jumps -/

theorem relTarget_mod (pc : Nat) (off : Int) : relTarget pc off % 0x80000 = (((pc : Int) + 4 * off) % 0x80000).toNat := by
  unfold relTarget
  omega

theorem brHolds_iff (a b : Word) : ∀ p ∈ [((0 : Fin 6), a = b), (1, a ≠ b), (2, a.toInt < b.toInt), (3, b.toInt ≤ a.toInt),
    (4, a.toNat < b.toNat), (5, b.toNat ≤ a.toNat)], brHolds p.1 a b = true ↔ p.2 := by
  simp only [List.forall_mem_cons, List.not_mem_nil, false_imp_iff, implies_true, and_true]
  simp [brHolds, BitVec.slt, BitVec.ult]

/-- The bank after LOOP: its counter one lower, its program counter at `n`. -/
theorem loop_bank {s : State} {t k : Nat} {ra : SReg} {v : Word} (hc : Canon s) (n : Nat) :
    let u := ((s.touchIc t k).setGpr t k ra v).setPc t k n
    u.gpr t k ra = v ∧ (∀ r, r ≠ ra → u.gpr t k r = s.gpr t k r) ∧ (u.slot t k).flags = (s.slot t k).flags ∧
      OnlyBank s u t k ∧ u.pc t k = n % 0x80000 := by
  have hr : rising (s.touchIc t k).slots = true := rising_touch hc
  have hr' : rising ((s.touchIc t k).setGpr t k ra v).slots = true := by
    rw [State.setGpr, State.modSlot_eq]
    exact rising_tput hr
  have hset (r : SReg) : (((s.touchIc t k).setGpr t k ra v).setPc t k n).gpr t k r = if r = ra then v else s.gpr t k r := by
    rw [← touchIc_gpr s t k t k r, ← gpr_setGpr hr (bank_of_canon hc t k), State.setPc, State.modSlot_eq, State.gpr,
      slot_setSlot hr']
    rfl
  refine ⟨(hset ra).trans (if_pos rfl), fun r h => (hset r).trans (if_neg h), ?flags, ?only, ?pc⟩
  case flags =>
    rw [State.setPc, State.modSlot_eq, slot_setSlot hr', State.setGpr, State.modSlot_eq, slot_setSlot hr]
    dsimp only
    split <;> rfl
  case only => exact onlyBank_setSlot (onlyBank_setSlot (onlyBank_touch hc) hr) hr'
  case pc => rw [State.pc, State.setPc, State.modSlot_eq, slot_setSlot hr']

theorem exec_loop {s : State} {t : TileNo} {k : Nat} {ra : SReg} {m : BitVec 16} (hc : Canon s)
    (hi : s.issue t (.loop t ra m) [ra] = some k) :
    exec (.loop t ra m) s = .next (((s.touchIc t k).setGpr t k ra (s.gpr t k ra - 1#32)).setPc t k
      (if s.gpr t k ra = 1#32 then s.pc t k + 4 else relTarget (s.pc t k) m.toInt)) := by
  have harm : exec (.loop t ra m) s = execLoop t ra m s := rfl
  have hpc : ((s.touchIc t k).setGpr t k ra (s.gpr t k ra - 1#32)).pc t k = s.pc t k := by
    rw [State.setGpr, State.modSlot_eq, State.pc, slot_setSlot (rising_touch hc)]
    split <;> rfl
  have hzero : s.gpr t k ra - 1#32 = 0#32 ↔ s.gpr t k ra = 1#32 := by bv_omega
  rw [harm, execLoop, seqStep_some hi]
  simp only [touchIc_gpr, ne_eq, hzero, ite_not, State.advance, hpc]
  split <;> rfl

theorem exec_br {s : State} {t : TileNo} {k : Nat} {ra rb : SReg} {cond : Fin 6} {off : BitVec 13}
    (hi : s.issue t (.br t ra rb cond off) [ra, rb] = some k) :
    exec (.br t ra rb cond off) s = .next ((s.touchIc t k).setPc t k
      (if brHolds cond (s.gpr t k ra) (s.gpr t k rb) then relTarget (s.pc t k) off.toInt else s.pc t k + 4)) := by
  have harm : exec (.br t ra rb cond off) s = execBr t ra rb cond off s := rfl
  rw [harm, execBr, seqStep_some hi]
  simp only [touchIc_gpr, touchIc_pc, State.advance]
  exact congrArg Host.Outcome.next (apply_ite _ _ _ _).symm

/-- Settles O10: each of the instructions sets the program counter to the named target, and LOOP its counter first. -/
theorem jumpsAndLoops : Obligations.JumpsAndLoops := by
  unfold Obligations.JumpsAndLoops
  intro s t k ra rb hc
  refine ⟨fun off hi => ?jmp, fun hi ha => ?jr, fun off p hp hi => ?br, fun m hi => ?loop⟩
  case jmp => exact completes_jump hc (o := execJmp t off s) rfl (seqStep_some hi) (relTarget_mod _ _)
  case jr =>
    refine completes_jump hc (o := execJr t ra s) rfl ((seqStep_some hi).trans ?_)
    exact congrArg Host.Outcome.next (if_neg (not_not.mpr ha))
  case br =>
    have hcond := brHolds_iff (s.gpr t k ra) (s.gpr t k rb) p hp
    have htaken : p.2 → Completes (.br t ra rb p.1 off) s fun u =>
        JumpsTo s u t k (((s.pc t k : Int) + 4 * off.toInt) % 0x80000).toNat := fun h =>
      completes_jump hc (exec_br hi) (by rw [if_pos (hcond.mpr h)]) (relTarget_mod _ _)
    have hpassed : ¬ p.2 → Completes (.br t ra rb p.1 off) s fun u => JumpsTo s u t k ((s.pc t k + 4) % 0x80000) := fun h =>
      completes_jump hc (exec_br hi) (by rw [if_neg (mt hcond.mp h)])
    by_cases h : p.2
    · obtain ⟨u, hu, hj⟩ := htaken h
      exact ⟨u, hu, fun _ => hj, fun h' => absurd h h'⟩
    · obtain ⟨u, hu, hj⟩ := hpassed h
      exact ⟨u, hu, fun h' => absurd h' h, fun _ => hj⟩
  case loop =>
    have hmod : (if s.gpr t k ra = 1#32 then s.pc t k + 4 else relTarget (s.pc t k) m.toInt) % 0x80000 =
        if s.gpr t k ra = 1#32 then (s.pc t k + 4) % 0x80000 else (((s.pc t k : Int) + 4 * m.toInt) % 0x80000).toNat := by
      split
      · rfl
      · exact relTarget_mod _ _
    obtain ⟨hra, hothers, hflags, honly, hpc⟩ := loop_bank hc _
    exact ⟨_, exec_loop hc hi, hra, hothers, hflags, honly, hpc.trans hmod⟩
end Sys2Proof
end

section
/-! PROOFS. Loads from the own store behind a store of the same slot that still travels (R183): the load waits, so a statement that
it completes whatever is outstanding fails there. -/

namespace Sys2Proof

open Sys2Proof.Machine

set_option Elab.async false

/-- Slot 1 of tile 0 is at LDB of the byte at 0x203, and its store to that line through a window has no answer yet. -/
def loadBehindStore : State := (Tests.mem3 (.ldb 0 4 3 3#16)).modTile 0 fun x =>
  { x with outst := [{ outst0 with slot := 1, kind := .store, addr := 0x200, window := true }] }

/-- The load issues to a written line without error, in no cache, with the line buffer empty, and leaves the program counter. -/
theorem loadBehindStore_waits :
    Tests.issues loadBehindStore (.ldb 0 4 3 3#16) [4, 3] = true ∧ Tests.ownAccess loadBehindStore 3 3#16 1 = true ∧
    Tests.cleanLine loadBehindStore 0x203 = true ∧ (loadBehindStore.gpr 0 1 3 + (3#16).signExtend 32).toNat = 0x203 ∧
    Tests.nextIs (.ldb 0 4 3 3#16) loadBehindStore (fun u => decide (u.pc 0 1 = loadBehindStore.pc 0 1)) = true ∧
    loadBehindStore.pc 0 1 = 0 := by
  decide +kernel

/-- Refutes O12: a load issues, waits for the slot's own store to the same line (R183), and its program counter stays. -/
theorem not_loadsFromTheOwnStore : ¬ Obligations.LoadsFromTheOwnStore := by
  unfold Obligations.LoadsFromTheOwnStore
  intro h
  obtain ⟨hissues, haccess, hclean, hea, hstays, hpc⟩ := loadBehindStore_waits
  obtain ⟨hcanon, hissue⟩ := Tests.issue_of hissues
  simp only [Tests.ownAccess, Bool.and_eq_true, decide_eq_true_eq, Bool.not_eq_true', hea] at haccess
  obtain ⟨⟨haligned, hbelow⟩, hlees⟩ := haccess
  simp only [Tests.cleanLine, Bool.and_eq_true, decide_eq_true_eq, Bool.not_eq_true', List.all_eq_true, beq_iff_eq] at hclean
  obtain ⟨⟨⟨hcached, hbuf⟩, hfresh⟩, hkinds⟩ := hclean
  have hload := h loadBehindStore 0 1 4 3 3#16 hcanon (Instr.ldb 0 4 3 3#16, 1, true) List.mem_cons_self hissue
  simp only [Fin.val_zero, hea] at hload
  obtain ⟨u, hu, -, hmoves, -⟩ := hload haligned hbelow hlees (by simpa using hcached) hbuf hfresh hkinds
  have hstay : u.pc 0 1 = loadBehindStore.pc 0 1 := of_decide_eq_true (exec_of_nextIs hstays hu)
  rw [hmoves, hpc] at hstay
  exact absurd hstay (by decide)

end Sys2Proof
end

section
/-! PROOFS. An acknowledgement that frees a SEQ (R166, R301): the oldest invalidation held for want of one is sent before the write is
answered, so the answer is not the only packet that joins the network. -/

namespace Sys2Proof

open Sys2Proof.Machine

set_option Elab.async false

/-- Tile 3 uses all 64 SEQs, of which a write waits for SEQ 9, and holds an invalidation of line 1 for tile 5. -/
def heldInvalidation : State := Tests.net (State.reset.setTile 3 { TileSt.init with
  wrWait := [([9], Tests.wr8)], invs := (List.range 64).map (·, 0) ++ [(64, 1)], invHold := [(64, 1, 5)] }) Tests.ack3

theorem heldInvalidation_canon : Canon heldInvalidation := canon_of (by decide +kernel)

/-- The last acknowledgement that the write waits for has arrived alone, and two packets stand in the network after it. -/
theorem heldInvalidation_sends :
    heldInvalidation.arrived Tests.ack3 = true ∧ (heldInvalidation.tile 3).wrWait = [([9], Tests.wr8)] ∧
    (heldInvalidation.net.erase Tests.ack3).length = 0 ∧
    Tests.nextIs (.snpInvAck Tests.ack3) heldInvalidation (fun u => decide (u.net.length = 2)) = true := by
  decide +kernel

/-- Refutes O38: the acknowledgement's SEQ goes to the held invalidation (R301), which is sent beside the answer of the write. -/
theorem not_snoopsAndAnswers : ¬ Obligations.SnoopsAndAnswers := by
  unfold Obligations.SnoopsAndAnswers
  intro h
  obtain ⟨-, hack, -⟩ := h heldInvalidation Tests.ack3 heldInvalidation_canon
  obtain ⟨harrived, hwait, hempty, htwo⟩ := heldInvalidation_sends
  obtain ⟨u, hu, -, x, hnet, -⟩ := hack Tests.wr8 harrived rfl (by decide) hwait
  have hlen : u.net.length = 2 := of_decide_eq_true (exec_of_nextIs htwo hu)
  rw [hnet, List.length_append, hempty] at hlen
  simp at hlen

end Sys2Proof
end

section
/-! PROOFS. A fault record overwritten (R160, R143): `Canon` does not bound the numbers of the queues in the state's table, and past the
4 KiB of its floor's block a queue's QUE_STATUS has the address of another register. The counterexample rests on that alone. -/

namespace Sys2Proof

open Sys2Proof.Machine

set_option Elab.async false

/-- Slot 2 of tile 0 is at LDW with the odd number 1 in g3, and holds the input lock of a queue whose QUE_STATUS, by its number, has
the address of that slot's TIL_FAULT. -/
def lockedPastTable : State :=
  let s := Tests.put State.reset [(ctxActV, 0, 1), (ctxAct, 0, 2), (slotState, 2, stActive), (leesHdepth, 2, 1), (leesBase, 2, 0x1000)]
  let s := (s.setSlot 0 2 { Tests.bank [(3, 1#32)] with task := some 7 }).setTile 0
    { TileSt.init with icache := [Tests.lineAt 0 (Tests.enc (.ldw 0 4 3 0#16))] }
  s.modQueue 393220 fun x => { x with ilock := some (.slot 0 2) }

theorem lockedPastTable_canon : Canon lockedPastTable := canon_of (by decide +kernel)

/-- The LDW issues, misaligned; as the lock is given up, the queue's ABOVE bit clears bit 29 of the fault record. -/
theorem lockedPastTable_faults :
    Reg.addr .QUE_STATUS 393220 = Reg.addr .TIL_FAULT 2 ∧
    lockedPastTable.issue 0 (.ldw 0 4 3 0#16) [4, 3] = some 2 ∧ lockedPastTable.pc 0 2 = 0 ∧
    (lockedPastTable.gpr 0 2 3 + (0#16).signExtend 32).toNat % 4 ≠ 0 ∧
    Tests.nextIs (.ldw 0 4 3 0#16) lockedPastTable
      (fun u => decide (u.reg .TIL_FAULT 2 = 1 + 0x3211 * 2 ^ 16 - 2 ^ 29)) = true := by
  decide +kernel

/-- Refutes O17: the fault gives up the slot's input lock (R247), and the evaluation of that queue's ABOVE changes the register that
holds the record just written. -/
theorem not_misalignedAccessesFault : ¬ Obligations.MisalignedAccessesFault := by
  unfold Obligations.MisalignedAccessesFault
  intro h
  obtain ⟨-, hissue, hpc, hodd, hchanged⟩ := lockedPastTable_faults
  obtain ⟨u, hu, -, hfault, -⟩ := h lockedPastTable 0 2 4 3 0#16 lockedPastTable_canon (by decide) (hpc ▸ by decide)
    (.ldw 0 4 3 0#16, 4) (by decide) hissue hodd
  have hread : u.reg .TIL_FAULT 2 = 1 + 0x3211 * 2 ^ 16 - 2 ^ 29 := of_decide_eq_true (exec_of_nextIs hchanged hu)
  rw [show u.reg .TIL_FAULT 2 = _ from hfault, show lockedPastTable.pc ((0 : TileNo) : Nat) 2 = 0 from hpc] at hread
  exact absurd hread (by decide)

end Sys2Proof
end

section
/-! PROOFS. A data slot that gives up its tile (R118, R127, R144): the registers that say so, and the slot's bank. -/

namespace Sys2Proof

open Sys2Proof.Machine

set_option Elab.async false

/-! ### Registers of a tile apart -/

section
variable {t k : Nat} (hk : k < 8)

theorem addr_gcfg_ne_fault : Reg.addr .TIL_GCFG t ≠ Reg.addr .TIL_FAULT (8 * t + k) := by
  simp only [Reg.addr, Reg.info]
  omega

include hk

theorem addr_gcfg_ne_slot : Reg.addr .TIL_GCFG t ≠ Reg.addr .TIL_SLOT (8 * t + k) := by
  simp only [Reg.addr, Reg.info]
  omega

theorem addr_slot_ne_ctx : Reg.addr .TIL_SLOT (8 * t + k) ≠ Reg.addr .TIL_CTX t := by
  simp only [Reg.addr, Reg.info]
  omega

end

/-! ### The guard that a slot is -/

/-- Which guard a slot is, is read off the tile's TIL_GCFG alone. -/
theorem guardOf_congr {s u : State} {t k : Nat} (h : u.reg .TIL_GCFG t = s.reg .TIL_GCFG t) : u.guardOf t k = s.guardOf t k := by
  have hfld : ∀ f : Fld, f.r = .TIL_GCFG → u.fld f t = s.fld f t := fun f hf => by rw [State.fld, State.fld, hf, h]
  have hslot : ∀ g, u.guardSlot t g = s.guardSlot t g := fun g => by
    rw [State.guardSlot, State.guardSlot, State.flag, State.flag, State.flag, State.flag, hfld gcfgAen rfl, hfld gcfgBen rfl,
      hfld gcfgA rfl, hfld gcfgB rfl]
  rw [State.guardOf, State.guardOf, hslot 0, hslot 1]

/-! ### The tile given up -/

/-- The slot past its instruction, SUSPENDED in `w`, and the tile idle. -/
def leaveTile (s : State) (t k : Nat) (w : Susp) : State := ((s.advance t k).suspend t k w).idleTile t

section
variable {s : State} {t k : Nat} {w : Susp}

theorem slot_leaveTile (h : rising s.slots = true) :
    (leaveTile s t k w).slot t k = { s.slot t k with pc := (s.pc t k + 4) % 0x80000, susp := w } := by
  have hpc : rising (s.advance t k).slots = true := rising_tput h
  have hslots : (leaveTile s t k w).slot t k = ((s.advance t k).modSlot t k fun x => { x with susp := w }).slot t k := rfl
  rw [hslots, State.modSlot_eq, slot_setSlot hpc, State.advance, State.setPc, State.modSlot_eq, slot_setSlot h]

theorem gpr_leaveTile (h : rising s.slots = true) (r : SReg) : (leaveTile s t k w).gpr t k r = s.gpr t k r := by
  rw [State.gpr, slot_leaveTile h]
  rfl

variable (hr : rising s.regs = true)
include hr

theorem active_leaveTile : (leaveTile s t k w).active t = none := by
  have hsus : rising ((s.advance t k).suspend t k w).regs = true := rising_setFld hr _ _ _
  have h1 := rising_setFld hsus ctxActV t 0
  have h2 := rising_setFld h1 ctxAct t 0
  have h3 := rising_setFld h2 ctxGA t 0
  have hclear : (leaveTile s t k w).fld ctxActV t = 0 := by
    rw [leaveTile, State.idleTile, fld_setFld_apart h3 ctxGB ctxActV rfl (by decide) (by decide) (by decide),
      fld_setFld_apart h2 ctxGA ctxActV rfl (by decide) (by decide) (by decide),
      fld_setFld_apart h1 ctxAct ctxActV rfl (by decide) (by decide) (by decide), fld_setFld_self hsus (by decide) (by decide)]
    rfl
  rw [State.active, State.flag, hclear]
  rfl

variable (hk : k < 8)
include hk

theorem sstate_leaveTile : (leaveTile s t k w).sstate t k = stSuspended := by
  have hsus : rising ((s.advance t k).suspend t k w).regs = true := rising_setFld hr _ _ _
  have h1 := rising_setFld hsus ctxActV t 0
  have h2 := rising_setFld h1 ctxAct t 0
  have h3 := rising_setFld h2 ctxGA t 0
  have hap := addr_slot_ne_ctx (t := t) hk
  have hself : ((s.advance t k).setSstate t k stSuspended).fld slotState (8 * t + k) = stSuspended :=
    fld_setFld_self (s := s.advance t k) (f := slotState) hr (by decide) (by decide) _ _
  have hkeep : (leaveTile s t k w).reg .TIL_SLOT (8 * t + k) = ((s.advance t k).setSstate t k stSuspended).reg .TIL_SLOT (8 * t + k) := by
    rw [leaveTile, State.idleTile, reg_setFld_other h3 hap, reg_setFld_other h2 hap, reg_setFld_other h1 hap,
      reg_setFld_other hsus hap]
    rfl
  rw [State.sstate, State.fld, show slotState.r = .TIL_SLOT from rfl, hkeep]
  exact hself

theorem guardOf_suspend : ((s.advance t k).suspend t k w).guardOf t k = s.guardOf t k :=
  guardOf_congr (reg_setFld_other (s := s.advance t k) (f := slotState) hr (addr_gcfg_ne_slot hk) _)

/-- A WAIT that does not hold, in a data slot (R176). -/
theorem waitIn_of_data {c : WaitCond} (hg : s.guardOf t k = none) : s.waitIn t k c = leaveTile s t k (.waiting c) := by
  have hg' := (guardOf_suspend (w := .waiting c) hr hk).trans hg
  simp only [State.waitIn, hg']
  rfl

end

end Sys2Proof
end

section
/-! PROOFS. WAIT (R175, R176): a condition that holds only moves on, a time to come gives up the tile. -/

namespace Sys2Proof

open Sys2Proof.Machine

set_option Elab.async false

section
variable {s : State} {t k : Nat} (hcx : s.cancelled t k = false)
include hcx

theorem waitFor_of_holds {c : WaitCond} (h : s.condHolds t k c = true) : s.waitFor t k c = s.advance t k := by
  rw [State.waitFor, if_neg (ne_true_of_eq_false hcx), if_pos h]

theorem waitFor_of_fails {c : WaitCond} (h : s.condHolds t k c = false) : s.waitFor t k c = s.waitIn t k c := by
  rw [State.waitFor, if_neg (ne_true_of_eq_false hcx), if_neg (ne_true_of_eq_false h)]

theorem waitQueue_of_holds {q : Nat} {c : WaitCond} (hown : s.slotOwns t k 1 q = true) (hq : q / 512 = t / 16)
    (h : s.condHolds t k c = true) : s.waitQueue t k q c = s.advance t k := by
  rw [State.waitQueue, hown, if_neg (by decide), if_neg fun hoff => hoff.1 hq, waitFor_of_holds hcx h]

theorem waitTicksN_zero : s.waitTicksN t k 0 = s.advance t k := by
  rw [State.waitTicksN, if_neg (ne_true_of_eq_false hcx), if_pos rfl]

end

/-- Settles O15: a WAIT that holds is one move of the program counter; WAIT TIME of a time to come is `leaveTile`. -/
theorem waitsThatHold : Obligations.WaitsThatHold := by
  unfold Obligations.WaitsThatHold
  intro s t k ra hc hk hcx
  have hcx' : (s.touchIc t k).cancelled t k = false := hcx
  refine ⟨fun ind n hown hq => ⟨fun hi hne => ?qne, fun hi hroom => ?qspc⟩,
    fun hi => ⟨fun hcome => ?come, fun hcoming hg => ?coming⟩,
    fun hi hzero => ?ticks, fun hi hiv => ?fpinv⟩
  case qne =>
    exact completes_jump hc (o := execWaitQne t ra ind n s) rfl
      ((seqStep_some hi).trans (congrArg _ (waitQueue_of_holds hcx' hown hq hne)))
  case qspc =>
    exact completes_jump hc (o := execWaitQspc t ra ind n s) rfl
      ((seqStep_some hi).trans (congrArg _ (waitQueue_of_holds hcx' hown hq hroom)))
  case come =>
    exact completes_jump hc (o := execWaitTime t ra s) rfl
      ((seqStep_some hi).trans (congrArg _ (waitFor_of_holds hcx' (decide_eq_true hcome))))
  case coming =>
    have hregs : rising (s.touchIc t k).regs = true := hc.regs
    have hslots := rising_touch (t := t) (k := k) hc
    have hfails : (s.touchIc t k).condHolds t k (.time ((s.gpr t k ra).toNat + 2 ^ 32 * (s.gpr t k (regUp ra)).toNat)) = false :=
      decide_eq_false (Nat.not_le.mpr hcoming)
    have hwait := (waitFor_of_fails hcx' hfails).trans (waitIn_of_data hregs hk hg)
    have harm : exec (.waitTime t ra) s = execWaitTime t ra s := rfl
    refine ⟨_, harm.trans ((seqStep_some hi).trans (congrArg _ hwait)), ?_, ?_, sstate_leaveTile hregs hk, active_leaveTile hregs,
      gpr_leaveTile hslots⟩
    · rw [State.pc, slot_leaveTile hslots]
      rfl
    · rw [slot_leaveTile hslots]
  case ticks =>
    have hn : (if (0#16 : BitVec 16) = 0#16 then ((s.touchIc t k).gpr t k ra).toNat else (0#16 : BitVec 16).toNat) = 0 := by
      rw [if_pos rfl, touchIc_gpr, hzero]
      rfl
    refine completes_jump hc (o := execWaitTicks t ra 0#16 s) rfl ((seqStep_some hi).trans (congrArg _ ?_))
    rw [hn]
    exact waitTicksN_zero hcx'
  case fpinv =>
    exact completes_jump hc (o := execWaitFpinv t s) rfl ((seqStep_some hi).trans (congrArg _ (waitFor_of_holds hcx' hiv)))

end Sys2Proof
end

section
/-! PROOFS. The end of an activation (R187, R215, R247, R248) and the waiters it lets go on (R210): records that wait for their logs
stay, and a slot without a task gets none. -/

namespace Sys2Proof

open Sys2Proof.Machine

set_option Elab.async false

/-! ### What leaves every slot's bank -/

/-- The slots are as they were, and every record that waited for its log still waits. -/
structure Quiet (s u : State) : Prop where
  slots : u.slots = s.slots
  logs : ∀ r ∈ s.logQ, r ∈ u.logQ

variable {s u : State}

theorem Quiet.refl (s : State) : Quiet s s := ⟨rfl, fun _ h => h⟩

theorem Quiet.slot (h : Quiet s u) (t k : Nat) : u.slot t k = s.slot t k := by
  rw [State.slot, State.slot, h.slots]

/-- A change of other parts of the state. -/
theorem Quiet.same {v : State} (h : Quiet s u) (hs : v.slots = u.slots := by exact rfl) (hl : v.logQ = u.logQ := by exact rfl) :
    Quiet s v :=
  ⟨hs.trans h.slots, fun r hr => hl ▸ h.logs r hr⟩

theorem Quiet.ite {a b : State} {c : Prop} [Decidable c] (ha : Quiet s a) (hb : Quiet s b) : Quiet s (if c then a else b) := by
  split
  · exact ha
  · exact hb

theorem Quiet.foldl {β : Type} {f : State → β → State} {l : List β} (h : Quiet s u)
    (hf : ∀ v x, Quiet s v → Quiet s (f v x)) : Quiet s (l.foldl f u) := by
  induction l generalizing u with
  | nil => exact h
  | cons x l ih => exact ih (hf u x h)

theorem Quiet.setReg {r : Reg} {i v : Nat} (h : Quiet s u) : Quiet s (u.setReg r i v) := h.same

theorem Quiet.setFld {f : Fld} {i v : Nat} (h : Quiet s u) : Quiet s (u.setFld f i v) := h.same

theorem Quiet.bumpBy {r : Reg} {i n : Nat} (h : Quiet s u) : Quiet s (u.bumpBy r i n) := h.same

theorem Quiet.bump {r : Reg} {i : Nat} (h : Quiet s u) : Quiet s (u.bump r i) := h.same

theorem Quiet.bumpFld {f : Fld} {i : Nat} (h : Quiet s u) : Quiet s (u.bumpFld f i) := h.same

theorem Quiet.modTile {t : Nat} {f : TileSt → TileSt} (h : Quiet s u) : Quiet s (u.modTile t f) := h.same

theorem Quiet.modFloor {f : Nat} {g : FloorSt → FloorSt} (h : Quiet s u) : Quiet s (u.modFloor f g) := h.same

theorem Quiet.modQueue {q : Nat} {g : Queue → Queue} (h : Quiet s u) : Quiet s (u.modQueue q g) := h.same

theorem Quiet.setPool {f i : Nat} {w : QWord} (h : Quiet s u) : Quiet s (u.setPool f i w) := h.same

theorem Quiet.setTask {k : Nat} {x : TaskSt} (h : Quiet s u) : Quiet s (u.setTask k x) := h.same

theorem Quiet.setTf {f : TFld} {k v : Nat} (h : Quiet s u) : Quiet s (u.setTf f k v) := h.same

theorem Quiet.setTaskWord {k i v : Nat} (h : Quiet s u) : Quiet s (u.setTaskWord k i v) := h.same

theorem Quiet.faultEdge {old : State} (h : Quiet s u) : Quiet s (u.faultEdge old) := .ite h.same h

theorem Quiet.raise {code sclass loc data : Nat} (h : Quiet s u) : Quiet s (u.raise code sclass loc data) := by
  have hrec : ∀ l, Quiet s { u with logQ := u.logQ ++ l } := fun _ => ⟨h.slots, fun r hr => List.mem_append_left _ (h.logs r hr)⟩
  exact .ite (hrec _) (hrec _).setReg.faultEdge

/-! The queue engine -/

theorem Quiet.qEval {q : Nat} (h : Quiet s u) : Quiet s (u.qEval q) :=
  .ite h (.ite h.setFld.setFld.bumpFld.raise h.setFld.setFld.bumpFld)

theorem Quiet.swap {q : Nat} (h : Quiet s u) : Quiet s (u.swap q) := by
  unfold State.swap
  exact h.modQueue

theorem Quiet.storeWord {q : Nat} {a : Agent} {fl : Option Nat} {w : QWord} (h : Quiet s u) : Quiet s (u.storeWord q a fl w) :=
  .ite (.ite h.bump.modQueue h.bump) (Quiet.setPool (.ite h.swap h)).modQueue

theorem Quiet.settleLate {q : Nat} (h : Quiet s u) : Quiet s (u.settleLate q) := .ite h h.modQueue

theorem Quiet.truncate {q : Nat} (h : Quiet s u) : Quiet s (u.truncate q) := by
  unfold State.truncate
  dsimp only
  split
  · exact h
  · exact .ite h.modQueue h.storeWord.modQueue.settleLate

theorem Quiet.endProducer {q : Nat} {a : Agent} (h : Quiet s u) : Quiet s (u.endProducer q a) :=
  .ite (.ite h.modQueue.modQueue (.ite h.modQueue h.modQueue.truncate.qEval.raise)) h.modQueue

theorem Quiet.dropItem {q : Nat} (h : Quiet s u) : Quiet s (u.dropItem q) := h.bumpBy.modQueue.settleLate.qEval

theorem Quiet.endConsumer {q : Nat} {a : Agent} (h : Quiet s u) : Quiet s (u.endConsumer q a) := .ite h.dropItem h

theorem Quiet.endAgent {a : Agent} (h : Quiet s u) : Quiet s (u.endAgent a) := .foldl h fun _ _ hv => hv.endProducer.endConsumer

theorem Quiet.dropStaged {q i : Nat} (h : Quiet s u) : Quiet s (u.dropStaged q i) := h.modQueue.qEval

/-! Flows, ready lists, delay lists, tasks, guard causes -/

theorem Quiet.closeFlow {f id : Nat} {kind : EndKind} (h : Quiet s u) : Quiet s (u.closeFlow f id kind) := by
  unfold State.closeFlow
  dsimp only
  split
  · exact h
  · split
    · exact h.modFloor.setFld.dropStaged
    · exact .ite h.modFloor.dropStaged.raise h.modFloor

theorem Quiet.dropParked {t k : Nat} (h : Quiet s u) : Quiet s (u.dropParked t k) := .foldl h.modTile fun _ _ hv => hv.modFloor

theorem Quiet.leaveSlot {t k n : Nat} {kind : EndKind} (h : Quiet s u) : Quiet s (u.leaveSlot t k n kind) := by
  unfold State.leaveSlot
  dsimp only
  refine (Quiet.modTile ?_).modFloor.dropParked.modFloor
  split
  · exact h.endAgent.closeFlow
  · exact h.endAgent

theorem Quiet.fixNew {n : Nat} (h : Quiet s u) : Quiet s (u.fixNew n) := .ite h.modFloor (.ite h.modFloor h)

theorem Quiet.decRun {n : Nat} (h : Quiet s u) : Quiet s (u.decRun n) := .ite h.setTask h.setTf

theorem Quiet.countEnd {n : Nat} {kind : EndKind} (h : Quiet s u) : Quiet s (u.countEnd n kind) :=
  (Quiet.setTaskWord (.ite h.decRun.setTf h.decRun)).fixNew

theorem Quiet.takeDelay {f : Nat} {d : DlyUser} {n : Nat} (h : Quiet s u) : Quiet s (u.takeDelay f d n) := h.same

theorem Quiet.waitDelay {f : Nat} {d : DlyUser} {n : Nat} (h : Quiet s u) : Quiet s (u.waitDelay f d n) := by
  unfold State.waitDelay
  exact Quiet.modFloor (.ite h.bump h.bump.modFloor.raise)

theorem Quiet.rearmDelay {n : Nat} (h : Quiet s u) : Quiet s (u.rearmDelay n) :=
  .ite (.ite h (.ite h.takeDelay h.waitDelay.setTf)) h

theorem Quiet.setRet {t g : Nat} {r : Option Nat} (h : Quiet s u) : Quiet s (u.setRet t g r) := by
  cases r with
  | none => exact h.setFld.setFld
  | some k => exact h.setFld.setFld

theorem Quiet.idleTile {t : Nat} (h : Quiet s u) : Quiet s (u.idleTile t) := h.setFld.setFld.setFld.setFld

theorem Quiet.deliverCause {t g cause : Nat} (h : Quiet s u) : Quiet s (u.deliverCause t g cause) := by
  have hcause : Quiet s (if bit (u.reg .TIL_GCAUSE (2 * t + g)) cause then u.bump .TIL_GOVR (2 * t + g)
      else u.setReg .TIL_GCAUSE (2 * t + g) (u.reg .TIL_GCAUSE (2 * t + g) + 2 ^ cause)) := .ite h.bump h.setReg
  refine .ite h (.ite hcause ?_)
  split
  · exact hcause
  · exact .ite hcause hcause.setFld

/-! ### What gives no slot a task -/

/-- Every record that waited for its log still waits, and a slot that had no task has none. -/
structure NoneStarts (s u : State) : Prop where
  canon : Canon u
  logs : ∀ r ∈ s.logQ, r ∈ u.logQ
  idle : ∀ t k, (s.slot t k).task = none → (u.slot t k).task = none

theorem NoneStarts.refl (h : Canon s) : NoneStarts s s := ⟨h, fun _ h => h, fun _ _ h => h⟩

theorem NoneStarts.quiet {v : State} (h : NoneStarts s u) (hc : Canon v) (hq : Quiet u v) : NoneStarts s v :=
  ⟨hc, fun r hr => hq.logs r (h.logs r hr), fun t k hi => by rw [hq.slot]; exact h.idle t k hi⟩

theorem NoneStarts.ite {a b : State} {c : Prop} [Decidable c] (ha : NoneStarts s a) (hb : NoneStarts s b) :
    NoneStarts s (if c then a else b) := by
  split
  · exact ha
  · exact hb

theorem NoneStarts.setFld {f : Fld} {i v : Nat} (h : NoneStarts s u) : NoneStarts s (u.setFld f i v) :=
  h.quiet h.canon.setFld (Quiet.refl u).setFld

theorem NoneStarts.bump {r : Reg} {i : Nat} (h : NoneStarts s u) : NoneStarts s (u.bump r i) :=
  h.quiet h.canon.bump (Quiet.refl u).bump

theorem NoneStarts.modTile {t : Nat} {f : TileSt → TileSt} (h : NoneStarts s u) : NoneStarts s (u.modTile t f) :=
  h.quiet h.canon.modTile (Quiet.refl u).modTile

theorem NoneStarts.modFloor {f : Nat} {g : FloorSt → FloorSt} (h : NoneStarts s u) : NoneStarts s (u.modFloor f g) :=
  h.quiet h.canon.modFloor (Quiet.refl u).modFloor

/-- A change of one bank that gives it no task and keeps its shape. -/
theorem NoneStarts.modSlot {t k : Nat} {f : SlotSt → SlotSt} (h : NoneStarts s u)
    (hf : ∀ x, bankOk x = true → bankOk (f x) = true := by exact fun _ hx => hx)
    (ht : ∀ x, x.task = none → (f x).task = none := by exact fun _ hx => hx) : NoneStarts s (u.modSlot t k f) := by
  refine ⟨h.canon.modSlot hf, h.logs, fun t' k' hi => ?_⟩
  rw [State.modSlot_eq, State.slot, State.setSlot_slots, tget_tput (rising_of_twf h.canon.slots)]
  split
  next he =>
    refine ht _ ?_
    rw [State.slot, ← he]
    exact h.idle t' k' hi
  next => exact h.idle t' k' hi

theorem NoneStarts.suspend {t k : Nat} {w : Susp} (h : NoneStarts s u) : NoneStarts s (u.suspend t k w) := by
  unfold State.suspend
  exact NoneStarts.modFloor (h.setFld.modSlot.modTile)

theorem NoneStarts.runSlot {t k : Nat} (h : NoneStarts s u) : NoneStarts s (u.runSlot t k) := by
  unfold State.runSlot
  exact NoneStarts.modSlot (h.setFld.setFld.setFld.setFld.setFld)

theorem NoneStarts.idleTile {t : Nat} (h : NoneStarts s u) : NoneStarts s (u.idleTile t) := h.setFld.setFld.setFld.setFld

theorem NoneStarts.setRet {t g : Nat} {r : Option Nat} (h : NoneStarts s u) : NoneStarts s (u.setRet t g r) :=
  h.quiet h.canon.setRet (Quiet.refl u).setRet

theorem NoneStarts.resumeOrIdle {t : Nat} {r : Option Nat} (h : NoneStarts s u) : NoneStarts s (u.resumeOrIdle t r) := by
  unfold State.resumeOrIdle
  split
  · exact .ite h.idleTile.runSlot h.idleTile
  · exact h.idleTile

theorem NoneStarts.enterGuard {t g k : Nat} (h : NoneStarts s u) : NoneStarts s (u.enterGuard t g k) :=
  (NoneStarts.modFloor (.ite h.modSlot h)).setFld.runSlot.bump

theorem NoneStarts.guardExit {t g : Nat} (h : NoneStarts s u) : NoneStarts s (u.guardExit t g) := by
  unfold State.guardExit
  dsimp only
  split
  · exact h
  · refine .ite h.enterGuard (.ite h.setRet.resumeOrIdle (.ite ?_ h.setRet.resumeOrIdle))
    split
    · exact h.setRet.setRet.enterGuard
    · exact h.resumeOrIdle

theorem NoneStarts.grantOne {f : Nat} (h : NoneStarts s u) : NoneStarts s (u.grantOne f) := by
  unfold State.grantOne
  dsimp only
  split
  · exact .ite h.modFloor.modFloor h.modFloor
  · refine .ite h.modFloor ?_
    have hgrant {d : DlyUser} {n : Nat} {g₁ g₂ : FloorSt → FloorSt} :
        NoneStarts s (((u.modFloor f g₁).modFloor f g₂).takeDelay f d n) :=
      h.modFloor.modFloor.quiet h.canon.modFloor.modFloor.takeDelay (Quiet.refl _).takeDelay
    split
    · exact hgrant.quiet hgrant.canon.setTf (Quiet.refl _).setTf
    · split
      · exact hgrant.modSlot.suspend.guardExit
      · exact hgrant.modSlot.suspend.idleTile

theorem NoneStarts.grantDelay {f : Nat} (h : NoneStarts s u) : NoneStarts s (u.grantDelay f) := by
  have hgrant (n : Nat) : ∀ v, NoneStarts s v → NoneStarts s (v.grantUpTo f n) := by
    induction n with
    | zero => exact fun _ hv => hv
    | succ n ih => exact fun _ hv => ih _ hv.grantOne
  exact hgrant _ u h

/-- An ended activation leaves its slot without a task. -/
theorem task_endActivation {t k : Nat} {kind : EndKind} (hc : Canon s) :
    ((s.endActivation t k kind).slot t k).task = none ∧ ∀ r ∈ s.logQ, r ∈ (s.endActivation t k kind).logQ := by
  unfold State.endActivation
  dsimp only
  split
  next htask => exact ⟨htask, fun _ hr => hr⟩
  next n _ =>
    have hleft : Canon (s.leaveSlot t k n kind) := hc.leaveSlot
    generalize hv : ((s.leaveSlot t k n kind).modSlot t k _) = v
    have hcv : Canon v := hv ▸ hleft.modSlot
    have hnone : (v.slot t k).task = none := by
      rw [← hv, State.modSlot_eq, slot_setSlot (rising_of_twf hleft.slots)]
    have hlogs : ∀ r ∈ s.logQ, r ∈ v.logQ := fun r hr => hv ▸ (Quiet.refl s).leaveSlot.logs r hr
    have hcount := (NoneStarts.refl hcv).quiet hcv.countEnd (Quiet.refl v).countEnd (v := v.countEnd n kind)
    have hgrant := hcount.grantDelay (f := t / 16)
    have hend := hgrant.quiet hgrant.canon.rearmDelay (Quiet.refl _).rearmDelay (v := State.rearmDelay _ n)
    exact ⟨hend.idle t k hnone, fun r hr => hend.logs r (hlogs r hr)⟩

end Sys2Proof
end

section
/-! PROOFS. A context fault of a data slot (R143), by what of it stays: its record, and a slot without an activation. -/

namespace Sys2Proof

open Sys2Proof.Machine

set_option Elab.async false

/-- A data slot faults: the event of `code` is recorded for it, and its activation has ended. -/
theorem contextFault_of_data {s : State} {t k code : Nat} (hc : Canon s) (hcode : faultBit code = 0) (hg : s.guardOf t k = none)
    (pc imm : Nat) : (∃ r ∈ (s.contextFault t k code pc imm).logQ, r.code = code ∧ r.loc = locTile t k 0xFF) ∧
      ((s.contextFault t k code pc imm).slot t k).task = none := by
  unfold State.contextFault State.contextFaultD
  dsimp only
  generalize hraised : ((s.setReg .TIL_FAULT (8 * t + k) (faultV pc code)).raise code 1 (locTile t k 0xFF) _) = u
  generalize hv : u.modTile t _ = v
  have hcv : Canon v := hv ▸ hraised ▸ hc.setReg.raise.modTile
  obtain ⟨r, hr, hrcode, hrloc⟩ : ∃ r ∈ v.logQ, r.code = code ∧ r.loc = locTile t k 0xFF := by
    obtain ⟨l, hl, r, hr, hcode, hloc⟩ := raise_logs (s.setReg .TIL_FAULT (8 * t + k) (faultV pc code)) code 1 (locTile t k 0xFF) _
    rw [hraised] at hl
    refine ⟨r, ?_, hcode, hloc⟩
    rw [← hv, State.modTile_eq, State.setTile_logQ, hl]
    exact List.mem_append_right _ hr
  have hgv : v.guardOf t k = none := by
    refine (guardOf_congr ?_).trans hg
    have hregs : v.regs = (s.setReg .TIL_FAULT (8 * t + k) (faultV pc code)).regs := by
      rw [← hv, ← hraised]
      exact (raise_regs_floors hcode ..).1
    rw [reg_congr hregs, reg_setReg hc.regs _ _ _ _ _ (addr_gcfg_ne_fault)]
  obtain ⟨hnone, hkept⟩ := task_endActivation (t := t) (k := k) (kind := .faulted) hcv
  have idled {c : Prop} [Decidable c] {a : State} (ha : Quiet (v.endActivation t k .faulted) a) :
      Quiet (v.endActivation t k .faulted) (if c then a.idleTile t else a) := .ite ha.idleTile ha
  have told (o : Option Nat) {a : State} (ha : Quiet (v.endActivation t k .faulted) a) :
      Quiet (v.endActivation t k .faulted) (match o with
        | some n => (if a.tf tkState n = 1 then a.setTf tkState n 4 else a).fixNew n
        | none => a) := by
    split
    · exact (Quiet.ite ha.setTf ha).fixNew
    · exact ha
  have hfaulted : Quiet (v.endActivation t k .faulted) ((v.endActivation t k .faulted).setSstate t k stFaulted) :=
    (Quiet.refl _).setFld
  simp only [hgv]
  suffices hends : ∀ w, Quiet (v.endActivation t k .faulted) w →
      (∃ r ∈ w.logQ, r.code = code ∧ r.loc = locTile t k 0xFF) ∧ (w.slot t k).task = none by
    refine hends _ ?_
    split
    · exact (idled (told _ hfaulted)).setFld.deliverCause
    · exact idled (told _ hfaulted)
  exact fun w hw => ⟨⟨r, hw.logs r (hkept r hr), hrcode, hrloc⟩, by rw [hw.slot]; exact hnone⟩

end Sys2Proof
end

section
/-! PROOFS. A slot's bank after its program counter or one flag is set (R117, R153), and the packet that an instruction sends. -/

namespace Sys2Proof

open Sys2Proof.Machine

set_option Elab.async false

section
variable {s : State} {t k : Nat} (h : rising s.slots = true)

theorem rising_modSlot (f : SlotSt → SlotSt) (h : rising s.slots = true) : rising (s.modSlot t k f).slots = true := rising_tput h

include h

theorem rising_setFlag (i : Nat) (b : Bool) : rising (s.setFlag t k i b).slots = true := rising_modSlot _ h

theorem rising_setGpr (r : SReg) (v : Word) : rising (s.setGpr t k r v).slots = true := rising_modSlot _ h

theorem rising_advance : rising (s.advance t k).slots = true := rising_modSlot _ h

theorem slot_advance : (s.advance t k).slot t k = { s.slot t k with pc := (s.pc t k + 4) % 0x80000 } := by
  rw [State.advance, State.setPc, State.modSlot_eq, slot_setSlot h]

theorem pc_advance : (s.advance t k).pc t k = (s.pc t k + 4) % 0x80000 := by
  rw [State.pc, slot_advance h]

theorem gpr_advance (r : SReg) : (s.advance t k).gpr t k r = s.gpr t k r := by
  rw [State.gpr, slot_advance h]
  rfl

theorem seqFlag_advance (i : Nat) : (s.advance t k).seqFlag t k i = s.seqFlag t k i := by
  rw [State.seqFlag, slot_advance h]
  rfl

theorem slot_setFlag (i : Nat) (b : Bool) : (s.setFlag t k i b).slot t k =
    { s.slot t k with flags := BitVec.ofNat 32 (putBits (s.slot t k).flags.toNat i i (b2n b)) } := by
  rw [State.setFlag, State.modSlot_eq, slot_setSlot h]

theorem pc_setFlag (i : Nat) (b : Bool) : (s.setFlag t k i b).pc t k = s.pc t k := by
  rw [State.pc, slot_setFlag h]
  rfl

theorem gpr_setFlag (i : Nat) (b : Bool) (r : SReg) : (s.setFlag t k i b).gpr t k r = s.gpr t k r := by
  rw [State.gpr, slot_setFlag h]
  rfl

theorem seqFlag_setFlag {i : Nat} (hi : i < 32) (b : Bool) (j : Nat) :
    (s.setFlag t k i b).seqFlag t k j = if j = i then b else s.seqFlag t k j := by
  have hb : (b2n b).testBit 0 = b := by cases b <;> rfl
  have hsame : (decide (j < 32) && (s.slot t k).flags.toNat.testBit j) = (s.slot t k).flags.getLsbD j := by
    rw [← BitVec.getLsbD_ofNat, BitVec.ofNat_toNat, BitVec.setWidth_eq]
  rw [State.seqFlag, State.seqFlag, slot_setFlag h, BitVec.getLsbD_ofNat, testBit_putBits (le_refl i)]
  rcases Nat.lt_trichotomy j i with hlt | rfl | hgt
  · rw [if_pos hlt, if_neg (Nat.ne_of_lt hlt), hsame]
  · rw [if_neg (Nat.lt_irrefl j), if_pos (le_refl j), if_pos rfl, Nat.sub_self, hb, decide_eq_true hi, Bool.true_and]
  · rw [if_neg (Nat.lt_asymm hgt), if_neg (Nat.not_le.mpr hgt), if_neg (Nat.ne_of_gt hgt), hsame]

end

/-- The packet injected is the initiator's but for the times and the place where it lies; beside the network, statistics change. -/
theorem inject_eq (s : State) (node : Nat) (p : Pkt) : ∃ x r, s.inject node p = { s with net := s.net ++ [x], regs := r } ∧
    x = { p with sent := x.sent, born := x.born, router := x.router, local_ := x.local_ } := by
  unfold State.inject State.countInject
  dsimp only
  split
  · exact ⟨_, _, rfl, rfl⟩
  · exact ⟨_, _, rfl, rfl⟩

end Sys2Proof
end

section
/-! PROOFS. YIELD, SIGNAL, CANCEL, RDTIME, FENCE, CLRFL, TRAP, illegal words and met conditions (R175 to R184), one lemma for each. -/

namespace Sys2Proof

open Sys2Proof.Machine

set_option Elab.async false

/-! ### YIELD, SIGNAL, CANCEL (R177 to R179) -/

/-- A data slot's YIELD leaves its tile; beside that, the floor's ready list changes. -/
theorem yieldSlot_of_data {s : State} {t k : Nat} (hg : s.guardOf t k = none) (hcx : s.cancelled t k = false) :
    (s.yieldSlot t k).slots = (leaveTile s t k .yielded).slots ∧ (s.yieldSlot t k).regs = (leaveTile s t k .yielded).regs := by
  unfold State.yieldSlot
  rw [hg]
  dsimp only
  rw [if_neg (ne_true_of_eq_false hcx)]
  split
  · exact ⟨rfl, rfl⟩
  · exact ⟨rfl, rfl⟩

theorem completes_yield {s : State} {t : TileNo} {k : Nat} (hc : Canon s) (hk : k < 8) (hi : s.issue t (.yield t) [] = some k)
    (hg : s.guardOf t k = none) (hcx : s.cancelled t k = false) : Completes (.yield t) s fun u =>
      u.pc t k = (s.pc t k + 4) % 0x80000 ∧ u.sstate t k = stSuspended ∧ u.active t = none ∧ (u.slot t k).susp = .yielded := by
  have harm : exec (.yield t) s = execYield t s := rfl
  have hregs : rising (s.touchIc t k).regs = true := hc.regs
  obtain ⟨hs, hr⟩ := yieldSlot_of_data (s := s.touchIc t k) hg hcx
  have hslot : ((s.touchIc t k).yieldSlot t k).slot t k =
      { s.slot t k with pc := (s.pc t k + 4) % 0x80000, susp := .yielded } := by
    rw [State.slot, hs]
    exact slot_leaveTile (rising_touch hc)
  refine ⟨_, harm.trans (seqStep_some hi), by rw [State.pc, hslot], ?_, ?_, by rw [hslot]⟩
  · rw [State.sstate, fld_congr hr]
    exact sstate_leaveTile hregs hk
  · rw [State.active, flag_congr hr, fld_congr hr]
    exact active_leaveTile hregs

/-- SIGNAL and CANCEL send one packet for the task that ra names, whichever of the two it is. -/
theorem sendTask_sends {s : State} {t k : Nat} {op : POp} {ra : SReg} (h : rising s.slots = true)
    (hown : s.slotOwns t k 2 ((s.gpr t k ra).toNat % 32768) = true) :
    (s.sendTask t k op ra).pc t k = (s.pc t k + 4) % 0x80000 ∧
      ∃ x, (s.sendTask t k op ra).net = s.net ++ [x] ∧ x.op = op ∧ x.addr = (s.gpr t k ra).toNat % 32768 ∧
        x.dest = (s.gpr t k ra).toNat % 32768 / 1024 ∧ x.src = t := by
  obtain ⟨x, r, hsent, hx⟩ := inject_eq s (t / 16) { pkt0 with
    op := op, src := t, dest := homeFloor ((s.gpr t k ra).toNat % 32768), addr := (s.gpr t k ra).toNat % 32768, view := s.slotView t k }
  have hsend : s.sendTask t k op ra = State.advance { s with net := s.net ++ [x], regs := r } t k := by
    simp only [State.sendTask, hown, Bool.not_true, Bool.false_eq_true, if_false, hsent]
  rw [hsend]
  exact ⟨pc_advance h, x, rfl, congrArg Pkt.op hx, congrArg Pkt.addr hx, congrArg Pkt.dest hx, congrArg Pkt.src hx⟩

/-! ### RDTIME (R180) -/

theorem replicaTime_bounds (s : State) (t : Nat) :
    (s.tile t).lastTime ≤ (s.replicaTime t).1 ∧ s.tim.now - 4 ≤ (s.replicaTime t).1 ∧
    ((s.replicaTime t).1 ≤ s.tim.now + 4 ∨ (s.replicaTime t).1 = (s.tile t).lastTime) := by
  have hmod : (s.fresh64).1.toNat % (min s.tim.now 4 + 5) < min s.tim.now 4 + 5 := Nat.mod_lt _ (by omega)
  have hread : (s.replicaTime t).1 =
      max (s.tile t).lastTime (s.tim.now - 4 + (s.fresh64).1.toNat % (min s.tim.now 4 + 5)) := rfl
  omega

theorem ne_regUp (r : SReg) : r ≠ regUp r := by
  intro he
  have hval : r.val = (r.val + 1) % 32 := congrArg Fin.val he
  omega

theorem completes_rdtime {s : State} {t : TileNo} {k : Nat} {rd : SReg} (hc : Canon s)
    (hi : s.issue t (.rdtime t rd) [rd, regUp rd] = some k) : Completes (.rdtime t rd) s fun u => ∃ v : Nat,
      u.gpr t k rd = BitVec.ofNat 32 v ∧ u.gpr t k (regUp rd) = BitVec.ofNat 32 (v / 2 ^ 32) ∧ (s.tile t).lastTime ≤ v ∧
      (u.tile t).lastTime = v ∧ s.tim.now - 4 ≤ v ∧ (v ≤ s.tim.now + 4 ∨ v = (s.tile t).lastTime) := by
  have harm : exec (.rdtime t rd) s = execRdtime t rd s := rfl
  have hread : Canon ((s.touchIc t k).replicaTime t).2 := hc.touchIc.replicaTime
  have hrise := rising_of_twf hread.slots
  have hlast : ((s.touchIc t k).tile t).lastTime = (s.tile t).lastTime := by rw [touchIc_tile hc]
  obtain ⟨hnot, hnear, hfar⟩ := replicaTime_bounds (s.touchIc t k) t
  rw [hlast] at hnot hfar
  have hup : rd ≠ regUp rd := ne_regUp rd
  refine ⟨_, harm.trans (seqStep_some hi), ((s.touchIc t k).replicaTime t).1, ?low, ?high, hnot, ?last, hnear, hfar⟩
  case low =>
    rw [gpr_advance (rising_setGpr (rising_setGpr hrise _ _) _ _), gpr_setGpr (rising_setGpr hrise _ _) (bank_of_canon hread.setGpr t k),
      if_neg hup, gpr_setGpr hrise (bank_of_canon hread t k), if_pos rfl]
  case high =>
    rw [gpr_advance (rising_setGpr (rising_setGpr hrise _ _) _ _), gpr_setGpr (rising_setGpr hrise _ _) (bank_of_canon hread.setGpr t k),
      if_pos rfl]
  case last =>
    have htile : (((s.touchIc t k).replicaTime t).2.tile t).lastTime = ((s.touchIc t k).replicaTime t).1 := by
      have hfree : Canon ((s.touchIc t k).fresh64).2 := hc.touchIc.fresh64
      exact congrArg TileSt.lastTime ((tile_setTile hfree).trans (if_pos rfl))
    exact htile

/-! ### FENCE, CLRFL (R153, R182) -/

theorem onlyBank_clearIcache {s u : State} {t k : Nat} (hc : Canon u) (h : OnlyBank s u t k) :
    OnlyBank s (u.modTile t fun x => { x with icache := [] }) t k where
  rest := by
    rw [h.rest]
    rfl
  slots := h.slots
  tiles := fun j hj => by
    rw [State.modTile_eq, tile_setTile hc, if_neg hj]
    exact h.tiles j hj
  tile := by
    rw [State.modTile_eq, tile_setTile hc, if_pos rfl, h.tile]

theorem completes_fence {s : State} {t : TileNo} {k : Nat} {m q i : Bool} (hc : Canon s) (hi : s.issue t (.fence t m q i) [] = some k)
    (hm : m = true → s.memDone t k = true) (hq : q = true → s.pushDone t k = true) : Completes (.fence t m q i) s fun u =>
      u.pc t k = (s.pc t k + 4) % 0x80000 ∧ (i = true → (u.tile t).icache = []) ∧ OnlyBank s u t k := by
  have harm : exec (.fence t m q i) s = execFence t m q i s := rfl
  have hmem : (s.touchIc t k).memDone t k = s.memDone t k := by
    rw [State.memDone, State.memDone, touchIc_tile hc]
  have hpush : (s.touchIc t k).pushDone t k = s.pushDone t k := by
    rw [State.pushDone, State.pushDone, touchIc_tile hc]
  have hdone : ¬ ((m = true ∧ (!(s.touchIc t k).memDone t k) = true) ∨ (q = true ∧ (!(s.touchIc t k).pushDone t k) = true)) := by
    rw [hmem, hpush]
    rintro (⟨h, hn⟩ | ⟨h, hn⟩)
    · simp [hm h] at hn
    · simp [hq h] at hn
  have hrise := rising_touch (t := t) (k := k) hc
  refine ⟨_, harm.trans ((seqStep_some hi).trans (congrArg _ (if_neg hdone))), ?_⟩
  cases i with
  | false => exact ⟨pc_advance hrise, fun h => absurd h (by decide), onlyBank_setSlot (onlyBank_touch hc) hrise⟩
  | true =>
    refine ⟨pc_advance (s := (s.touchIc t k).modTile t fun x => { x with icache := [] }) hrise, fun _ => ?_,
      onlyBank_setSlot (onlyBank_clearIcache hc.touchIc (onlyBank_touch hc)) hrise⟩
    exact congrArg TileSt.icache ((tile_setTile hc.touchIc).trans (if_pos rfl))

/-- Flag `i` cleared where `b` asks for it. -/
def clearIf (s : State) (t k i : Nat) (b : Bool) : State := if b then s.setFlag t k i false else s

section
variable {s u : State} {t k : Nat} {i : Nat} {b : Bool}

theorem rising_clearIf (h : rising s.slots = true) : rising (clearIf s t k i b).slots = true := by
  cases b
  · exact h
  · exact rising_setFlag h i false

theorem seqFlag_clearIf (h : rising s.slots = true) (hi : i < 32) (j : Nat) :
    (clearIf s t k i b).seqFlag t k j = if j = i then !b && s.seqFlag t k i else s.seqFlag t k j := by
  cases b with
  | false =>
    split
    next he => rw [he]; rfl
    next => rfl
  | true => exact seqFlag_setFlag h hi false j

theorem pc_clearIf (h : rising s.slots = true) : (clearIf s t k i b).pc t k = s.pc t k := by
  cases b
  · rfl
  · exact pc_setFlag h i false

theorem gpr_clearIf (h : rising s.slots = true) (r : SReg) : (clearIf s t k i b).gpr t k r = s.gpr t k r := by
  cases b
  · rfl
  · exact gpr_setFlag h i false r

theorem onlyBank_clearIf (ho : OnlyBank s u t k) (h : rising u.slots = true) : OnlyBank s (clearIf u t k i b) t k := by
  cases b
  · exact ho
  · exact onlyBank_setSlot ho h

end

theorem completes_clrfl {s : State} {t : TileNo} {k : Nat} {lp qp fr : Bool} (hc : Canon s)
    (hi : s.issue t (.clrfl t lp qp fr) [] = some k) : Completes (.clrfl t lp qp fr) s fun u =>
      u.seqFlag t k flLP = (!lp && s.seqFlag t k flLP) ∧ u.seqFlag t k flQP = (!qp && s.seqFlag t k flQP) ∧
      u.seqFlag t k flFR = (!fr && s.seqFlag t k flFR) ∧
      (∀ n ∈ [flPF, flCX, flWP, flEOP, flSOP, flEM], u.seqFlag t k n = s.seqFlag t k n) ∧
      u.pc t k = (s.pc t k + 4) % 0x80000 ∧ (∀ r, u.gpr t k r = s.gpr t k r) ∧ OnlyBank s u t k := by
  have harm : exec (.clrfl t lp qp fr) s = execClrfl t lp qp fr s := rfl
  have h0 := rising_touch (t := t) (k := k) hc
  have h1 := rising_clearIf (t := t) (k := k) (i := flLP) (b := lp) h0
  have h2 := rising_clearIf (t := t) (k := k) (i := flQP) (b := qp) h1
  have h3 := rising_clearIf (t := t) (k := k) (i := flFR) (b := fr) h2
  have hflag (j : Nat) : ((clearIf (clearIf (clearIf (s.touchIc t k) t k flLP lp) t k flQP qp) t k flFR fr).advance t k).seqFlag t k j =
      if j = flFR then !fr && s.seqFlag t k flFR else if j = flQP then !qp && s.seqFlag t k flQP
        else if j = flLP then !lp && s.seqFlag t k flLP else s.seqFlag t k j := by
    have hLP : flLP < 32 ∧ flQP ≠ flLP ∧ flFR ≠ flLP := by decide
    have hQP : flQP < 32 ∧ flFR ≠ flQP := by decide
    simp only [seqFlag_advance h3, seqFlag_clearIf h2 (show flFR < 32 by decide), seqFlag_clearIf h1 hQP.1, seqFlag_clearIf h0 hLP.1,
      hLP.2, hQP.2, if_false]
    rfl
  refine ⟨_, harm.trans (seqStep_some hi), hflag flLP, hflag flQP, hflag flFR, ?kept, ?pc, fun r => ?gpr, ?only⟩
  case kept =>
    simp only [List.forall_mem_cons, List.not_mem_nil, false_imp_iff, implies_true, and_true]
    exact ⟨hflag flPF, hflag flCX, hflag flWP, hflag flEOP, hflag flSOP, hflag flEM⟩
  case pc => exact (pc_advance h3).trans (by rw [pc_clearIf h2, pc_clearIf h1, pc_clearIf h0, touchIc_pc])
  case gpr => exact (gpr_advance h3 r).trans (by rw [gpr_clearIf h2, gpr_clearIf h1, gpr_clearIf h0, touchIc_gpr])
  case only =>
    exact onlyBank_setSlot (onlyBank_clearIf (onlyBank_clearIf (onlyBank_clearIf (onlyBank_touch hc) h0) h1) h2) h3

/-! ### Illegal words and met conditions (R155, R176) -/

theorem exec_illegalInstruction {s : State} {t : TileNo} {k : Nat} {w : Word} (ha : s.active t = some k)
    (hruns : s.floorRuns (t / 16) = true) (hw : s.fetchWord t k = some w) (hnone : decodeSeq t w = none) :
    exec (.illegalInstruction t w) s = .next (s.seqFault t k 0x3210) := by
  have harm : exec (.illegalInstruction t w) s = execIllegalInstruction t w s := rfl
  rw [harm, execIllegalInstruction, ha]
  exact if_pos (by simp [hruns, hw, hnone])

theorem mem_readyTail (p : Nat) (r : Ready) (l : List (Nat × Ready)) : (p, r) ∈ readyTail p r l := by
  induction l with
  | nil => exact List.mem_singleton.mpr rfl
  | cons x l ih =>
    rw [readyTail]
    split
    · exact List.mem_cons_of_mem _ ih
    · exact List.mem_cons_self

theorem exec_waitConditionMet {s : State} {t : TileNo} {j : SlotNo} {w : WaitCond} (hw : (s.slot t j).susp = .waiting w)
    (hst : s.sstate t j = stSuspended) (hh : s.condHolds t j w = true) :
    exec (.waitConditionMet t j) s = .next (s.waitMet t j) := by
  have harm : exec (.waitConditionMet t j) s = execWaitConditionMet t j s := rfl
  rw [harm, execWaitConditionMet, hw]
  exact if_pos ⟨hst, hh⟩

/-- A data slot whose WAIT is met is marked, and the entry of its task joins the floor's ready list. -/
theorem waitMet_of_data {s : State} {t k : Nat} (hc : Canon s) (hg : s.guardOf t k = none) :
    ((s.waitMet t k).slot t k).susp = .met ∧ ∀ n, (s.slot t k).task = some n →
      ∃ e ∈ ((s.waitMet t k).floor (t / 16)).ready, e = (s.tf tkPri n, .resume t k) := by
  have hslot : (s.modSlot t k fun x => { x with susp := .met }).slot t k = { s.slot t k with susp := .met } := by
    rw [State.modSlot_eq, slot_setSlot (rising_of_twf hc.slots)]
  unfold State.waitMet
  rw [hg]
  dsimp only
  rw [hslot]
  cases htask : (s.slot t k).task with
  | none => exact ⟨congrArg SlotSt.susp hslot, fun n h => absurd h (by simp)⟩
  | some m =>
    refine ⟨congrArg SlotSt.susp hslot, fun n h => ⟨_, ?_, rfl⟩⟩
    obtain rfl : m = n := Option.some.inj h
    have hfl : rising (s.modSlot t k fun x => { x with susp := .met }).floors = true := rising_of_twf hc.floors
    dsimp only [State.readyTailAt]
    rw [State.modFloor_eq, floor_setFloor hfl]
    exact mem_readyTail ..

/-- Settles O16: one lemma for each of the instructions and commands. -/
theorem yieldingTasksTimeAndTraps : Obligations.YieldingTasksTimeAndTraps := by
  unfold Obligations.YieldingTasksTimeAndTraps
  intro s t k hc hk
  have hrise := rising_touch (t := t) (k := k) hc
  refine ⟨fun hi hg hcx => completes_yield hc hk hi hg hcx, fun ra hown => ?tasks, fun rd _ hi _ _ => completes_rdtime hc hi,
    fun m q i hi hm hq => completes_fence hc hi hm hq, fun lp qp fr hi => completes_clrfl hc hi, fun m hi hg => ?trap,
    fun w ha hruns hw hnone hg => ?illegal, fun j w hw hst hh hg => ?met⟩
  case tasks =>
    simp only [List.forall_mem_cons, List.not_mem_nil, false_imp_iff, implies_true, and_true]
    refine ⟨fun hi => ?signal, fun hi => ?cancel⟩
    case signal =>
      have harm : exec (.signal t ra) s = execSignal t ra s := rfl
      exact ⟨_, harm.trans (seqStep_some hi), sendTask_sends hrise hown⟩
    case cancel =>
      have harm : exec (.cancel t ra) s = execCancel t ra s := rfl
      exact ⟨_, harm.trans (seqStep_some hi), sendTask_sends hrise hown⟩
  case trap =>
    have harm : exec (.trap t m) s = execTrap t m s := rfl
    exact ⟨_, harm.trans (seqStep_some hi), contextFault_of_data (s := s.touchIc t k) hc.touchIc (by decide) hg _ _⟩
  case illegal => exact ⟨_, exec_illegalInstruction ha hruns hw hnone, contextFault_of_data hc (by decide) hg _ _⟩
  case met => exact ⟨_, exec_waitConditionMet hw hst hh, waitMet_of_data hc hg⟩

end Sys2Proof
end

section
/-! PROOFS. One word that a queue takes from a sequencer's slot, opening an item or going on in it, and one that it refuses
(R228, R240). -/

namespace Sys2Proof

open Sys2Proof.Machine

set_option Elab.async false

variable {s : State}

/-! ### A word taken -/

/-- Nothing stands in the way of a word of `a`: it opens an item that is not staged, or goes on in `a`'s own, which is not full. -/
structure Takes (s : State) (q : Nat) (a : Agent) (fl : Option Nat) (sop : Bool) : Prop where
  isOpen : s.qOpen q = true
  skips : (s.queue q).skips = []
  skip : (s.queue q).skip = false
  wait : (s.queue q).truncWait = false
  drop : (s.queue q).dropping = false
  room : s.qFull q = false
  inj : s.flag quePinj q = false
  item : (sop = true ∧ (s.queue q).ilock = none ∧ fl = none) ∨
    (sop = false ∧ (s.queue q).ilock = some a ∧ (s.queue q).fl = none ∧ (s.queue q).itemLen < 4095)

/-- The producer's side of the queue after a word: the item has ended, or goes on with `n` words (`afterPush` is this for `n = 1`). -/
def itemAfter (a : Agent) (eop : Bool) (n : Nat) (x : Queue) : Queue :=
  if eop then { x with ilock := none, fl := none, itemLen := 0 } else { x with ilock := some a, fl := none, itemLen := n }

/-- The state after a queue has taken the word `w` of `a` into an item that is visible. -/
def takeWord (s : State) (q : Nat) (a : Agent) (eop : Bool) (n : Nat) (w : QWord) : State :=
  ((((s.setFld quePinj q 0).storeWord q a none w).modQueue q (itemAfter a eop n)).settleLate q).qEval q

theorem pushWord_of_takes {q : Nat} {a : Agent} {fl : Option Nat} {sop : Bool} (h : Takes s q a fl sop) (data : Word) (eop psn : Bool) :
    ∃ n, s.pushWord q a fl data sop eop psn = (true, takeWord s q a eop n (mkWord data sop eop psn)) := by
  rcases h.item with ⟨rfl, hlock, rfl⟩ | ⟨rfl, hlock, hfl, hlen⟩
  · have hfun : (fun x : Queue => if eop = true then { x with ilock := none, fl := none, itemLen := 0 }
        else { x with ilock := some a, fl := none, itemLen := 1 }) = itemAfter a eop 1 := rfl
    refine ⟨1, ?_⟩
    simp [State.pushWord, h.skips, h.skip, h.isOpen, hlock, h.wait, h.room, h.inj, hfun, takeWord]
  · have hfun : (fun x : Queue => if eop = true then { x with ilock := none, fl := none, itemLen := 0 }
        else { x with ilock := some a, fl := none, itemLen := (s.queue q).itemLen + 1 }) = itemAfter a eop ((s.queue q).itemLen + 1) := rfl
    have hshort : (s.queue q).itemLen ≠ 4095 := Nat.ne_of_lt hlen
    refine ⟨(s.queue q).itemLen + 1, ?_⟩
    simp [State.pushWord, h.skips, h.skip, h.isOpen, hlock, h.wait, h.room, h.inj, hfl, hshort, hfun, takeWord]

@[simp] theorem ilock_setTail (x : Queue) (n : Nat) (l : List Ent) : (x.setTail n l).ilock = x.ilock := by
  cases hx : x.fill1 <;> simp [Queue.setTail, Queue.setFill, hx]

theorem itemAfter_words (a : Agent) (eop : Bool) (n : Nat) (x : Queue) : (itemAfter a eop n x).words = x.words ∧
    (itemAfter a eop n x).level = x.level ∧ (itemAfter a eop n x).late = x.late := by
  cases eop <;> exact ⟨rfl, rfl, rfl⟩

theorem ilock_settleLate (hq : rising s.queues = true) (q : Nat) : ((s.settleLate q).queue q).ilock = (s.queue q).ilock := by
  unfold State.settleLate
  split
  · rfl
  · rw [State.modQueue, queue_setQueue hq, if_pos rfl]
    exact ilock_setTail ..

/-- The word is stored, the lock stays with `a` until the item has ended, and no slot changes. -/
theorem takeWord_stored (hc : Canon s) {q : Nat} (hd : (s.queue q).dropping = false) (a : Agent) (eop : Bool) (n : Nat) (w : QWord) :
    Stored s (takeWord s q a eop n w) q w ∧ ((takeWord s q a eop n w).queue q).ilock = (if eop then none else some a) ∧
      (takeWord s q a eop n w).slots = s.slots := by
  obtain ⟨e, happ⟩ := appended_storeWord (s := s.setFld quePinj q 0) (rising_of_twf hc.queues) (rising_of_twf hc.pool) hd a w
  have hslots : (takeWord s q a eop n w).slots = s.slots := (Quiet.refl s).setFld.storeWord.modQueue.settleLate.qEval.slots
  unfold takeWord at hslots ⊢
  generalize (s.setFld quePinj q 0).storeWord q a none w = t at happ hslots ⊢
  have hrise : rising (t.modQueue q (itemAfter a eop n)).queues = true := Machine.rising_tput happ.rising
  have hafter : (t.modQueue q (itemAfter a eop n)).queue q = itemAfter a eop n (t.queue q) :=
    (queue_setQueue happ.rising q _ q).trans (if_pos rfl)
  obtain ⟨hwords, hlevel, hlate⟩ := itemAfter_words a eop n (t.queue q)
  obtain ⟨hsettled, hslevel, hpool, -⟩ := settleLate_words hrise q
  obtain ⟨regs, logQ, heval⟩ := onlyRegsLogs_qEval ((t.modQueue q (itemAfter a eop n)).settleLate q) q
  rw [hafter, hwords, hlate, happ.words, happ.late] at hsettled
  rw [heval] at hslots ⊢
  refine ⟨Stored.congr (u := (t.modQueue q (itemAfter a eop n)).settleLate q) ⟨?level, e, ?mem, ?entry, fun hnone => ?last⟩ rfl rfl,
    ?lock, hslots⟩
  case level => exact hslevel.trans (by rw [hafter, hlevel]; exact happ.level)
  case mem => exact hsettled.elim (fun hw => by rw [hw]; simp) fun hw => by rw [hw]; simp
  case entry =>
    rw [← happ.entry]
    exact congrArg (fun m => decodeWord (tget 0#36 m (poolKey (q / 512) e.pos))) hpool
  case last =>
    rw [show (s.setFld quePinj q 0).queue q = s.queue q from rfl, hnone, List.append_nil, or_self] at hsettled
    rw [hsettled]
    simp
  case lock =>
    refine (ilock_settleLate hrise q).trans ?_
    rw [hafter]
    cases eop <;> rfl

/-! ### A word refused -/

/-- A full queue refuses the word of a producer that has no item open there. -/
theorem pushWord_of_full {q : Nat} {a : Agent} (hskips : (s.queue q).skips = []) (hlock : (s.queue q).ilock ≠ some a)
    (hdrop : (s.queue q).dropping = false) (hfull : s.qFull q = true) (fl : Option Nat) (data : Word) (sop eop psn : Bool) :
    (s.pushWord q a fl data sop eop psn).1 = false := by
  unfold State.pushWord
  simp only [hskips, hlock, hdrop, hfull, List.contains_nil, Bool.false_eq_true, and_false, if_false, Bool.not_false, and_self, true_or,
    or_true, if_true]
  split
  · rfl
  · split
    · rfl
    · split
      · rfl
      · rfl

end Sys2Proof
end

section
/-! PROOFS. The rest of an item dropped (R243): the words that leave the queue, the lock, and the count. -/

namespace Sys2Proof

open Sys2Proof.Machine

set_option Elab.async false

/-! ### The banks after a drop -/

@[simp] theorem tail_setDrain (x : Queue) (l : List Ent) : (x.setDrain l).tail = x.tail := by
  cases hx : x.fill1 <;> simp [Queue.setDrain, Queue.tail, Queue.fill, hx]

theorem level_setDrain (x : Queue) (l : List Ent) : (x.setDrain l).level + x.drain.length = x.level + l.length := by
  cases hx : x.fill1 <;>
    simp only [Queue.level, Queue.all, Queue.drain, Queue.setDrain, hx, List.length_append, if_true, if_false, Bool.false_eq_true] <;>
    omega

/-- The first `n` words of the queue gone. -/
def dropWords (bank n : Nat) (x : Queue) : Queue := (x.setDrain (x.drain.drop n)).setTail bank (x.tail.drop (n - x.drain.length))

theorem level_dropWords {x : Queue} {n : Nat} (hn : n ≤ x.words.length) (bank : Nat) : (dropWords bank n x).level + n = x.level := by
  have hdrain := level_setDrain x (x.drain.drop n)
  have htail := level_setTail (x.setDrain (x.drain.drop n)) bank (x.tail.drop (n - x.drain.length))
  rw [tail_setDrain] at htail
  rw [Queue.words, List.length_append] at hn
  rw [dropWords]
  rw [List.length_drop] at hdrain htail
  omega

theorem locks_dropWords (bank n : Nat) (x : Queue) :
    (dropWords bank n x).olock = x.olock ∧ (dropWords bank n x).dropping = x.dropping := by
  cases hx : x.fill1 <;> simp [dropWords, Queue.setDrain, Queue.setTail, Queue.setFill, hx]

theorem locks_setTail (x : Queue) (n : Nat) (l : List Ent) :
    (x.setTail n l).olock = x.olock ∧ (x.setTail n l).dropping = x.dropping := by
  cases hx : x.fill1 <;> simp [Queue.setTail, Queue.setFill, hx]

/-- The consumer's side of the queue after a drop: the item has ended, or its later words are dropped too. -/
def dropQueue (ended : Bool) (bank n : Nat) (x : Queue) : Queue :=
  if ended then { dropWords bank n x with olock := none } else { dropWords bank n x with dropping := true }

theorem level_dropQueue {x : Queue} {n : Nat} (hn : n ≤ x.words.length) (ended : Bool) (bank : Nat) :
    (dropQueue ended bank n x).level + n = x.level := by
  cases ended <;> exact level_dropWords hn bank

/-! ### The item at the head -/

variable {s : State} {q : Nat}

/-- The end of the head item is stored exactly when some word of the queue ends an item. -/
theorem itemEnds_eq_nil_iff : s.itemEnds q = [] ↔
    ¬ ((s.queue q).words.takeWhile fun e => !s.entEop q e).length < (s.queue q).words.length := by
  unfold State.itemEnds
  induction (s.queue q).words with
  | nil => simp
  | cons e l ih =>
    cases he : s.entEop q e with
    | true => simp [he]
    | false => simpa [he] using ih

/-- The words of the head item, with whether its end is among them. -/
theorem headItem_eq : headItem s q = (if (decide (((s.queue q).words.takeWhile fun e => !s.entEop q e).length < (s.queue q).words.length))
    then ((s.queue q).words.takeWhile fun e => !s.entEop q e).length + 1
    else ((s.queue q).words.takeWhile fun e => !s.entEop q e).length) := by
  rw [headItem]
  by_cases h : ((s.queue q).words.takeWhile fun e => !s.entEop q e).length < (s.queue q).words.length
  · rw [if_neg fun hnil => itemEnds_eq_nil_iff.mp hnil h, if_pos (decide_eq_true h)]
  · rw [if_pos (itemEnds_eq_nil_iff.mpr h), if_neg (by simpa using h)]
    rfl

theorem headItem_le : headItem s q ≤ (s.queue q).words.length := by
  have hle : ((s.queue q).words.takeWhile fun e => !s.entEop q e).length ≤ (s.queue q).words.length :=
    (List.takeWhile_prefix _).length_le
  rw [headItem_eq]
  split
  next h => exact of_decide_eq_true h
  next => exact hle

theorem dropItem_eq : s.dropItem q = (((s.bumpBy .QUE_DROP_WORDS (q / 512) (headItem s q)).modQueue q
    (dropQueue (!(s.itemEnds q).isEmpty) ((s.bumpBy .QUE_DROP_WORDS (q / 512) (headItem s q)).bankSize q)
      (headItem s q))).settleLate q).qEval q := by
  have hended : (!(s.itemEnds q).isEmpty) =
      decide (((s.queue q).words.takeWhile fun e => !s.entEop q e).length < (s.queue q).words.length) := by
    rw [Bool.eq_iff_iff, decide_eq_true_eq, ← not_not (a := _ < _), ← itemEnds_eq_nil_iff]
    simp
  rw [hended, headItem_eq]
  rfl

/-! ### What the drop leaves -/

theorem settleLate_frame (hq : rising s.queues = true) : ((s.settleLate q).queue q).level = (s.queue q).level ∧
    ((s.settleLate q).queue q).olock = (s.queue q).olock ∧ ((s.settleLate q).queue q).dropping = (s.queue q).dropping ∧
    (s.settleLate q).regs = s.regs := by
  refine ⟨(settleLate_words hq q).2.1, ?_⟩
  unfold State.settleLate
  split
  · exact ⟨rfl, rfl, rfl⟩
  · rw [State.modQueue, queue_setQueue hq, if_pos rfl]
    exact ⟨(locks_setTail ..).1, (locks_setTail ..).2, rfl⟩

/-- The watermarks of a queue are no count of dropped words. -/
theorem reg_dropWords_qEval (hr : rising s.regs = true) (f : Nat) :
    (s.qEval q).reg .QUE_DROP_WORDS f = s.reg .QUE_DROP_WORDS f := by
  have hstatus : Reg.addr .QUE_DROP_WORDS f ≠ Reg.addr .QUE_STATUS q := by
    simp only [Reg.addr, Reg.info]
    omega
  have hwmev : Reg.addr .QUE_DROP_WORDS f ≠ Reg.addr .QUE_WMEV q := by
    simp only [Reg.addr, Reg.info]
    omega
  have hset (v : Nat) : (((s.setFld queAbove q v).setFld queCrossed q 1).bumpFld queCnt q).reg .QUE_DROP_WORDS f =
      s.reg .QUE_DROP_WORDS f := by
    rw [State.bumpFld, reg_setFld_other (rising_setFld (rising_setFld hr _ _ _) _ _ _) hwmev,
      reg_setFld_other (rising_setFld hr _ _ _) hwmev, reg_setFld_other hr hstatus]
  unfold State.qEval
  extract_lets lvl h l old new crossed
  clear_value new
  split
  · rfl
  · split
    · rw [reg_congr (raise_regs_floors (by decide) ..).1]
      exact hset _
    · exact hset _

theorem dropsItem_dropItem (hc : Canon s) (hd : (s.queue q).dropping = false) : DropsItem s (s.dropItem q) q := by
  rw [dropItem_eq]
  generalize (s.bumpBy .QUE_DROP_WORDS (q / 512) (headItem s q)).bankSize q = bank
  generalize hv : (s.bumpBy .QUE_DROP_WORDS (q / 512) (headItem s q)).modQueue q
    (dropQueue (!(s.itemEnds q).isEmpty) bank (headItem s q)) = v
  have hcv : Canon v := hv ▸ hc.bumpBy.modQueue
  have hqueue : v.queue q = dropQueue (!(s.itemEnds q).isEmpty) bank (headItem s q) (s.queue q) := by
    rw [← hv]
    exact (queue_setQueue (rising_of_twf hc.queues) q _ q).trans (if_pos rfl)
  obtain ⟨hlevel, holock, hdropping, hregs⟩ := settleLate_frame (q := q) (rising_of_twf hcv.queues)
  obtain ⟨regs, logQ, heval⟩ := onlyRegsLogs_qEval (v.settleLate q) q
  have hevalq : ((v.settleLate q).qEval q).queue q = (v.settleLate q).queue q := by
    rw [heval]
    rfl
  obtain ⟨hkeep, hnodrop⟩ := locks_dropWords bank (headItem s q) (s.queue q)
  constructor
  case counted =>
    rw [reg_dropWords_qEval hcv.settleLate.regs, reg_congr hregs, ← hv]
    refine (reg_setReg_self hc.regs ..).trans (Nat.mod_eq_of_lt ?_)
    omega
  case level =>
    rw [hevalq, hlevel, hqueue]
    exact level_dropQueue headItem_le ..
  case ended =>
    intro hends
    rw [hevalq, holock, hdropping, hqueue, List.isEmpty_eq_false_iff.mpr hends]
    exact ⟨rfl, hnodrop.trans hd⟩
  case later =>
    intro hends
    rw [hevalq, holock, hdropping, hqueue, hends]
    exact ⟨hkeep, rfl⟩

end Sys2Proof
end

section
/-! PROOFS. Queue instructions (R168 to R170, R226, R243, R250): each of them by what it does to the queue of its own floor, and the
request that it sends to another floor. -/

namespace Sys2Proof

open Sys2Proof.Machine

set_option Elab.async false

/-! ### A bank after a pop -/

section
variable {s : State} {t k : Nat}

theorem flags_setGpr (h : rising s.slots = true) (r : SReg) (v : Word) :
    ((s.setGpr t k r v).slot t k).flags = (s.slot t k).flags := by
  rw [State.setGpr, State.modSlot_eq, slot_setSlot h]
  split <;> rfl

theorem pc_setGpr (h : rising s.slots = true) (r : SReg) (v : Word) : (s.setGpr t k r v).pc t k = s.pc t k := by
  rw [State.pc, State.setGpr, State.modSlot_eq, slot_setSlot h]
  split <;> rfl

theorem seqFlag_setGpr (h : rising s.slots = true) (r : SReg) (v : Word) (i : Nat) :
    (s.setGpr t k r v).seqFlag t k i = s.seqFlag t k i := by
  rw [State.seqFlag, flags_setGpr h]
  rfl

/-- The tags of a popped word in the flags (R169); a non-blocking pop clears EM. -/
def tagFlags (s : State) (t k : Nat) (w : QWord) (nb : Bool) : State :=
  clearIf (((s.setFlag t k flSOP w.sop).setFlag t k flEOP w.eop).setFlag t k flWP false) t k flEM nb

/-- A word without poison goes to its register, its tags to the flags. -/
theorem popDeliver_sound (pc : Nat) (r : SReg) (w : QWord) (nb : Bool) :
    s.popDeliver t k pc r.val w.data w.sop w.eop false nb = (tagFlags s t k w nb).setGpr t k r w.data := by
  have hr : Fin.ofNat 32 r.val = r := Fin.ext (Nat.mod_eq_of_lt r.isLt)
  simp only [State.popDeliver, Bool.false_eq_true, if_false, false_and, hr]
  rfl

theorem tagFlags_bank (h : rising s.slots = true) (w : QWord) (nb : Bool) :
    (tagFlags s t k w nb).seqFlag t k flSOP = w.sop ∧
    (tagFlags s t k w nb).seqFlag t k flEOP = w.eop ∧ (tagFlags s t k w nb).seqFlag t k flWP = false ∧
    (tagFlags s t k w nb).pc t k = s.pc t k ∧ ∀ r, (tagFlags s t k w nb).gpr t k r = s.gpr t k r := by
  have h1 := rising_setFlag (t := t) (k := k) h flSOP w.sop
  have h2 := rising_setFlag (t := t) (k := k) h1 flEOP w.eop
  have h3 := rising_setFlag (t := t) (k := k) h2 flWP false
  have hflag (j : Nat) : (tagFlags s t k w nb).seqFlag t k j = if j = flEM then !nb && s.seqFlag t k flEM else if j = flWP then false
      else if j = flEOP then w.eop else if j = flSOP then w.sop else s.seqFlag t k j := by
    have hap : flEM ≠ flWP ∧ flEM ≠ flEOP ∧ flEM ≠ flSOP := by decide
    obtain ⟨hWP, hEOP, hSOP⟩ := hap
    simp only [tagFlags, seqFlag_clearIf h3 (show flEM < 32 by decide), seqFlag_setFlag h2 (show flWP < 32 by decide),
      seqFlag_setFlag h1 (show flEOP < 32 by decide), seqFlag_setFlag h (show flSOP < 32 by decide), hWP, hEOP, hSOP, if_false]
  refine ⟨hflag flSOP, hflag flEOP, hflag flWP, ?_, fun r => ?_⟩
  · rw [tagFlags, pc_clearIf h3, pc_setFlag h2, pc_setFlag h1, pc_setFlag h]
  · rw [tagFlags, gpr_clearIf h3, gpr_setFlag h2, gpr_setFlag h1, gpr_setFlag h]

theorem canon_tagFlags {w : QWord} {nb : Bool} (h : Canon s) : Canon (tagFlags s t k w nb) :=
  .ite h.setFlag.setFlag.setFlag.setFlag h.setFlag.setFlag.setFlag

theorem queues_clearIf (s : State) (t k i : Nat) (b : Bool) : (clearIf s t k i b).queues = s.queues := by cases b <;> rfl

theorem queues_tagFlags (s : State) (t k : Nat) (w : QWord) (nb : Bool) : (tagFlags s t k w nb).queues = s.queues :=
  queues_clearIf ..

/-- The first word of a flow activation's input changes its sequence entry and the flow's number alone (R213). -/
theorem numberFlow_frame (s : State) (t k q : Nat) (sop : Bool) :
    (s.numberFlow t k q sop).slots = s.slots ∧ (s.numberFlow t k q sop).queues = s.queues := by
  unfold State.numberFlow
  split
  · dsimp only
    split
    · split <;> exact ⟨rfl, rfl⟩
    · exact ⟨rfl, rfl⟩
  · exact ⟨rfl, rfl⟩

/-- A sound word taken leaves the draining bank, and no slot changes. -/
theorem popWord_takes (hc : Canon s) {q : Nat} {a : Agent} {w : QWord} (h : CanPop s q a w) :
    ∃ v, s.popWord q a = some (w, v) ∧ v.slots = s.slots ∧ (v.queue q).drain = (s.queue q).drain.tail := by
  obtain ⟨o, regs, logQ, hpop⟩ := popWord_of_canPop h
  refine ⟨_, hpop, rfl, ?_⟩
  have hset := (queue_setQueue (rising_of_twf hc.queues) q { (s.queue q).setDrain (s.queue q).drain.tail with olock := o } q).trans
    (if_pos rfl)
  exact (congrArg Queue.drain hset).trans (drain_setDrain _ _)

end

/-! ### The effect on the own floor -/

section
variable {s : State} {t k q : Nat} (hown : s.slotOwns t k 1 q = true) (hq : q / 512 = t / 16)
include hown hq

theorem seqPush_own {r : SReg} {nb sop eop psn : Bool} :
    s.seqPush t k r q nb sop eop psn =
      let p := s.pushWord q (.slot t k) (s.stageOf t k q) (s.gpr t k r) sop eop psn
      if p.1 then (clearIf p.2 t k flEM nb).advance t k
      else if nb then (s.setFlag t k flEM true).advance t k
      else p.2 := by
  simp only [State.seqPush, hown, hq, Bool.not_true, Bool.false_eq_true, if_false, if_true]
  rfl

theorem seqDrop_own : s.seqDrop t k q = (s.dropBy q (.slot t k)).advance t k := by
  simp only [State.seqDrop, hown, hq, Bool.not_true, Bool.false_eq_true, if_false, if_true]

theorem seqLvl_own (r : SReg) : s.seqLvl t k r q = s.aluRes t k r (BitVec.ofNat 32 (s.queue q).level) := by
  simp only [State.seqLvl, hown, hq, Bool.not_true, Bool.false_eq_true, if_false, if_true]

theorem seqPop_own_none {r : SReg} (h : s.popWord q (.slot t k) = none) :
    s.seqPop t k r q true = (s.setFlag t k flEM true).advance t k := by
  simp only [State.seqPop, hown, hq, h, Bool.not_true, Bool.false_eq_true, if_false, if_true]

theorem seqPop_own_some {r : SReg} {nb : Bool} {w : QWord} {v : State} (h : s.popWord q (.slot t k) = some (w, v)) :
    s.seqPop t k r q nb =
      ((v.numberFlow t k q w.sop).advance t k).popDeliver t k (v.pc t k) r.val w.data w.sop w.eop w.psn nb := by
  simp only [State.seqPop, hown, hq, h, Bool.not_true, Bool.false_eq_true, if_false, if_true]

omit hown hq

/-- A push or a pop that does not block and finds no room or no word: only EM is set. -/
theorem emSet_bank (h : rising s.slots = true) : ((s.setFlag t k flEM true).advance t k).queues = s.queues ∧
    ((s.setFlag t k flEM true).advance t k).seqFlag t k flEM = true ∧
    ((s.setFlag t k flEM true).advance t k).pc t k = (s.pc t k + 4) % 0x80000 ∧
    ∀ x, ((s.setFlag t k flEM true).advance t k).gpr t k x = s.gpr t k x := by
  have hf := rising_setFlag (t := t) (k := k) h flEM true
  refine ⟨rfl, ?_, ?_, fun x => ?_⟩
  · rw [seqFlag_advance hf, seqFlag_setFlag h (by decide), if_pos rfl]
  · rw [pc_advance hf, pc_setFlag h]
  · rw [gpr_advance hf, gpr_setFlag h]

end

section
variable {s : State} {t k q : Nat} (hc : Canon s) (hown : s.slotOwns t k 1 q = true) (hq : q / 512 = t / 16)
include hc hown hq

theorem seqPush_takes {r : SReg} {nb sop eop psn : Bool} (h : Takes s q (.slot t k) (s.stageOf t k q) sop) :
    Stored s (s.seqPush t k r q nb sop eop psn) q (mkWord (s.gpr t k r) sop eop psn) ∧
    ((s.seqPush t k r q nb sop eop psn).queue q).ilock = (if eop then none else some (.slot t k)) ∧
    (s.seqPush t k r q nb sop eop psn).pc t k = (s.pc t k + 4) % 0x80000 ∧
    (nb = true → (s.seqPush t k r q nb sop eop psn).seqFlag t k flEM = false) ∧
    ∀ x, (s.seqPush t k r q nb sop eop psn).gpr t k x = s.gpr t k x := by
  obtain ⟨n, hpush⟩ := pushWord_of_takes h (s.gpr t k r) eop psn
  obtain ⟨hstored, hlock, hslots⟩ := takeWord_stored hc h.drop (.slot t k) eop n (mkWord (s.gpr t k r) sop eop psn)
  rw [seqPush_own hown hq, hpush]
  dsimp only
  rw [if_pos rfl]
  generalize takeWord s q (.slot t k) eop n (mkWord (s.gpr t k r) sop eop psn) = v at hstored hlock hslots ⊢
  have hv : rising v.slots = true := hslots ▸ rising_of_twf hc.slots
  have hslot : v.slot t k = s.slot t k := by rw [State.slot, State.slot, hslots]
  have hqueues : ((clearIf v t k flEM nb).advance t k).queues = v.queues ∧ ((clearIf v t k flEM nb).advance t k).pool = v.pool := by
    cases nb <;> exact ⟨rfl, rfl⟩
  have hr := rising_clearIf (t := t) (k := k) (i := flEM) (b := nb) hv
  refine ⟨hstored.congr hqueues.1 hqueues.2, ?_, ?_, ?_, fun x => ?_⟩
  · rw [State.queue, hqueues.1]
    exact hlock
  · rw [pc_advance hr, pc_clearIf hv, State.pc, hslot]
    rfl
  · rintro rfl
    rw [seqFlag_advance hr, seqFlag_clearIf hv (by decide), if_pos rfl]
    rfl
  · rw [gpr_advance hr, gpr_clearIf hv, State.gpr, hslot]
    rfl

theorem seqPop_takes {r : SReg} {nb : Bool} {w : QWord} (h : CanPop s q (.slot t k) w) (hpsn : w.psn = false) :
    (s.seqPop t k r q nb).gpr t k r = w.data ∧ (s.seqPop t k r q nb).seqFlag t k flSOP = w.sop ∧
    (s.seqPop t k r q nb).seqFlag t k flEOP = w.eop ∧ (s.seqPop t k r q nb).seqFlag t k flWP = false ∧
    (s.seqPop t k r q nb).pc t k = (s.pc t k + 4) % 0x80000 ∧ ((s.seqPop t k r q nb).queue q).drain = (s.queue q).drain.tail ∧
    ∀ x, x ≠ r → (s.seqPop t k r q nb).gpr t k x = s.gpr t k x := by
  obtain ⟨v, hpop, hslots, hdrain⟩ := popWord_takes hc h
  obtain ⟨hnslots, hnqueues⟩ := numberFlow_frame v t k q w.sop
  have hcn : Canon (v.numberFlow t k q w.sop) := (hc.popWord hpop).numberFlow
  rw [seqPop_own_some hown hq hpop, hpsn, popDeliver_sound]
  generalize v.numberFlow t k q w.sop = n at hnslots hnqueues hcn ⊢
  have hn : rising n.slots = true := rising_of_twf hcn.slots
  have hslot : n.slot t k = s.slot t k := by rw [State.slot, State.slot, hnslots, hslots]
  have ha := rising_advance (t := t) (k := k) hn
  obtain ⟨hsop, heop, hwp, hpc, hgpr⟩ := tagFlags_bank (t := t) (k := k) ha w nb
  have hqueues : (tagFlags (n.advance t k) t k w nb).queues = n.queues := queues_tagFlags ..
  have htag : Canon (tagFlags (n.advance t k) t k w nb) := canon_tagFlags hcn.advance
  generalize tagFlags (n.advance t k) t k w nb = m at hsop heop hwp hpc hgpr hqueues htag ⊢
  have hrise : rising m.slots = true := rising_of_twf htag.slots
  have hset (x : SReg) : (m.setGpr t k r w.data).gpr t k x = if x = r then w.data else s.gpr t k x := by
    rw [gpr_setGpr hrise (bank_of_canon htag t k), hgpr, gpr_advance hn, State.gpr, hslot]
    rfl
  have hqueue : (m.setGpr t k r w.data).queue q = v.queue q := by
    rw [State.queue, State.queue, ← hnqueues, ← hqueues]
    rfl
  refine ⟨(hset r).trans (if_pos rfl), ?_, ?_, ?_, ?_, ?_, fun x hx => (hset x).trans (if_neg hx)⟩
  · rw [seqFlag_setGpr hrise, hsop]
  · rw [seqFlag_setGpr hrise, heop]
  · rw [seqFlag_setGpr hrise, hwp]
  · rw [pc_setGpr hrise, hpc, pc_advance hn, State.pc, hslot]
    rfl
  · rw [hqueue, hdrain]

omit hc

theorem seqPush_full {r : SReg} {sop eop psn : Bool} (hskips : (s.queue q).skips = []) (hlock : (s.queue q).ilock ≠ some (.slot t k))
    (hdrop : (s.queue q).dropping = false) (hfull : s.qFull q = true) :
    s.seqPush t k r q true sop eop psn = (s.setFlag t k flEM true).advance t k := by
  rw [seqPush_own hown hq]
  dsimp only
  rw [pushWord_of_full hskips hlock hdrop hfull, if_neg (by decide), if_pos rfl]

theorem seqPop_empty {r : SReg} (h : s.poppable q (.slot t k) = false) :
    s.seqPop t k r q true = (s.setFlag t k flEM true).advance t k :=
  seqPop_own_none hown hq (if_neg (ne_true_of_eq_false h))

end

end Sys2Proof
end

section
/-! PROOFS. Queue instructions on another floor (R168, R305), and the settled statement about queue instructions. -/

namespace Sys2Proof

open Sys2Proof.Machine

set_option Elab.async false

/-- One request packet with the fields of `p` has gone to the node of queue `q`, and a record of slot `k` waits for its answer; no
queue and no register changes, and the program counter has moved on. -/
structure Requests (s u : State) (t k q : Nat) (p : Pkt) : Prop where
  queues : u.queues = s.queues
  pc : u.pc t k = (s.pc t k + 4) % 0x80000
  gprs : ∀ x, u.gpr t k x = s.gpr t k x
  sent : ∃ x, u.net = s.net ++ [x] ∧ x.op = p.op ∧ x.dest = q / 512 ∧ x.addr = q ∧ x.src = t ∧
    (x.data = p.data ∧ x.sop = p.sop ∧ x.eop = p.eop ∧ x.psn = p.psn) ∧
    ∃ o ∈ (u.tile t).outst, o.tag = x.tag ∧ o.slot = k ∧ o.done = false

theorem queueReq_requests {s : State} {t k q : Nat} {p : Pkt} {o : Outst} (hc : Canon s) (hfree : s.netFree t = true)
    (ho : o.done = false) : Requests s (s.queueReq t k q p o) t k q p := by
  obtain ⟨x, r, hsent, hx⟩ := inject_eq (s.addOutst t { o with slot := k, queue := q, pc := s.pc t k }) (t / 16)
    { p with addr := q, src := t, dest := q / 512, tag := (s.tile t).nextTag, view := s.slotView t k, result := k }
  have hreq : s.queueReq t k q p o = State.advance { s.addOutst t { o with slot := k, queue := q, pc := s.pc t k } with
      net := s.net ++ [x], regs := r } t k := (if_pos hfree).trans (congrArg (State.advance · t k) hsent)
  have hslots : rising s.slots = true := rising_of_twf hc.slots
  rw [hreq]
  refine ⟨rfl, pc_advance (s := { s.addOutst t _ with net := _, regs := r }) hslots,
    gpr_advance (s := { s.addOutst t _ with net := _, regs := r }) hslots, x, rfl, (congrArg Pkt.op hx :), (congrArg Pkt.dest hx :),
    (congrArg Pkt.addr hx :), (congrArg Pkt.src hx :),
    ⟨(congrArg Pkt.data hx :), (congrArg Pkt.sop hx :), (congrArg Pkt.eop hx :), (congrArg Pkt.psn hx :)⟩,
    { o with slot := k, queue := q, pc := s.pc t k, tag := (s.tile t).nextTag }, ?_, (congrArg Pkt.tag hx :).symm, rfl, ho⟩
  have htile := (tile_setTile (t := t) (j := t) (x := { s.tile t with
    outst := (s.tile t).outst ++ [{ o with slot := k, queue := q, pc := s.pc t k, tag := (s.tile t).nextTag }],
    nextTag := ((s.tile t).nextTag + 1) % 256 }) hc).trans (if_pos rfl)
  have houtst := congrArg TileSt.outst htile
  refine (congrArg (_ ∈ ·) houtst).mpr ?_
  exact List.mem_append_right _ (List.mem_singleton.mpr rfl)

/-- A request read off as a conclusion about its packet, of whose other fields `D` is asked. -/
theorem Requests.packet {s u : State} {t k q : Nat} {p : Pkt} (h : Requests s u t k q p) {D : Pkt → Prop}
    (hD : ∀ x : Pkt, x.data = p.data ∧ x.sop = p.sop ∧ x.eop = p.eop ∧ x.psn = p.psn → D x) :
    u.queues = s.queues ∧ u.pc t k = (s.pc t k + 4) % 0x80000 ∧ (∀ x, u.gpr t k x = s.gpr t k x) ∧
      ∃ x, u.net = s.net ++ [x] ∧ x.op = p.op ∧ x.dest = q / 512 ∧ x.addr = q ∧ x.src = t ∧ D x ∧
        ∃ o ∈ (u.tile t).outst, o.tag = x.tag ∧ o.slot = k ∧ o.done = false := by
  obtain ⟨x, hnet, hop, hdest, haddr, hsrc, hdata, hwaits⟩ := h.sent
  exact ⟨h.queues, h.pc, h.gprs, x, hnet, hop, hdest, haddr, hsrc, hD x hdata, hwaits⟩

section
variable {s : State} {t k q : Nat} (hown : s.slotOwns t k 1 q = true) (hq : q / 512 ≠ t / 16)
include hown hq

theorem seqPush_far {r : SReg} {nb sop eop psn : Bool}
    (hidle : ((s.tile t).outst.any fun o => o.slot == k && o.kind == .qpush && o.queue == q) = false) :
    s.seqPush t k r q nb sop eop psn = s.queueReq t k q
      { pkt0 with op := .qpush, nb := nb, data := (leBytes 4 (s.gpr t k r).toNat).map some, psn := b2n psn, sop := sop, eop := eop }
      { outst0 with kind := .qpush, nb := nb, bits := s.gpr t k r, sop := sop, eop := eop, ue := psn } := by
  simp only [State.seqPush, hown, hq, hidle, Bool.not_true, Bool.false_eq_true, if_false]

theorem seqPop_far {r : SReg} {nb : Bool} : s.seqPop t k r q nb =
    s.queueReq t k q { pkt0 with op := .qpop, nb := nb } { outst0 with kind := .qpop, rd := r.val, nb := nb } := by
  simp only [State.seqPop, hown, hq, Bool.not_true, Bool.false_eq_true, if_false]

theorem seqDrop_far : s.seqDrop t k q = s.queueReq t k q { pkt0 with op := .qdrop } { outst0 with kind := .qdrop } := by
  simp only [State.seqDrop, hown, hq, Bool.not_true, Bool.false_eq_true, if_false]

theorem seqLvl_far {r : SReg} : s.seqLvl t k r q =
    s.queueReq t k q { pkt0 with op := .qlvl } { outst0 with kind := .qlvl, rd := r.val } := by
  simp only [State.seqLvl, hown, hq, Bool.not_true, Bool.false_eq_true, if_false]

end

/-! ### QDROP on the own floor -/

section
variable {s : State} {t k q : Nat} (hown : s.slotOwns t k 1 q = true) (hq : q / 512 = t / 16)
include hown hq

theorem seqDrop_locked (hc : Canon s) (hlock : (s.queue q).olock = some (.slot t k)) (hdrop : (s.queue q).dropping = false) :
    DropsItem s (s.seqDrop t k q) q ∧ (s.seqDrop t k q).pc t k = (s.pc t k + 4) % 0x80000 ∧
      ∀ x, (s.seqDrop t k q).gpr t k x = s.gpr t k x := by
  have hdropBy : s.dropBy q (.slot t k) = s.dropItem q := if_pos ⟨hlock, by rw [hdrop]; rfl⟩
  have hdrops := dropsItem_dropItem hc hdrop
  have hslots : (s.dropItem q).slots = s.slots := (Quiet.refl s).dropItem.slots
  rw [seqDrop_own hown hq, hdropBy]
  generalize s.dropItem q = v at hdrops hslots ⊢
  have hv : rising v.slots = true := hslots ▸ rising_of_twf hc.slots
  have hslot : v.slot t k = s.slot t k := by rw [State.slot, State.slot, hslots]
  refine ⟨⟨hdrops.counted, hdrops.level, hdrops.ended, hdrops.later⟩, ?_, fun x => ?_⟩
  · rw [pc_advance hv, State.pc, hslot]
    rfl
  · rw [gpr_advance hv, State.gpr, hslot]
    rfl

theorem seqDrop_unlocked (hlock : (s.queue q).olock ≠ some (.slot t k)) : s.seqDrop t k q = s.advance t k := by
  rw [seqDrop_own hown hq, State.dropBy, if_neg fun h => hlock h.1]

end

/-! ### The settled statement -/

theorem netFree_touchIc {s : State} (hc : Canon s) (t k : Nat) : (s.touchIc t k).netFree t = s.netFree t := by
  rw [State.netFree, State.netFree, State.netOut, State.netOut, touchIc_tile hc]

/-- Settles O14: on the own floor by what the queue engine does, on another by the one request. -/
theorem sequencerQueueAccess : Obligations.SequencerQueueAccess := by
  unfold Obligations.SequencerQueueAccess
  intro s t k r n ind hc hk q hown'
  have hown : (s.touchIc t k).slotOwns t k 1 q = true := hown'
  have hct : Canon (s.touchIc t k) := hc.touchIc
  have hrise := rising_touch (t := t) (k := k) hc
  have hpush (nb sop eop psn : Bool) : exec (.qpush t r n ind nb sop eop psn) s = execQpush t r n ind nb sop eop psn s := rfl
  have hpop (nb : Bool) : exec (.qpop t r n ind nb) s = execQpop t r n ind nb s := rfl
  have hdrop : exec (.qdrop t n ind) s = execQdrop t n ind s := rfl
  have hlvl : exec (.qlvl t r n ind) s = execQlvl t r n ind s := rfl
  refine ⟨fun nb sop eop psn hi => ⟨fun hq hopen hskips hskip hwait hdropping hroom hinj hitem => ?push,
      fun hq hskips hlock hdropping hfull hnb => ?full⟩,
    fun nb e hq hi hmay hhead hsound hpsn => ?pop, fun hq hi hempty => ?empty,
    fun hq hi => ⟨fun hlock hdropping => ?drop, fun hlock => ?free⟩, fun hq hi => ?level, fun hq hfree hidle nb sop eop psn => ?far⟩
  case push =>
    exact ⟨_, (hpush ..).trans (seqStep_some hi),
      seqPush_takes hct hown hq ⟨hopen, hskips, hskip, hwait, hdropping, hroom, hinj, hitem⟩⟩
  case full =>
    subst hnb
    exact ⟨_, (hpush ..).trans ((seqStep_some hi).trans (congrArg _ (seqPush_full hown hq hskips hlock hdropping hfull))),
      emSet_bank hrise⟩
  case pop =>
    exact ⟨_, (hpop nb).trans (seqStep_some hi),
      seqPop_takes hct hown hq ⟨hmay, congrArg (Option.map (s.entWord q)) hhead, hsound⟩ hpsn⟩
  case empty =>
    exact ⟨_, (hpop true).trans ((seqStep_some hi).trans (congrArg _ (seqPop_empty hown hq hempty))), emSet_bank hrise⟩
  case drop =>
    obtain ⟨hdrops, hpc, hgpr⟩ := seqDrop_locked hown hq hct hlock hdropping
    exact ⟨_, hdrop.trans (seqStep_some hi), ⟨hdrops.counted, hdrops.level, hdrops.ended, hdrops.later⟩, hpc, hgpr⟩
  case free => exact completes_jump hc hdrop ((seqStep_some hi).trans (congrArg _ (seqDrop_unlocked hown hq hlock)))
  case level => exact completes_result hc hlvl ((seqStep_some hi).trans (congrArg _ (seqLvl_own hown hq r)))
  case far =>
    have hfree' := (netFree_touchIc hc t k).trans hfree
    have hidle' : (((s.touchIc t k).tile t).outst.any fun o => o.slot == k && o.kind == .qpush && o.queue == q) = false := by
      rw [touchIc_tile hc]
      exact hidle
    simp only [List.forall_mem_cons, List.not_mem_nil, false_imp_iff, implies_true, and_true]
    refine ⟨fun hi => ?fpush, fun hi => ?fpop, fun hi => ?fdrop, fun hi => ?flvl⟩
    case fpush =>
      exact ⟨_, (hpush ..).trans ((seqStep_some hi).trans (congrArg _ (seqPush_far hown hq hidle'))),
        (queueReq_requests hct hfree' rfl).packet fun _ hdata _ => hdata⟩
    case fpop =>
      exact ⟨_, (hpop nb).trans ((seqStep_some hi).trans (congrArg _ (seqPop_far hown hq))),
        (queueReq_requests hct hfree' rfl).packet fun _ _ h => absurd h (by decide)⟩
    case fdrop =>
      exact ⟨_, hdrop.trans ((seqStep_some hi).trans (congrArg _ (seqDrop_far hown hq))),
        (queueReq_requests hct hfree' rfl).packet fun _ _ h => absurd h (by decide)⟩
    case flvl =>
      exact ⟨_, hlvl.trans ((seqStep_some hi).trans (congrArg _ (seqLvl_far hown hq))),
        (queueReq_requests hct hfree' rfl).packet fun _ _ h => absurd h (by decide)⟩

end Sys2Proof
end

section
/-! PROOFS. Packets of the wrong shape (R297): a hub drops a posted packet whose data does not fit its operation, and a step event that
does not come from the rim hub, so statements that ask only for the packet's operation and node fail. -/

namespace Sys2Proof

open Sys2Proof.Machine

set_option Elab.async false

/-- A SIGNAL of task 7 that carries a data byte. -/
def longSignal : Pkt := { Tests.pkt .signal 0 5 7 with data := [some 1#8] }

theorem longSignal_canon : Canon (Tests.net Tests.armed7 longSignal) := canon_of (by decide +kernel)

/-- The SIGNAL has arrived at the task's home floor, TSIG is set, and PEND stays 2. -/
theorem longSignal_dropped :
    let s := Tests.net Tests.armed7 longSignal
    s.tf tkState 7 = 1 ∧ s.tf tkPend 7 = 2 ∧ s.tf tkTsig 7 = 1 ∧ s.arrived longSignal = true ∧ s.fenced longSignal = false ∧
    Tests.nextIs (.pktSignal longSignal) s (fun u => decide (u.tf tkPend 7 = 2)) = true := by
  decide +kernel

/-- Refutes O26: the clause of PKT_SIGNAL does not ask that the packet has the length of its operation. One with data is dropped as
not routable (R297), and PEND does not rise. -/
theorem not_triggersSignalsAndCancels : ¬ Obligations.TriggersSignalsAndCancels := by
  unfold Obligations.TriggersSignalsAndCancels
  intro h
  obtain ⟨htriggers, -⟩ := h _ longSignal_canon
  obtain ⟨hstate, hpend, htsig, harrived, hfenced, hstays⟩ := longSignal_dropped
  obtain ⟨-, -, hsignal⟩ := htriggers 7 (.inl hstate) (hpend ▸ by decide)
  obtain ⟨u, hu, hrises, -⟩ := hsignal longSignal harrived rfl (by decide) hfenced rfl rfl htsig
  have hthree : u.tf tkPend 7 = 2 + 1 := hrises.trans (congrArg (· + 1) hpend)
  rw [show u.tf tkPend 7 = 2 from of_decide_eq_true (exec_of_nextIs hstays hu)] at hthree
  exact absurd hthree (by decide)

/-- A step event of batch 2 that tile 5 has sent. -/
def tileStep : Pkt := Tests.pkt .step 0 5 2

theorem tileStep_canon : Canon (Tests.net Tests.batch2idle tileStep) := canon_of (by decide +kernel)

/-- The event has arrived, task 7 is an idle ARMED member of the batch, and PEND stays 0. -/
theorem tileStep_dropped :
    let s := Tests.net Tests.batch2idle tileStep
    s.arrived tileStep = true ∧ s.freezeFirst tileStep = false ∧ s.fenced tileStep = false ∧ 7 ∈ s.members tileStep.addr ∧
    s.tf tkState 7 = 1 ∧ s.tf tkPend 7 = 0 ∧ s.tf tkRun 7 = 0 ∧
    Tests.nextIs (.pktStep tileStep) s (fun u => decide (u.tf tkPend 7 = 0)) = true := by
  decide +kernel

/-- Refutes O30: the clause of PKT_STEP does not ask that the event comes from the rim hub. One from a tile is dropped (R204, R297),
and its member gains no activation. -/
theorem not_batchesStep : ¬ Obligations.BatchesStep := by
  unfold Obligations.BatchesStep
  intro h
  obtain ⟨-, hstep, -⟩ := h _ 2 tileStep_canon
  obtain ⟨harrived, hfreeze, hfenced, hmember, hstate, hpend, hrun, hstays⟩ := tileStep_dropped
  obtain ⟨u, hu, -, hrises⟩ := hstep tileStep 7 harrived rfl (by decide) hfreeze hfenced hmember rfl hstate (hpend ▸ by decide)
  rw [if_neg fun ⟨_, hbusy⟩ => hbusy.elim (· hpend) (· hrun)] at hrises
  have hone : u.tf tkPend 7 = 0 + 1 := hrises.trans (congrArg (· + 1) hpend)
  rw [show u.tf tkPend 7 = 0 from of_decide_eq_true (exec_of_nextIs hstays hu)] at hone
  exact absurd hone (by decide)

end Sys2Proof
end

section
/-! PROOFS. A DISPATCH to a tile past the last one (R199, R189): `Canon` does not bound the tile that the record of a DISPATCH names, and
LFLOOR of the task's words holds five bits of its floor. -/

namespace Sys2Proof

open Sys2Proof.Machine

set_option Elab.async false

/-- Floor 0 has sent a DISPATCH of task 7 to tile 512 of floor 32, and its OK has come back. -/
def toldPastTiles : State :=
  { Tests.armed7.modFloor 0 fun x => { x with dispatches := [⟨9, 7, 512, 0, none, false⟩] } with net := [Tests.pkt .rsp 0 512 0] }

theorem toldPastTiles_canon : Canon toldPastTiles := canon_of (by decide +kernel)

/-- The OK is that of the record, the task waits to be counted, and LFLOOR reads 0 after it. -/
theorem toldPastTiles_counts :
    toldPastTiles.arrived (Tests.pkt .rsp 0 512 0) = true ∧
    (toldPastTiles.floor (0 : FloorNo)).dispatches.find? (·.tag == (Tests.pkt .rsp 0 512 0).tag) = some ⟨9, 7, 512, 0, none, false⟩ ∧
    0 < toldPastTiles.tf tkPend 7 ∧ toldPastTiles.tf tkRun 7 < 15 ∧ (toldPastTiles.task 7).early = 0 ∧
    Tests.nextIs (.responseArrival (Tests.pkt .rsp 0 512 0)) toldPastTiles (fun u => decide (u.tf tkLfloor 7 = 0)) = true := by
  decide +kernel

/-- Refutes O27: the OK of a DISPATCH is said to leave the floor of its tile in LFLOOR, for whatever tile the record names. The floor
of tile 512 is 32, which LFLOOR cannot hold. -/
theorem not_dispatchDecisions : ¬ Obligations.DispatchDecisions := by
  unfold Obligations.DispatchDecisions
  intro h
  obtain ⟨-, -, hanswer⟩ := h _ toldPastTiles_canon
  obtain ⟨harrived, hfind, hpend, hrun, hearly, hreads⟩ := toldPastTiles_counts
  obtain ⟨u, hu, -, -, -, hfloor, -⟩ :=
    hanswer _ 0 ⟨9, 7, 512, 0, none, false⟩ harrived rfl rfl rfl hfind rfl hpend hrun hearly rfl
  have hzero : u.tf tkLfloor 7 = 0 := of_decide_eq_true (exec_of_nextIs hreads hu)
  rw [show u.tf tkLfloor 7 = 512 / 16 from hfloor] at hzero
  exact absurd hzero (by decide)

end Sys2Proof
end

section
/-! PROOFS. A DRAIN of a stream that goes on without a command (R221, R387): a later STREAM_DISABLE completes it when its stream is
empty, which turns the stream off. -/

namespace Sys2Proof

open Sys2Proof.Machine

set_option Elab.async false

/-- Streams 5 and 6 are on, stream 6 with a sample; stream 5 drains with no command that waits for it. -/
def streamDrainsOn : State := Tests.streaming.drainOn (.streamDrain 5 1)

theorem streamDrainsOn_canon : Canon streamDrainsOn := canon_of (by decide +kernel)

/-- STREAM_DISABLE of stream 6 starts, and turns stream 5 off. -/
theorem streamDrainsOn_ends :
    acceptedOk streamDrainsOn Tests.cmd1 0x6001 (leBytes 2 6 ++ leBytes 2 1 ++ leBytes 1 0 ++ leBytes 2 0) false = true ∧
    streamDrainsOn.cmds = [] ∧ streamDrainsOn.flag strmEn (6 + 0) = true ∧ streamDrainsOn.streamEmpty (6 + 0) = false ∧
    streamDrainsOn.flag strmEn 5 = true ∧
    Tests.nextIs (.streamDisableDrain Tests.cmd1 6 1 0) streamDrainsOn (fun u => !u.flag strmEn 5) = true := by
  decide +kernel

/-- Refutes O48: STREAM_DISABLE in DRAIN mode is said to leave every register as it is while no command waits for the drain of a
stream. A drain that goes on without a command (`State.drains`) completes beside it, and turns its stream off (R387). -/
theorem not_lanesAndStreamsDisable : ¬ Obligations.LanesAndStreamsDisable := by
  unfold Obligations.LanesAndStreamsDisable
  intro h
  obtain ⟨-, -, -, hstreams, -⟩ := h streamDrainsOn Tests.cmd1 0 0 streamDrainsOn_canon
  obtain ⟨haccepted, hcmds, hon, hfull, hother, hoff⟩ := streamDrainsOn_ends
  obtain ⟨hdrain, -⟩ := hstreams Tests.cmd1 6 1 0 (by decide) ⟨0, by decide, hon⟩ (by simp [hcmds])
  obtain ⟨u, hu, -, -, -, hregs⟩ := hdrain (accepted_of haccepted) ⟨0, by decide, hfull⟩
  have hclear : (!u.flag strmEn 5) = true := exec_of_nextIs hoff hu
  rw [flag_congr hregs, hother] at hclear
  exact absurd hclear (by decide)

end Sys2Proof
end

section
/-! PROOFS. Words of a task (R189): what a field reads after a field or a whole task is written. -/

namespace Sys2Proof

open Sys2Proof.Machine

set_option Elab.async false

/-! ### Fields of a 64-bit word -/

theorem bits_lt (n hi lo : Nat) : bits n hi lo < 2 ^ (hi + 1 - lo) := Nat.mod_lt _ (Nat.two_pow_pos _)

theorem bits_putBits_self {hi lo : Nat} (hlo : lo ≤ hi) (hhi : hi < 64) (n v : Nat) :
    bits (putBits n hi lo v % 2 ^ 64) hi lo = v % 2 ^ (hi + 1 - lo) := by
  apply Nat.eq_of_testBit_eq
  intro b
  rw [testBit_bits, Nat.testBit_mod_two_pow, testBit_putBits hlo, Nat.testBit_mod_two_pow]
  by_cases hb : b < hi + 1 - lo
  · rw [if_neg (by omega), if_pos (by omega), Nat.add_sub_cancel_left, decide_eq_true (show lo + b < 64 by omega), Bool.true_and]
  · rw [decide_eq_false hb, Bool.false_and, Bool.false_and]

/-- A field beside the one replaced keeps its value. -/
theorem bits_putBits_apart {hi lo hi' lo' : Nat} (hlo : lo ≤ hi) (hhi : hi' < 64) (hap : hi' < lo ∨ hi < lo') (n v : Nat) :
    bits (putBits n hi lo v % 2 ^ 64) hi' lo' = bits n hi' lo' := by
  apply Nat.eq_of_testBit_eq
  intro b
  rw [testBit_bits, testBit_bits, Nat.testBit_mod_two_pow, testBit_putBits hlo]
  by_cases hb : b < hi' + 1 - lo'
  · rw [decide_eq_true (show lo' + b < 64 by omega), Bool.true_and]
    split_ifs
    · rfl
    · omega
    · rfl
  · rw [decide_eq_false hb, Bool.false_and, Bool.false_and]

/-! ### The words of a task -/

theorem tf_congr {s u : State} (h : u.tasks = s.tasks) (f : TFld) (k : Nat) : u.tf f k = s.tf f k := by
  rw [State.tf, State.tf, State.task, State.task, h]

theorem tf_lt (s : State) (f : TFld) (k : Nat) : s.tf f k < 2 ^ (f.hi + 1 - f.lo) := bits_lt _ _ _

section
variable {s : State} (h : rising s.tasks = true)
include h

theorem task_setTask (k : Nat) (x : TaskSt) (j : Nat) : (s.setTask k x).task j = if j = k then x else s.task j := by
  rw [State.task, State.setTask_tasks, tget_tput h, State.task]

/-- A task whose words stay as they are. -/
theorem tf_setTask {k : Nat} {x : TaskSt} (hx : x.w = (s.task k).w) (f : TFld) (j : Nat) : (s.setTask k x).tf f j = s.tf f j := by
  rw [State.tf, State.tf, task_setTask h]
  split
  next he => rw [hx, he]
  next => rfl

theorem tf_setTf_self {f : TFld} {k : Nat} (hw : f.w < (s.task k).w.length) (hlo : f.lo ≤ f.hi) (hhi : f.hi < 64) (v : Nat) :
    (s.setTf f k v).tf f k = v % 2 ^ (f.hi + 1 - f.lo) := by
  rw [State.tf, State.setTf, task_setTask h, if_pos rfl, List.getD_eq_getElem?_getD, List.getElem?_set_self hw, Option.getD_some,
    BitVec.toNat_ofNat, bits_putBits_self hlo hhi]

/-- A word of a task written leaves the fields of every other word. -/
theorem tf_setTaskWord {g : TFld} {i : Nat} (hi : g.w ≠ i) (k v j : Nat) : (s.setTaskWord k i v).tf g j = s.tf g j := by
  rw [State.tf, State.tf, State.setTaskWord, task_setTask h]
  split
  next he => rw [he, List.getD_eq_getElem?_getD, List.getElem?_set_ne hi.symm, ← List.getD_eq_getElem?_getD]
  next => rfl

/-- A field beside the one set keeps its value. -/
theorem tf_setTf_apart {f g : TFld} (hlo : f.lo ≤ f.hi) (hhi : g.hi < 64) (hap : g.w ≠ f.w ∨ g.hi < f.lo ∨ f.hi < g.lo)
    (k v j : Nat) : (s.setTf f k v).tf g j = s.tf g j := by
  by_cases hw : g.w = f.w
  · rw [State.tf, State.tf, State.setTf, task_setTask h]
    split
    next he =>
      subst he
      by_cases hlen : f.w < (s.task j).w.length
      · rw [hw, List.getD_eq_getElem?_getD, List.getElem?_set_self hlen, Option.getD_some, BitVec.toNat_ofNat,
          bits_putBits_apart hlo hhi (hap.resolve_left (absurd hw))]
      · rw [List.set_eq_of_length_le (Nat.le_of_not_lt hlen)]
    next => rfl
  · exact tf_setTaskWord h hw k _ j

end

end Sys2Proof
end

section
/-! PROOFS. Work beside the decisions about a task (R187, R208 to R219): ends of activations, grants of delay entries, ready lists and
flows leave the descriptor of every task, its STATE and its PEND, and answer no command. -/

namespace Sys2Proof

open Sys2Proof.Machine

set_option Elab.async false

/-- A field of the descriptor, STATE or PEND: what only triggers, dispatches and commands change (R189). -/
abbrev lasting (f : TFld) : Prop := f.hi < 64 ∧ (f.w < 4 ∨ f.w = 4 ∧ 52 ≤ f.lo)

/-- What replies to commands come from: the replies, the orphans, the commands in progress, and the time. -/
def answering (s : State) : List Reply × List Cmd × List InProg × TimeSt := (s.replies, s.orphans, s.cmds, s.tim)

/-- Every lasting field of every task is as it was, and no command has been answered. -/
structure Sidework (s u : State) : Prop where
  rises : rising u.tasks = true
  kept : ∀ f, lasting f → ∀ k, u.tf f k = s.tf f k
  answers : answering u = answering s

variable {s u : State}

theorem Sidework.refl (h : rising s.tasks = true) : Sidework s s := ⟨h, fun _ _ _ => rfl, rfl⟩

theorem Sidework.state (h : Sidework s u) (k : Nat) : u.tf tkState k = s.tf tkState k := h.kept _ (by decide) k

theorem Sidework.pend (h : Sidework s u) (k : Nat) : u.tf tkPend k = s.tf tkPend k := h.kept _ (by decide) k

/-- A change of other parts of the state. -/
theorem Sidework.same {v : State} (h : Sidework s u) (ht : v.tasks = u.tasks := by exact rfl)
    (ha : answering v = answering u := by exact rfl) : Sidework s v :=
  ⟨ht ▸ h.rises, fun f hf k => (tf_congr ht f k).trans (h.kept f hf k), ha.trans h.answers⟩

theorem Sidework.ite {a b : State} {c : Prop} [Decidable c] (ha : Sidework s a) (hb : Sidework s b) :
    Sidework s (if c then a else b) := by
  split
  · exact ha
  · exact hb

theorem Sidework.foldl {β : Type} {f : State → β → State} {l : List β} (h : Sidework s u)
    (hf : ∀ v x, Sidework s v → Sidework s (f v x)) : Sidework s (l.foldl f u) := by
  induction l generalizing u with
  | nil => exact h
  | cons x l ih => exact ih (hf u x h)

theorem Sidework.setFld {f : Fld} {i v : Nat} (h : Sidework s u) : Sidework s (u.setFld f i v) := h.same

theorem Sidework.bumpBy {r : Reg} {i n : Nat} (h : Sidework s u) : Sidework s (u.bumpBy r i n) := h.same

theorem Sidework.bump {r : Reg} {i : Nat} (h : Sidework s u) : Sidework s (u.bump r i) := h.same

theorem Sidework.modTile {t : Nat} {f : TileSt → TileSt} (h : Sidework s u) : Sidework s (u.modTile t f) := h.same

theorem Sidework.modSlot {t k : Nat} {f : SlotSt → SlotSt} (h : Sidework s u) : Sidework s (u.modSlot t k f) := h.same

theorem Sidework.modFloor {f : Nat} {g : FloorSt → FloorSt} (h : Sidework s u) : Sidework s (u.modFloor f g) := h.same

theorem Sidework.modQueue {q : Nat} {g : Queue → Queue} (h : Sidework s u) : Sidework s (u.modQueue q g) := h.same

theorem Sidework.setPool {f i : Nat} {w : QWord} (h : Sidework s u) : Sidework s (u.setPool f i w) := h.same

theorem Sidework.raise {code sclass loc data : Nat} (h : Sidework s u) : Sidework s (u.raise code sclass loc data) :=
  .ite h.same (.ite h.same h.same)

/-- A task whose words stay as they are. -/
theorem Sidework.setTask {k : Nat} {x : TaskSt} (h : Sidework s u) (hx : x.w = (u.task k).w := by exact rfl) :
    Sidework s (u.setTask k x) :=
  ⟨rising_tput h.rises, fun f hf j => (tf_setTask h.rises hx f j).trans (h.kept f hf j), h.answers⟩

/-- A field that is not lasting. -/
theorem Sidework.setTf {g : TFld} {k v : Nat} (h : Sidework s u)
    (hg : g.lo ≤ g.hi ∧ (5 ≤ g.w ∨ g.w = 4 ∧ g.hi < 52) := by decide) : Sidework s (u.setTf g k v) :=
  ⟨rising_tput h.rises, fun f hf j => (tf_setTf_apart h.rises hg.1 hf.1 (by omega) k v j).trans (h.kept f hf j), h.answers⟩

theorem Sidework.setTaskWord {k i v : Nat} (h : Sidework s u) (hi : 5 ≤ i := by decide) : Sidework s (u.setTaskWord k i v) :=
  ⟨rising_tput h.rises, fun f hf j => (tf_setTaskWord h.rises (by omega) k v j).trans (h.kept f hf j), h.answers⟩

/-! ### The queue engine -/

theorem Sidework.qEval {q : Nat} (h : Sidework s u) : Sidework s (u.qEval q) :=
  .ite h (.ite h.setFld.setFld.setFld.raise h.setFld.setFld.setFld)

theorem Sidework.swap {q : Nat} (h : Sidework s u) : Sidework s (u.swap q) := by
  unfold State.swap
  exact h.modQueue

theorem Sidework.storeWord {q : Nat} {a : Agent} {fl : Option Nat} {w : QWord} (h : Sidework s u) :
    Sidework s (u.storeWord q a fl w) := by
  exact .ite (.ite h.bump.modQueue h.bump) (Sidework.modQueue (Sidework.setPool (.ite h.swap h)))

theorem Sidework.settleLate {q : Nat} (h : Sidework s u) : Sidework s (u.settleLate q) := .ite h h.modQueue

theorem Sidework.truncate {q : Nat} (h : Sidework s u) : Sidework s (u.truncate q) := by
  unfold State.truncate
  dsimp only
  split
  · exact h
  · exact .ite h.modQueue h.storeWord.modQueue.settleLate

theorem Sidework.endProducer {q : Nat} {a : Agent} (h : Sidework s u) : Sidework s (u.endProducer q a) :=
  .ite (.ite h.modQueue.modQueue (.ite h.modQueue h.modQueue.truncate.qEval.raise)) h.modQueue

theorem Sidework.endConsumer {q : Nat} {a : Agent} (h : Sidework s u) : Sidework s (u.endConsumer q a) :=
  .ite (Sidework.qEval (h.bumpBy.modQueue.settleLate)) h

theorem Sidework.endAgent {a : Agent} (h : Sidework s u) : Sidework s (u.endAgent a) :=
  .foldl h fun _ _ hv => hv.endProducer.endConsumer

theorem Sidework.dropStaged {q i : Nat} (h : Sidework s u) : Sidework s (u.dropStaged q i) := h.modQueue.qEval

/-! ### Flows, ready lists, delay lists -/

theorem Sidework.closeFlow {f id : Nat} {kind : EndKind} (h : Sidework s u) : Sidework s (u.closeFlow f id kind) := by
  unfold State.closeFlow
  dsimp only
  split
  · exact h
  · split
    · exact h.modFloor.setFld.dropStaged
    · exact .ite h.modFloor.dropStaged.raise h.modFloor

theorem Sidework.fixNew {n : Nat} (h : Sidework s u) : Sidework s (u.fixNew n) := .ite h.modFloor (.ite h.modFloor h)

theorem Sidework.takeDelay {f : Nat} {d : DlyUser} {n : Nat} (h : Sidework s u) : Sidework s (u.takeDelay f d n) := h.same

theorem Sidework.waitDelay {f : Nat} {d : DlyUser} {n : Nat} (h : Sidework s u) : Sidework s (u.waitDelay f d n) := by
  unfold State.waitDelay
  exact Sidework.modFloor (.ite h.bump h.bump.modFloor.raise)

theorem Sidework.armDelay {n : Nat} (h : Sidework s u) : Sidework s (u.armDelay n) :=
  .ite h (.ite h.takeDelay h.waitDelay.setTf)

theorem Sidework.rearmDelay {n : Nat} (h : Sidework s u) : Sidework s (u.rearmDelay n) := .ite h.armDelay h

/-! ### Slots, tiles and guards -/

theorem Sidework.suspend {t k : Nat} {w : Susp} (h : Sidework s u) : Sidework s (u.suspend t k w) := h.same

theorem Sidework.idleTile {t : Nat} (h : Sidework s u) : Sidework s (u.idleTile t) := h.same

theorem Sidework.runSlot {t k : Nat} (h : Sidework s u) : Sidework s (u.runSlot t k) := h.same

theorem Sidework.setRet {t g : Nat} {r : Option Nat} (h : Sidework s u) : Sidework s (u.setRet t g r) := by
  cases r with
  | none => exact h.same
  | some k => exact h.same

theorem Sidework.resumeOrIdle {t : Nat} {r : Option Nat} (h : Sidework s u) : Sidework s (u.resumeOrIdle t r) := by
  unfold State.resumeOrIdle
  split
  · exact .ite h.idleTile.runSlot h.idleTile
  · exact h.idleTile

theorem Sidework.enterGuard {t g k : Nat} (h : Sidework s u) : Sidework s (u.enterGuard t g k) :=
  (Sidework.modFloor (.ite h.modSlot h)).setFld.runSlot.bump

theorem Sidework.guardExit {t g : Nat} (h : Sidework s u) : Sidework s (u.guardExit t g) := by
  unfold State.guardExit
  dsimp only
  split
  · exact h
  · refine .ite h.enterGuard (.ite h.setRet.resumeOrIdle (.ite ?_ h.setRet.resumeOrIdle))
    split
    · exact h.setRet.setRet.enterGuard
    · exact h.resumeOrIdle

theorem Sidework.grantOne {f : Nat} (h : Sidework s u) : Sidework s (u.grantOne f) := by
  unfold State.grantOne
  dsimp only
  split
  · exact .ite h.modFloor.modFloor h.modFloor
  · refine .ite h.modFloor ?_
    split
    · exact h.modFloor.modFloor.takeDelay.setTf
    · split
      · exact h.modFloor.modFloor.takeDelay.modSlot.suspend.guardExit
      · exact h.modFloor.modFloor.takeDelay.modSlot.suspend.idleTile

theorem Sidework.grantUpTo {f n : Nat} (h : Sidework s u) : Sidework s (u.grantUpTo f n) := by
  induction n generalizing u with
  | zero => exact h
  | succ n ih => exact ih h.grantOne

theorem Sidework.grantDelay {f : Nat} (h : Sidework s u) : Sidework s (u.grantDelay f) := h.grantUpTo

/-! ### The end of an activation and the parts of a cancel -/

theorem Sidework.leaveSlot {t k n : Nat} {kind : EndKind} (h : Sidework s u) : Sidework s (u.leaveSlot t k n kind) := by
  unfold State.leaveSlot
  dsimp only
  refine Sidework.modFloor (.foldl (Sidework.modTile (Sidework.modFloor (Sidework.modTile ?_))) fun _ _ hv => hv.modFloor)
  split
  · exact h.endAgent.closeFlow
  · exact h.endAgent

theorem Sidework.countEnd {n : Nat} {kind : EndKind} (h : Sidework s u) : Sidework s (u.countEnd n kind) := by
  have hrun : Sidework s (u.decRun n) := .ite h.setTask h.setTf
  exact (Sidework.setTaskWord (.ite hrun.setTf hrun)).fixNew

theorem Sidework.endActivation {t k : Nat} {kind : EndKind} (h : Sidework s u) : Sidework s (u.endActivation t k kind) := by
  unfold State.endActivation
  dsimp only
  split
  · exact h
  · exact Sidework.rearmDelay (Sidework.countEnd h.leaveSlot.modSlot).grantDelay

theorem Sidework.cancelSlot {t k : Nat} (h : Sidework s u) : Sidework s (u.cancelSlot t k) :=
  .ite h.modTile.endActivation.setFld.idleTile h.modTile.endActivation.setFld

theorem Sidework.tellCancel {p : Nat × Nat} (h : Sidework s u) : Sidework s (u.tellCancel p) := by
  unfold State.tellCancel
  dsimp only
  refine .ite h.modSlot ?_
  split
  · exact .ite h.cancelSlot h.modSlot
  · exact .ite h.cancelSlot h.modSlot
  · exact .ite h.cancelSlot h.modSlot
  · exact h.modSlot

theorem Sidework.dropDelay {k : Nat} (h : Sidework s u) : Sidework s (u.dropDelay k) := h.modFloor.setTf.grantDelay

theorem Sidework.loseDispatches {k : Nat} (h : Sidework s u) : Sidework s (u.loseDispatches k) := by
  refine .foldl h.modFloor fun v d hv => ?_
  split
  · exact hv.closeFlow
  · exact hv

/-! ### Decisions about a task: PEND and STATE set, and side work -/

/-- PEND set, and the rest of `State.setPend` beside it. -/
theorem Sidework.setPend (h : rising s.tasks = true) (k n : Nat) : Sidework (s.setTf tkPend k n) (s.setPend k n) := by
  have hset : Sidework (s.setTf tkPend k n) (s.setTf tkPend k n) := .refl (rising_tput h)
  exact (Sidework.ite hset.setTask hset).fixNew

section
variable {k : Nat} (hc : Canon s)
include hc

theorem tf_setState {v : Nat} (hv : v < 16) : (s.setTf tkState k v).tf tkState k = v :=
  (tf_setTf_self (rising_of_twf hc.tasks) (by rw [hc.taskWords]; decide) (by decide) (by decide) v).trans (Nat.mod_eq_of_lt hv)

theorem tf_setPend {n : Nat} (hn : n < 256) : (s.setPend k n).tf tkPend k = n :=
  ((Sidework.setPend (rising_of_twf hc.tasks) k n).pend k).trans
    ((tf_setTf_self (rising_of_twf hc.tasks) (by rw [hc.taskWords]; decide) (by decide) (by decide) n).trans (Nat.mod_eq_of_lt hn))

/-- PEND set leaves every lasting field beside it. -/
theorem tf_setPend_apart {f : TFld} (hf : lasting f) (hap : f.w ≠ 4 ∨ 59 < f.lo) (n j : Nat) :
    (s.setPend k n).tf f j = s.tf f j :=
  ((Sidework.setPend (rising_of_twf hc.tasks) k n).kept f hf j).trans
    (tf_setTf_apart (rising_of_twf hc.tasks) (by decide) hf.1 (hap.imp_right .inr) k n j)

theorem answering_setPend (n : Nat) : answering (s.setPend k n) = answering s :=
  (Sidework.setPend (rising_of_twf hc.tasks) k n).answers

end

end Sys2Proof
end

section
/-! PROOFS. Descriptor writes (R189): a byte lands under the writable bits of its word, and the bytes before it stay. -/

namespace Sys2Proof

open Sys2Proof.Machine

set_option Elab.async false

/-- Byte `n` of the words of task `k`. -/
def descByteOf (s : State) (k n : Nat) : Nat :=
  bits ((s.task k).w.getD (n / 8) 0#64).toNat (8 * (n % 8) + 7) (8 * (n % 8))

/-- The writable bits of byte `n` of a descriptor. -/
def byteMask (n : Nat) : Nat := descMask (n / 8) / 2 ^ (8 * (n % 8)) % 256

theorem testBit_byteMask (n i : Nat) : (byteMask n).testBit i = (decide (i < 8) && (descMask (n / 8)).testBit (8 * (n % 8) + i)) := by
  rw [byteMask, show (256 : Nat) = 2 ^ 8 from rfl, Nat.testBit_mod_two_pow, Nat.testBit_div_two_pow, Nat.add_comm]

theorem testBit_byte (n r i : Nat) : (bits n (8 * r + 7) (8 * r)).testBit i = (decide (i < 8) && n.testBit (8 * r + i)) := by
  rw [testBit_bits, show 8 * r + 7 + 1 - 8 * r = 8 by omega]

section
variable {s : State} {k : Nat}

/-- The words of a task after one byte of its descriptor has been written. -/
theorem descByte_some {n : Nat} (hn : n < 32) (b : Byte) : s.descByte k (n, some b) = s.setTaskWord k (n / 8)
    ((putBits ((s.task k).w.getD (n / 8) 0#64).toNat (8 * (n % 8) + 7) (8 * (n % 8)) b.toNat) &&& descMask (n / 8)) := by
  simp only [State.descByte, if_neg (Nat.not_le.mpr hn)]

theorem descByte_beyond {n : Nat} (hn : 32 ≤ n) (b : Byte) : s.descByte k (n, some b) = s := by
  simp only [State.descByte, if_pos hn]

/-- A byte of the word written reads the new word's bits, a byte of another word what it read before. -/
theorem testBit_descByteOf_write (hc : Canon s) {n : Nat} (hn : n < 32) (b : Byte) (m i : Nat) :
    (descByteOf (s.descByte k (n, some b)) k m).testBit i =
      if m / 8 = n / 8 then decide (i < 8) && ((if m = n then b.toNat.testBit i else (descByteOf s k m).testBit i) &&
        (descMask (n / 8)).testBit (8 * (m % 8) + i))
      else (descByteOf s k m).testBit i := by
  have hlen : n / 8 < (s.task k).w.length := by rw [hc.taskWords]; omega
  rw [descByte_some hn, descByteOf, State.setTaskWord, task_setTask (rising_of_twf hc.tasks), if_pos rfl]
  split
  next hw =>
    rw [hw, List.getD_eq_getElem?_getD, List.getElem?_set_self hlen, Option.getD_some, testBit_byte, BitVec.toNat_ofNat,
      Nat.testBit_mod_two_pow, Nat.testBit_and, testBit_putBits (by omega), descByteOf, testBit_byte, hw]
    by_cases hi : i < 8
    · rw [decide_eq_true hi, decide_eq_true (show 8 * (m % 8) + i < 64 by omega), Bool.true_and, Bool.true_and, Bool.true_and]
      by_cases hm : m = n
      · subst hm
        rw [if_neg (by omega), if_pos (by omega), if_pos rfl, Nat.add_sub_cancel_left]
      · rw [if_neg hm]
        split_ifs
        · rfl
        · omega
        · rfl
    · rw [decide_eq_false hi, Bool.false_and, Bool.false_and]
  next hw =>
    rw [List.getD_eq_getElem?_getD, List.getElem?_set_ne (Ne.symm hw), ← List.getD_eq_getElem?_getD]
    rfl

theorem descByteOf_write_self (hc : Canon s) {n : Nat} (hn : n < 32) (b : Byte) :
    descByteOf (s.descByte k (n, some b)) k n = b.toNat &&& byteMask n := by
  apply Nat.eq_of_testBit_eq
  intro i
  rw [testBit_descByteOf_write hc hn, if_pos rfl, if_pos rfl, Nat.testBit_and, testBit_byteMask]
  cases b.toNat.testBit i <;> simp

/-- A byte that stands under its writable bits stays when another byte is written. -/
theorem descByteOf_write_other (hc : Canon s) {n m v : Nat} (hm : m ≠ n) (b : Byte) (hv : descByteOf s k m = v &&& byteMask m) :
    descByteOf (s.descByte k (n, some b)) k m = v &&& byteMask m := by
  by_cases hn : n < 32
  · apply Nat.eq_of_testBit_eq
    intro i
    rw [testBit_descByteOf_write hc hn, if_neg hm, hv]
    split
    next hw =>
      rw [Nat.testBit_and, testBit_byteMask, hw]
      cases v.testBit i <;> simp
    next => rfl
  · rw [descByte_beyond (Nat.le_of_not_lt hn), hv]

/-- The writes of a run of bytes from byte `off` on. -/
def descBytes (s : State) (k : Nat) (l : List (Nat × Byte)) : State := l.foldl (fun s p => s.descByte k (p.1, some p.2)) s

theorem descByteOf_descBytes_other (hc : Canon s) {l : List (Nat × Byte)} {m v : Nat} (hm : m ∉ l.map (·.1))
    (hv : descByteOf s k m = v &&& byteMask m) : descByteOf (descBytes s k l) k m = v &&& byteMask m := by
  induction l generalizing s with
  | nil => exact hv
  | cons p l ih =>
    rw [List.map_cons, List.mem_cons, not_or] at hm
    obtain ⟨hp, hl⟩ := hm
    exact ih hc.descByte hl (descByteOf_write_other hc hp p.2 hv)

/-- After a run of writes to different bytes each of them holds what was written there, under its writable bits. -/
theorem descByteOf_descBytes (hc : Canon s) {l : List (Nat × Byte)} (hl : (l.map (·.1)).Nodup) {p : Nat × Byte} (hp : p ∈ l)
    (hn : p.1 < 32) : descByteOf (descBytes s k l) k p.1 = p.2.toNat &&& byteMask p.1 := by
  induction l generalizing s with
  | nil => cases hp
  | cons q l ih =>
    rw [List.map_cons, List.nodup_cons] at hl
    obtain ⟨hq, hl⟩ := hl
    rcases List.mem_cons.mp hp with rfl | hp
    · exact descByteOf_descBytes_other hc.descByte hq (descByteOf_write_self hc hn p.2)
    · exact ih hc.descByte hl hp

/-- Nothing but the words of task `k` has changed. -/
structure OnlyTask (s u : State) (k : Nat) : Prop where
  canon : Canon u
  rest : ∃ m, u = { s with tasks := m }
  others : ∀ j, j ≠ k → u.task j = s.task j

theorem OnlyTask.descByte {u : State} (h : OnlyTask s u k) (p : Nat × Byte) : OnlyTask s (u.descByte k (p.1, some p.2)) k := by
  have hcv : Canon (u.descByte k (p.1, some p.2)) := h.canon.descByte
  by_cases hn : p.1 < 32
  · rw [descByte_some hn] at hcv ⊢
    obtain ⟨m, hm⟩ := h.rest
    refine ⟨hcv, ⟨_, by rw [hm]; rfl⟩, fun j hj => ?_⟩
    rw [State.setTaskWord, task_setTask (rising_of_twf h.canon.tasks), if_neg hj, h.others j hj]
  · rw [descByte_beyond (Nat.le_of_not_lt hn)]
    exact h

theorem onlyTask_descBytes (hc : Canon s) (l : List (Nat × Byte)) : OnlyTask s (descBytes s k l) k :=
  foldl_write_inv (Inv := (OnlyTask s · k)) (fun _ p hv => hv.descByte p) l ⟨hc, ⟨_, rfl⟩, fun _ _ => rfl⟩

/-- The bytes of `data` with their places from `off` on. -/
def placedAt (off : Nat) (data : List Byte) : List (Nat × Byte) := data.zipIdx.map fun p => (off + p.2, p.1)

theorem nodup_placedAt (off : Nat) (data : List Byte) : ((placedAt off data).map (·.1)).Nodup := by
  have hplaces : (placedAt off data).map (·.1) = (List.range' 0 data.length).map (off + ·) := by
    rw [placedAt, List.map_map, ← List.zipIdx_map_snd, List.map_map]
    rfl
  rw [hplaces]
  exact List.Nodup.map (fun _ _ h => Nat.add_left_cancel h) List.nodup_range'

theorem mem_placedAt {off j : Nat} {data : List Byte} {b : Byte} (h : data[j]? = some b) : (off + j, b) ∈ placedAt off data :=
  List.mem_map.mpr ⟨(b, j), List.mk_mem_zipIdx_iff_getElem?.mpr h, rfl⟩

/-- The places as `State.descWrite` lists them. -/
theorem zipIdx_some (off : Nat) (data : List Byte) : ((data.map some).zipIdx.map fun p => (off + p.2, p.1)) =
    (placedAt off data).map fun p => (p.1, some p.2) := by
  rw [placedAt, List.zipIdx_map, List.map_map, List.map_map]
  rfl

theorem descWrite_of_disabled (hs : s.tf tkState k = 0) (off : Nat) (data : List Byte) :
    s.descWrite k off (data.map some) = descBytes s k (placedAt off data) := by
  simp only [State.descWrite, hs, ne_eq, not_true_eq_false, and_false, if_false, zipIdx_some, List.foldl_map, descBytes]

theorem descWrite_of_enabled (hs : s.tf tkState k ≠ 0) {off : Nat} (hoff : off < 32) {data : List Byte} (hd : data ≠ []) :
    s.descWrite k off (data.map some) = (s.bump .SCH_DESC_REJ (homeFloor k)).raise 0x3103 4 k 0 := by
  obtain ⟨b, data, rfl⟩ := List.exists_cons_of_ne_nil hd
  refine if_pos ⟨?_, hs⟩
  simp [List.zipIdx_cons, hoff]

end

end Sys2Proof
end

section
/-! PROOFS. Task commands (R192, R218, R222): each decides STATE and PEND, and the rest is side work. -/

namespace Sys2Proof

open Sys2Proof.Machine

set_option Elab.async false

section
variable {s u : State} {c : Cmd} {op k : Nat}

theorem Replies.of_answering (ha : answering u = answering s) (hr : c.remote = 0) (ho : s.orphans.contains c = false)
    (status : Nat) (data : List Byte) : Replies s (u.reply c op status data) c op status data := by
  obtain ⟨hreplies, horphans, -, -⟩ : u.replies = s.replies ∧ u.orphans = s.orphans ∧ u.cmds = s.cmds ∧ u.tim = s.tim := by
    simpa [answering] using ha
  rw [Replies, ← hreplies]
  exact replies_reply hr (horphans ▸ ho)

theorem WaitsFor.of_answering (ha : answering u = answering s) (hr : c.remote = 0) (ho : s.orphans.contains c = false)
    (w : CmdWait) (timeout : Nat) : WaitsFor s (u.await c op w timeout) c op w timeout := by
  obtain ⟨hreplies, horphans, hcmds, htim⟩ : u.replies = s.replies ∧ u.orphans = s.orphans ∧ u.cmds = s.cmds ∧ u.tim = s.tim := by
    simpa [answering] using ha
  rw [WaitsFor, ← hreplies, ← hcmds, ← htim]
  exact await_waitsFor hr (horphans ▸ ho)

theorem Finishes.of_answering (ha : answering u = answering s) (w : CmdWait) (status : Nat) (data : List Byte) :
    Finishes s (u.finish w status data) w status data := by
  obtain ⟨hreplies, horphans, hcmds, -⟩ : u.replies = s.replies ∧ u.orphans = s.orphans ∧ u.cmds = s.cmds ∧ u.tim = s.tim := by
    simpa [answering] using ha
  obtain ⟨hwaiting, htold⟩ := finish_finishes u w status data
  rw [hreplies, horphans, hcmds] at htold
  exact ⟨hcmds ▸ hwaiting, htold⟩

theorem tf_reply (f : TFld) (status : Nat) (data : List Byte) (j : Nat) : (s.reply c op status data).tf f j = s.tf f j := by
  refine tf_congr ?_ f j
  rcases reply_cases s c op status data with h | ⟨-, h⟩ | ⟨-, h⟩ <;> rw [h]

theorem tf_finish (f : TFld) (w : CmdWait) (status : Nat) (data : List Byte) (j : Nat) : (s.finish w status data).tf f j = s.tf f j := by
  refine tf_congr ?_ f j
  unfold State.finish
  dsimp only
  obtain ⟨replies, mgmt, orphans, h⟩ := foldl_reply_frame (status := status) (data := data) (s.cmds.filter fun x => x.wait = w)
    { s with cmds := s.cmds.filter fun x => x.wait ≠ w, drains := s.drains.filter (· ≠ w) }
  rw [h]

/-- A task command that passes the shared checks runs its own body. -/
theorem runCmd_taskCmd {params : List Byte} (ha : Accepted s c op params true) (hk : k ≤ 32767) (hown : s.cmdOwns c 2 k = true)
    (body : State → State) : s.runCmd c op params true (fun s => s.taskCmd c op k body) = body (s.unfetch c) := by
  have hown' : (s.unfetch c).cmdOwns c 2 k = true := hown
  rw [runCmd_of_accepted ha, State.taskCmd, if_neg (Nat.not_lt.mpr hk), if_neg (by simp [hown'])]

/-! ### TASK_ARM -/

theorem tf_takeCredits (hc : Canon s) (n : Nat) : answering (s.takeCredits k n) = answering s ∧
    (s.takeCredits k n).tf tkState k = s.tf tkState k := by
  unfold State.takeCredits
  dsimp only
  split
  · split
    · exact ⟨rfl, rfl⟩
    · exact ⟨answering_setPend hc.credit _, tf_setPend_apart hc.credit (by decide) (.inr (by decide)) _ _⟩
  · exact ⟨rfl, rfl⟩

/-- The task is ARMED, and PEND is what KEEP leaves unless its queue gives it credits (R222). -/
theorem armTask_arms (hc : Canon s) (keep : Bool) : answering (s.armTask k keep) = answering s ∧
    (s.armTask k keep).tf tkState k = 1 ∧
    (s.tf tkTqne k = 0 → (s.armTask k keep).tf tkPend k = if keep then s.tf tkPend k else 0) := by
  unfold State.armTask
  dsimp only
  generalize hv : (if s.tf tkFlowen k = 1 then _ else s : State).dropDelay k = v
  have hbefore : Canon v ∧ Sidework s v := hv ▸ ⟨Canon.dropDelay (.ite hc.setFld.setFld hc),
    Sidework.dropDelay (.ite (Sidework.refl (rising_of_twf hc.tasks)).setFld.setFld (.refl (rising_of_twf hc.tasks)))⟩
  obtain ⟨hcv, hside⟩ := hbefore
  have hstate : (v.setTf tkState k 1).tf tkState k = 1 := tf_setState hcv (by decide)
  have hpend : (v.setTf tkState k 1).tf tkPend k = s.tf tkPend k :=
    (tf_setTf_apart hside.rises (by decide) (by decide) (by decide) ..).trans (hside.pend k)
  have hlt : (if keep then s.tf tkPend k else 0) < 256 := by
    have := tf_lt s tkPend k
    split
    · exact this
    · decide
  generalize hw : (v.setTf tkState k 1).setPend k _ = w
  have hcw : Canon w := hw ▸ hcv.setTf.setPend
  have hdecided : answering w = answering s ∧ w.tf tkState k = 1 ∧ w.tf tkPend k = (if keep then s.tf tkPend k else 0) ∧
      w.tf tkTqne k = s.tf tkTqne k := by
    rw [← hw, hpend]
    exact ⟨(answering_setPend hcv.setTf _).trans hside.answers,
      (tf_setPend_apart hcv.setTf (by decide) (.inr (by decide)) ..).trans hstate, tf_setPend hcv.setTf hlt,
      (tf_setPend_apart hcv.setTf (by decide) (.inl (by decide)) ..).trans
        ((tf_setTf_apart hside.rises (by decide) (by decide) (by decide) ..).trans (hside.kept tkTqne (by decide) k))⟩
  obtain ⟨hanswers, hone, hleft, htqne⟩ := hdecided
  split
  next hq =>
    generalize hx : w.recredit (w.tqOf k) _ = x
    have hcx : Canon x := hx ▸ hcw.recredit
    have hcredit : Sidework w x := hx ▸ (Sidework.refl (rising_of_twf hcw.tasks)).same
    obtain ⟨htold, hstays⟩ := tf_takeCredits (k := k) hcx 255
    have hside := (Sidework.refl (rising_of_twf hcx.takeCredits.tasks)).armDelay (n := k) (u := x.takeCredits k 255)
    exact ⟨hside.answers.trans (htold.trans (hcredit.answers.trans hanswers)),
      (hside.state k).trans (hstays.trans ((hcredit.state k).trans hone)),
      fun hnone => absurd hq (by rw [htqne, hnone]; decide)⟩
  next hq =>
    have hside := (Sidework.refl (rising_of_twf hcw.tasks)).armDelay (n := k)
    exact ⟨hside.answers.trans hanswers, (hside.state k).trans hone, fun _ => (hside.pend k).trans hleft⟩

/-! ### TASK_SIGNAL -/

theorem addN_adds (hc : Canon s) {n : Nat} (hs : s.tf tkState k = 1 ∨ s.tf tkState k = 4) (hn : s.tf tkPend k + n ≤ 255) :
    answering (s.addN k n) = answering s ∧ (s.addN k n).tf tkPend k = s.tf tkPend k + n := by
  induction n generalizing s with
  | zero => exact ⟨rfl, rfl⟩
  | succ n ih =>
    have hone : s.addOne k = s.setPend k (s.tf tkPend k + 1) := by
      rw [State.addOne]
      exact (if_pos hs).trans (if_pos (by omega))
    have hpend : (s.setPend k (s.tf tkPend k + 1)).tf tkPend k = s.tf tkPend k + 1 := tf_setPend hc (by omega)
    have hstate : (s.setPend k (s.tf tkPend k + 1)).tf tkState k = s.tf tkState k :=
      tf_setPend_apart hc (by decide) (.inr (by decide)) _ _
    obtain ⟨hanswers, hadded⟩ := ih (s := s.setPend k (s.tf tkPend k + 1)) hc.setPend (hstate ▸ hs) (by omega)
    rw [State.addN, hone]
    exact ⟨hanswers.trans (answering_setPend hc _), hadded.trans (by omega)⟩

/-! ### TASK_CANCEL -/

/-- A task that can be cancelled has nothing pending, and is CANCELLED unless it drains (R218). -/
theorem cancelTask_cancels (hc : Canon s) (hs : s.tf tkState k = 1 ∨ s.tf tkState k = 4 ∨ s.tf tkState k = 2) :
    answering (s.cancelTask k) = answering s ∧ (s.cancelTask k).tf tkPend k = 0 ∧
    (s.cancelTask k).tf tkState k = if s.tf tkState k = 2 then 2 else 3 := by
  unfold State.cancelTask
  dsimp only
  rw [if_pos hs]
  generalize hv : (if s.tf tkState k = 2 then _ else _ : State) = v
  have hdecided : Canon v ∧ answering v = answering s ∧ v.tf tkState k = if s.tf tkState k = 2 then 2 else 3 := by
    rw [← hv]
    split
    next hdrains => exact ⟨hc.bumpBy, rfl, hdrains⟩
    next => exact ⟨hc.bumpBy.setTf, rfl, tf_setState hc.bumpBy (by decide)⟩
  obtain ⟨hcv, hanswers, hstate⟩ := hdecided
  have hside : Sidework (v.setPend k 0) (((v.setPend k 0).dropDelay k).loseDispatches k) :=
    ((Sidework.refl (rising_of_twf hcv.setPend.tasks)).dropDelay).loseDispatches
  have htold := hside.foldl (f := State.tellCancel) (l := (((v.setPend k 0).dropDelay k).loseDispatches k).slotsOf k)
    fun _ _ hw => hw.tellCancel
  exact ⟨htold.answers.trans ((answering_setPend hcv 0).trans hanswers), (htold.pend k).trans (tf_setPend hcv (by decide)),
    (htold.state k).trans ((tf_setPend_apart hcv (by decide) (.inr (by decide)) _ _).trans hstate)⟩

/-! ### TASK_DISABLE -/

theorem stopIntake_drains (hc : Canon s) : answering (s.stopIntake k) = answering s ∧ (s.stopIntake k).tf tkState k = 2 := by
  unfold State.stopIntake
  dsimp only
  have hside : Sidework (s.setTf tkState k 2) ((s.setTf tkState k 2).dropDelay k) :=
    (Sidework.refl (rising_of_twf hc.setTf.tasks)).dropDelay
  have hstate := (hside.state k).trans (tf_setState hc (by decide))
  have hcv : Canon ((s.setTf tkState k 2).dropDelay k) := hc.setTf.dropDelay
  split
  · have hfix := (Sidework.refl (rising_of_twf hcv.setPend.tasks)).fixNew (n := k) (u := ((s.setTf tkState k 2).dropDelay k).setPend k 0)
    exact ⟨hfix.answers.trans ((answering_setPend hcv 0).trans hside.answers),
      (hfix.state k).trans ((tf_setPend_apart hcv (by decide) (.inr (by decide)) _ _).trans hstate)⟩
  · exact ⟨hside.fixNew.answers, (hside.fixNew.state k).trans ((hside.state k).symm.trans hstate)⟩

/-- A task disabled at once has nothing pending (R221). -/
theorem abortTask_disables (hc : Canon s) : answering (s.abortTask k) = answering s ∧ (s.abortTask k).tf tkState k = 0 ∧
    (s.abortTask k).tf tkPend k = 0 := by
  unfold State.abortTask
  dsimp only
  have hdrop : Sidework (s.setTf tkState k 2) ((s.setTf tkState k 2).dropDelay k) :=
    (Sidework.refl (rising_of_twf hc.setTf.tasks)).dropDelay
  generalize hv : ((s.setTf tkState k 2).dropDelay k) = v at hdrop ⊢
  have hcv : Canon v := hv ▸ hc.setTf.dropDelay
  generalize hw : (((v.setPend k 0).loseDispatches k).slotsOf k).foldl _ ((v.setPend k 0).loseDispatches k) = w
  have hcw : Canon w := hw ▸ .foldl hcv.setPend.loseDispatches fun _ _ hx => hx.cancelSlot.dropLoads
  have hside : Sidework (v.setPend k 0) w := hw ▸ (Sidework.refl (rising_of_twf hcv.setPend.tasks)).loseDispatches.foldl
    fun _ _ hx => hx.cancelSlot.modTile
  have hfix := (Sidework.refl (rising_of_twf hcw.setTf.tasks)).fixNew (n := k) (u := w.setTf tkState k 0)
  exact ⟨hfix.answers.trans (hside.answers.trans ((answering_setPend hcv 0).trans hdrop.answers)),
    (hfix.state k).trans (tf_setState hcw (by decide)),
    (hfix.pend k).trans ((tf_setTf_apart hside.rises (by decide) (by decide) (by decide) ..).trans
      ((hside.pend k).trans (tf_setPend hcv (by decide))))⟩

end

end Sys2Proof
end

section
/-! PROOFS. Descriptor writes and TASK_ARM, TASK_SIGNAL, TASK_CANCEL, TASK_STATUS (R189, R192, R218, R222), statement O28. -/

namespace Sys2Proof

open Sys2Proof.Machine

set_option Elab.async false

theorem not_domainOff_unfetch {s : State} {c : Cmd} {f : Nat} (h : s.floorOpen f = true) : ¬ (s.unfetch c).domainOff f = true := by
  rw [State.domainOff, show (s.unfetch c).floorOpen f = true from h]
  decide

section
variable {s : State} (hc : Canon s)
include hc

/-! ### TASK_DESC_WRITE -/

theorem completes_taskDescWrite_disabled {view : ViewNo} {k : TaskNo} {off : Fin 64} {data : List Byte}
    (hown : s.owns view 2 k = true) (hopen : s.floorOpen (homeFloor k) = true) (hs : s.tf tkState k = 0) :
    Completes (.taskDescWrite view k off data) s fun u =>
      (∀ j b, data[j]? = some b → off.val + j < 32 →
        bits ((u.task k).w.getD ((off.val + j) / 8) 0#64).toNat (8 * ((off.val + j) % 8) + 7) (8 * ((off.val + j) % 8)) =
          Nat.land b.toNat (descMask ((off.val + j) / 8) / 2 ^ (8 * ((off.val + j) % 8)) % 256)) ∧
      u = { s with tasks := u.tasks } ∧ ∀ k', k' ≠ k → u.task k' = s.task k' := by
  have hrun : exec (.taskDescWrite view k off data) s = .next (descBytes s k (placedAt off data)) := by
    have harm : exec (.taskDescWrite view k off data) s = execTaskDescWrite view k off data s := rfl
    rw [harm, execTaskDescWrite, if_pos ⟨hown, hopen⟩, descWrite_of_disabled hs]
  obtain ⟨-, ⟨m, hm⟩, hothers⟩ := onlyTask_descBytes (k := k) hc (placedAt off data)
  exact ⟨_, hrun, fun j b hb hj => descByteOf_descBytes hc (nodup_placedAt off data) (mem_placedAt hb) hj,
    by rw [hm], fun k' hk' => hothers k' (Fin.val_ne_of_ne hk')⟩

theorem completes_taskDescWrite_enabled {view : ViewNo} {k : TaskNo} {off : Fin 64} {data : List Byte}
    (hown : s.owns view 2 k = true) (hopen : s.floorOpen (homeFloor k) = true) (hs : s.tf tkState k ≠ 0) (hd : data ≠ [])
    (hoff : off.val < 32) : Completes (.taskDescWrite view k off data) s fun u =>
      u.tasks = s.tasks ∧ Logs s u 0x3103 k ∧
      u.reg .SCH_DESC_REJ (homeFloor k) = min 0xFFFFFFFF (s.reg .SCH_DESC_REJ (homeFloor k) + 1) := by
  have hrun : exec (.taskDescWrite view k off data) s = .next ((s.bump .SCH_DESC_REJ (homeFloor k)).raise 0x3103 4 k 0) := by
    have harm : exec (.taskDescWrite view k off data) s = execTaskDescWrite view k off data s := rfl
    rw [harm, execTaskDescWrite, if_pos ⟨hown, hopen⟩, descWrite_of_enabled hs hoff hd]
  have hplain : faultBit 0x3103 = 0 := by decide
  have htasks : ((s.bump .SCH_DESC_REJ (homeFloor k)).raise 0x3103 4 k 0).tasks = s.tasks := by
    rw [State.raise, raiseAt_plain hplain]
    rfl
  have hregs := (raise_regs_floors (s := s.bump .SCH_DESC_REJ (homeFloor k)) hplain 4 k 0).1
  exact ⟨_, hrun, htasks, raise_logs (s.bump .SCH_DESC_REJ (homeFloor k)) 0x3103 4 k 0,
    (reg_congr hregs _ _).trans (reg_bump_self hc.regs _ _)⟩

/-! ### Commands -/

variable {c : Cmd} {k : Nat} (hk : k ≤ 32767) (hown : s.cmdOwns c 2 k = true) (hopen : s.floorOpen (homeFloor k) = true)
include hk hown hopen

theorem completes_taskArm {keep : Nat} (hkeep : keep ≤ 1) (ha : Accepted s c 0x2001 (leBytes 2 k ++ leBytes 1 keep) true)
    (hgood : s.descBad k = false) (howned : s.descOwned c.view k = true) (hdrains : s.tf tkState k ≠ 2) (hidle : s.tf tkState k ≠ 1) :
    Completes (.taskArm c k keep) s fun u =>
      Replies s u c 0x2001 stOk [] ∧ u.tf tkState k = 1 ∧
      (s.tf tkTqne k = 0 → u.tf tkPend k = if keep = 1 then s.tf tkPend k else 0) := by
  have hrun : exec (.taskArm c k keep) s = .next (((s.unfetch c).armTask k (keep == 1)).reply c 0x2001 stOk []) := by
    have harm : exec (.taskArm c k keep) s = execTaskArm c k keep s := rfl
    have hgood' : ¬ (s.unfetch c).descBad k = true := by rw [show (s.unfetch c).descBad k = false from hgood]; decide
    have howned' : ¬ (!(s.unfetch c).descOwned c.view k) = true := by
      rw [show (s.unfetch c).descOwned c.view k = true from howned]; decide
    have hopen' : ¬ (s.unfetch c).domainOff (homeFloor k) = true := not_domainOff_unfetch hopen
    rw [harm, execTaskArm, runCmd_taskCmd ha hk hown, State.taskArmCmd, if_neg (Nat.not_lt.mpr hkeep), if_neg hgood', if_neg howned',
      if_neg (show (s.unfetch c).tf tkState k ≠ 2 from hdrains), if_neg hopen',
      if_neg (show (s.unfetch c).tf tkState k ≠ 1 from hidle)]
  obtain ⟨hanswers, harmed, hpend⟩ := armTask_arms (k := k) (hc.unfetch (c := c)) (keep == 1)
  refine ⟨_, hrun, Replies.of_answering hanswers ha.here ha.live _ _, (tf_reply _ _ _ _).trans harmed, fun htqne => ?_⟩
  have hleft := (tf_reply (c := c) (op := 0x2001) tkPend stOk [] k).trans (hpend htqne)
  simp only [beq_iff_eq] at hleft
  exact hleft

theorem completes_taskSignal {n : Nat} (hn : 1 ≤ n) (hn' : n ≤ 255) (ha : Accepted s c 0x2002 (leBytes 2 k ++ leBytes 1 n) true)
    (hsig : s.tf tkTsig k = 1) (hs : s.tf tkState k = 1 ∨ s.tf tkState k = 4) (hroom : s.tf tkPend k + n ≤ 255) :
    Completes (.taskSignal c k n) s fun u => Replies s u c 0x2002 stOk [] ∧ u.tf tkPend k = s.tf tkPend k + n := by
  have hrun : exec (.taskSignal c k n) s = .next (((s.unfetch c).addN k n).reply c 0x2002 stOk []) := by
    have harm : exec (.taskSignal c k n) s = execTaskSignal c k n s := rfl
    have hsig' : ¬ (s.unfetch c).tf tkTsig k = 0 := by rw [show (s.unfetch c).tf tkTsig k = 1 from hsig]; decide
    have hopen' : ¬ (s.unfetch c).domainOff (homeFloor k) = true := not_domainOff_unfetch hopen
    rw [harm, execTaskSignal, runCmd_taskCmd ha hk hown, State.taskSignalCmd, if_neg (by omega), if_neg hsig', if_neg hopen']
  obtain ⟨hanswers, hadded⟩ := addN_adds (hc.unfetch (c := c)) hs hroom
  exact ⟨_, hrun, Replies.of_answering hanswers ha.here ha.live _ _, (tf_reply _ _ _ _).trans hadded⟩

theorem completes_taskCancel (ha : Accepted s c 0x2003 (leBytes 2 k) true)
    (hs : s.tf tkState k = 1 ∨ s.tf tkState k = 4 ∨ s.tf tkState k = 2) :
    Completes (.taskCancel c k) s fun u =>
      Replies s u c 0x2003 stOk [] ∧ u.tf tkPend k = 0 ∧ u.tf tkState k = (if s.tf tkState k = 2 then 2 else 3) := by
  have hrun : exec (.taskCancel c k) s = .next (((s.unfetch c).cancelTask k).reply c 0x2003 stOk []) := by
    have harm : exec (.taskCancel c k) s = execTaskCancel c k s := rfl
    have hopen' : ¬ (s.unfetch c).domainOff (homeFloor k) = true := not_domainOff_unfetch hopen
    rw [harm, execTaskCancel, runCmd_taskCmd ha hk hown, if_neg hopen']
  obtain ⟨hanswers, hnone, hstate⟩ := cancelTask_cancels (hc.unfetch (c := c)) hs
  exact ⟨_, hrun, Replies.of_answering hanswers ha.here ha.live _ _, (tf_reply _ _ _ _).trans hnone, (tf_reply _ _ _ _).trans hstate⟩

omit hc in
theorem completes_taskStatus (ha : Accepted s c 0x2005 (leBytes 2 k) true) : Completes (.taskStatus c k) s fun u =>
    Replies s u c 0x2005 stOk (((s.task k).w.drop 4).flatMap fun w => leBytes 8 w.toNat) ∧ OnlyAnswers s u := by
  have hrun : exec (.taskStatus c k) s = .next ((s.unfetch c).reply c 0x2005 stOk (s.taskTail k)) := by
    have harm : exec (.taskStatus c k) s = execTaskStatus c k s := rfl
    have hopen' : ¬ (s.unfetch c).domainOff (homeFloor k) = true := not_domainOff_unfetch hopen
    rw [harm, execTaskStatus, runCmd_taskCmd ha hk hown, if_neg hopen']
    rfl
  exact ⟨_, hrun, replies_reply (s := s.unfetch c) ha.here ha.live, reply_onlyAnswers ha.here ha.live⟩

end

/-- Settles O28: a descriptor takes its bytes one by one under their writable bits, and each command decides STATE and PEND with side
work beside it. -/
theorem taskCommands : Obligations.TaskCommands := by
  intro s hc
  refine ⟨fun view k off data hown hopen => ⟨completes_taskDescWrite_disabled hc hown hopen,
    completes_taskDescWrite_enabled hc hown hopen⟩, fun c k hk hown hopen => ⟨?_, ?_, ?_, ?_⟩⟩
  · exact fun keep hkeep => completes_taskArm hc hk hown hopen hkeep
  · exact fun n hn hn' => completes_taskSignal hc hk hown hopen hn hn'
  · exact completes_taskCancel hc hk hown hopen
  · exact completes_taskStatus hk hown hopen

end Sys2Proof
end

section
/-! PROOFS. TASK_DISABLE, the end of a drain, and drains past their deadline (R221), statement O29. -/

namespace Sys2Proof

open Sys2Proof.Machine

set_option Elab.async false

section
variable {s : State} {c : Cmd} {k timeout : Nat} (hk : k ≤ 32767) (hown : s.cmdOwns c 2 k = true)
  (hopen : s.floorOpen (homeFloor k) = true)

include hk hown hopen

section
variable (ha : Accepted s c 0x2004 (leBytes 2 k ++ leBytes 1 0 ++ leBytes 2 timeout) true)
include ha

theorem exec_taskDisableDrain : exec (.taskDisableDrain c k timeout) s = .next (
    if s.tf tkState k = 0 then (s.unfetch c).reply c 0x2004 stOk []
    else (if s.tf tkState k = 2 then s.unfetch c else (s.unfetch c).stopIntake k).await c 0x2004 (.taskDrain k) timeout) := by
  have harm : exec (.taskDisableDrain c k timeout) s = execTaskDisableDrain c k timeout s := rfl
  have hopen' : ¬ (s.unfetch c).domainOff (homeFloor k) = true := not_domainOff_unfetch hopen
  rw [harm, execTaskDisableDrain, runCmd_taskCmd ha hk hown, State.taskDrainCmd, if_neg hopen']
  rfl

theorem completes_taskDisableDrain (hc : Canon s) (hs : s.tf tkState k ≠ 0) : Completes (.taskDisableDrain c k timeout) s fun u =>
    WaitsFor s u c 0x2004 (.taskDrain k) timeout ∧ u.tf tkState k = 2 := by
  have hrun := exec_taskDisableDrain hk hown hopen ha
  rw [if_neg hs] at hrun
  have hawait (v : State) : (v.await c 0x2004 (.taskDrain k) timeout).tf tkState k = v.tf tkState k := by
    refine tf_congr ?_ _ _
    unfold State.await State.interim
    split <;> rfl
  have hstop : ∀ v, (if s.tf tkState k = 2 then s.unfetch c else (s.unfetch c).stopIntake k) = v →
      answering v = answering (s.unfetch c) ∧ v.tf tkState k = 2 := by
    rintro v rfl
    split
    next hdrains => exact ⟨rfl, hdrains⟩
    next => exact stopIntake_drains hc.unfetch
  obtain ⟨hanswers, hstate⟩ := hstop _ rfl
  exact ⟨_, hrun, WaitsFor.of_answering hanswers ha.here ha.live _ _, (hawait _).trans hstate⟩

theorem completes_taskDisableDrain_disabled (hs : s.tf tkState k = 0) : Completes (.taskDisableDrain c k timeout) s fun u =>
    Replies s u c 0x2004 stOk [] ∧ OnlyAnswers s u := by
  have hrun := exec_taskDisableDrain hk hown hopen ha
  rw [if_pos hs] at hrun
  exact ⟨_, hrun, replies_reply (s := s.unfetch c) ha.here ha.live, reply_onlyAnswers ha.here ha.live⟩

end

section
variable (ha : Accepted s c 0x2004 (leBytes 2 k ++ leBytes 1 1 ++ leBytes 2 timeout) true) (hpack : c.pack = false)
  (hnone : s.waitsFor (.taskDrain k) = false)
include ha

theorem exec_taskDisableAbort : exec (.taskDisableAbort c k timeout) s = .next (
    if s.tf tkState k = 0 then (s.unfetch c).reply c 0x2004 stOk []
    else ((((s.unfetch c).interim c 0x2004).finish (.taskDrain k) stAborted []).abortTask k).reply c 0x2004 stOk []) := by
  have harm : exec (.taskDisableAbort c k timeout) s = execTaskDisableAbort c k timeout s := rfl
  have hopen' : ¬ (s.unfetch c).domainOff (homeFloor k) = true := not_domainOff_unfetch hopen
  rw [harm, execTaskDisableAbort, runCmd_taskCmd ha hk hown, State.taskAbortCmd, if_neg hopen']
  rfl

include hpack hnone in
theorem completes_taskDisableAbort (hc : Canon s) (hs : s.tf tkState k ≠ 0) : Completes (.taskDisableAbort c k timeout) s fun u =>
    Replies s u c 0x2004 stOk [] ∧ u.tf tkState k = 0 ∧ u.tf tkPend k = 0 := by
  have hrun := exec_taskDisableAbort hk hown hopen ha
  have hinterim : (s.unfetch c).interim c 0x2004 = s.unfetch c := by simp [State.interim, hpack]
  rw [if_neg hs, hinterim, finish_of_none (s := s.unfetch c) hnone] at hrun
  obtain ⟨hanswers, hstate, hpend⟩ := abortTask_disables (k := k)
    (s := { s.unfetch c with drains := (s.unfetch c).drains.filter (· ≠ .taskDrain k) }) (hc.unfetch (c := c)).others
  exact ⟨_, hrun, Replies.of_answering (hanswers.trans (show _ = answering s from rfl)) ha.here ha.live _ _,
    (tf_reply _ _ _ _).trans hstate, (tf_reply _ _ _ _).trans hpend⟩

theorem completes_taskDisableAbort_disabled (hs : s.tf tkState k = 0) : Completes (.taskDisableAbort c k timeout) s fun u =>
    Replies s u c 0x2004 stOk [] ∧ OnlyAnswers s u := by
  have hrun := exec_taskDisableAbort hk hown hopen ha
  rw [if_pos hs] at hrun
  exact ⟨_, hrun, replies_reply (s := s.unfetch c) ha.here ha.live, reply_onlyAnswers ha.here ha.live⟩

end

end

section
variable {s : State}

theorem completes_taskDrainDone (hc : Canon s) {k : TaskNo} (hs : s.tf tkState k = 2) (hp : s.tf tkPend k = 0) (hr : s.tf tkRun k = 0) :
    Completes (.taskDrainDone k) s fun u => Finishes s u (.taskDrain k) stOk [] ∧ u.tf tkState k = 0 := by
  have hrun : exec (.taskDrainDone k) s = .next (((s.setTf tkState k 0).fixNew k).finish (.taskDrain k) stOk []) := by
    have harm : exec (.taskDrainDone k) s = execTaskDrainDone k s := rfl
    rw [harm, execTaskDrainDone, if_pos ⟨hs, hp, hr⟩]
  have hside := (Sidework.refl (rising_of_twf (Canon.setTf (f := tkState) (k := k) (v := 0) hc).tasks)).fixNew (n := k)
  exact ⟨_, hrun, Finishes.of_answering (hside.answers.trans (show _ = answering s from rfl)) _ _ _,
    (tf_finish _ _ _ _ _).trans ((hside.state k).trans (tf_setState hc (by decide)))⟩

/-- The waits that a deadline ends by DISABLE_DRAIN_TIMEOUT. -/
def drainWait : CmdWait → Bool
  | .taskDrain _ | .batchDrain _ | .queueDrain _ | .floorOff _ | .laneDrain _ _ | .streamDrain _ _ | .portDrain _ | .linkDrain _ => true
  | _ => false

theorem drainWait_of_mem {w : CmdWait}
    (h : (∃ k, w ∈ [CmdWait.taskDrain k, .batchDrain k, .queueDrain k, .floorOff k, .portDrain k, .linkDrain k]) ∨
      ∃ f n, w ∈ [CmdWait.laneDrain f n, .streamDrain f n]) : drainWait w = true := by
  simp only [List.mem_cons, List.not_mem_nil, or_false] at h
  rcases h with ⟨k, rfl | rfl | rfl | rfl | rfl | rfl⟩ | ⟨f, n, rfl | rfl⟩ <;> rfl

/-- A command is due when it is the one named, the first of those that wait for its drain, and its deadline has passed. -/
theorem execDisableDrainTimeout_eq (ring : ViewNo) (tag : Word) : execDisableDrainTimeout ring tag s =
    match s.cmds.find? fun y => decide (y.cmd.ring = ring ∧ y.cmd.tag = tag) && drainWait y.wait &&
      (y.deadline.any fun d => decide (d ≤ s.tim.clk)) && (s.cmds.find? fun z => z.wait = y.wait) == some y with
    | none => .next s
    | some x => .next ((s.finish x.wait stTimeout []).drainOn x.wait) := rfl

/-- The command named is in progress, it alone waits for its drain, and its deadline has passed: it is the one due. -/
theorem exec_disableDrainTimeout {ring : ViewNo} {tag : Word} {x : InProg} {d : Nat}
    (hfirst : s.cmds.find? (fun y => decide (y.cmd.ring = ring ∧ y.cmd.tag = tag)) = some x)
    (halone : s.cmds.filter (fun y => y.wait = x.wait) = [x]) (hdrain : drainWait x.wait = true) (hdead : x.deadline = some d)
    (hpast : d ≤ s.tim.clk) : exec (.disableDrainTimeout ring tag) s = .next ((s.finish x.wait stTimeout []).drainOn x.wait) := by
  have harm : exec (.disableDrainTimeout ring tag) s = execDisableDrainTimeout ring tag s := rfl
  have hfound : s.cmds.find? (fun y => y.wait = x.wait) = some x := by
    rw [← List.head?_filter, halone]
    rfl
  obtain ⟨hnamed, before, after, hcmds, hbefore⟩ := List.find?_eq_some_iff_append.mp hfirst
  have hdue : s.cmds.find? (fun y => decide (y.cmd.ring = ring ∧ y.cmd.tag = tag) && drainWait y.wait &&
      (y.deadline.any fun d => decide (d ≤ s.tim.clk)) && (s.cmds.find? fun z => z.wait = y.wait) == some y) = some x := by
    refine List.find?_eq_some_iff_append.mpr ⟨?_, before, after, hcmds, fun y hy => ?_⟩
    · rw [hnamed, hdrain, hdead, hfound]
      simpa using hpast
    · have hother := hbefore y hy
      rw [Bool.not_eq_true'] at hother ⊢
      rw [hother]
      rfl
  rw [harm, execDisableDrainTimeout_eq, hdue]

theorem completes_disableDrainTimeout {ring : ViewNo} {tag : Word} {x : InProg} {d : Nat}
    (hfirst : s.cmds.find? (fun y => decide (y.cmd.ring = ring ∧ y.cmd.tag = tag)) = some x)
    (halone : s.cmds.filter (fun y => y.wait = x.wait) = [x]) (hdrain : drainWait x.wait = true) (hdead : x.deadline = some d)
    (hpast : d ≤ s.tim.clk) (hr : x.cmd.remote = 0) (ho : s.orphans.contains x.cmd = false) :
    Completes (.disableDrainTimeout ring tag) s fun u => u.cmds = s.cmds.filter (fun y => y.wait ≠ x.wait) ∧
      Replies s u x.cmd x.op stTimeout [] ∧ u.waitsFor x.wait = true ∧
      u = { s with replies := u.replies, cmds := u.cmds, drains := u.drains } := by
  have hrun := exec_disableDrainTimeout hfirst halone hdrain hdead hpast
  have hfinish : s.finish x.wait stTimeout [] = { s with
      cmds := s.cmds.filter fun y => y.wait ≠ x.wait
      drains := s.drains.filter (· ≠ x.wait)
      replies := s.replies ++ [{ cmd := x.cmd, op := x.op, status := stTimeout, interim := false, data := [] }] } := by
    unfold State.finish
    rw [halone]
    exact reply_live hr ho
  rw [hfinish] at hrun
  exact ⟨_, hrun, rfl, rfl, by simp [State.waitsFor, State.drainOn], rfl⟩

end

/-- Settles O29: DRAIN stops intake and waits, ABORT ends the task at once, and a drain ends or times out by its own command. -/
theorem tasksDrainAndAbort : Obligations.TasksDrainAndAbort := by
  intro s hc
  refine ⟨fun c k timeout hk hown hopen => ⟨fun ha => ⟨?_, ?_⟩, fun ha hpack hnone => ⟨?_, ?_⟩⟩,
    fun k => completes_taskDrainDone hc, fun ring tag x d hfirst halone hwait => completes_disableDrainTimeout hfirst halone (drainWait_of_mem hwait)⟩
  · exact completes_taskDisableDrain hk hown hopen ha hc
  · exact completes_taskDisableDrain_disabled hk hown hopen ha
  · exact completes_taskDisableAbort hk hown hopen ha hpack hnone hc
  · exact completes_taskDisableAbort_disabled hk hown hopen ha

end Sys2Proof
end

section
/-! PROOFS. States of tiles, their data slots and their evacuations (R424 to R426): what they read after TRN_FLOOR or the turning state of
a tile is written. -/

namespace Sys2Proof

open Sys2Proof.Machine

set_option Elab.async false

section
variable {s u : State}

theorem turn_modTurn (h : rising s.turns = true) (t : Nat) (g : TurnSt → TurnSt) : (s.modTurn t g).turn t = g (s.turn t) := by
  rw [State.turn, State.modTurn, State.setTurn_turns, tget_tput h, if_pos rfl]

theorem grav_modGrav (h : rising s.gravs = true) (f : Nat) (g : GravSt → GravSt) : (s.modGrav f g).grav f = g (s.grav f) := by
  rw [State.grav, State.modGrav, State.setGrav_gravs, tget_tput h, if_pos rfl]

theorem tstate_congr (h : u.regs = s.regs) (t : Nat) : u.tstate t = s.tstate t := by rw [State.tstate, State.tstate, reg_congr h]

theorem dataSlots_of_flds (h : ∀ f ∈ [slotState, gcfgAen, gcfgA, gcfgBen, gcfgB], ∀ i, u.fld f i = s.fld f i) (t : Nat) :
    u.dataSlots t = s.dataSlots t := by
  simp only [List.forall_mem_cons, List.not_mem_nil, false_implies, implies_true, and_true] at h
  obtain ⟨hstate, haen, ha, hben, hb⟩ := h
  have hflag {f : Fld} (hf : ∀ i, u.fld f i = s.fld f i) : u.flag f t = s.flag f t := by rw [State.flag, State.flag, hf]
  have hguard (g : Nat) : u.guardSlot t g = s.guardSlot t g := by
    rw [State.guardSlot, State.guardSlot, hflag haen, hflag hben, ha, hb]
  simp only [State.dataSlots, State.sstate, State.guardOf, hguard, hstate]

theorem dataSlots_congr (h : u.regs = s.regs) (t : Nat) : u.dataSlots t = s.dataSlots t :=
  dataSlots_of_flds (fun f _ i => congrFun (congrFun (fld_congr h) f) i) t

/-- A tile with slots left is not settled. -/
theorem settleTile_of_slots {t : Nat} (h : s.dataSlots t ≠ []) : s.settleTile t = s := by
  unfold State.settleTile
  split
  · rfl
  · exact if_pos (.inl h)

section
variable (h : rising s.regs = true)
include h

theorem tstate_setTstate (t : Nat) {v : Nat} (hv : v < 4) : (s.setTstate t v).tstate t = v := by
  rw [State.tstate, State.setTstate, reg_setReg_self h, bits_putBits_self (by omega) (by omega),
    show 2 * (t % 16) + 1 + 1 - 2 * (t % 16) = 2 by omega]
  exact Nat.mod_eq_of_lt hv

/-- TRN_FLOOR of a floor stands apart from every register of the tiles. -/
theorem fld_setTstate_tile {t : Nat} (ht : t < 512) (v : Nat) {f : Fld} (hf : 0x440000000 ≤ f.r.info.base) (i : Nat) :
    (s.setTstate t v).fld f i = s.fld f i := by
  have hne : f.r.addr i ≠ Reg.TRN_FLOOR.addr (t / 16) := by
    have hlow : Reg.TRN_FLOOR.addr (t / 16) = 0x400080100 + t / 16 / 32 * 0x100000000 + t / 16 % 32 * 8 := rfl
    rw [hlow, Reg.addr]
    omega
  rw [State.fld, State.fld, State.setTstate, reg_setReg h _ _ _ _ _ hne]

theorem dataSlots_setTstate {t : Nat} (ht : t < 512) (v j : Nat) : (s.setTstate t v).dataSlots j = s.dataSlots j := by
  refine dataSlots_of_flds (fun f hf i => fld_setTstate_tile h ht v ?_ i) j
  simp only [List.mem_cons, List.not_mem_nil, or_false] at hf
  rcases hf with rfl | rfl | rfl | rfl | rfl <;> decide

end

/-! ### An evacuation starts, or finds no spare (R426) -/

/-- The record of an evacuation that starts now. -/
def newEvac (s : State) (b cause : Nat) (slots : List Nat) : Evac :=
  { spare := b, cause := cause, since := s.tim.clk, left := slots, defd := [], late := [] }

variable {t : Nat} (hnone : (s.turn t).evac = none)
include hnone

/-- A tile with data slots and a free spare is TURNING, with its slots to move. -/
theorem evacuate_spare (hc : Canon s) (ht : t < 512) {b : Nat} (hspare : s.freeSpareTile (t / 16) = some b) (hslots : s.dataSlots t ≠ [])
    (cause : Nat) (slots : List Nat) : answering (s.evacuate t cause slots) = answering s ∧
    (s.evacuate t cause slots).tstate t = 2 ∧ ((s.evacuate t cause slots).turn t).evac = some (newEvac s b cause slots) := by
  have hstays : s.evacuate t cause slots = (s.setTstate t 2).modTurn t fun x => { x with
      retry := none, evac := some (newEvac s b cause slots) } := by
    unfold State.evacuate
    simp only [hnone, hspare]
    exact settleTile_of_slots (((dataSlots_congr rfl t).trans (dataSlots_setTstate hc.regs ht 2 t)) ▸ hslots)
  rw [hstays]
  exact ⟨rfl, (tstate_congr rfl t).trans (tstate_setTstate hc.regs t (by decide)),
    congrArg TurnSt.evac (turn_modTurn (s := s.setTstate t 2) (rising_of_twf hc.turns) t _)⟩

theorem evacuate_noSpare (hc : Canon s) (hspare : s.freeSpareTile (t / 16) = none) (cause : Nat) (slots : List Nat) :
    (s.evacuate t cause slots).tstate t = s.tstate t ∧ ((s.evacuate t cause slots).turn t).evac = none ∧
    Logs s (s.evacuate t cause slots) 0x8303 (t / 16) := by
  unfold State.evacuate
  simp only [hnone, hspare]
  refine ⟨(tstate_congr rfl t).trans (tstate_congr (raise_regs_floors (by decide) _ _ _).1 t), ?_, raise_logs s 0x8303 2 (t / 16) 0⟩
  rw [turn_modTurn (rising_of_twf hc.raise.turns), State.raise, raiseAt_plain (by decide)]
  exact hnone

end

end Sys2Proof
end

section
/-! PROOFS. A committed move (R425, R428 to R430): what carries the slot over writes registers of tiles, of TRN_FLOOR and TRN_LAST, and
leaves the banks of the slots, the records raised and the moves under way. -/

namespace Sys2Proof

open Sys2Proof.Machine

set_option Elab.async false

/-- The banks of slots, the records that wait for their logs and the moves under way are as they were, and TRN_MOVES has not counted. -/
structure Carried (s u : State) : Prop where
  rises : rising u.regs = true
  moves : u.reg .TRN_MOVES 0 = s.reg .TRN_MOVES 0
  slots : u.slots = s.slots
  gravs : u.gravs = s.gravs
  logQ : u.logQ = s.logQ

variable {s u : State}

theorem Carried.refl (h : rising s.regs = true) : Carried s s := ⟨h, rfl, rfl, rfl, rfl⟩

theorem Carried.same {v : State} (h : Carried s u) (hr : v.regs = u.regs := by exact rfl) (hs : v.slots = u.slots := by exact rfl)
    (hg : v.gravs = u.gravs := by exact rfl) (hl : v.logQ = u.logQ := by exact rfl) : Carried s v :=
  ⟨hr ▸ h.rises, (reg_congr hr _ _).trans h.moves, hs.trans h.slots, hg.trans h.gravs, hl.trans h.logQ⟩

theorem Carried.ite {a b : State} {c : Prop} [Decidable c] (ha : Carried s a) (hb : Carried s b) : Carried s (if c then a else b) := by
  split
  · exact ha
  · exact hb

theorem Carried.foldl {β : Type} {f : State → β → State} {l : List β} (h : Carried s u)
    (hf : ∀ v x, Carried s v → Carried s (f v x)) : Carried s (l.foldl f u) := foldl_write_inv (Inv := (Carried s ·)) hf l h

/-- A register that stands above TRN_MOVES. -/
theorem Carried.setReg {r : Reg} {i v : Nat} (h : Carried s u) (hr : 0x40008000c < r.info.base := by decide) :
    Carried s (u.setReg r i v) := by
  have hne : Reg.TRN_MOVES.addr 0 ≠ r.addr i := by
    have hlow : Reg.TRN_MOVES.addr 0 = 0x40008000c := rfl
    rw [hlow, Reg.addr]
    omega
  exact ⟨rising_setReg h.rises _ _ _, (reg_setReg h.rises _ _ _ _ _ hne).trans h.moves, h.slots, h.gravs, h.logQ⟩

theorem Carried.setTstate {t v : Nat} (h : Carried s u) : Carried s (u.setTstate t v) := h.setReg

theorem Carried.idleTile {t : Nat} (h : Carried s u) : Carried s (u.idleTile t) :=
  Carried.setReg (Carried.setReg (Carried.setReg h.setReg))

theorem Carried.modTurn {t : Nat} {g : TurnSt → TurnSt} (h : Carried s u) : Carried s (u.modTurn t g) := h.same

theorem Carried.settleTile {t : Nat} (h : Carried s u) : Carried s (u.settleTile t) := by
  unfold State.settleTile
  split
  · exact h
  · exact .ite h (.ite h.setTstate.idleTile.modTurn (.ite h.setTstate.modTurn h))

theorem Carried.moved {l : Tbl Nat} (h : Carried s u) : Carried s { u with moved := l } := h.same

theorem Carried.reply {c : Cmd} {op status : Nat} {data : List Byte} (h : Carried s u) : Carried s (u.reply c op status data) := by
  rcases reply_cases u c op status data with hu | ⟨-, hu⟩ | ⟨-, hu⟩ <;> rw [hu] <;> exact h.same

theorem Carried.turnReplies {t : Nat} (h : Carried s u) : Carried s (u.turnReplies t) := by
  unfold State.turnReplies State.finishWhere
  exact .foldl h.same fun _ _ hv => hv.reply

/-! ### The parts of the copy -/

theorem Carried.copyStore {a b off n : Nat} (h : Carried s u) : Carried s (u.copyStore a b off n) :=
  .foldl h fun v i hv => .ite hv.same (by rw [pokePhys_frame]; exact hv.same)

theorem Carried.carryReg {r : Reg} {a b k n : Nat} (h : Carried s u) (hr : 0x40008000c < r.info.base := by decide) :
    Carried s (u.carryReg r a b k n) :=
  .foldl h fun _ _ hv => (hv.setReg hr).setReg hr

theorem Carried.carryRegs {a b k : Nat} (h : Carried s u) : Carried s (u.carryRegs a b k) :=
  h.carryReg.carryReg.carryReg.carryReg.carryReg.carryReg.carryReg.carryReg.carryReg

theorem Carried.carryCells {a b k : Nat} (h : Carried s u) : Carried s (u.carryCells a b k) := h.same

theorem Carried.carryAgents {a b k : Nat} (h : Carried s u) : Carried s (u.carryAgents a b k) := h.same

theorem Carried.carryRecords {a b k img : Nat} (h : Carried s u) : Carried s (u.carryRecords a b k img) :=
  .foldl h.same fun _ _ hv => .ite hv.same hv

theorem Carried.firstCommit {a b : Nat} (h : Carried s u) : Carried s (u.firstCommit a b) :=
  .ite (Carried.setTstate h.setReg.setReg) h

theorem Carried.settleForks (h : Carried s u) : Carried s u.settleForks := by
  refine .foldl h fun v p hv => ?_
  dsimp only
  split
  · exact .ite hv.same hv
  · exact hv

/-- The payload of a move copied to the spare: store, cells, registers, queue locks and the scheduler's records. -/
def payloadCopied (s : State) (m : Move) (p : Config.TurnPatch) : State :=
  let copied := p.live.foldl (fun s r => s.copyStore m.tile m.spare r.1 r.2) (s.copyStore m.tile m.spare
    (s.fld leesBase (8 * m.tile + m.slot) * 64) (64 * s.fld leesSpilled (8 * m.tile + m.slot)))
  (((copied.carryCells m.tile m.spare m.slot).carryRegs m.tile m.spare m.slot).carryAgents m.tile m.spare m.slot).carryRecords
    m.tile m.spare m.slot (s.fld slotImg (8 * m.tile + m.slot))

/-- The slot's bank stands in the spare, the source's slot is empty. -/
def bankMoved (s : State) (m : Move) : State :=
  (s.setSlot m.spare m.slot { s.slot m.tile m.slot with moving := false }).setSlot m.tile m.slot .init

theorem bankMoved_regs (s : State) (m : Move) : (bankMoved s m).regs = s.regs := rfl

theorem carrySlot_eq (s : State) (m : Move) (p : Config.TurnPatch) : ∃ l, s.carrySlot m p =
    State.settleForks { bankMoved (payloadCopied s m p) m with moved := l } := ⟨_, rfl⟩

theorem Carried.payloadCopied (h : Carried s u) (m : Move) (p : Config.TurnPatch) : Carried s (payloadCopied u m p) :=
  (Carried.foldl h.copyStore fun _ _ hv => hv.copyStore).carryCells.carryRegs.carryAgents.carryRecords

/-- Beside the two banks everything is carried. -/
theorem carrySlot_carries (h : rising s.regs = true) (m : Move) (p : Config.TurnPatch) :
    Carried (bankMoved (payloadCopied s m p) m) (s.carrySlot m p) := by
  obtain ⟨l, hl⟩ := carrySlot_eq s m p
  rw [hl]
  have hrises : rising (bankMoved (payloadCopied s m p) m).regs = true := by
    rw [bankMoved_regs]
    exact ((Carried.refl h).payloadCopied m p).rises
  exact (Carried.refl hrises).moved.settleForks

theorem slot_setSlot_apart (h : rising s.slots = true) {t k t' k' : Nat} (hap : 8 * t' + k' ≠ 8 * t + k) (x : SlotSt) :
    (s.setSlot t k x).slot t' k' = s.slot t' k' := by
  rw [State.slot, State.setSlot_slots, tget_tput h, if_neg hap, State.slot]

section
variable {m : Move} (h : rising s.slots = true)
include h

theorem slot_bankMoved_tile : (bankMoved s m).slot m.tile m.slot = .init :=
  slot_setSlot (s := s.setSlot m.spare m.slot { s.slot m.tile m.slot with moving := false }) (Machine.rising_tput h)

theorem slot_bankMoved_spare (hap : 8 * m.spare + m.slot ≠ 8 * m.tile + m.slot) :
    (bankMoved s m).slot m.spare m.slot = { s.slot m.tile m.slot with moving := false } := by
  rw [bankMoved, slot_setSlot_apart (Machine.rising_tput h) hap, slot_setSlot h]

end

/-! ### The commit noted (R429, R433) -/

/-- No move is under way, and the batches that the patch lists have its added beats. -/
def withoutMove (p : Config.TurnPatch) (x : GravSt) : GravSt :=
  { x with move := none, addb := p.batches.foldl (fun t b => tput 0 t b.1 (tget 0 t b.1 + b.2)) x.addb }

/-- The move is no longer under way; TRN_LAST tells of it and TRN_MOVES counts it. -/
def moveNoted (s : State) (m : Move) (p : Config.TurnPatch) (cause : Nat) : State :=
  let f := m.tile / 16
  (((s.modGrav f (withoutMove p)).setFld grvMove f 0).setReg .TRN_LAST f
    (lastWord cause m.slot m.tile m.spare p.addb m.words)).bump .TRN_MOVES 0

theorem moveNoted_counts (hr : rising s.regs = true) (m : Move) (p : Config.TurnPatch) (cause : Nat) :
    (moveNoted s m p cause).reg .TRN_MOVES 0 = min 0xFFFFFFFF (s.reg .TRN_MOVES 0 + 1) := by
  have hlow : Reg.TRN_MOVES.addr 0 = 0x40008000c := rfl
  have hne : Reg.TRN_MOVES.addr 0 ≠ Reg.GRV_FSTAT.addr (m.tile / 16) := by
    have hgrv : Reg.GRV_FSTAT.addr (m.tile / 16) = 0x400060108 + m.tile / 16 / 32 * 0x100000000 + m.tile / 16 % 32 * 0x10 := rfl
    rw [hlow, hgrv]
    omega
  have hlast := Carried.setReg (r := .TRN_LAST) (i := m.tile / 16)
    (v := lastWord cause m.slot m.tile m.spare p.addb m.words) (.refl (rising_setFld hr grvMove (m.tile / 16) 0))
  exact (reg_bump_self hlast.rises _ _).trans (congrArg (fun n => min 0xFFFFFFFF (n + 1))
    (hlast.moves.trans (reg_setFld_other hr hne 0)))

theorem moveNoted_move (hg : rising s.gravs = true) (m : Move) (p : Config.TurnPatch) (cause : Nat) :
    ((moveNoted s m p cause).grav (m.tile / 16)).move = none := 
  congrArg GravSt.move (grav_modGrav hg (m.tile / 16) (withoutMove p))

/-- The evacuation goes on after a commit: the tile settles, and the commands whose slots have moved reply. -/
def moveEnded (s : State) (m : Move) : State :=
  (((s.raise 0x8301 1 (locTile m.tile m.slot 0xFF) 0).dropTurn m.tile m.slot).settleTile m.tile).turnReplies m.tile

theorem carried_moveEnded (hr : rising s.regs = true) (m : Move) :
    Carried (s.raise 0x8301 1 (locTile m.tile m.slot 0xFF) 0) (moveEnded s m) := by
  have hrises : rising (s.raise 0x8301 1 (locTile m.tile m.slot 0xFF) 0).regs = true := by
    rw [(raise_regs_floors (by decide) _ _ _).1]
    exact hr
  exact (Carried.modTurn (.refl hrises)).settleTile.turnReplies

theorem commitMove_eq (s : State) (m : Move) (p : Config.TurnPatch) : ∃ cause, s.commitMove m p =
    (moveEnded (moveNoted ((s.firstCommit m.tile m.spare).carrySlot m p) m p cause) m).cancelMoved m.spare m.slot := ⟨_, rfl⟩

/-- A committed move, when no cancel came during it (R429, R430). -/
theorem commitMove_commits (hc : Canon s) {m : Move} (p : Config.TurnPatch) (hap : m.spare ≠ m.tile)
    (hkept : (s.slot m.tile m.slot).flags.getLsbD 7 = false) :
    (s.commitMove m p).slot m.spare m.slot = { s.slot m.tile m.slot with moving := false } ∧
    (s.commitMove m p).slot m.tile m.slot = .init ∧ ((s.commitMove m p).grav (m.tile / 16)).move = none ∧
    Logs s (s.commitMove m p) 0x8301 (locTile m.tile m.slot 0xFF) ∧
    (s.commitMove m p).reg .TRN_MOVES 0 = min 0xFFFFFFFF (s.reg .TRN_MOVES 0 + 1) := by
  obtain ⟨cause, hcommit⟩ := commitMove_eq s m p
  have hpaid : Carried s (payloadCopied (s.firstCommit m.tile m.spare) m p) := ((Carried.refl hc.regs).firstCommit).payloadCopied m p
  have hcarried := carrySlot_carries (s := s.firstCommit m.tile m.spare) hc.firstCommit.regs m p
  have hcw : Canon ((s.firstCommit m.tile m.spare).carrySlot m p) := hc.firstCommit.carrySlot
  generalize payloadCopied (s.firstCommit m.tile m.spare) m p = v at hpaid hcarried
  generalize (s.firstCommit m.tile m.spare).carrySlot m p = w at hcommit hcarried hcw
  have hplain : (moveNoted w m p cause).raise 0x8301 1 (locTile m.tile m.slot 0xFF) 0 = _ := raiseAt_plain (by decide)
  have hended := carried_moveEnded (s := moveNoted w m p cause)
    (rising_bump (rising_setReg (rising_setFld hcw.regs grvMove (m.tile / 16) 0) _ _ _) _ _) m
  generalize moveEnded (moveNoted w m p cause) m = u at hcommit hended
  have hslots : u.slots = (bankMoved v m).slots := by rw [hended.slots, hplain]; exact hcarried.slots
  have hvs : rising v.slots = true := hpaid.slots ▸ rising_of_twf hc.slots
  have hbank : v.slot m.tile m.slot = s.slot m.tile m.slot := by rw [State.slot, State.slot, hpaid.slots]
  have hspare : u.slot m.spare m.slot = { s.slot m.tile m.slot with moving := false } := by
    rw [State.slot, hslots, ← hbank]
    exact slot_bankMoved_spare hvs (by omega)
  have hleft : u.slot m.tile m.slot = .init := by
    rw [State.slot, hslots]
    exact slot_bankMoved_tile hvs
  have hcommitted : s.commitMove m p = u := by
    rw [hcommit]
    refine if_neg fun h => ?_
    rw [hspare] at h
    exact absurd h.1 (by rw [hkept]; decide)
  rw [hcommitted]
  refine ⟨hspare, hleft, ?_, ?_, ?_⟩
  · have hgrav : u.grav (m.tile / 16) = (moveNoted w m p cause).grav (m.tile / 16) := by rw [State.grav, State.grav, hended.gravs, hplain]
    rw [hgrav]
    exact moveNoted_move (rising_of_twf hcw.gravs) m p cause
  · have hlogs := raise_logs (moveNoted w m p cause) 0x8301 1 (locTile m.tile m.slot 0xFF) 0
    have hbefore : (moveNoted w m p cause).logQ = s.logQ := hcarried.logQ.trans hpaid.logQ
    rw [Logs, hbefore, ← hended.logQ] at hlogs
    exact hlogs
  · have hmoves : w.reg .TRN_MOVES 0 = s.reg .TRN_MOVES 0 := hcarried.moves.trans ((reg_congr (bankMoved_regs v m) _ _).trans hpaid.moves)
    rw [hended.moves, reg_congr (raise_regs_floors (by decide) _ _ _).1, moveNoted_counts hcw.regs, hmoves]

end Sys2Proof
end

section
/-! PROOFS. Evacuations of tiles and the commands about them (R424 to R430, R434), statement O54. -/

namespace Sys2Proof

open Sys2Proof.Machine

set_option Elab.async false

/-- A slot that is being moved, or that a move is bound to. -/
def setMoving (x : SlotSt) : SlotSt := { x with moving := true }

/-- Slot `k` of the tile and of its spare `b` while a move is under way. -/
def bothMoving (s : State) (t b k : Nat) : State := (s.modSlot t k setMoving).modSlot b k setMoving

/-- A floor with a move under way. -/
def withMove (m : Move) (x : GravSt) : GravSt := { x with move := some m }

/-- The state once move `m` is under way. -/
def moveStarted (s : State) (m : Move) : State :=
  ((bothMoving s m.tile m.spare m.slot).modGrav (m.tile / 16) (withMove m)).setFld grvMove (m.tile / 16) 1

theorem modSlot_onlySlots (s : State) (t k : Nat) (g : SlotSt → SlotSt) : ∃ slots, s.modSlot t k g = { s with slots := slots } :=
  ⟨_, rfl⟩

theorem bothMoving_onlySlots (s : State) (t b k : Nat) : ∃ slots, bothMoving s t b k = { s with slots := slots } := by
  obtain ⟨source, hsource⟩ := modSlot_onlySlots s t k setMoving
  rw [bothMoving, hsource]
  exact modSlot_onlySlots { s with slots := source } b k setMoving

theorem moveStarted_frame (s : State) (m : Move) :
    ∃ slots gravs regs, moveStarted s m = { s with slots := slots, gravs := gravs, regs := regs } := by
  obtain ⟨slots, hslots⟩ := bothMoving_onlySlots s m.tile m.spare m.slot
  rw [moveStarted, hslots]
  exact ⟨slots, _, _, rfl⟩

/-- The commands that wait for moves of tile `t`. -/
def movesTile (t : Nat) : CmdWait → Bool
  | .turnMove u _ => u == t
  | _ => false

theorem movesTile_turnMove {t : Nat} {w : CmdWait} (h : movesTile t w = true) : ∃ n, w = .turnMove t n := by
  unfold movesTile at h
  split at h
  next u n => exact ⟨n, by rw [eq_of_beq h]⟩
  next => cases h

section
variable {s : State} {t : TileNo} (hc : Canon s)
include hc

/-! ### TURN_TRIGGER -/

section
variable {cause : Fin 3} (hdue : s.triggerDue t cause = true) (hwork : s.tstate t = 0) (hnone : (s.turn t).evac = none)
include hdue hwork hnone

omit hc hnone in
theorem exec_turnTrigger : exec (.turnTrigger t cause) s = .next (s.evacuate t cause (s.dataSlots t)) := by
  have harm : exec (.turnTrigger t cause) s = execTurnTrigger t cause s := rfl
  rw [harm, execTurnTrigger]
  exact if_pos ⟨hdue, .inl hwork⟩

theorem completes_turnTrigger (hslots : s.dataSlots t ≠ []) {b : Nat} (hspare : s.freeSpareTile (t / 16) = some b) :
    Completes (.turnTrigger t cause) s fun u => u.tstate t = 2 ∧
      ∃ e, (u.turn t).evac = some e ∧ e.spare = b ∧ e.cause = cause ∧ e.since = s.tim.clk ∧ e.left = s.dataSlots t := by
  obtain ⟨-, hstate, hevac⟩ := evacuate_spare hnone hc t.isLt hspare hslots cause (s.dataSlots t)
  exact ⟨_, exec_turnTrigger hdue hwork, hstate, _, hevac, rfl, rfl, rfl, rfl⟩

theorem completes_turnTrigger_noSpare (hspare : s.freeSpareTile (t / 16) = none) : Completes (.turnTrigger t cause) s fun u =>
    u.tstate t = 0 ∧ (u.turn t).evac = none ∧ Logs s u 0x8303 (t / 16) := by
  obtain ⟨hstate, hevac, hlogs⟩ := evacuate_noSpare hnone hc hspare cause (s.dataSlots t)
  exact ⟨_, exec_turnTrigger hdue hwork, hstate.trans hwork, hevac, hlogs⟩

end

/-! ### TURN_MOVE_START and TRN_DEFERRED -/

theorem bothMoving_moving (b k : Nat) : ((bothMoving s t b k).slot t k).moving = true ∧
    ((bothMoving s t b k).slot b k).moving = true := by
  have hs := rising_of_twf hc.slots
  have hsource : ((s.modSlot t k setMoving).slot t k).moving = true := congrArg SlotSt.moving (slot_setSlot hs)
  have hspare : ((bothMoving s t b k).slot b k).moving = true := congrArg SlotSt.moving (slot_setSlot (Machine.rising_tput hs))
  refine ⟨?_, hspare⟩
  by_cases hsame : 8 * t.val + k = 8 * b + k
  · rw [show (t : Nat) = b by omega] at hspare ⊢
    exact hspare
  · exact (congrArg SlotSt.moving (slot_setSlot_apart (Machine.rising_tput hs) hsame _)).trans hsource

section
variable {e : Evac} {k : Nat} {ks : List Nat} (hevac : (s.turn t).evac = some e) (hleft : e.left = k :: ks)
include hevac hleft

theorem completes_turnMoveStart {w : Nat} (hfate : s.moveFate t k e.spare = .start w) : Completes (.turnMoveStart t) s fun u =>
    (u.grav (t / 16)).move = some { tile := t, slot := k, spare := e.spare, start := s.tim.clk, words := w } ∧
    (u.slot t k).moving = true ∧ (u.slot e.spare k).moving = true ∧ u.flag grvMove (t / 16) = true ∧
    u = { s with slots := u.slots, gravs := u.gravs, regs := u.regs } := by
  have hrun : exec (.turnMoveStart t) s =
      .next (moveStarted s { tile := t, slot := k, spare := e.spare, start := s.tim.clk, words := w }) := by
    have harm : exec (.turnMoveStart t) s = execTurnMoveStart t s := rfl
    rw [harm, execTurnMoveStart]
    simp only [hevac, hleft, hfate]
    rfl
  have hset : ((bothMoving s t e.spare k).setFld grvMove (t / 16) 1).flag grvMove (t / 16) = true := by
    rw [State.flag, fld_setFld_self (s := bothMoving s t e.spare k) hc.regs (by decide) (by decide)]
    decide
  obtain ⟨hsource, hspare⟩ := bothMoving_moving hc (t := t) e.spare k
  refine ⟨_, hrun, congrArg GravSt.move (grav_modGrav (s := bothMoving s t e.spare k) (rising_of_twf hc.gravs) (t / 16) (withMove _)),
    hsource, hspare, hset, ?_⟩
  obtain ⟨slots, gravs, regs, hframe⟩ := moveStarted_frame s { tile := t, slot := k, spare := e.spare, start := s.tim.clk, words := w }
  rw [hframe]

theorem completes_trnDeferred (hfate : s.moveFate t k e.spare = .defer) (hstill : (s.slot t k).moving = false) :
    Completes (.trnDeferred t) s fun u =>
      u.slots = s.slots ∧ (e.defd.contains k = false → u.reg .TRN_DEFERS 0 = min 0xFFFFFFFF (s.reg .TRN_DEFERS 0 + 1)) ∧
      (e.late.contains k = false → e.since + s.reg .TRN_DEFMAX 0 * 1000 ≤ s.tim.clk → Logs s u 0x8302 (locTile t k 0xFF)) := by
  have harm : exec (.trnDeferred t) s = execTrnDeferred t s := rfl
  rw [Completes, harm, execTrnDeferred]
  simp only [hevac, hleft]
  rw [if_neg (by rw [hfate, hstill]; decide)]
  generalize hv : (if e.defd.contains k = true then s else s.bump .TRN_DEFERS 0) = v
  have hcounted : v.slots = s.slots ∧ v.logQ = s.logQ ∧ v.tim = s.tim ∧ v.reg .TRN_DEFMAX 0 = s.reg .TRN_DEFMAX 0 ∧
      (e.defd.contains k = false → v.reg .TRN_DEFERS 0 = min 0xFFFFFFFF (s.reg .TRN_DEFERS 0 + 1)) := by
    rw [← hv]
    split
    next hdefd => exact ⟨rfl, rfl, rfl, rfl, fun h => absurd (hdefd.symm.trans h) (by decide)⟩
    next => exact ⟨rfl, rfl, rfl, reg_setReg hc.regs _ _ _ _ _ (by decide), fun _ => reg_bump_self hc.regs _ _⟩
  obtain ⟨hslots, hlogQ, htim, hmax, hdefers⟩ := hcounted
  rw [hmax, htim]
  refine ⟨_, rfl, ?_⟩
  generalize hw : v.modTurn t _ = w
  have hnoted : w.slots = v.slots ∧ w.regs = v.regs ∧ w.logQ = v.logQ := by
    rw [← hw]
    exact ⟨rfl, rfl, rfl⟩
  obtain ⟨hwslots, hwregs, hwlogQ⟩ := hnoted
  have hraised : (w.raise 0x8302 1 (locTile t k 0xFF) 0).slots = w.slots ∧ (w.raise 0x8302 1 (locTile t k 0xFF) 0).regs = w.regs := by
    rw [State.raise, raiseAt_plain (by decide)]
    exact ⟨rfl, rfl⟩
  split
  next hlate =>
    refine ⟨hraised.1.trans (hwslots.trans hslots), fun h => (reg_congr (hraised.2.trans hwregs) _ _).trans (hdefers h), fun _ _ => ?_⟩
    have hlogs := raise_logs w 0x8302 1 (locTile t k 0xFF) 0
    rw [Logs, hwlogQ, hlogQ] at hlogs
    exact hlogs
  next hlate =>
    exact ⟨hwslots.trans hslots, fun h => (reg_congr hwregs _ _).trans (hdefers h), fun hnew hpast =>
      absurd (show _ = true by rw [hnew, decide_eq_true hpast]; rfl) hlate⟩

end

/-! ### TURN_COMMIT -/

theorem completes_turnCommit {m : Move} {p : Config.TurnPatch} (hmove : (s.grav (t / 16)).move = some m) (htile : m.tile = t.val)
    (hap : m.spare ≠ t.val) (hpatch : s.turnPatch m.tile m.slot = some p) (hkept : (s.slot t m.slot).flags.getLsbD 7 = false) :
    Completes (.turnCommit t) s fun u => u.slot m.spare m.slot = { s.slot t m.slot with moving := false } ∧
      u.slot t m.slot = .init ∧ (u.grav (t / 16)).move = none ∧ Logs s u 0x8301 (locTile t m.slot 0xFF) ∧
      u.reg .TRN_MOVES 0 = min 0xFFFFFFFF (s.reg .TRN_MOVES 0 + 1) := by
  have hrun : exec (.turnCommit t) s = .next (s.commitMove m p) := by
    have harm : exec (.turnCommit t) s = execTurnCommit t s := rfl
    rw [harm, execTurnCommit]
    simp only [hmove, hpatch]
    exact if_pos htile
  have hcommits := commitMove_commits hc p (htile ▸ hap) (htile ▸ hkept)
  rw [htile] at hcommits
  exact ⟨_, hrun, hcommits⟩

/-! ### TURN_MOVE -/

section
variable {c : Cmd} {slots timeout : Nat} (ha : Accepted s c 0x8003 (leBytes 2 t ++ leBytes 1 slots ++ leBytes 2 timeout) false)
include ha

omit hc in
theorem exec_turnMove : exec (.turnMove c t slots timeout) s = .next ((s.unfetch c).turnMoveCmd c t slots timeout) := by
  have harm : exec (.turnMove c t slots timeout) s = execTurnMove c t slots timeout s := rfl
  rw [harm, execTurnMove, runCmd_of_accepted ha, if_neg (by omega)]

theorem completes_turnMove (hl : ((s.dataSlots t).filter fun k => slots = 0 ∨ bit slots k) ≠ []) (hwork : s.tstate t = 0)
    (hnone : (s.turn t).evac = none) (hspare : (s.freeSpareTile (t / 16)).isSome = true) :
    Completes (.turnMove c t slots timeout) s fun u => WaitsFor s u c 0x8003 (.turnMove t slots) timeout ∧ u.tstate t = 2 := by
  obtain ⟨b, hb⟩ := Option.isSome_iff_exists.mp hspare
  have hslots : s.dataSlots t ≠ [] := fun h => hl (by rw [h]; rfl)
  obtain ⟨hanswers, hstate, hevac⟩ := evacuate_spare (s := s.unfetch c) hnone hc.unfetch t.isLt hb hslots 2
    ((s.dataSlots t).filter fun k => slots = 0 ∨ bit slots k)
  have hwork' : ¬ ((s.unfetch c).tstate t = 1 ∨ (s.unfetch c).tstate t = 3) := by
    rw [show (s.unfetch c).tstate t = 0 from hwork]
    decide
  have hrun := exec_turnMove ha
  unfold State.turnMoveCmd at hrun
  dsimp only at hrun
  rw [show (s.unfetch c).dataSlots t = s.dataSlots t from rfl, if_neg (not_or.mpr ⟨hl, hwork'⟩), hevac,
    Option.isNone_some, if_neg Bool.false_ne_true] at hrun
  have hawait (v : State) : (v.await c 0x8003 (.turnMove t slots) timeout).tstate t = v.tstate t := by
    refine tstate_congr ?_ t
    unfold State.await State.interim
    split <;> rfl
  exact ⟨_, hrun, WaitsFor.of_answering hanswers ha.here ha.live _ _, (hawait _).trans hstate⟩

omit hc in
theorem completes_turnMove_nothing (hl : ((s.dataSlots t).filter fun k => slots = 0 ∨ bit slots k) = []) :
    Completes (.turnMove c t slots timeout) s fun u => Replies s u c 0x8003 stOk [] ∧ OnlyAnswers s u := by
  have hrun := exec_turnMove ha
  unfold State.turnMoveCmd at hrun
  dsimp only at hrun
  rw [if_pos (.inl hl)] at hrun
  exact ⟨_, hrun, replies_reply (s := s.unfetch c) ha.here ha.live, reply_onlyAnswers ha.here ha.live⟩

end

/-! ### TURN_MOVE_TIMEOUT -/

omit hc in
/-- The first command due is the one that waits for moves of the tile and whose deadline has passed. -/
theorem execTurnMoveTimeout_eq : execTurnMoveTimeout t s =
    match s.cmds.find? fun y => movesTile t y.wait && y.deadline.any fun d => decide (d ≤ s.tim.clk) with
    | none => .next s
    | some x => .next (State.reply { s with cmds := s.cmds.erase x } x.cmd x.op stTimeout []) := rfl

omit hc in
theorem completes_turnMoveTimeout {x : InProg} {n : Nat} (hx : x ∈ s.cmds) (hwait : x.wait = .turnMove t n)
    (hdead : x.deadline.any (· ≤ s.tim.clk) = true) (honly : ∀ y ∈ s.cmds, y ≠ x → ∀ m, y.wait ≠ .turnMove t m)
    (hr : x.cmd.remote = 0) (ho : s.orphans.contains x.cmd = false) :
    Completes (.turnMoveTimeout t) s fun u => u.cmds = s.cmds.erase x ∧ Replies s u x.cmd x.op stTimeout [] ∧ OnlyAnswers s u := by
  have hdue : s.cmds.find? (fun y => movesTile t y.wait && y.deadline.any fun d => decide (d ≤ s.tim.clk)) = some x := by
    cases hfound : s.cmds.find? (fun y => movesTile t y.wait && y.deadline.any fun d => decide (d ≤ s.tim.clk)) with
    | none =>
      have hnot := List.find?_eq_none.mp hfound x hx
      rw [hwait, hdead, Bool.and_true] at hnot
      exact absurd (beq_self_eq_true t.val) hnot
    | some y =>
      by_cases hy : y = x
      · rw [hy]
      · have hmoves := List.find?_some hfound
        rw [Bool.and_eq_true] at hmoves
        obtain ⟨m, hm⟩ := movesTile_turnMove hmoves.1
        exact absurd hm (honly y (List.mem_of_find?_eq_some hfound) hy m)
  have hrun : exec (.turnMoveTimeout t) s = .next (State.reply { s with cmds := s.cmds.erase x } x.cmd x.op stTimeout []) := by
    have harm : exec (.turnMoveTimeout t) s = execTurnMoveTimeout t s := rfl
    rw [harm, execTurnMoveTimeout_eq, hdue]
  rw [reply_live (s := { s with cmds := s.cmds.erase x }) hr ho] at hrun
  exact ⟨_, hrun, rfl, rfl, rfl⟩

/-! ### TURN_RETURN -/

/-- A RETIRED tile that passed is no longer named in MLOSS. -/
theorem mloss_cleared (f j : Nat) : bit ((s.setFld klnMloss f (putBits (s.fld klnMloss f) j j 0)).fld klnMloss f) j = false := by
  rw [fld_setFld_self hc.regs (by decide) (by decide), bit_eq_testBit, show klnMloss.hi + 1 - klnMloss.lo = 16 from rfl,
    Nat.testBit_mod_two_pow, testBit_putBits le_rfl, if_neg (by omega), if_pos le_rfl, Nat.zero_testBit, Bool.and_false]

section
variable {c : Cmd} {pass : Bool} (ha : Accepted s c 0x8004 (leBytes 2 t) false)
include ha

omit hc in
theorem exec_turnReturn : exec (.turnReturn c t pass) s = .next ((s.unfetch c).turnReturnCmd c t pass) := by
  have harm : exec (.turnReturn c t pass) s = execTurnReturn c t pass s := rfl
  rw [harm, execTurnReturn, runCmd_of_accepted ha, if_neg (by omega)]

omit hc in
theorem completes_turnReturn_work (hwork : s.tstate t = 0) : Completes (.turnReturn c t pass) s fun u =>
    Replies s u c 0x8004 stBusy [] ∧ OnlyAnswers s u := by
  have hrun := exec_turnReturn (pass := pass) ha
  unfold State.turnReturnCmd at hrun
  dsimp only at hrun
  rw [if_pos (.inr hwork)] at hrun
  exact ⟨_, hrun, replies_reply (s := s.unfetch c) ha.here ha.live, reply_onlyAnswers ha.here ha.live⟩

omit hc in
theorem completes_turnReturn_fails (hempty : s.dataSlots t = []) (hretired : s.tstate t = 3) (hfails : pass = false) :
    Completes (.turnReturn c t pass) s fun u => Replies s u c 0x8004 stFault [] ∧ OnlyAnswers s u := by
  have hretired' : (s.unfetch c).tstate t = 3 := hretired
  have hidle : ¬ ((s.unfetch c).dataSlots t ≠ [] ∨ (s.unfetch c).tstate t = 0) := by
    rw [hretired']
    exact not_or.mpr ⟨not_not.mpr hempty, by decide⟩
  have hrun := exec_turnReturn (pass := pass) ha
  unfold State.turnReturnCmd at hrun
  dsimp only at hrun
  rw [if_neg hidle, if_pos ⟨hretired', by rw [hfails]; rfl⟩] at hrun
  exact ⟨_, hrun, replies_reply (s := s.unfetch c) ha.here ha.live, reply_onlyAnswers ha.here ha.live⟩

theorem completes_turnReturn (hempty : s.dataSlots t = []) (hs : s.tstate t = 1 ∨ s.tstate t = 2 ∨ (s.tstate t = 3 ∧ pass = true)) :
    Completes (.turnReturn c t pass) s fun u => Replies s u c 0x8004 stOk [] ∧ u.tstate t = 1 ∧ (u.turn t).evac = none ∧
      (s.tstate t = 3 → bit (u.fld klnMloss (t / 16)) (t % 16) = false) := by
  have hidle : ¬ ((s.unfetch c).dataSlots t ≠ [] ∨ (s.unfetch c).tstate t = 0) := by
    rintro (h | h)
    · exact h hempty
    · rw [show (s.unfetch c).tstate t = s.tstate t from rfl] at h
      omega
  have hpasses : ¬ ((s.unfetch c).tstate t = 3 ∧ (!pass) = true) := by
    rintro ⟨h, hfails⟩
    rcases hs with h' | h' | ⟨-, h'⟩
    · exact absurd (h'.symm.trans h) (by decide)
    · exact absurd (h'.symm.trans h) (by decide)
    · rw [h'] at hfails
      cases hfails
  have hrun := exec_turnReturn (pass := pass) ha
  unfold State.turnReturnCmd at hrun
  dsimp only at hrun
  rw [if_neg hidle, if_neg hpasses] at hrun
  generalize hv : (if (s.unfetch c).tstate t = 3 then _ else s.unfetch c : State) = v at hrun
  have hcleared : Canon v ∧ answering v = answering s ∧ (s.tstate t = 3 → bit (v.fld klnMloss (t / 16)) (t % 16) = false) := by
    rw [← hv]
    split
    next => exact ⟨hc.unfetch.setFld, rfl, fun _ => mloss_cleared (s := s.unfetch c) hc.unfetch _ _⟩
    next hother => exact ⟨hc.unfetch, rfl, fun h => absurd h hother⟩
  obtain ⟨hcv, hanswers, hmloss⟩ := hcleared
  have hfld : (v.setTstate t 1).fld klnMloss (t / 16) = v.fld klnMloss (t / 16) := by
    have hne : Reg.KLN_FLOOR.addr (t / 16) ≠ Reg.TRN_FLOOR.addr (t / 16) := by
      have hkln : Reg.KLN_FLOOR.addr (t / 16) = 0x400070100 + t / 16 / 32 * 0x100000000 + t / 16 % 32 * 8 := rfl
      have htrn : Reg.TRN_FLOOR.addr (t / 16) = 0x400080100 + t / 16 / 32 * 0x100000000 + t / 16 % 32 * 8 := rfl
      omega
    rw [State.fld, State.fld, State.setTstate]
    exact congrArg (bits · _ _) (reg_setReg hcv.regs _ _ _ _ _ hne)
  generalize hw : ((v.setTstate t 1).modTurn t fun x => { x with evac := none }) = w at hrun
  have hspare : answering w = answering s ∧ w.tstate t = 1 ∧ (w.turn t).evac = none ∧
      w.fld klnMloss (t / 16) = v.fld klnMloss (t / 16) := by
    rw [← hw]
    exact ⟨hanswers, (tstate_congr rfl t).trans (tstate_setTstate hcv.regs t (by decide)),
      congrArg TurnSt.evac (turn_modTurn (s := v.setTstate t 1) (rising_of_twf hcv.turns) t _), hfld⟩
  obtain ⟨htold, hstate, hevac, hsame⟩ := hspare
  have hreply : (w.reply c 0x8004 stOk []).regs = w.regs ∧ (w.reply c 0x8004 stOk []).turns = w.turns := by
    rcases reply_cases w c 0x8004 stOk [] with h | ⟨-, h⟩ | ⟨-, h⟩ <;> rw [h] <;> exact ⟨rfl, rfl⟩
  refine ⟨_, hrun, Replies.of_answering htold ha.here ha.live _ _, (tstate_congr hreply.1 t).trans hstate, ?_, fun h => ?_⟩
  · rw [State.turn, hreply.2]
    exact hevac
  · rw [fld_congr hreply.1, hsame]
    exact hmloss h

end

end

/-- Settles O54: an evacuation starts with a free spare or is reported, its moves start, are deferred and are committed one by one,
and TURN_MOVE and TURN_RETURN answer by the state of the tile. -/
theorem tilesTurn : Obligations.TilesTurn := by
  intro s t hc
  refine ⟨fun cause hdue hwork hnone hslots => ⟨fun b => ?_, ?_⟩, fun e k ks hevac hleft => ⟨fun w => ?_, ?_⟩, ?_,
    fun c slots timeout ha => ⟨?_, ?_⟩, ?_, fun c pass ha => ⟨?_, ?_, ?_⟩⟩
  · exact completes_turnTrigger hc hdue hwork hnone hslots
  · exact completes_turnTrigger_noSpare hc hdue hwork hnone
  · exact completes_turnMoveStart hc hevac hleft
  · exact completes_trnDeferred hc hevac hleft
  · exact fun m p hmove htile _ hap _ => completes_turnCommit hc hmove htile hap
  · exact completes_turnMove hc ha
  · exact completes_turnMove_nothing ha
  · exact fun x n => completes_turnMoveTimeout
  · exact completes_turnReturn hc ha
  · exact completes_turnReturn_work ha
  · exact completes_turnReturn_fails ha

end Sys2Proof
end

section
/-! PROOFS. CMDPATH_LOCK_TIMEOUT of an item that is staged (R249, R214): its truncation word is staged too. The counterexample rests on
`Canon`, which does not tie the flow entry that an item is staged for to the producer that holds the lock. -/

namespace Sys2Proof

open Sys2Proof.Machine

set_option Elab.async false

/-- The command path holds the input lock of queue 5 since long ago, and the item that it has open is staged for flow entry 4. -/
def lockedStaged5 : State := Tests.locked5.modQueue 5 fun x => { x with fl := some 4 }

theorem lockedStaged5_canon : Canon lockedStaged5 := canon_of (by decide +kernel)

/-- The time is up, nothing skips, waits or drops and the queue has room; no word of the queue is a truncation word afterwards. -/
theorem lockedStaged5_times_out :
    (lockedStaged5.queue (5 : QueueNo)).ilock = some (.cmdPath 0) ∧
    (lockedStaged5.queue (5 : QueueNo)).lastAcc + 1000000 ≤ lockedStaged5.tim.dev ∧
    (lockedStaged5.queue (5 : QueueNo)).skip = false ∧ (lockedStaged5.queue (5 : QueueNo)).truncWait = false ∧
    (lockedStaged5.queue (5 : QueueNo)).dropping = false ∧ lockedStaged5.qFull (5 : QueueNo) = false ∧
    Tests.nextIs (.cmdpathLockTimeout 5) lockedStaged5
      (fun u => decide (∀ e ∈ (u.queue (5 : QueueNo)).words, u.entWord (5 : QueueNo) e ≠ mkWord 0#32 false true true)) = true := by
  decide +kernel

/-- Refutes O31: CMDPATH_LOCK_TIMEOUT is said to put a truncation word among the words of the queue, with no premise that the open
item is visible. That of an item staged for a flow entry is staged with it (R214), so no consumer sees it. -/
theorem not_queueEngineSteps : ¬ Obligations.QueueEngineSteps := by
  unfold Obligations.QueueEngineSteps
  intro h
  obtain ⟨-, -, -, -, htimeout⟩ := h lockedStaged5 5 lockedStaged5_canon
  obtain ⟨hlock, htime, hskip, hwait, hdrop, hroom, hnone⟩ := lockedStaged5_times_out
  obtain ⟨u, hu, -, -, e, hmem, hword, -⟩ := htimeout 0 hlock htime hskip hwait hdrop hroom
  have hother : ∀ e ∈ (u.queue (5 : QueueNo)).words, u.entWord (5 : QueueNo) e ≠ mkWord 0#32 false true true :=
    of_decide_eq_true (exec_of_nextIs hnone hu)
  exact hother e hmem hword

end Sys2Proof
end

section
/-! PROOFS. The queue engine and the rest of the device (R226 to R255): what a word stored, taken, dropped or flushed leaves alone. -/

namespace Sys2Proof

open Sys2Proof.Machine

set_option Elab.async false

/-- The state beside what the queue engine changes: registers, raise-once marks, pool words, queues, and the records that wait. -/
def beside (s : State) : State := { s with regs := [], once := [], pool := [], queues := [], logQ := [] }

section
variable {s : State} (q : Nat)

@[simp] theorem beside_setReg (r : Reg) (i v : Nat) : beside (s.setReg r i v) = beside s := rfl

@[simp] theorem beside_setFld (f : Fld) (i v : Nat) : beside (s.setFld f i v) = beside s := rfl

@[simp] theorem beside_bump (r : Reg) (i : Nat) : beside (s.bump r i) = beside s := rfl

@[simp] theorem beside_bumpBy (r : Reg) (i n : Nat) : beside (s.bumpBy r i n) = beside s := rfl

@[simp] theorem beside_bumpFld (f : Fld) (i : Nat) : beside (s.bumpFld f i) = beside s := rfl

@[simp] theorem beside_setQueue (x : Queue) : beside (s.setQueue q x) = beside s := rfl

@[simp] theorem beside_setPool (f i : Nat) (w : QWord) : beside (s.setPool f i w) = beside s := rfl

theorem beside_raise {code : Nat} (hc : faultBit code = 0) (sclass loc data : Nat) :
    beside (s.raise code sclass loc data) = beside s := by
  rw [State.raise, raiseAt_plain hc]
  rfl

@[simp] theorem beside_frameErr : beside (s.frameErr q) = beside s := by
  unfold State.frameErr State.raiseOnceK
  simp only [apply_ite beside, beside_bump]
  rw [beside_raise (by decide)]
  exact ite_self _

@[simp] theorem beside_qEval : beside (s.qEval q) = beside s := by
  unfold State.qEval
  simp only [apply_ite beside, beside_raise (show faultBit 0x2101 = 0 by decide), beside_bumpFld, beside_setFld, ite_self]

@[simp] theorem beside_swap : beside (s.swap q) = beside s := rfl

@[simp] theorem beside_storeWord (a : Agent) (fl : Option Nat) (w : QWord) : beside (s.storeWord q a fl w) = beside s := by
  unfold State.storeWord
  simp [apply_ite beside]

@[simp] theorem beside_settleLate : beside (s.settleLate q) = beside s := by
  unfold State.settleLate
  simp [apply_ite beside]

@[simp] theorem beside_truncate : beside (s.truncate q) = beside s := by
  unfold State.truncate
  dsimp only
  split
  · rfl
  · simp [apply_ite beside]

@[simp] theorem beside_pushWord (a : Agent) (fl : Option Nat) (data : Word) (sop eop psn : Bool) :
    beside (s.pushWord q a fl data sop eop psn).2 = beside s := by
  unfold State.pushWord
  simp [apply_ite beside, apply_ite Prod.snd]

@[simp] theorem beside_pushWords (a : Agent) (l : List (Word × Byte)) : beside (s.pushWords q a l).2 = beside s := by
  induction l generalizing s with
  | nil => rfl
  | cons x l ih =>
    rw [State.pushWords]
    simp [apply_ite beside, apply_ite Prod.snd, ih]

@[simp] theorem beside_dropItem : beside (s.dropItem q) = beside s := by simp [dropItem_eq]

/-- A word taken from a queue. -/
theorem beside_popWord {a : Agent} {w : QWord} {u : State} (h : s.popWord q a = some (w, u)) : beside u = beside s := by
  have hread (pos : Nat) : beside (s.readPool q pos).2 = beside s := by
    unfold State.readPool
    simp [apply_ite beside, apply_ite Prod.snd, beside_raise (show faultBit 0x2201 = 0 by decide)]
  unfold State.popWord at h
  split at h
  · split at h
    · cases h
    · dsimp only at h
      obtain ⟨-, rfl⟩ := Prod.mk.inj (Option.some.inj h)
      simp [hread]
  · cases h

@[simp] theorem beside_poisonAll : beside (s.poisonAll q) = beside s := by
  refine List.foldlRecOn (motive := fun u => beside u = beside s) _ _ rfl fun u hu e _ => ?_
  exact (beside_setPool _ _ _).trans hu

@[simp] theorem beside_abortQueue : beside (s.abortQueue q) = beside s := by
  unfold State.abortQueue
  simp [apply_ite beside]

@[simp] theorem beside_flush : beside (s.flush q).2 = beside s := by
  unfold State.flush
  dsimp only
  split <;> simp

end

section
variable {s u : State} (h : beside u = beside s)
include h

theorem net_of_beside : u.net = s.net := (congrArg State.net h :)

theorem floors_of_beside : u.floors = s.floors := (congrArg State.floors h :)

theorem answering_of_beside : answering u = answering s := (congrArg answering h :)

end

end Sys2Proof
end

section
/-! PROOFS. What a flush and an ABORT do to the words of a queue (R246, R255), and where a queue's STATE stays. -/

namespace Sys2Proof

open Sys2Proof.Machine

set_option Elab.async false

section
variable {s : State} {q : Nat}

/-! ### STATE -/

/-- The watermarks leave STATE. -/
theorem fld_queState_qEval (hr : rising s.regs = true) : (s.qEval q).fld queState q = s.fld queState q := by
  have hwmev : Reg.addr .QUE_STATUS q ≠ Reg.addr .QUE_WMEV q := by
    simp only [Reg.addr, Reg.info]
    omega
  have hset (v : Nat) : (((s.setFld queAbove q v).setFld queCrossed q 1).bumpFld queCnt q).fld queState q = s.fld queState q := by
    refine Eq.trans (congrArg (bits · 31 30) ?_)
      (fld_setFld_apart hr queAbove queState rfl (by decide) (by decide) (by decide) q v)
    exact (reg_setFld_other (rising_setFld (rising_setFld hr _ _ _) _ _ _) hwmev _).trans
      (reg_setFld_other (rising_setFld hr _ _ _) hwmev _)
  unfold State.qEval
  extract_lets lvl h l old new crossed
  clear_value new
  split
  · rfl
  · split
    · rw [fld_congr (raise_regs_floors (by decide) ..).1]
      exact hset _
    · exact hset _

/-- The watermarks leave the queues and the pool. -/
theorem qEval_queues_pool (s : State) (q : Nat) : (s.qEval q).queues = s.queues ∧ (s.qEval q).pool = s.pool := by
  obtain ⟨regs, logQ, heval⟩ := onlyRegsLogs_qEval s q
  rw [heval]
  exact ⟨rfl, rfl⟩

theorem queue_congr {u : State} (h : u.queues = s.queues) (q : Nat) : u.queue q = s.queue q := by rw [State.queue, State.queue, h]

theorem qDraining_setFld (hr : rising s.regs = true) : (s.setFld queState q 2).qDraining q = true :=
  decide_eq_true (fld_setFld_self (f := queState) hr (by decide) (by decide) q 2)

/-! ### A flush (R246) -/

/-- A flush leaves no word but the truncation word that an open item of a consumer needs. -/
theorem flush_flushes (hc : Canon s) : (s.flush q).1 = (s.queue q).level ∧ ((s.flush q).2.queue q).level ≤ 1 ∧
    (s.flush q).2.reg .QUE_DROP_WORDS (q / 512) = min 0xFFFFFFFF (s.reg .QUE_DROP_WORDS (q / 512) + (s.queue q).level) := by
  have hqueues := rising_of_twf hc.queues
  have hcount : (s.bumpBy .QUE_DROP_WORDS (q / 512) (s.queue q).level).reg .QUE_DROP_WORDS (q / 512) =
      min 0xFFFFFFFF (s.reg .QUE_DROP_WORDS (q / 512) + (s.queue q).level) :=
    (reg_setReg_self hc.regs ..).trans (Nat.mod_eq_of_lt (by omega))
  unfold State.flush
  extract_lets x n counted needTrunc skip emptied base pooled flushed
  have hnone : (emptied.queue q).level = 0 := by
    rw [show emptied.queue q = _ from (queue_setQueue hqueues q _ q).trans (if_pos rfl)]
    rfl
  have hregs : flushed.regs = counted.regs := by
    unfold flushed
    split <;> rfl
  have hlevel : (flushed.queue q).level ≤ 1 := by
    unfold flushed
    split
    next a _ _ =>
      have hone := level_setDrain (pooled.queue q) [{ pos := base, prod := a, credited := true }]
      have hsame : (pooled.queue q).level = (emptied.queue q).level := rfl
      rw [State.modQueue, queue_setQueue (show rising pooled.queues = true from rising_tput hqueues), if_pos rfl]
      rw [List.length_singleton] at hone
      omega
    next => omega
  refine ⟨rfl, ?_, ?_⟩
  · rw [queue_congr (qEval_queues_pool flushed q).1]
    exact hlevel
  · rw [reg_dropWords_qEval (hregs ▸ rising_setReg hc.regs ..), reg_congr hregs]
    exact hcount

/-! ### Words poisoned (R255) -/

/-- A word poisoned, its parity kept valid or invalid as it was. -/
def poisonWord (w : QWord) : QWord := { w with psn := true, par := if w.psn then w.par else !w.par }

/-- The words of these entries poisoned. -/
def poisonEntries (f : Nat) (s : State) (l : List Ent) : State :=
  l.foldl (fun s e => s.setPool f e.pos (poisonWord (s.poolWord f e.pos))) s

theorem poisonAll_eq (s : State) (q : Nat) : s.poisonAll q = poisonEntries (q / 512) s (s.queue q).all := rfl

theorem poisonEntries_frame (f : Nat) (l : List Ent) (s : State) : ∃ pool, poisonEntries f s l = { s with pool := pool } := by
  induction l generalizing s with
  | nil => exact ⟨_, rfl⟩
  | cons e l ih =>
    obtain ⟨pool, h⟩ := ih (s.setPool f e.pos (poisonWord (s.poolWord f e.pos)))
    exact ⟨pool, h⟩

/-- A word that is poisoned, or that one of the entries names, is poisoned afterwards. -/
theorem psn_poisonEntries {f i : Nat} {l : List Ent} (hr : rising s.pool = true)
    (h : (s.poolWord f i).psn = true ∨ ∃ e ∈ l, e.pos = i) : ((poisonEntries f s l).poolWord f i).psn = true := by
  induction l generalizing s with
  | nil => simpa [poisonEntries] using h
  | cons e l ih =>
    refine ih (rising_tput hr) ?_
    rw [poolWord_setPool hr]
    split
    · left
      rw [decodeWord_encodeWord]
      rfl
    next hne =>
      rcases h with h | ⟨d, hd, rfl⟩
      · exact .inl h
      · exact .inr ⟨d, (List.mem_cons.mp hd).resolve_left (by rintro rfl; exact hne rfl), rfl⟩

theorem words_subset_all (x : Queue) : x.words ⊆ x.all := by
  intro e
  cases hx : x.fill1 <;> simp [Queue.words, Queue.tail, Queue.drain, Queue.fill, Queue.all, hx] <;> tauto

/-- With no item open, an ABORT lets the queue drain, its words poisoned. -/
theorem abortQueue_poisons (hc : Canon s) (hlock : (s.queue q).ilock = none) : (s.abortQueue q).qDraining q = true ∧
    ∀ e ∈ (s.queue q).words, ((s.abortQueue q).entWord q e).psn = true := by
  obtain ⟨pool, hpool⟩ := poisonEntries_frame (q / 512) (s.queue q).all s
  have hcp : Canon (s.poisonAll q) := hc.poisonAll
  have habort : s.abortQueue q = ((s.poisonAll q).setFld queState q 2).qEval q := by
    have hunlocked : (((s.poisonAll q).setFld queState q 2).queue q).ilock = none := by
      rw [poisonAll_eq, hpool]
      exact hlock
    unfold State.abortQueue
    dsimp only
    rw [if_neg fun h => absurd h.1 (by rw [hunlocked]; decide)]
  rw [habort]
  refine ⟨?_, fun e he => ?_⟩
  · rw [State.qDraining, fld_queState_qEval (rising_setFld hcp.regs ..)]
    exact qDraining_setFld hcp.regs
  · have hword : (((s.poisonAll q).setFld queState q 2).qEval q).entWord q e = (s.poisonAll q).entWord q e :=
      congrArg (fun m => decodeWord (tget 0#36 m (poolKey (q / 512) e.pos))) (qEval_queues_pool _ q).2
    rw [hword]
    exact psn_poisonEntries (rising_of_twf hc.pool) (.inr ⟨e, words_subset_all _ he, rfl⟩)

end

end Sys2Proof
end

section
/-! PROOFS. Queue commands (R242, R243, R246, R255, R259): each by what it does to its queue, with its reply beside it. -/

namespace Sys2Proof

open Sys2Proof.Machine

set_option Elab.async false

/-! ### Words pushed and popped in a row -/

section
variable {s : State} {q : Nat} {a : Agent}

/-- A word is stored wherever the queue has the same words and level and the pool is the same. -/
theorem Stored.of_words {u v : State} {w : QWord} (h : Stored s u q w) (hwords : (v.queue q).words = (u.queue q).words)
    (hlevel : (v.queue q).level = (u.queue q).level) (hpool : v.pool = u.pool) : Stored s v q w := by
  have hword (e : Ent) : v.entWord q e = u.entWord q e := congrArg (fun m => decodeWord (tget 0#36 m (poolKey (q / 512) e.pos))) hpool
  obtain ⟨hone, e, hmem, hentry, hlast⟩ := h
  exact ⟨hlevel.trans hone, e, hwords ▸ hmem, (hword e).trans hentry, hwords ▸ hlast⟩

/-- The time of an accepted word is no part of the words. -/
theorem Stored.stamp {u : State} {w : QWord} (h : Stored s u q w) (hr : rising u.queues = true) (n : Nat) :
    Stored s (u.modQueue q fun x => { x with lastAcc := n }) q w := by
  have hqueue := (queue_setQueue hr q { u.queue q with lastAcc := n } q).trans (if_pos rfl)
  exact h.of_words (congrArg Queue.words hqueue :) (congrArg Queue.level hqueue :) rfl

/-- A command that ends in the reply of a live command leaves beside it what its own effect has left. -/
theorem completes_replies {i : Instr} {v : State} {c : Cmd} {op status : Nat} {data : List Byte} {P : State → Prop}
    (hrun : exec i s = .next (v.reply c op status data)) (hanswers : answering v = answering s) (hr : c.remote = 0)
    (ho : s.orphans.contains c = false)
    (hP : ∀ replies, Replies s { v with replies := replies } c op status data → P { v with replies := replies }) :
    Completes i s fun u => Replies s u c op status data ∧ P u := by
  have hreplies := Replies.of_answering (op := op) hanswers hr ho status data
  rw [← show v.orphans = s.orphans from congrArg (fun x => x.2.1) hanswers] at ho
  rw [reply_live hr ho] at hrun hreplies
  exact ⟨_, hrun, hreplies, hP _ hreplies⟩

/-- One word that opens an item, pushed by itself. -/
theorem pushWords_singleton (hc : Canon s) (h : CanPush s q) {w : Word} {tag : Byte} (hsop : tag.getLsbD 0 = true) :
    (s.pushWords q a [(w, tag)]).1 = 1 ∧
    Stored s (s.pushWords q a [(w, tag)]).2 q (mkWord w true (tag.getLsbD 1) (tag.getLsbD 2)) ∧
    rising (s.pushWords q a [(w, tag)]).2.queues = true := by
  obtain ⟨u, hpush, hstored, -⟩ := stored_pushWord hc h a w (tag.getLsbD 1) (tag.getLsbD 2)
  have hrise : rising (s.pushWords q a [(w, tag)]).2.queues = true := rising_of_twf hc.pushWords.queues
  have hone : s.pushWords q a [(w, tag)] = (1, u) := by
    simp only [State.pushWords, hsop, hpush, if_true]
  rw [hone] at hrise ⊢
  exact ⟨rfl, hstored, hrise⟩

theorem popWord_of_not_poppable (h : s.poppable q a = false) : s.popWord q a = none := by
  rw [State.popWord, h]
  rfl

/-- One sound word, popped by itself. -/
theorem popWords_one (hc : Canon s) {w : QWord} (h : CanPop s q a w) :
    ∃ u, s.popWords q a 1 = ([w], u) ∧ beside u = beside s ∧ (u.queue q).drain = (s.queue q).drain.tail := by
  obtain ⟨u, hpop, -, hdrain⟩ := popWord_takes hc h
  refine ⟨u, ?_, beside_popWord q hpop, hdrain⟩
  rw [State.popWords, hpop]
  dsimp only
  split <;> rfl

theorem popWords_of_not_poppable (h : s.poppable q a = false) (n : Nat) : s.popWords q a n = ([], s) := by
  cases n with
  | zero => rfl
  | succ n => rw [State.popWords, popWord_of_not_poppable h]

theorem dropBy_of_unlocked (h : (s.queue q).olock ≠ some a) : s.dropBy q a = s := by
  rw [State.dropBy, if_neg fun hl => h hl.1]

theorem dropBy_of_locked (h : (s.queue q).olock = some a) (hd : (s.queue q).dropping = false) : s.dropBy q a = s.dropItem q := by
  rw [State.dropBy, if_pos ⟨h, by rw [hd]; rfl⟩]

/-- A command that waits leaves the registers. -/
theorem await_regs (c : Cmd) (op : Nat) (w : CmdWait) (timeout : Nat) : (s.await c op w timeout).fld = s.fld := by
  refine fld_congr ?_
  unfold State.await State.interim
  split <;> rfl

end

/-! ### The commands -/

section
variable {s : State} {c : Cmd} {q : Nat} (hq : q ≤ 16383) (hown : s.cmdOwns c 1 q = true) (hopen : s.floorOpen (q / 512) = true)
include hq hown hopen

/-- A queue command that passes its checks has its own effect. -/
theorem queueCmd_unfetch (op : Nat) (body : State → State) : (s.unfetch c).queueCmd c op q body = body (s.unfetch c) := by
  have hown' : (s.unfetch c).cmdOwns c 1 q = true := hown
  rw [State.queueCmd, if_neg (Nat.not_lt.mpr hq), if_neg (by simp [hown']), if_neg (not_domainOff_unfetch hopen)]

theorem runCmd_queueCmd {op : Nat} {params : List Byte} (ha : Accepted s c op params true) (body : State → State) :
    s.runCmd c op params true (fun s => s.queueCmd c op q body) = body (s.unfetch c) :=
  (runCmd_of_accepted ha).trans (queueCmd_unfetch hq hown hopen op body)

/-! #### QUEUE_PUSH -/

section
variable {words : List Word} {tags : List Byte} (hlow : 1 ≤ words.length) (hhigh : words.length ≤ 200)
  (htags : tags.length = words.length) (ha : Accepted s c 0x3001 (pushParams q words tags) true)
include hlow hhigh htags ha

theorem exec_queuePush : exec (.queuePush c q words tags) s = .next ((s.unfetch c).queuePushCmd c q (words.zip tags)) := by
  have harm : exec (.queuePush c q words tags) s = execQueuePush c q words tags s := rfl
  rw [harm, execQueuePush, runCmd_of_accepted ha, if_neg (by omega), queueCmd_unfetch hq hown hopen]

theorem completes_queuePush (hc : Canon s) (hnew : s.noNewItem q (.cmdPath c.view) = false) :
    Completes (.queuePush c q words tags) s fun u =>
      Replies s u c 0x3001 stOk (leBytes 2 ((s.unfetch c).pushWords q (.cmdPath c.view) (words.zip tags)).1) ∧
      ∀ w tag, words = [w] → tags = [tag] → tag.getLsbD 0 = true → CanPush s q →
        Replies s u c 0x3001 stOk [1#8, 0#8] ∧ Stored s u q (mkWord w true (tag.getLsbD 1) (tag.getLsbD 2)) := by
  have hnew' : ¬ (s.unfetch c).noNewItem q (.cmdPath c.view) = true := by
    rw [show (s.unfetch c).noNewItem q (.cmdPath c.view) = false from hnew]
    decide
  have hrun := exec_queuePush hq hown hopen hlow hhigh htags ha
  rw [State.queuePushCmd, if_neg hnew'] at hrun
  dsimp only at hrun
  generalize hv : (if ((s.unfetch c).pushWords q (.cmdPath c.view) (words.zip tags)).1 = 0 then _ else _ : State) = v at hrun
  have hanswers : answering v = answering s := by
    refine answering_of_beside (s := s.unfetch c) ?_
    rw [← hv]
    simp [apply_ite beside]
  refine completes_replies hrun hanswers ha.here ha.live fun replies hreplies => ?_
  rintro w tag rfl rfl hsop hpush
  obtain ⟨hone, hstored, hrise⟩ :=
    pushWords_singleton (hc.unfetch (c := c)) (a := .cmdPath c.view) (w := w) { hpush with } hsop
  rw [show [w].zip [tag] = [(w, tag)] from rfl, hone] at hv hreplies
  rw [if_neg (by decide)] at hv
  have hstamped : Stored s v q _ := hv ▸ hstored.stamp hrise _
  exact ⟨hreplies, hstamped.congr rfl rfl⟩

theorem completes_queuePush_busy (hnew : s.noNewItem q (.cmdPath c.view) = true) : Completes (.queuePush c q words tags) s fun u =>
    Replies s u c 0x3001 stBusy [] ∧ OnlyAnswers s u := by
  have hrun := exec_queuePush hq hown hopen hlow hhigh htags ha
  have hnew' : (s.unfetch c).noNewItem q (.cmdPath c.view) = true := hnew
  rw [State.queuePushCmd, if_pos hnew'] at hrun
  exact ⟨_, hrun, replies_reply (s := s.unfetch c) ha.here ha.live, reply_onlyAnswers ha.here ha.live⟩

end

/-! #### QUEUE_POP -/

section
variable {n : Nat} (ha : Accepted s c 0x3002 (leBytes 2 q ++ leBytes 1 n) true)
include ha

theorem exec_queuePop (hlow : 1 ≤ n) (hhigh : n ≤ 200) : exec (.queuePop c q n) s = .next ((s.unfetch c).queuePopCmd c q n) := by
  have harm : exec (.queuePop c q n) s = execQueuePop c q n s := rfl
  rw [harm, execQueuePop, runCmd_of_accepted ha, if_neg (by omega), queueCmd_unfetch hq hown hopen]

theorem completes_queuePop (hc : Canon s) {w : QWord} (hn : n = 1) (hpop : CanPop s q (.cmdPath c.view) w) :
    Completes (.queuePop c q n) s fun u =>
      Replies s u c 0x3002 stOk ([1#8, 0#8] ++ leBytes 4 w.data.toNat ++
        [BitVec.ofNat 8 (b2n w.sop + 2 * b2n w.eop + 4 * b2n w.psn)]) ∧ (u.queue q).drain = (s.queue q).drain.tail := by
  subst hn
  have hrun := exec_queuePop hq hown hopen ha le_rfl (by decide)
  obtain ⟨v, hwords, hbeside, hdrain⟩ := popWords_one (hc.unfetch (c := c)) { hpop with }
  have hanswers : answering v = answering s := answering_of_beside (s := s.unfetch c) hbeside
  have hpopped : (s.unfetch c).queuePopCmd c q 1 = v.reply c 0x3002 stOk ([1#8, 0#8] ++ leBytes 4 w.data.toNat ++
      [BitVec.ofNat 8 (b2n w.sop + 2 * b2n w.eop + 4 * b2n w.psn)]) := by
    rw [State.queuePopCmd, hwords]
    simp [leBytes, tagByte]
  exact completes_replies (hrun.trans (congrArg _ hpopped)) hanswers ha.here ha.live fun _ _ => hdrain

theorem completes_queuePop_empty (hlow : 1 ≤ n) (hhigh : n ≤ 200) (hnone : s.poppable q (.cmdPath c.view) = false) :
    Completes (.queuePop c q n) s fun u => Replies s u c 0x3002 stEmptyRd [] ∧ OnlyAnswers s u := by
  have hrun := exec_queuePop hq hown hopen ha hlow hhigh
  rw [State.queuePopCmd, popWords_of_not_poppable (s := s.unfetch c) hnone] at hrun
  exact ⟨_, hrun, replies_reply (s := s.unfetch c) ha.here ha.live, reply_onlyAnswers ha.here ha.live⟩

end

/-! #### QUEUE_DROP, QUEUE_FLUSH and QUEUE_STATUS -/

section
variable (ha : Accepted s c 0x3003 (leBytes 2 q) true)
include ha

theorem exec_queueDrop : exec (.queueDrop c q) s = .next (((s.unfetch c).dropBy q (.cmdPath c.view)).reply c 0x3003 stOk []) := by
  have harm : exec (.queueDrop c q) s = execQueueDrop c q s := rfl
  rw [harm, execQueueDrop, runCmd_queueCmd hq hown hopen ha]

theorem completes_queueDrop_unlocked (hlock : (s.queue q).olock ≠ some (.cmdPath c.view)) : Completes (.queueDrop c q) s fun u =>
    Replies s u c 0x3003 stOk [] ∧ OnlyAnswers s u := by
  have hrun := exec_queueDrop hq hown hopen ha
  rw [dropBy_of_unlocked (s := s.unfetch c) hlock] at hrun
  exact ⟨_, hrun, replies_reply (s := s.unfetch c) ha.here ha.live, reply_onlyAnswers ha.here ha.live⟩

theorem completes_queueDrop_locked (hc : Canon s) (hlock : (s.queue q).olock = some (.cmdPath c.view))
    (hdrop : (s.queue q).dropping = false) : Completes (.queueDrop c q) s fun u => Replies s u c 0x3003 stOk [] ∧ DropsItem s u q := by
  have hrun := exec_queueDrop hq hown hopen ha
  rw [dropBy_of_locked (s := s.unfetch c) hlock hdrop] at hrun
  have hanswers : answering ((s.unfetch c).dropItem q) = answering s := answering_of_beside (s := s.unfetch c) (beside_dropItem q)
  exact completes_replies hrun hanswers ha.here ha.live fun _ _ => { dropsItem_dropItem (hc.unfetch (c := c)) hdrop with }

end

theorem completes_queueFlush (hc : Canon s) (ha : Accepted s c 0x3004 (leBytes 2 q) true) : Completes (.queueFlush c q) s fun u =>
    Replies s u c 0x3004 stOk (leBytes 4 (s.queue q).level) ∧ (u.queue q).level ≤ 1 ∧
    u.reg .QUE_DROP_WORDS (q / 512) = min 0xFFFFFFFF (s.reg .QUE_DROP_WORDS (q / 512) + (s.queue q).level) := by
  have hrun : exec (.queueFlush c q) s =
      .next (((s.unfetch c).flush q).2.reply c 0x3004 stOk (leBytes 4 ((s.unfetch c).flush q).1)) := by
    have harm : exec (.queueFlush c q) s = execQueueFlush c q s := rfl
    rw [harm, execQueueFlush, runCmd_queueCmd hq hown hopen ha]
  obtain ⟨hcount, hleft, hdropped⟩ := flush_flushes (q := q) (hc.unfetch (c := c))
  have hanswers : answering ((s.unfetch c).flush q).2 = answering s := answering_of_beside (s := s.unfetch c) (beside_flush q)
  rw [hcount] at hrun
  exact completes_replies hrun hanswers ha.here ha.live fun _ _ => ⟨hleft, hdropped⟩

omit hq hown hopen in
/-- The descriptor does not read the packets fetched. -/
theorem queDesc_unfetch : (s.unfetch c).queDesc q = s.queDesc q := rfl

theorem completes_queueStatus (ha : Accepted s c 0x3006 (leBytes 2 q) true) : Completes (.queueStatus c q) s fun u =>
    Replies s u c 0x3006 stOk (s.queDesc q) ∧ OnlyAnswers s u := by
  have hrun : exec (.queueStatus c q) s = .next ((s.unfetch c).reply c 0x3006 stOk (s.queDesc q)) := by
    have harm : exec (.queueStatus c q) s = execQueueStatus c q s := rfl
    rw [harm, execQueueStatus, runCmd_queueCmd hq hown hopen ha, queDesc_unfetch]
  exact ⟨_, hrun, replies_reply (s := s.unfetch c) ha.here ha.live, reply_onlyAnswers ha.here ha.live⟩

/-! #### QUEUE_DISABLE -/

section
variable {timeout : Nat} (hs : s.fld queState q ≠ 0)
include hs

theorem completes_queueDisableDrain (hc : Canon s) (ha : Accepted s c 0x3005 (leBytes 2 q ++ leBytes 1 0 ++ leBytes 2 timeout) true) :
    Completes (.queueDisableDrain c q timeout) s fun u =>
      WaitsFor s u c 0x3005 (.queueDrain q) timeout ∧ (s.qOpen q = true → u.qDraining q = true) := by
  have hrun : exec (.queueDisableDrain c q timeout) s =
      .next (((s.unfetch c).drainQueue q).await c 0x3005 (.queueDrain q) timeout) := by
    have harm : exec (.queueDisableDrain c q timeout) s = execQueueDisableDrain c q timeout s := rfl
    have hs' : (s.unfetch c).fld queState q ≠ 0 := hs
    rw [harm, execQueueDisableDrain, runCmd_queueCmd hq hown hopen ha, if_neg hs']
  have hanswers : answering ((s.unfetch c).drainQueue q) = answering s := by
    unfold State.drainQueue
    split <;> rfl
  refine ⟨_, hrun, WaitsFor.of_answering hanswers ha.here ha.live _ _, fun hstate => ?_⟩
  rw [State.qDraining, await_regs, State.drainQueue, if_pos (show (s.unfetch c).qOpen q = true from hstate)]
  exact qDraining_setFld (s := s.unfetch c) hc.regs

theorem completes_queueDisableAbort (hc : Canon s) (ha : Accepted s c 0x3005 (leBytes 2 q ++ leBytes 1 1 ++ leBytes 2 timeout) true)
    (hpack : c.pack = false) (hnone : s.waitsFor (.queueDrain q) = false) (hlock : (s.queue q).ilock = none) :
    Completes (.queueDisableAbort c q timeout) s fun u => Replies s u c 0x3005 stOk [] ∧ u.qDraining q = true ∧
      ∀ e ∈ (s.queue q).words, (u.entWord q e).psn = true := by
  have hrun : exec (.queueDisableAbort c q timeout) s = .next ((({ s.unfetch c with
      drains := (s.unfetch c).drains.filter (· ≠ .queueDrain q) } : State).abortQueue q).reply c 0x3005 stOk []) := by
    have harm : exec (.queueDisableAbort c q timeout) s = execQueueDisableAbort c q timeout s := rfl
    have hs' : (s.unfetch c).fld queState q ≠ 0 := hs
    have hinterim : (s.unfetch c).interim c 0x3005 = s.unfetch c := by simp [State.interim, hpack]
    rw [harm, execQueueDisableAbort, runCmd_queueCmd hq hown hopen ha, if_neg hs', hinterim, finish_of_none (s := s.unfetch c) hnone]
  generalize ht : ({ s.unfetch c with drains := (s.unfetch c).drains.filter (· ≠ .queueDrain q) } : State) = t at hrun
  have hsame : Canon t ∧ t.queue q = s.queue q ∧ answering t = answering s := by
    rw [← ht]
    exact ⟨(hc.unfetch (c := c)).others, rfl, rfl⟩
  obtain ⟨hct, hqueue, htold⟩ := hsame
  obtain ⟨hdrains, hpoisons⟩ := abortQueue_poisons hct (hqueue ▸ hlock)
  have hanswers : answering (t.abortQueue q) = answering s := (answering_of_beside (beside_abortQueue q)).trans htold
  rw [← hqueue]
  exact completes_replies hrun hanswers ha.here ha.live fun _ _ => ⟨hdrains, hpoisons⟩

end

end

/-- Settles O33: each command runs its own effect on the queue, and its reply is beside it. -/
theorem queueCommands : Obligations.QueueCommands := by
  intro s c q hc hq hown hopen
  refine ⟨fun words tags hlow hhigh htags ha => ⟨?_, ?_⟩, fun n hlow hhigh ha => ⟨fun w hn => ?_, ?_⟩, fun ha => ⟨?_, ?_⟩, ?_,
    fun timeout hs => ⟨?_, ?_⟩, ?_⟩
  · exact completes_queuePush hq hown hopen hlow hhigh htags ha hc
  · exact completes_queuePush_busy hq hown hopen hlow hhigh htags ha
  · exact completes_queuePop hq hown hopen ha hc hn
  · exact completes_queuePop_empty hq hown hopen ha hlow hhigh
  · exact completes_queueDrop_unlocked hq hown hopen ha
  · exact completes_queueDrop_locked hq hown hopen ha hc
  · exact completes_queueFlush hq hown hopen hc
  · exact completes_queueDisableDrain hq hown hopen hs hc
  · exact completes_queueDisableAbort hq hown hopen hs hc
  · exact completes_queueStatus hq hown hopen

end Sys2Proof
end

section
/-! PROOFS. Queue requests at their hub (R236, R297, R304): what a request does once its queue allows, on arrival or from the park. -/

namespace Sys2Proof

open Sys2Proof.Machine

set_option Elab.async false

/-! ### A request that its queue allows -/

/-- Numbering the entry of a flow activation (R213) changes neither the network nor the requests parked at a hub. -/
theorem numberFlow_net_park {s : State} (hr : rising s.floors = true) (t k q : Nat) (sop : Bool) :
    (s.numberFlow t k q sop).net = s.net ∧ ∀ f, ((s.numberFlow t k q sop).floor f).park = (s.floor f).park := by
  have hmod (f g : Nat) (l : List SeqEnt) :
      ((s.modFloor f fun x => { x with seq := l }).floor g).park = (s.floor g).park := by
    rw [State.modFloor, State.floor, State.setFloor_floors, tget_tput hr]
    split
    next h => rw [h]
    next => rfl
  unfold State.numberFlow
  split
  · dsimp only
    split
    · split
      · exact ⟨rfl, fun g => hmod _ g _⟩
      · exact ⟨rfl, fun _ => rfl⟩
    · exact ⟨rfl, fun _ => rfl⟩
  · exact ⟨rfl, fun _ => rfl⟩

section
variable {s : State} {p : Pkt} (hc : Canon s) (haddr : p.addr < 16384)
include hc haddr

/-- A QPUSH that opens an item in a queue with room: its word is stored, and OK is sent (R297). -/
theorem tryQueue_qpush (hop : p.op = .qpush) (hpush : CanPush s p.addr) (hsop : p.sop = true)
    (hstage : p.src < 512 → s.stageOf p.src p.result p.addr = none) :
    ∃ u, s.tryQueue p = some (u.rsp p.dest p stOk 0) ∧ Stored s u p.addr (mkWord (pktWord p) true p.eop (p.psn % 2 == 1)) ∧
      beside u = beside s := by
  have hfl : (if p.src < 512 then s.stageOf p.src p.result p.addr else none) = none := by
    split
    next h => exact hstage h
    next => rfl
  obtain ⟨u, hstore, hstored, -⟩ := stored_pushWord hc hpush (pktAgent p) (pktWord p) p.eop (p.psn % 2 == 1)
  refine ⟨u, ?_, hstored, ?_⟩
  · simp only [State.tryQueue, hop, Nat.mod_eq_of_lt haddr, hfl, hsop, hstore, if_true]
  · exact (congrArg (fun x => beside x.2) hstore).symm.trans (beside_pushWord ..)

/-- A QPOP of a sound word: the word leaves its queue and is sent (R297). -/
theorem tryQueue_qpop (hop : p.op = .qpop) {w : QWord} (hpop : CanPop s p.addr (pktAgent p) w) :
    ∃ u x, s.tryQueue p = some u ∧ u.net = s.net ++ [x] ∧ (x.op = .popWord ∧ x.tag = p.tag ∧ x.src = p.src ∧
      x.data = (leBytes 4 w.data.toNat).map some ∧ x.sop = w.sop ∧ x.eop = w.eop ∧ x.psn = b2n w.psn) ∧
      (u.queue p.addr).drain = (s.queue p.addr).drain.tail ∧ ∀ f, (u.floor f).park = (s.floor f).park := by
  obtain ⟨v, htaken, -, hdrain⟩ := popWord_takes hc hpop
  have hbeside := beside_popWord p.addr htaken
  have hfloors := floors_of_beside hbeside
  generalize hu : (if p.src < 512 then v.numberFlow p.src p.result p.addr w.sop else v) = u
  have hnumbered : u.net = s.net ∧ u.queues = v.queues ∧ ∀ f, (u.floor f).park = (s.floor f).park := by
    have hv (f : Nat) : v.floor f = s.floor f := by rw [State.floor, State.floor, hfloors]
    rw [← hu]
    split
    · obtain ⟨hnet, hpark⟩ := numberFlow_net_park (hfloors ▸ rising_of_twf hc.floors) p.src p.result p.addr w.sop
      exact ⟨hnet.trans (net_of_beside hbeside), (numberFlow_frame ..).2, fun f => by rw [hpark, hv]⟩
    · exact ⟨net_of_beside hbeside, rfl, fun f => by rw [hv]⟩
  obtain ⟨hnet, hqueues, hpark⟩ := hnumbered
  have hsent : s.tryQueue p = some (u.sendAnswer p.dest { answer p with
      op := .popWord, data := (leBytes 4 w.data.toNat).map some, psn := b2n w.psn, sop := w.sop, eop := w.eop }) := by
    simp only [State.tryQueue, hop, Nat.mod_eq_of_lt haddr, htaken, hu]
  exact ⟨_, _, hsent, congrArg (· ++ [_]) hnet, ⟨rfl, rfl, rfl, rfl, rfl, rfl, rfl⟩,
    (congrArg Queue.drain (queue_congr hqueues p.addr)).trans hdrain, hpark⟩

omit hc in
theorem tryQueue_qpop_none (hop : p.op = .qpop) (hnone : s.poppable p.addr (pktAgent p) = false) : s.tryQueue p = none := by
  simp only [State.tryQueue, hop, Nat.mod_eq_of_lt haddr, popWord_of_not_poppable hnone]

end

/-! ### Arrival -/

section
variable {s : State} {p : Pkt} {op : POp} {body : State → State}

theorem op_of_queueArrived (h : s.queueArrived p op = true) : p.op = op := by
  simp only [State.queueArrived, Bool.and_eq_true, beq_iff_eq] at h
  exact h.1.2

theorem exec_pktQpush (h : s.queueArrived p .qpush = true) : exec (.pktQpush p) s = .next (s.queuePkt p fun s => s.queueServe p) := by
  have harm : exec (.pktQpush p) s = execPktQpush p s := rfl
  rw [harm, execPktQpush, if_pos h]

theorem exec_pktQpop (h : s.queueArrived p .qpop = true) : exec (.pktQpop p) s = .next (s.queuePkt p fun s => s.queueServe p) := by
  have harm : exec (.pktQpop p) s = execPktQpop p s := rfl
  rw [harm, execPktQpop, if_pos h]

theorem exec_pktQdrop (h : s.queueArrived p .qdrop = true) : exec (.pktQdrop p) s =
    .next (s.queuePkt p fun s => (s.dropBy (p.addr % 16384) (pktAgent p)).rsp p.dest p stOk 0) := by
  have harm : exec (.pktQdrop p) s = execPktQdrop p s := rfl
  rw [harm, execPktQdrop, if_pos h]

theorem exec_pktQlvl (h : s.queueArrived p .qlvl = true) : exec (.pktQlvl p) s =
    .next (s.queuePkt p fun s => s.rsp p.dest p stOk (s.queue (p.addr % 16384)).level) := by
  have harm : exec (.pktQlvl p) s = execPktQlvl p s := rfl
  rw [harm, execPktQlvl, if_pos h]

theorem queuePkt_eq : s.queuePkt p body = if s.fenced p then (s.takePkt p).rsp p.dest p stDomainOff 0
    else if !lenOk p ∨ p.addr / 512 ≠ p.dest then (s.takePkt p).rsp p.dest p stBadParam 0
    else if !s.pktOwns p p.addr then (s.takePkt p).rsp p.dest p stNoPriv 0 else body (s.takePkt p) := rfl

/-- A queue request refused before its own effect leaves the network and is answered (R295, R297, R314). -/
theorem completes_refused {i : Instr} (hrun : exec i s = .next (s.queuePkt p body)) :
    (s.fenced p = true → Completes i s fun u => Answers s u p stDomainOff 0 ∧ u = { s with net := u.net }) ∧
    (s.fenced p = false → (lenOk p = false ∨ p.addr / 512 ≠ p.dest) → Completes i s fun u =>
      Answers s u p stBadParam 0 ∧ u = { s with net := u.net }) ∧
    (s.fenced p = false → lenOk p = true → p.addr / 512 = p.dest → s.pktOwns p p.addr = false → Completes i s fun u =>
      Answers s u p stNoPriv 0 ∧ u = { s with net := u.net }) := by
  have hanswered {st : Nat} (h : s.queuePkt p body = (s.takePkt p).rsp p.dest p st 0) : Completes i s fun u =>
      Answers s u p st 0 ∧ u = { s with net := u.net } := ⟨_, hrun.trans (congrArg _ h), answers_rsp rfl _ _ _, rfl⟩
  refine ⟨fun hf => hanswered ?_, fun hf hbad => hanswered ?_, fun hf hlen hplace hown => hanswered ?_⟩
  · rw [queuePkt_eq, if_pos hf]
  · rw [queuePkt_eq, if_neg (by simp [hf]), if_pos (by simpa using hbad)]
  · rw [queuePkt_eq, if_neg (by simp [hf]), if_neg (by simp [hlen, hplace]), if_pos (by simp [hown])]

/-- A queue request that passes its checks has its own effect. -/
theorem queuePkt_of_checked (hf : s.fenced p = false) (hlen : lenOk p = true) (hplace : p.addr / 512 = p.dest)
    (hown : s.pktOwns p p.addr = true) : s.queuePkt p body = body (s.takePkt p) := by
  rw [queuePkt_eq, if_neg (by simp [hf]), if_neg (by simp [hlen, hplace]), if_neg (by simp [hown])]

/-- With nothing parked a request is served as it arrives. -/
theorem queueServe_of_no_park (h : (s.floor p.dest).park = []) :
    s.queueServe p = (s.tryQueue p).getD (s.queueWait p) := by
  rw [State.queueServe, h]
  cases s.tryQueue p <;> rfl

end

section
variable {s : State} {p : Pkt} (hc : Canon s) (hdest : p.dest < 32) (hf : s.fenced p = false) (hlen : lenOk p = true)
  (hplace : p.addr / 512 = p.dest) (hown : s.pktOwns p p.addr = true) (hpark : (s.floor p.dest).park = [])
include hdest hf hlen hplace hown

include hc hpark in
theorem completes_pktQpush (harr : s.queueArrived p .qpush = true) (hpush : CanPush s p.addr) (hsop : p.sop = true)
    (hstage : p.src < 512 → s.stageOf p.src p.result p.addr = none) : Completes (.pktQpush p) s fun u =>
      Answers s u p stOk 0 ∧ Stored s u p.addr (mkWord (pktWord p) true p.eop (p.psn % 2 == 1)) := by
  obtain ⟨u, htry, hstored, hbeside⟩ := tryQueue_qpush (s := s.takePkt p) hc.takePkt (by omega) (op_of_queueArrived harr)
    { hpush with } hsop hstage
  have hrun := exec_pktQpush harr
  rw [queuePkt_of_checked hf hlen hplace hown, queueServe_of_no_park (s := s.takePkt p) hpark, htry] at hrun
  exact ⟨_, hrun, answers_rsp (net_of_beside hbeside) _ _ _, Stored.congr (s := s) hstored rfl rfl⟩

include hc hpark in
theorem completes_pktQpop (harr : s.queueArrived p .qpop = true) {w : QWord} (hpop : CanPop s p.addr (pktAgent p) w) :
    Completes (.pktQpop p) s fun u =>
      (∃ x, u.net = s.net.erase p ++ [x] ∧ x.op = .popWord ∧ x.tag = p.tag ∧ x.src = p.src ∧
        x.data = (leBytes 4 w.data.toNat).map some ∧ x.sop = w.sop ∧ x.eop = w.eop ∧ x.psn = b2n w.psn) ∧
      (u.queue p.addr).drain = (s.queue p.addr).drain.tail := by
  obtain ⟨u, x, htry, hnet, hx, hdrain, -⟩ := tryQueue_qpop (s := s.takePkt p) hc.takePkt (by omega) (op_of_queueArrived harr)
    { hpop with }
  have hrun := exec_pktQpop harr
  rw [queuePkt_of_checked hf hlen hplace hown, queueServe_of_no_park (s := s.takePkt p) hpark, htry] at hrun
  exact ⟨u, hrun, ⟨x, hnet, hx⟩, hdrain⟩

include hpark

theorem exec_pktQpop_waits (harr : s.queueArrived p .qpop = true) (hnone : s.poppable p.addr (pktAgent p) = false) :
    exec (.pktQpop p) s = .next ((s.takePkt p).queueWait p) := by
  have htry : (s.takePkt p).tryQueue p = none := tryQueue_qpop_none (by omega) (op_of_queueArrived harr) hnone
  rw [exec_pktQpop harr, queuePkt_of_checked hf hlen hplace hown, queueServe_of_no_park (s := s.takePkt p) hpark, htry]
  rfl

include hc in
theorem completes_pktQpop_parked (harr : s.queueArrived p .qpop = true) (hnone : s.poppable p.addr (pktAgent p) = false)
    (hnb : p.nb = false) : Completes (.pktQpop p) s fun u =>
      (u.floor p.dest).park = [p] ∧ u.net = s.net.erase p ∧ u.queues = s.queues := by
  have hroom : ((s.takePkt p).floor p.dest).park.length < 64 := by
    rw [show (s.takePkt p).floor p.dest = s.floor p.dest from rfl, hpark]
    decide
  have hrun := exec_pktQpop_waits hdest hf hlen hplace hown hpark harr hnone
  rw [State.queueWait, if_neg (by simp [hnb]), State.parkPkt, if_pos hroom] at hrun
  refine ⟨_, hrun, ?_, rfl, rfl⟩
  rw [State.modFloor, floor_setFloor (s := s.takePkt p) (rising_of_twf hc.floors)]
  exact congrArg (· ++ [p]) hpark

theorem completes_pktQpop_empty (harr : s.queueArrived p .qpop = true) (hnone : s.poppable p.addr (pktAgent p) = false)
    (hnb : p.nb = true) : Completes (.pktQpop p) s fun u => Answers s u p stEmptyRd 0 ∧ u = { s with net := u.net } := by
  have hrun := exec_pktQpop_waits hdest hf hlen hplace hown hpark harr hnone
  rw [State.queueWait, if_pos hnb, op_of_queueArrived harr] at hrun
  exact ⟨_, hrun, answers_rsp rfl _ _ _, rfl⟩

omit hpark
include hc in
theorem completes_pktQdrop_locked (harr : s.queueArrived p .qdrop = true) (hlock : (s.queue p.addr).olock = some (pktAgent p))
    (hdrop : (s.queue p.addr).dropping = false) : Completes (.pktQdrop p) s fun u => Answers s u p stOk 0 ∧ DropsItem s u p.addr := by
  have hrun := exec_pktQdrop harr
  rw [queuePkt_of_checked hf hlen hplace hown, Nat.mod_eq_of_lt (by omega), dropBy_of_locked (s := s.takePkt p) hlock hdrop] at hrun
  exact ⟨_, hrun, answers_rsp (net_of_beside (s := s.takePkt p) (beside_dropItem _)) _ _ _,
    { dropsItem_dropItem (s := s.takePkt p) hc.takePkt hdrop with }⟩

theorem completes_pktQdrop_unlocked (harr : s.queueArrived p .qdrop = true) (hlock : (s.queue p.addr).olock ≠ some (pktAgent p)) :
    Completes (.pktQdrop p) s fun u => Answers s u p stOk 0 ∧ u = { s with net := u.net } := by
  have hrun := exec_pktQdrop harr
  rw [queuePkt_of_checked hf hlen hplace hown, Nat.mod_eq_of_lt (by omega), dropBy_of_unlocked (s := s.takePkt p) hlock] at hrun
  exact ⟨_, hrun, answers_rsp rfl _ _ _, rfl⟩

theorem completes_pktQlvl (harr : s.queueArrived p .qlvl = true) : Completes (.pktQlvl p) s fun u =>
    Answers s u p stOk (s.queue p.addr).level ∧ u = { s with net := u.net } := by
  have hrun := exec_pktQlvl harr
  rw [queuePkt_of_checked hf hlen hplace hown, Nat.mod_eq_of_lt (by omega)] at hrun
  exact ⟨_, hrun, answers_rsp rfl _ _ _, rfl⟩

end

/-! ### The park -/

section
variable {s : State} (hc : Canon s) {p : Pkt} {f : FloorNo} {rest : List Pkt} (hpark : (s.floor f).park = p :: rest)
include hpark

/-- The request parked longest has none before it: it completes as soon as its queue allows. -/
theorem exec_parkedRequestComplete {u : State} (htry : s.tryQueue p = some u) : exec (.parkedRequestComplete f p) s =
    .next (u.modFloor f fun x => { x with park := x.park.erase p }) := by
  have harm : exec (.parkedRequestComplete f p) s = execParkedRequestComplete f p s := rfl
  rw [harm, execParkedRequestComplete, hpark, if_pos (by simp [State.parkBefore]), htry]

include hc

/-- Once it has completed, the requests behind it stay parked. -/
theorem park_after_first {u : State} (htry : s.tryQueue p = some u) (hu : (u.floor f).park = (s.floor f).park) :
    ((u.modFloor f fun x => { x with park := x.park.erase p }).floor f).park = rest := by
  rw [State.modFloor, floor_setFloor (rising_of_twf (hc.tryQueue htry).floors)]
  dsimp only
  rw [hu, hpark, List.erase_cons_head]

theorem completes_parkedQpop (hop : p.op = .qpop) (haddr : p.addr < 16384) {w : QWord} (hpop : CanPop s p.addr (pktAgent p) w) :
    Completes (.parkedRequestComplete f p) s fun u =>
      (u.floor f).park = rest ∧ (u.queue p.addr).drain = (s.queue p.addr).drain.tail ∧
      ∃ x, u.net = s.net ++ [x] ∧ x.op = .popWord ∧ x.tag = p.tag ∧ x.data = (leBytes 4 w.data.toNat).map some := by
  obtain ⟨u, x, htry, hnet, ⟨hxop, htag, -, hdata, -⟩, hdrain, hkept⟩ := tryQueue_qpop hc haddr hop hpop
  exact ⟨_, exec_parkedRequestComplete hpark htry, park_after_first hc hpark htry (hkept f), hdrain, x, hnet, hxop, htag, hdata⟩

theorem completes_parkedQpush (hop : p.op = .qpush) (haddr : p.addr < 16384) (hpush : CanPush s p.addr) (hsop : p.sop = true)
    (hstage : p.src < 512 → s.stageOf p.src p.result p.addr = none) : Completes (.parkedRequestComplete f p) s fun u =>
      (u.floor f).park = rest ∧ Stored s u p.addr (mkWord (pktWord p) true p.eop (p.psn % 2 == 1)) ∧
      ∃ x, u.net = s.net ++ [x] ∧ x.op = .rsp ∧ x.status = stOk ∧ x.tag = p.tag ∧ x.src = p.src := by
  obtain ⟨u, htry, hstored, hbeside⟩ := tryQueue_qpush hc haddr hop hpush hsop hstage
  have hkept : (u.floor f).park = (s.floor f).park := by rw [State.floor, State.floor, floors_of_beside hbeside]
  exact ⟨_, exec_parkedRequestComplete hpark htry, park_after_first hc hpark htry hkept, hstored.congr rfl rfl, _,
    congrArg (· ++ [_]) (net_of_beside hbeside), rfl, rfl, rfl, rfl⟩

end

/-- Settles O37: the checks that the four requests share, then what each does on arrival, and what the first in the park does. -/
theorem queuePackets : Obligations.QueuePackets := by
  intro s p hc
  refine ⟨?refused, fun hdest hf hlen hplace hown hpark => ⟨?_, fun harr => ⟨fun w => ?_, ?_, ?_⟩, fun harr => ⟨?_, ?_⟩, ?_⟩,
    fun f rest w hpark => ?_, fun f rest hpark => ?_⟩
  case refused =>
    simp only [List.forall_mem_cons, List.not_mem_nil, false_imp_iff, implies_true, and_true]
    exact ⟨fun h => completes_refused (exec_pktQpush h), fun h => completes_refused (exec_pktQpop h),
      fun h => completes_refused (exec_pktQdrop h), fun h => completes_refused (exec_pktQlvl h)⟩
  · exact completes_pktQpush hc hdest hf hlen hplace hown hpark
  · exact completes_pktQpop hc hdest hf hlen hplace hown hpark harr
  · exact completes_pktQpop_parked hc hdest hf hlen hplace hown hpark harr
  · exact completes_pktQpop_empty hdest hf hlen hplace hown hpark harr
  · exact completes_pktQdrop_locked hc hdest hf hlen hplace hown harr
  · exact completes_pktQdrop_unlocked hdest hf hlen hplace hown harr
  · exact completes_pktQlvl hdest hf hlen hplace hown
  · exact fun hop haddr => completes_parkedQpop hc hpark hop haddr
  · exact completes_parkedQpush hc hpark

end Sys2Proof
end

section
/-! PROOFS. The SEC-DED code of a stored byte (R265, R266): its syndrome and its overall parity are linear in the stored bits and
zero on valid bytes, so what a flip does to a stored byte is what it does to a stored zero. -/

namespace Sys2Proof

open Sys2Proof.Machine

set_option Elab.async false

/-! ### Syndrome and overall parity -/

/-- The XOR of the stored bits at these places. -/
def xorStored (b : BitVec 13) (l : List Nat) : Bool := l.foldl (fun a i => a ^^ b.getLsbD i) false

/-- The recomputed check bits c3 to c0 XOR the stored ones (R266). -/
def syndrome (b : BitVec 13) : Nat :=
  b2n (xorStored b [0, 1, 3, 4, 6, 8]) + 2 * b2n (xorStored b [0, 2, 3, 5, 6, 9]) +
    4 * b2n (xorStored b [1, 2, 3, 7, 10]) + 8 * b2n (xorStored b [4, 5, 6, 7, 11])

/-- The XOR of all 13 stored bits (R266). -/
def parity (b : BitVec 13) : Bool := xorStored b [0, 1, 2, 3, 4, 5, 6, 7, 8, 9, 10, 11, 12]

/-- The data bit at code position `n`, or none where `n` is the position of a check bit (R265). -/
def flipAt (n : Nat) : Byte := if eccPos.contains n then 1#8 <<< eccPos.idxOf n else 0#8

/-- Data `d` decoded under a syndrome and an overall parity (R266). -/
def decodeUnder (d : Byte) (n : Nat) (q : Bool) : Decoded :=
  if n = 0 then { data := d, kind := b2n q, syn := n, q := q }
  else if q ∧ n ≤ 12 then { data := d ^^^ flipAt n, kind := 1, syn := n, q := q }
  else { data := d, kind := 2, syn := n, q := q }

theorem b2n_odd (n : Nat) : b2n (decide (n % 2 = 1)) = n % 2 := by
  rcases Nat.mod_two_eq_zero_or_one n with h | h <;> rw [h] <;> rfl

/-- Four stored check bits as a number. -/
theorem storedCheck_eq (b : BitVec 13) : b.toNat / 256 % 16 =
    b2n (b.getLsbD 8) + 2 * b2n (b.getLsbD 9) + 4 * b2n (b.getLsbD 10) + 8 * b2n (b.getLsbD 11) := by
  simp only [BitVec.getLsbD, ← bit_eq_testBit, bit, b2n_odd]
  omega

/-- Numbers spelled by bits, with a fifth bit cut off, XORed bit by bit. -/
theorem xor_bits4 : ∀ a b c d e w x y z : Bool,
    (b2n a + 2 * b2n b + 4 * b2n c + 8 * b2n d + 16 * b2n e) % 16 ^^^ (b2n w + 2 * b2n x + 4 * b2n y + 8 * b2n z) =
      b2n (a ^^ w) + 2 * b2n (b ^^ x) + 4 * b2n (c ^^ y) + 8 * b2n (d ^^ z) := by decide

theorem syndrome_eq (b : BitVec 13) : eccCheck (b.setWidth 8) % 16 ^^^ b.toNat / 256 % 16 = syndrome b := by
  rw [eccCheck, storedCheck_eq, xor_bits4]
  simp [syndrome, xorStored, xorBits, BitVec.getLsbD_setWidth]

/-- What is decoded depends on the data, the syndrome and the overall parity. -/
theorem eccDecode_eq (b : BitVec 13) : eccDecode b = decodeUnder (b.setWidth 8) (syndrome b) (parity b) := by
  have hq : (List.range 13).foldl (fun a i => a ^^ b.getLsbD i) false = parity b := rfl
  simp only [eccDecode, syndrome_eq, hq, decodeUnder, flipAt]
  split_ifs <;> simp

theorem eccDecode_cases (b : BitVec 13) :
    (syndrome b = 0 → (eccDecode b).data = b.setWidth 8 ∧ (eccDecode b).kind = if parity b then 1 else 0) ∧
    (1 ≤ syndrome b → syndrome b ≤ 12 → parity b = true → (eccDecode b).kind = 1 ∧ ∀ i : Fin 8,
      (eccDecode b).data.getLsbD i = (b.getLsbD i ^^ decide ([3, 5, 6, 7, 9, 10, 11, 12].getD i 0 = syndrome b))) ∧
    ((13 ≤ syndrome b ∨ (1 ≤ syndrome b ∧ parity b = false)) → (eccDecode b).kind = 2) := by
  have hflip : ∀ n ≤ 12, 1 ≤ n → ∀ i : Fin 8, (flipAt n).getLsbD i = decide ([3, 5, 6, 7, 9, 10, 11, 12].getD i 0 = n) := by decide
  rw [eccDecode_eq, decodeUnder]
  refine ⟨fun hn => ?_, fun hn hn' hq => ?_, fun h => ?_⟩
  · rw [if_pos hn]
    exact ⟨rfl, rfl⟩
  · rw [if_neg (by omega), if_pos ⟨hq, hn'⟩]
    refine ⟨rfl, fun i => ?_⟩
    rw [BitVec.getLsbD_xor, hflip _ hn' hn, BitVec.getLsbD_setWidth, decide_eq_true i.isLt, Bool.true_and]
  · have hbad : ¬ (parity b = true ∧ syndrome b ≤ 12) := by
      rintro ⟨hq, hn⟩
      rcases h with h | ⟨-, h⟩
      · omega
      · simp [hq] at h
    rw [if_neg (by omega), if_neg hbad]

/-! ### Flips of a valid byte -/

theorem xorStored_xor (a b : BitVec 13) (l : List Nat) : xorStored (a ^^^ b) l = (xorStored a l ^^ xorStored b l) := by
  have hrun : ∀ x y : Bool, l.foldl (fun c i => c ^^ (a ^^^ b).getLsbD i) (x ^^ y) =
      (l.foldl (fun c i => c ^^ a.getLsbD i) x ^^ l.foldl (fun c i => c ^^ b.getLsbD i) y) := by
    induction l with
    | nil => exact fun _ _ => rfl
    | cons i l ih =>
      intro x y
      have hstep : ((x ^^ y) ^^ (a ^^^ b).getLsbD i) = ((x ^^ a.getLsbD i) ^^ (y ^^ b.getLsbD i)) := by
        rw [BitVec.getLsbD_xor, Bool.xor_assoc, Bool.xor_assoc, Bool.xor_left_comm y]
      rw [List.foldl_cons, List.foldl_cons, List.foldl_cons, hstep, ih]
  exact hrun false false

theorem parity_xor (a b : BitVec 13) : parity (a ^^^ b) = (parity a ^^ parity b) := xorStored_xor a b _

/-- A valid byte has syndrome zero and even parity (R265). -/
theorem eccEncode_valid : ∀ d : Byte, (eccEncode d).setWidth 8 = d ∧ syndrome (eccEncode d) = 0 ∧ parity (eccEncode d) = false := by
  decide +kernel

/-- Bits flipped in a word of syndrome zero give the syndrome of the flips. -/
theorem syndrome_xor_of_zero {a : BitVec 13} (h : syndrome a = 0) (b : BitVec 13) : syndrome (a ^^^ b) = syndrome b := by
  have hzero : ∀ w x y z : Bool, b2n w + 2 * b2n x + 4 * b2n y + 8 * b2n z = 0 → w = false ∧ x = false ∧ y = false ∧ z = false := by
    decide
  obtain ⟨h0, h1, h2, h3⟩ := hzero _ _ _ _ h
  simp only [syndrome, xorStored_xor, h0, h1, h2, h3, Bool.false_xor]

/-- A valid byte with bits flipped decodes to the byte with what the flips decode to. -/
theorem eccDecode_flipped (d : Byte) (e : BitVec 13) :
    eccDecode (eccEncode d ^^^ e) = { eccDecode e with data := d ^^^ (eccDecode e).data } := by
  obtain ⟨hdata, hsyn, hpar⟩ := eccEncode_valid d
  rw [eccDecode_eq, eccDecode_eq e, syndrome_xor_of_zero hsyn, parity_xor, hpar, Bool.false_xor, BitVec.setWidth_xor, hdata]
  unfold decodeUnder
  split_ifs <;> simp [BitVec.xor_assoc]

theorem eccDecode_eccEncode (d : Byte) : eccDecode (eccEncode d) = { data := d, kind := 0, syn := 0, q := false } := by
  have h := eccDecode_flipped d 0#13
  rwa [eccDecode_zero, BitVec.xor_zero, BitVec.xor_zero] at h

theorem eccDecode_flip_one (d : Byte) (i : Fin 13) :
    (eccDecode (eccEncode d ^^^ (1#13 <<< i.val))).data = d ∧ (eccDecode (eccEncode d ^^^ (1#13 <<< i.val))).kind = 1 := by
  have hflip : ∀ i : Fin 13, (eccDecode (1#13 <<< i.val)).data = 0#8 ∧ (eccDecode (1#13 <<< i.val)).kind = 1 := by decide +kernel
  rw [eccDecode_flipped]
  obtain ⟨hdata, hkind⟩ := hflip i
  exact ⟨by rw [hdata, BitVec.xor_zero], hkind⟩

theorem eccDecode_flip_two (d : Byte) {i j : Fin 13} (h : i < j) :
    (eccDecode (eccEncode d ^^^ (1#13 <<< i.val) ^^^ (1#13 <<< j.val))).kind = 2 := by
  have hflip : ∀ i j : Fin 13, i < j → (eccDecode ((1#13 <<< i.val) ^^^ (1#13 <<< j.val))).kind = 2 := by decide +kernel
  rw [BitVec.xor_assoc, eccDecode_flipped]
  exact hflip i j h

/-- Settles O42: the cases of the decoder, the flips of a valid byte, and what a reader of a written line decodes. -/
theorem eccCode : Obligations.EccCode := by
  unfold Obligations.EccCode
  refine ⟨eccDecode_cases, fun d => ⟨eccDecode_eccEncode d, (eccDecode_storedByte d true).2, fun i =>
    ⟨eccDecode_flip_one d i, fun j => eccDecode_flip_two d⟩⟩, fun s t off hwritten => ?_⟩
  rw [peek_fst, decodedAt, if_neg (by rw [hwritten]; decide)]

end Sys2Proof
end

section
/-! PROOFS. The error logs (R282, R285, R449): a record written at HEAD or dropped, TAIL moved, and records read. -/

namespace Sys2Proof

open Sys2Proof.Machine

set_option Elab.async false

/-! ### Registers of the logs -/

/-- Records lie behind the other registers of the logs (R287). -/
def recordBase : Nat := 0x400092000

theorem logRec_addr (i : Nat) : Reg.addr .LOG_REC i = recordBase + 8 * i := by
  simp only [Reg.addr, Reg.info, recordBase]
  omega

theorem log_addrs {d : Nat} (hd : d < 3) :
    Reg.addr .LOG_HEAD d = 0x400091000 + 16 * d ∧ Reg.addr .LOG_TAIL d = 0x400091004 + 16 * d ∧
    Reg.addr .LOG_STATUS d = 0x400091008 + 16 * d ∧ Reg.addr .LOG_DROP d = 0x40009100C + 16 * d := by
  simp only [Reg.addr, Reg.info]
  omega

section
variable {s : State} (h : rising s.regs = true)
include h

/-- A field of another register than the one that is set. -/
theorem fld_setReg_other (f : Fld) {r : Reg} {i j : Nat} (hf : f.r.addr j ≠ r.addr i) (v : Nat) :
    (s.setReg r i v).fld f j = s.fld f j := by
  rw [State.fld, State.fld, reg_setReg h r f.r i j v hf]

theorem fld_setFld_other (f g : Fld) {i j : Nat} (hf : f.r.addr j ≠ g.r.addr i) (v : Nat) : (s.setFld g i v).fld f j = s.fld f j :=
  fld_setReg_other h f hf _

end

theorem fld_lt (s : State) (f : Fld) (i : Nat) : s.fld f i < 2 ^ (f.hi + 1 - f.lo) := Nat.mod_lt _ (Nat.two_pow_pos _)

/-! ### A record written (R282, R538) -/

/-- The four words of a record at place `h` of log `d`. -/
def storeRecord (s : State) (d h : Nat) (r : LogRec) : State :=
  (List.range 4).foldl (fun s w => s.setReg .LOG_REC (256 * d + 4 * h + w) (recNum r / 2 ^ (64 * w) % 2 ^ 64)) s

section
variable {s : State} {d h : Nat} {r : LogRec}

theorem storeRecord_frame : ∃ regs, storeRecord s d h r = { s with regs := regs } := by
  refine List.foldlRecOn (motive := fun u : State => ∃ regs, u = { s with regs := regs }) _ _ ⟨_, rfl⟩ fun u hu w _ => ?_
  obtain ⟨_, rfl⟩ := hu
  exact ⟨_, rfl⟩

variable (hr : rising s.regs = true)
include hr

theorem rising_storeRecord : rising (storeRecord s d h r).regs = true :=
  foldl_write_inv (Inv := fun u : State => rising u.regs = true) (fun _ _ hu => rising_setReg hu _ _ _) _ hr

omit hr in
/-- Each place of the records is its own register. -/
theorem logRec_setReg {u : State} (hu : rising u.regs = true) (i j v : Nat) :
    (u.setReg .LOG_REC i (v % 2 ^ 64)).reg .LOG_REC j = if j = i then v % 2 ^ 64 else u.reg .LOG_REC j := by
  split
  · rw [‹j = i›, reg_setReg_self hu, Nat.mod_mod]
  · exact reg_setReg hu _ _ _ _ _ (by rw [logRec_addr, logRec_addr]; omega)

theorem reg_storeRecord_word {w : Nat} (hw : w < 4) :
    (storeRecord s d h r).reg .LOG_REC (256 * d + 4 * h + w) = recNum r / 2 ^ (64 * w) % 2 ^ 64 :=
  read_foldl_of_mem (read := fun u : State => u.reg .LOG_REC) (key := fun w => 256 * d + 4 * h + w)
    (val := fun w => recNum r / 2 ^ (64 * w) % 2 ^ 64) (Inv := fun u : State => rising u.regs = true)
    (fun _ _ hu => rising_setReg hu _ _ _) (fun _ _ _ hu => logRec_setReg hu _ _ _) hr
    (List.nodup_range.map (add_right_injective _)) (List.mem_range.mpr hw)

theorem reg_storeRecord_before {q : Reg} {j : Nat} (hq : q.addr j < recordBase) : (storeRecord s d h r).reg q j = s.reg q j := by
  refine (List.foldlRecOn (motive := fun u : State => rising u.regs = true ∧ u.reg q j = s.reg q j) _ _ ⟨hr, rfl⟩ ?_).2
  rintro u ⟨hrise, hsame⟩ w -
  refine ⟨rising_setReg hrise _ _ _, (reg_setReg hrise _ _ _ _ _ ?_).trans hsame⟩
  rw [logRec_addr]
  omega

theorem fld_storeRecord_before {f : Fld} {j : Nat} (hf : f.r.addr j < recordBase) : (storeRecord s d h r).fld f j = s.fld f j := by
  rw [State.fld, State.fld, reg_storeRecord_before hr hf]

end

/-- A record taken by a log with room: it stands at HEAD, and the host is told of a first one (R282, R449). -/
def takeRecord (s : State) (d : Nat) (r : LogRec) : State :=
  let u := storeRecord s d (s.fld logHead d) r
  if u.fld logCount d = 0 then { u with irqs := u.irqs ++ [(0, 1)] } else u

theorem takeRecord_frame (s : State) (d : Nat) (r : LogRec) :
    (takeRecord s d r).regs = (storeRecord s d (s.fld logHead d) r).regs ∧ (takeRecord s d r).logQ = s.logQ := by
  obtain ⟨regs, hstore⟩ := storeRecord_frame (s := s) (d := d) (h := s.fld logHead d) (r := r)
  rw [takeRecord, hstore]
  dsimp only
  split <;> exact ⟨rfl, rfl⟩

section
variable {s : State} {d : Nat} {r : LogRec} (hr : rising s.regs = true) (hd : d < 3)
include hr hd

theorem fld_takeRecord {f : Fld} (hf : f.r = .LOG_HEAD ∨ f.r = .LOG_STATUS) : (takeRecord s d r).fld f d = s.fld f d := by
  obtain ⟨hhead, -, hstatus, -⟩ := log_addrs hd
  rw [fld_congr (takeRecord_frame s d r).1, fld_storeRecord_before hr]
  rcases hf with hf | hf <;> rw [hf, recordBase] <;> omega

theorem irqs_takeRecord : (takeRecord s d r).irqs = s.irqs ++ if s.fld logCount d = 0 then [(0, 1)] else [] := by
  obtain ⟨-, -, hstatus, -⟩ := log_addrs hd
  have hcount : (storeRecord s d (s.fld logHead d) r).fld logCount d = s.fld logCount d :=
    fld_storeRecord_before hr (by rw [show logCount.r = .LOG_STATUS from rfl, hstatus, recordBase]; omega)
  have hirqs : (storeRecord s d (s.fld logHead d) r).irqs = s.irqs := by
    obtain ⟨_, hstore⟩ := storeRecord_frame (s := s) (d := d) (h := s.fld logHead d) (r := r)
    rw [hstore]
  simp only [takeRecord, hcount, apply_ite State.irqs, hirqs]
  split
  · rfl
  · exact (List.append_nil _).symm

theorem writeRec_room (hroom : s.fld logCount d < 64) : s.writeRec d r =
    ((takeRecord s d r).setFld logHead d ((s.fld logHead d + 1) % 64)).setFld logCount d (s.fld logCount d + 1) := by
  rw [← fld_takeRecord (f := logCount) (r := r) hr hd (.inr rfl)]
  exact if_neg (by omega)

theorem writeRec_writes (hroom : s.fld logCount d < 64) :
    (s.writeRec d r).logQ = s.logQ ∧ (s.writeRec d r).fld logCount d = s.fld logCount d + 1 ∧
    (s.writeRec d r).fld logHead d = (s.fld logHead d + 1) % 64 ∧
    (∀ w, w < 4 → (s.writeRec d r).reg .LOG_REC (256 * d + 4 * s.fld logHead d + w) = recNum r / 2 ^ (64 * w) % 2 ^ 64) ∧
    (s.writeRec d r).irqs = s.irqs ++ if s.fld logCount d = 0 then [(0, 1)] else [] := by
  obtain ⟨hhead, -, hstatus, -⟩ := log_addrs hd
  obtain ⟨hregs, hlogQ⟩ := takeRecord_frame s d r
  have hrt : rising (takeRecord s d r).regs = true := hregs ▸ rising_storeRecord hr
  have hrh := rising_setFld hrt logHead d ((s.fld logHead d + 1) % 64)
  rw [writeRec_room hr hd hroom]
  refine ⟨?_, ?_, ?_, fun w hw => ?_, ?_⟩
  · rw [State.setFld_eq, State.setFld_eq, State.setReg_logQ, State.setReg_logQ, hlogQ]
  · rw [fld_setFld_self hrh (by decide) (by decide)]
    exact Nat.mod_eq_of_lt (show s.fld logCount d + 1 < 128 by omega)
  · rw [fld_setFld_other hrh logHead logCount (show Reg.addr .LOG_HEAD d ≠ Reg.addr .LOG_STATUS d by omega),
      fld_setFld_self hrt (by decide) (by decide)]
    exact Nat.mod_eq_of_lt (show (s.fld logHead d + 1) % 64 < 64 from Nat.mod_lt _ (by decide))
  · have hrec : ∀ i, Reg.addr .LOG_REC i ≠ Reg.addr .LOG_HEAD d ∧ Reg.addr .LOG_REC i ≠ Reg.addr .LOG_STATUS d := fun i => by
      rw [logRec_addr, recordBase]
      omega
    rw [reg_setFld_other (f := logCount) hrh (hrec _).2, reg_setFld_other (f := logHead) hrt (hrec _).1,
      reg_congr hregs, reg_storeRecord_word hr hw]
  · rw [State.setFld_eq, State.setFld_eq, State.setReg_irqs, State.setReg_irqs, irqs_takeRecord hr hd]

/-- A record that finds its log full is dropped and counted (R282). -/
theorem writeRec_full (hfull : s.fld logCount d = 64) :
    (s.writeRec d r).logQ = s.logQ ∧ (s.writeRec d r).fld logCount d = 64 ∧ (s.writeRec d r).flag logOvf d = true ∧
    (s.writeRec d r).reg .LOG_DROP d = min 0xFFFFFFFF (s.reg .LOG_DROP d + 1) ∧ (s.writeRec d r).irqs = s.irqs := by
  have hdrop : s.writeRec d r = (s.bump .LOG_DROP d).setFld logOvf d 1 := if_pos hfull
  obtain ⟨-, -, hstatus, hdropAt⟩ := log_addrs hd
  have hrb := rising_bump hr .LOG_DROP d
  rw [hdrop]
  refine ⟨rfl, ?_, ?_, ?_, rfl⟩
  · rw [fld_setFld_apart hrb logOvf logCount rfl (by decide) (by decide) (by decide)]
    exact (fld_setReg_other hr logCount (show Reg.addr .LOG_STATUS d ≠ Reg.addr .LOG_DROP d by omega) _).trans hfull
  · exact decide_eq_true (fld_setFld_self hrb (by decide) (by decide) d 1)
  · rw [reg_setFld_other (f := logOvf) hrb (show Reg.addr .LOG_DROP d ≠ Reg.addr .LOG_STATUS d by omega), reg_bump_self hr]

/-! ### TAIL moved (R282) -/

theorem advanceTail_fields {n : Nat} :
    (s.advanceTail d n).fld logTail d = (s.fld logTail d + n) % 64 ∧
    (s.advanceTail d n).fld logCount d = s.fld logCount d - n := by
  obtain ⟨-, htail, hstatus, -⟩ := log_addrs hd
  have hrt := rising_setFld hr logTail d ((s.fld logTail d + n) % 64)
  have hcount : s.fld logCount d < 128 := fld_lt s logCount d
  refine ⟨?_, ?_⟩
  · rw [State.advanceTail, fld_setFld_other hrt logTail logCount (show Reg.addr .LOG_TAIL d ≠ Reg.addr .LOG_STATUS d by omega),
      fld_setFld_self hr (by decide) (by decide)]
    exact Nat.mod_eq_of_lt (show (s.fld logTail d + n) % 64 < 64 from Nat.mod_lt _ (by decide))
  · rw [State.advanceTail, fld_setFld_self hrt (by decide) (by decide)]
    exact Nat.mod_eq_of_lt (show s.fld logCount d - n < 128 by omega)

end

/-! ### The commands -/

theorem fld_reply (s : State) (c : Cmd) (op status : Nat) (data : List Byte) : (s.reply c op status data).fld = s.fld := by
  refine fld_congr ?_
  unfold State.reply
  split_ifs <;> rfl

section
variable {s : State} (hc : Canon s) (d : Fin 3)

theorem exec_logRecordWrite {r : LogRec} (hfind : (s.logQ.find? fun r => r.log = d.val) = some r) :
    exec (.logRecordWrite d) s = .next (State.writeRec { s with logQ := s.logQ.erase r } d r) := by
  have harm : exec (.logRecordWrite d) s = execLogRecordWrite d s := rfl
  rw [harm, execLogRecordWrite, hfind]

include hc

theorem completes_logTailWrite {v : Word} (hv : (v.toNat % 64 + 64 - s.fld logTail d) % 64 ≤ s.fld logCount d) :
    Completes (.logTailWrite 0 d v) s fun u => u.fld logTail d = v.toNat % 64 ∧
      u.fld logCount d = s.fld logCount d - (v.toNat % 64 + 64 - s.fld logTail d) % 64 ∧ u = { s with regs := u.regs } := by
  have hrun : exec (.logTailWrite 0 d v) s = .next (s.advanceTail d ((v.toNat % 64 + 64 - s.fld logTail d) % 64)) := by
    have harm : exec (.logTailWrite 0 d v) s = execLogTailWrite 0 d v s := rfl
    rw [harm, execLogTailWrite, if_pos rfl, State.tailWrite, Nat.min_eq_left hv]
  obtain ⟨htail, hcount⟩ := advanceTail_fields (n := (v.toNat % 64 + 64 - s.fld logTail d) % 64) hc.regs d.isLt
  have hlt : s.fld logTail d < 64 := fld_lt s logTail d
  exact ⟨_, hrun, htail.trans (by omega), hcount, rfl⟩

theorem completes_logRead {c : Cmd} {n adv : Nat} (hn : 1 ≤ n) (hn' : n ≤ 31) (hadv : adv ≤ 1)
    (ha : Accepted s c 0x9006 (leBytes 1 d ++ leBytes 1 n ++ leBytes 1 adv) false) : Completes (.logRead c d n adv) s fun u =>
      Replies s u c 0x9006 stOk (leBytes 1 (s.fld logCount d) ++
        (List.range (min n (s.fld logCount d))).flatMap (s.recBytes d)) ∧
      (adv = 0 → OnlyAnswers s u) ∧
      (adv = 1 → u.fld logTail d = (s.fld logTail d + min n (s.fld logCount d)) % 64 ∧
        u.fld logCount d = s.fld logCount d - min n (s.fld logCount d)) := by
  have hrun : exec (.logRead c d n adv) s =
      .next ((if adv = 1 then (s.unfetch c).advanceTail d (min n (s.fld logCount d)) else s.unfetch c).reply c 0x9006 stOk
        (leBytes 1 (s.fld logCount d) ++ (List.range (min n (s.fld logCount d))).flatMap (s.recBytes d))) := by
    have harm : exec (.logRead c d n adv) s = execLogRead c d n adv s := rfl
    rw [harm, execLogRead, runCmd_of_accepted ha, if_neg (by omega), if_neg (by omega), if_neg (by omega)]
    rfl
  have hfld : (s.unfetch c).fld = s.fld := fld_congr rfl
  rcases Nat.le_one_iff_eq_zero_or_eq_one.mp hadv with rfl | rfl
  · rw [if_neg (by decide)] at hrun
    exact ⟨_, hrun, replies_reply (s := s.unfetch c) ha.here ha.live, fun _ => reply_onlyAnswers ha.here ha.live,
      fun h => absurd h (by decide)⟩
  · rw [if_pos rfl] at hrun
    have hleft := advanceTail_fields (s := s.unfetch c) (n := min n (s.fld logCount d)) hc.unfetch.regs d.isLt
    rw [hfld] at hleft
    have hanswers : answering ((s.unfetch c).advanceTail d (min n (s.fld logCount d))) = answering s := rfl
    refine ⟨_, hrun, Replies.of_answering hanswers ha.here ha.live _ _, fun h => absurd h (by decide), fun _ => ?_⟩
    rw [fld_reply]
    exact hleft

end

/-- Settles O45: a record written with room and one dropped, TAIL written, and records read. -/
theorem logsAreRings : Obligations.LogsAreRings := by
  unfold Obligations.LogsAreRings
  intro s d hc
  refine ⟨fun r hfind => ⟨fun hroom => ?_, fun hfull => ?_⟩, fun v hv => completes_logTailWrite hc d hv,
    fun c n adv hn hn' hadv ha => completes_logRead hc d hn hn' hadv ha⟩
  · exact ⟨_, exec_logRecordWrite d hfind, writeRec_writes (s := { s with logQ := s.logQ.erase r }) hc.regs d.isLt hroom⟩
  · exact ⟨_, exec_logRecordWrite d hfind, writeRec_full (s := { s with logQ := s.logQ.erase r }) hc.regs d.isLt hfull⟩

end Sys2Proof
end

section
/-! PROOFS. Reads of the tile stores (R268, R269, R283): what counting and logging their errors leaves alone, and that a read
without error leaves everything. -/

namespace Sys2Proof

open Sys2Proof.Machine

set_option Elab.async false

/-! ### What a read answers to commands -/

section
variable {s : State}

theorem answering_raise (code sclass loc data : Nat) : answering (s.raise code sclass loc data) = answering s := by
  unfold State.raise State.raiseAt State.faultEdge
  simp only [apply_ite answering]
  exact (ite_congr rfl (fun _ => rfl) fun _ => ite_self _).trans (ite_self _)

theorem answering_countPass (t page n : Nat) (data : Nat → Nat) : answering (s.countPass t page n data) = answering s := by
  unfold State.countPass
  simp only [apply_ite answering, answering_raise]
  exact ite_self _

theorem answering_wordErrors (t : Nat) (offs : List Nat) (req slot : Nat) (fresh : Bool) (dec : Nat → Decoded) :
    answering (s.wordErrors t offs req slot fresh dec) = answering s := by
  unfold State.wordErrors
  extract_lets ce ue page mask v u
  clear_value ce ue
  have hpass : ∀ data, answering (v.countPass t page ce.length data) = answering s := fun data => answering_countPass ..
  clear_value v
  have hu : answering u = answering s := by
    dsimp only [u]
    split
    · rfl
    · simp only [apply_ite answering]
      split
      · split
        · simp only [apply_ite answering, answering_raise]
          exact (ite_self _).trans (hpass _)
        · rw [answering_raise]
          exact hpass _
      · exact hpass _
  clear_value u
  dsimp only
  split
  · exact hu
  · simp only [apply_ite answering, answering_raise]
    exact (ite_congr rfl (fun _ => rfl) fun _ => ite_self _).trans ((ite_self _).trans hu)

theorem answering_queueWriteBack (t off : Nat) (l : List (Nat × Byte)) : answering (s.queueWriteBack t off l) = answering s := by
  unfold State.queueWriteBack
  split <;> rfl

theorem answering_noteRead (t off n req slot : Nat) : answering (s.noteRead t off n req slot) = answering s := by
  refine List.foldlRecOn (motive := fun u => answering u = answering s) _ _ ?_ fun u hu _ _ =>
    (answering_queueWriteBack ..).trans hu
  exact List.foldlRecOn (motive := fun u => answering u = answering s) _ _ rfl fun u hu _ _ => (answering_wordErrors ..).trans hu

/-! ### Reads without error -/

theorem wordErrors_clean {offs : List Nat} {dec : Nat → Decoded} (h : ∀ o ∈ offs, (dec o).kind = 0) (t req slot : Nat)
    (fresh : Bool) : s.wordErrors t offs req slot fresh dec = s := by
  have hnone : ∀ k, k ≠ 0 → offs.filter (fun o => (dec o).kind == k) = [] := fun k hk =>
    List.filter_eq_nil_iff.mpr fun o ho => by simpa [h o ho] using hk.symm
  simp only [State.wordErrors, hnone 1 (by decide), hnone 2 (by decide)]

theorem noteRead_clean {t off n : Nat} (h : cleanRead s t off n) (req slot : Nat) : s.noteRead t off n req slot = s := by
  have hclean : ∀ o ∈ (List.range n).map (off + ·), (s.peek t o).1.kind = 0 := by
    intro o ho
    obtain ⟨i, hi, rfl⟩ := List.mem_map.mp ho
    exact h i (List.mem_range.mp hi)
  have hnone : ∀ l, ((List.range n).map (off + ·)).filter (fun o => o / 64 == l && (s.peek t o).1.kind == 1) = [] := fun l =>
    List.filter_eq_nil_iff.mpr fun o ho => by simp [hclean o ho]
  refine List.foldlRecOn (motive := (· = s)) _ _ (List.foldlRecOn (motive := (· = s)) _ _ rfl fun u hu w _ => ?_) fun u hu l _ => ?_
  · rw [hu]
    exact wordErrors_clean (fun o ho => hclean o (List.mem_filter.mp ho).1) _ _ _ _
  · rw [hu]
    dsimp only
    rw [hnone l]
    exact if_pos (.inl rfl)

end

end Sys2Proof
end

section
/-! PROOFS. Lines invalidated at the tiles that have read them (R166, R313): packets sent and counted, which leave what the tile
stores hold and where it lives. -/

namespace Sys2Proof

open Sys2Proof.Machine

set_option Elab.async false

/-- The statistics of injected packets lie below this address, the registers of the tiles above it (R288, R313). -/
def statsEnd : Nat := 0x400100000

/-- `u` differs from `s` by invalidations at most: statistics, sharers, notes of the tiles, and packets sent. -/
structure Told (s u : State) : Prop where
  rises : rising u.regs = true
  regs : ∀ r i, statsEnd ≤ r.addr i → u.reg r i = s.reg r i
  frame : ∃ regs sharers tiles net, u = { s with regs := regs, sharers := sharers, tiles := tiles, net := net }

variable {s u : State}

theorem Told.refl (h : rising s.regs = true) : Told s s := ⟨h, fun _ _ _ => rfl, _, _, _, _, rfl⟩

theorem Told.trans {v : State} (h : Told s u) (k : Told u v) : Told s v where
  rises := k.rises
  regs r i hr := (k.regs r i hr).trans (h.regs r i hr)
  frame := by
    obtain ⟨_, _, _, _, rfl⟩ := h.frame
    obtain ⟨_, _, _, _, rfl⟩ := k.frame
    exact ⟨_, _, _, _, rfl⟩

/-- Notes of a tile changed. -/
theorem Told.modTile (h : Told s u) (t : Nat) (f : TileSt → TileSt) : Told s (u.modTile t f) where
  rises := h.rises
  regs := h.regs
  frame := by
    obtain ⟨_, _, _, _, rfl⟩ := h.frame
    exact ⟨_, _, _, _, rfl⟩

theorem stats_addr {i : Nat} (hi : i < 560) : Reg.addr .NOC_ISTAT_PKTS i < statsEnd ∧ Reg.addr .NOC_ISTAT_BYTES i < statsEnd := by
  simp only [Reg.addr, Reg.info, statsEnd]
  omega

/-- A packet of an initiator counted: its two statistics change (R313). -/
theorem Told.countInject (h : rising s.regs = true) (p : Pkt) : Told s (s.countInject p) := by
  unfold State.countInject
  split
  · exact .refl h
  · rename_i hcounted
    obtain ⟨hpkts, hbytes⟩ := stats_addr (i := p.src) (by omega)
    have hrise := rising_bump h .NOC_ISTAT_PKTS p.src
    refine ⟨rising_setReg hrise _ _ _, fun r i hr => ?_, _, _, _, _, rfl⟩
    dsimp only
    rw [reg_setReg hrise _ _ _ _ _ (by omega), State.bump, State.bumpBy, reg_setReg h _ _ _ _ _ (by omega)]

theorem Told.sendInv (h : rising s.regs = true) (t q line sh : Nat) : Told s (s.sendInv t q line sh) := by
  refine (Told.countInject h _).trans ⟨(Told.countInject h _).rises, fun _ _ _ => rfl, _, _, _, _, rfl⟩

/-- Invalidations of one line sent, or held for want of a SEQ (R166, R301). -/
theorem Told.invalidate (h : rising s.regs = true) (t line : Nat) : Told s (s.invalidate t line).2 := by
  unfold State.invalidate
  dsimp only
  have hcleared : Told s { s with sharers := tput [] s.sharers (8192 * t + line) [] } := ⟨h, fun _ _ _ => rfl, _, _, _, _, rfl⟩
  refine List.foldlRecOn (motive := fun p : List Nat × State => Told s p.2) _ _ hcleared ?_
  rintro ⟨l, v⟩ hp sh -
  dsimp only at hp ⊢
  split
  · dsimp only
    exact (hp.modTile t _).trans (.sendInv (hp.modTile t _).rises ..)
  · dsimp only
    exact hp.modTile t _

/-- A write to a tile store is its bytes stored, and invalidations. -/
theorem Told.writeStore (h : Canon s) (t : Nat) (l : List (Nat × Byte × Bool)) : Told (s.storeBytes t l) (s.writeStore t l).2 :=
  List.foldlRecOn (motive := fun p : List Nat × State => Told (s.storeBytes t l) p.2) _ _ (.refl h.storeBytes.regs)
    fun _ hp line _ => hp.trans (.invalidate hp.rises t line)

section
variable (h : Told s u)
include h

theorem Told.store : u.store = s.store := by obtain ⟨_, _, _, _, rfl⟩ := h.frame; rfl
theorem Told.written : u.written = s.written := by obtain ⟨_, _, _, _, rfl⟩ := h.frame; rfl
theorem Told.queues : u.queues = s.queues := by obtain ⟨_, _, _, _, rfl⟩ := h.frame; rfl
theorem Told.cfs : u.cfs = s.cfs := by obtain ⟨_, _, _, _, rfl⟩ := h.frame; rfl
theorem Told.slots : u.slots = s.slots := by obtain ⟨_, _, _, _, rfl⟩ := h.frame; rfl
theorem Told.answers : answering u = answering s := by obtain ⟨_, _, _, _, rfl⟩ := h.frame; rfl

/-- The remap entries are registers of the tiles, so every offset lives where it lived (R278). -/
theorem Told.phys (t off : Nat) : u.phys t off = s.phys t off := by
  have hreg : ∀ i, u.reg .TIL_REMAP i = s.reg .TIL_REMAP i := fun i =>
    h.regs _ _ (by simp only [Reg.addr, Reg.info, statsEnd]; omega)
  have hfld : ∀ f : Fld, f.r = .TIL_REMAP → ∀ i, u.fld f i = s.fld f i := fun f hf i => by rw [State.fld, State.fld, hf, hreg]
  have hpage : ∀ p, u.physPage t p = s.physPage t p := fun p => by
    simp only [State.physPage, State.flag, hfld remapV rfl, hfld remapPage rfl]
  rw [State.phys, State.phys, hpage]

theorem Told.fresh (ph : Nat) : u.fresh ph = s.fresh ph := by rw [State.fresh, State.fresh, h.written]

theorem Told.peek (t off : Nat) : u.peek t off = s.peek t off := by
  simp only [State.peek, h.phys, h.fresh, h.store]

end

end Sys2Proof
end

section
/-! PROOFS. MEM_READ, MEM_WRITE, MEM_INIT and PAGE_STATUS (R270, R273, R285). -/

namespace Sys2Proof

open Sys2Proof.Machine

set_option Elab.async false

variable {s : State} {c : Cmd}

/-! ### MEM_READ and MEM_WRITE -/

/-- A range that the acting view reaches, on a floor that is OPEN. -/
structure Reaches (s : State) (c : Cmd) (t off len : Nat) : Prop where
  start : off < 0x80000
  tile : t < 512
  owned : s.cmdOwns c 0 t = true
  on : s.floorOpen (t / 16) = true
  fits : off + len ≤ 0x80000
  outside : c.view = 0 ∨ s.inLees t off len = false

/-- A range that a command reaches passes the checks that MEM_READ and MEM_WRITE share. -/
theorem Reaches.memCmd {t off len : Nat} (h : Reaches s c t off len) (op : Nat) (body : Nat → Nat → State → State) :
    (s.unfetch c).memCmd c op (t * 0x80000 + off) len body = body t off (s.unfetch c) := by
  obtain ⟨hoff, ht, hown, hopen, hfits, hlees⟩ := h
  have hdiv : (t * 0x80000 + off) / 0x80000 = t := by omega
  have hmod : (t * 0x80000 + off) % 0x80000 = off := by omega
  have hreach : ¬ ((!(s.unfetch c).cmdOwns c 0 t) = true ∨ (c.view ≠ 0 ∧ (s.unfetch c).inLees t off len = true)) := by
    rintro (h | ⟨hview, hin⟩)
    · rw [show (s.unfetch c).cmdOwns c 0 t = true from hown] at h
      exact absurd h (by decide)
    · rcases hlees with hzero | hout
      · exact hview hzero
      · rw [show (s.unfetch c).inLees t off len = s.inLees t off len from rfl, hout] at hin
        exact absurd hin (by decide)
  rw [State.memCmd, hdiv, hmod, if_neg (by omega), if_neg hreach, if_neg (not_domainOff_unfetch hopen)]

theorem completes_memRead {t off len : Nat} (h : Reaches s c t off len) (hlen : 1 ≤ len) (hmost : len ≤ 512)
    (ha : Accepted s c 0x9001 (leBytes 5 (t * 0x80000 + off) ++ leBytes 2 len) true) :
    Completes (.memRead c (t * 0x80000 + off) len) s fun u =>
      Replies s u c 0x9001 stOk ((s.peekN t off len).map (·.1) ++ poisonMap ((s.peekN t off len).map (·.2))) ∧
      (cleanRead s t off len → OnlyAnswers s u) := by
  have hrun : exec (.memRead c (t * 0x80000 + off) len) s = .next ((s.unfetch c).memReadCmd c len t off) := by
    have harm : exec (.memRead c (t * 0x80000 + off) len) s = execMemRead c (t * 0x80000 + off) len s := rfl
    rw [harm, execMemRead, runCmd_of_accepted ha, if_neg (by omega), h.memCmd]
  refine completes_replies hrun (answering_noteRead ..) ha.here ha.live fun replies _ hclean => ?_
  rw [noteRead_clean (s := s.unfetch c) hclean]
  rfl

/-- The bytes of a MEM_WRITE as they are stored from `off` on. -/
def placed (off : Nat) (data : List Byte) : List (Nat × Byte × Bool) := data.zipIdx.map fun p => (off + p.2, p.1, false)

theorem mem_placed {off : Nat} {data : List Byte} {x : Nat × Byte × Bool} :
    x ∈ placed off data ↔ ∃ i b, data[i]? = some b ∧ x = (off + i, b, false) := by
  simp only [placed, List.mem_map, Prod.exists, List.mem_zipIdx_iff_getElem?]
  constructor
  · rintro ⟨b, i, hb, rfl⟩
    exact ⟨i, b, hb, rfl⟩
  · rintro ⟨i, b, hb, rfl⟩
    exact ⟨b, i, hb, rfl⟩

theorem nodup_placed (off : Nat) (data : List Byte) : ((placed off data).map (·.1)).Nodup := by
  have hidx := (List.nodup_zipIdx_map_snd data).map (add_right_injective off)
  rw [List.map_map] at hidx
  rwa [placed, List.map_map]

theorem answering_afterWrite (hr : StoreRising s) (t : Nat) (l : List (Nat × Byte × Bool)) :
    answering (afterWrite s t l) = answering s :=
  (congrArg answering (poked_foldl hr t l).frame :)

theorem afterWrite_slots (hr : StoreRising s) (t : Nat) (l : List (Nat × Byte × Bool)) : (afterWrite s t l).slots = s.slots :=
  (congrArg State.slots (poked_foldl hr t l).frame :)

theorem completes_memWrite (hc : Canon s) {t off : Nat} {data : List Byte} (h : Reaches s c t off data.length)
    (hlen : 1 ≤ data.length) (hmost : data.length ≤ 992) (hflip : s.flag flipArm 0 = false)
    (ha : Accepted s c 0x9002 (leBytes 5 (t * 0x80000 + off) ++ leBytes 2 data.length ++ data) true) :
    Completes (.memWrite c (t * 0x80000 + off) data) s fun u => Replies s u c 0x9002 stOk [] ∧
      (∀ i b, data[i]? = some b → (u.peek t (off + i)).1 = { data := b, kind := 0, syn := 0, q := false }) ∧
      (∀ t' o, o < 0x80000 → (t' ≠ t ∨ o < off ∨ off + data.length ≤ o) → (u.peek t' o).1.data = (s.peek t' o).1.data) ∧
      u.queues = s.queues ∧ u.cfs = s.cfs ∧ u.slots = s.slots := by
  have hrun : exec (.memWrite c (t * 0x80000 + off) data) s = .next ((s.unfetch c).memWriteCmd c data t off) := by
    have harm : exec (.memWrite c (t * 0x80000 + off) data) s = execMemWrite c (t * 0x80000 + off) data s := rfl
    rw [harm, execMemWrite, runCmd_of_accepted ha, if_neg (by omega), h.memCmd]
  have hrise : StoreRising (s.unfetch c) := ⟨rising_of_twf hc.store, rising_of_twf hc.written⟩
  have htold : Told (afterWrite (s.unfetch c) t (placed off data)) ((s.unfetch c).writeStore t (placed off data)).2 := by
    rw [← storeBytes_unarmed hrise hflip]
    exact .writeStore hc.unfetch t _
  have hbound : ∀ x ∈ placed off data, x.1 < 0x80000 := by
    intro x hx
    obtain ⟨i, b, hib, rfl⟩ := mem_placed.mp hx
    obtain ⟨hi, -⟩ := List.getElem?_eq_some_iff.mp hib
    have hfits := h.fits
    dsimp only
    omega
  refine completes_replies hrun (htold.answers.trans (answering_afterWrite hrise t _)) ha.here ha.live fun replies _ =>
    ⟨fun i b hib => ?_, fun t' o ho hout => ?_, ?_, ?_, ?_⟩
  · have hpeek := peek_afterWrite_self (t := t) hrise hbound (nodup_placed off data) (mem_placed.mpr ⟨i, b, hib, rfl⟩)
    exact (congrArg Prod.fst (htold.peek t (off + i))).trans (hpeek.trans (eccDecode_eccEncode b))
  · refine congrArg Decoded.data ((congrArg Prod.fst (htold.peek t' o)).trans
      (peek_afterWrite_other hrise hbound ho (hout.imp_right fun hout x hx => ?_)))
    obtain ⟨i, b, hib, rfl⟩ := mem_placed.mp hx
    obtain ⟨hi, -⟩ := List.getElem?_eq_some_iff.mp hib
    dsimp only
    omega
  · exact htold.queues.trans (afterWrite_queues hrise t _)
  · exact htold.cfs.trans (afterWrite_cfs hrise t _)
  · exact htold.slots.trans (afterWrite_slots hrise t _)

/-! ### MEM_INIT -/

/-- The offsets of a line live in one line. -/
theorem phys_line (s : State) (t : Nat) {a b : Nat} (h : a / 64 = b / 64) : s.phys t a / 64 = s.phys t b / 64 := by
  have hpage : a / 4096 = b / 4096 := by omega
  simp only [State.phys, physByte, hpage]
  omega

/-- A line marked as not written since its initialisation (R273). -/
def markFresh (s : State) (ln : Nat) : State := { s with written := tput false s.written ln false }

theorem fresh_markFresh (h : rising s.written = true) (ln ph : Nat) :
    (markFresh s ln).fresh ph = if ph / 64 = ln then true else s.fresh ph := by
  rw [State.fresh, markFresh, tget_tput h, State.fresh]
  split <;> rfl

/-- The same mark made on both sides. -/
theorem Told.mark {u : State} {w : Tbl Bool} (h : Told { s with written := w } u) (w' : Tbl Bool) :
    Told { s with written := w' } { u with written := w' } where
  rises := h.rises
  regs := h.regs
  frame := by
    obtain ⟨_, _, _, _, rfl⟩ := h.frame
    exact ⟨_, _, _, _, rfl⟩

/-- One line marked fresh, and taken from the tiles that have read it (R166, R273). -/
def initLine (s : State) (t line : Nat) : State :=
  (((markFresh s (s.phys t (line * 64) / 64)).touchLines t [line * 64]).invalidate t line).2

theorem told_initLine (h : rising s.regs = true) (t line : Nat) :
    Told (markFresh s (s.phys t (line * 64) / 64)) (initLine s t line) := by
  have hmarked := Told.refl (s := markFresh s (s.phys t (line * 64) / 64)) h
  exact (hmarked.modTile t _).trans (.invalidate (hmarked.modTile t _).rises t line)

theorem initLines_succ (s : State) (t first n : Nat) :
    s.initLines t first (n + 1) = initLine (s.initLines t first n) t (first + n) := by
  rw [State.initLines, List.range_succ, List.foldl_append]
  rfl

/-- The lines from `first` on are fresh; beside the marks there are only invalidations. -/
theorem initLines_marks (hc : Canon s) (t first n : Nat) :
    Told { s with written := (s.initLines t first n).written } (s.initLines t first n) ∧
    ∀ o, first * 64 ≤ o → o < (first + n) * 64 → (s.initLines t first n).fresh (s.phys t o) = true := by
  induction n with
  | zero => exact ⟨.refl hc.regs, fun o ho ho' => absurd ho' (by omega)⟩
  | succ n ih =>
    obtain ⟨htold, hfresh⟩ := ih
    have hrise : rising (s.initLines t first n).written = true := rising_of_twf hc.initLines.written
    have hphys : ∀ o, (s.initLines t first n).phys t o = s.phys t o := htold.phys t
    rw [initLines_succ]
    generalize s.initLines t first n = u at *
    have hline := told_initLine htold.rises t (first + n)
    refine ⟨?_, fun o ho ho' => ?_⟩
    · rw [hline.written]
      exact (htold.mark _).trans hline
    · rw [hline.fresh, fresh_markFresh hrise, hphys]
      split
      · rfl
      · rename_i hother
        refine hfresh o ho ?_
        by_contra hlast
        exact hother (phys_line s t (by omega))

theorem completes_memInit (hc : Canon s) {t first n : Nat} (ht : t ≤ 511) (hn : 1 ≤ n) (hfit : first + n ≤ 8192)
    (hidle : s.tileInUse t = false) (ha : Accepted s c 0x9003 (leBytes 2 t ++ leBytes 2 first ++ leBytes 2 n) false) :
    Completes (.memInit c t first n) s fun u => Replies s u c 0x9003 stOk [] ∧ u.store = s.store ∧
      ∀ o, first * 64 ≤ o → o < (first + n) * 64 → u.fresh (u.phys t o) = true := by
  have hrun : exec (.memInit c t first n) s = .next (((s.unfetch c).initLines t first n).reply c 0x9003 stOk []) := by
    have harm : exec (.memInit c t first n) s = execMemInit c t first n s := rfl
    have hidle' : ¬ (s.unfetch c).tileInUse t = true := by rw [show (s.unfetch c).tileInUse t = false from hidle]; decide
    rw [harm, execMemInit, runCmd_of_accepted ha, if_neg (by omega), if_neg (by omega), if_neg hidle', if_neg (by omega)]
  obtain ⟨htold, hfresh⟩ := initLines_marks (hc.unfetch (c := c)) t first n
  exact completes_replies hrun htold.answers ha.here ha.live fun replies _ =>
    ⟨htold.store, fun o ho ho' => (congrArg ((s.unfetch c).initLines t first n).fresh (htold.phys t o)).trans (hfresh o ho ho')⟩

/-! ### PAGE_STATUS -/

theorem completes_pageStatus {t : Nat} (ht : t ≤ 511) (ha : Accepted s c 0x9005 (leBytes 2 t) false) :
    Completes (.pageStatus c t) s fun u =>
      Replies s u c 0x9005 stOk ((List.range 4).flatMap (fun k => leBytes 4 (s.reg .TIL_REMAP (4 * t + k))) ++
        leBytes 4 (s.reg .TIL_ECC_CE t) ++ leBytes 4 (s.reg .TIL_ECC_UE t)) ∧ OnlyAnswers s u := by
  have harm : exec (.pageStatus c t) s = execPageStatus c t s := rfl
  rw [Completes, harm, execPageStatus, runCmd_of_accepted ha, if_neg (by omega)]
  exact ⟨_, rfl, replies_reply (s := s.unfetch c) ha.here ha.live, reply_onlyAnswers ha.here ha.live⟩

/-- Settles O44: the two commands over a range that the view reaches, lines marked fresh, and the status of a tile's pages. -/
theorem memoryCommands : Obligations.MemoryCommands := by
  unfold Obligations.MemoryCommands
  intro s c hc
  refine ⟨fun t off hoff ht hown hopen => ⟨fun len hlen hmost hfits hlees ha => ?_, fun data hlen hmost hfits hlees hflip ha => ?_⟩,
    fun t first n ht hn hfit hidle ha => completes_memInit hc ht hn hfit hidle ha, fun t ht ha => completes_pageStatus ht ha⟩
  · exact completes_memRead ⟨hoff, ht, hown, hopen, hfits, hlees⟩ hlen hmost ha
  · exact completes_memWrite hc ⟨hoff, ht, hown, hopen, hfits, hlees⟩ hlen hmost hflip ha

end Sys2Proof
end

section
/-! PROOFS. Two write-backs of one line (R269): the one that is made is a write to the line, so the other is marked to be skipped,
and a statement that the ones behind it stay as they are fails. -/

namespace Sys2Proof

open Sys2Proof.Machine

set_option Elab.async false

/-- Byte 0 of tile 0 is stored with one bit flipped, and two reads of it have corrected it. -/
def correctedTwice : State :=
  let s := Tests.wrote State.reset 0 0 [3#8]
  let s := { s with store := tput 0#13 s.store (s.phys 0 0) (eccEncode 3#8 ^^^ 1#13) }
  (s.noteRead 0 0 1 5 0xFF).noteRead 0 0 1 5 0xFF

theorem correctedTwice_canon : Canon correctedTwice := canon_of (by decide +kernel)

/-- Two write-backs of the line wait; once the first is made, the second is stale. -/
theorem correctedTwice_writesBack :
    (correctedTwice.tile 0).writeBacks = List.replicate 2 { line := 0, bytes := [(0, 3#8)], stale := false } ∧
    Tests.nextIs (.correctionWriteback 0) correctedTwice
      (fun u => decide ((u.tile 0).writeBacks = [{ line := 0, bytes := [(0, 3#8)], stale := true }])) = true := by
  decide +kernel

/-- Refutes O43: the clause of CORRECTION_WRITEBACK says that the other write-backs stay as they are, and does not ask that they
be of other lines. One of the same line is marked as reached by another write (R269). -/
theorem not_writeBacksScrubsAndCopies : ¬ Obligations.WriteBacksScrubsAndCopies := by
  unfold Obligations.WriteBacksScrubsAndCopies
  intro h
  obtain ⟨hwait, hmarked⟩ := correctedTwice_writesBack
  obtain ⟨hwriteBack, -⟩ := h correctedTwice 0 correctedTwice_canon
  obtain ⟨u, hu, hrest, -⟩ := hwriteBack _ _ hwait rfl (by decide)
  have hstale : (u.tile 0).writeBacks = [{ line := 0, bytes := [(0, 3#8)], stale := true }] :=
    of_decide_eq_true (exec_of_nextIs hmarked hu)
  rw [show (u.tile 0).writeBacks = _ from hrest] at hstale
  exact absurd hstale (by decide)

end Sys2Proof
end

section
/-! PROOFS. RD requests at their node (R268, R295, R297, R302): what each is answered with, by the space that its address lies in. -/

namespace Sys2Proof

open Sys2Proof.Machine

set_option Elab.async false

section
variable {s : State} {p : Pkt}

/-! ### Arrival -/

theorem exec_pktRd_refused {st : Nat} (h : s.reqArrived p .rd = true) (hst : s.pktFault p false = some st) :
    exec (.pktRd p) s = .next ((s.takePkt p).rsp p.dest p st 0) := by
  have harm : exec (.pktRd p) s = execPktRd p s := rfl
  rw [harm, execPktRd, if_pos h]
  dsimp only
  rw [pktFault_takePkt, hst]

theorem exec_pktRd_served (h : s.reqArrived p .rd = true) (hst : s.pktFault p false = none) :
    exec (.pktRd p) s = .next ((s.takePkt p).serveRead p) := by
  have harm : exec (.pktRd p) s = execPktRd p s := rfl
  rw [harm, execPktRd, if_pos h]
  dsimp only
  rw [pktFault_takePkt, hst]

/-! ### Data packets -/

/-- A DAT sent once the request has left the network is the request's answer (R302). -/
theorem dat_answers {u : State} (h : u.net = s.net.erase p) (node : Nat) (data : List Byte) (psn : Nat) :
    ∃ x, (u.dat node p data psn).net = s.net.erase p ++ [x] ∧ x.op = (if data.length = 64 then .datLine else .datShort) ∧
      x.tag = p.tag ∧ x.src = p.src ∧ x.data = data.map some ∧ x.psn = psn :=
  ⟨_, congrArg (· ++ [_]) h, rfl, rfl, rfl, rfl, rfl⟩

/-- Of the sizes of R297 only code 4 is a line. -/
theorem reqBytes_eq_line {n : Nat} (h : n ≤ 4) : reqBytes n = 64 ↔ n = 4 := by
  interval_cases n <;> decide

theorem size_of_pktFault {w : Bool} (h : s.pktFault p w = none) : p.size ≤ 4 := by
  obtain ⟨hsize, -⟩ := wellSized_accepted_of_pktFault h
  rw [wellSized, Bool.and_eq_true, decide_eq_true_eq] at hsize
  exact hsize.1

theorem length_leBytes (k n : Nat) : (leBytes k n).length = k := by
  induction k generalizing n with
  | zero => rfl
  | succ k ih => rw [leBytes, List.length_cons, ih]

/-! ### Tile stores -/

theorem length_peekN (t off n : Nat) : (s.peekN t off n).length = n := by
  rw [State.peekN, List.length_map, List.length_range]

theorem peekN_fst (t off n : Nat) : (s.peekN t off n).map (·.1) = (List.range n).map fun i => (s.peek t (off + i)).1.data := by
  rw [State.peekN, List.map_map]
  rfl

/-- Bytes that read without error are not marked. -/
theorem peekN_clean {t off n : Nat} (h : cleanRead s t off n) (j : Nat) : ((s.peekN t off n).getD j (0#8, false)).2 = false := by
  by_cases hj : j < n
  · rw [List.getD_eq_getElem _ _ (by rwa [length_peekN])]
    simp [State.peekN, h j hj]
  · rw [List.getD_eq_default _ _ (by rw [length_peekN]; omega)]

/-- Bytes of which none is marked poison no word of a packet (R302). -/
theorem psnMask_unmarked {l : List (Byte × Bool)} (h : ∀ j, (l.getD j (0#8, false)).2 = false) (first : Nat) : psnMask l first = 0 := by
  refine foldl_fixed fun i _ => if_neg fun hany => ?_
  obtain ⟨j, -, hj⟩ := List.any_eq_true.mp hany
  rw [h j, Bool.and_false] at hj
  cases hj

theorem readStore_clean {t off n : Nat} (h : cleanRead s t off n) : ∃ sharers, s.readStore p t off n =
    State.dat { s with sharers := sharers } p.dest p ((List.range n).map fun i => (s.peek t (off + i)).1.data) 0 := by
  rw [State.readStore, noteRead_clean h, psnMask_unmarked (peekN_clean h), peekN_fst]
  split
  · exact ⟨_, rfl⟩
  · exact ⟨s.sharers, rfl⟩

variable (harr : s.reqArrived p .rd = true) (hok : s.pktFault p false = none)
include harr hok

theorem completes_pktRd_store {t off : Nat} (hsp : spaceOf p.addr = .store t off) (hclean : cleanRead s t off (reqBytes p.size)) :
    Completes (.pktRd p) s fun u =>
      (∃ x, u.net = s.net.erase p ++ [x] ∧ x.op = (if p.size = 4 then .datLine else .datShort) ∧ x.tag = p.tag ∧ x.src = p.src ∧
        x.data = (List.range (reqBytes p.size)).map (fun i => some (s.peek t (off + i)).1.data) ∧ x.psn = 0) ∧
      u.store = s.store ∧ u.written = s.written ∧ u.regs = s.regs := by
  obtain ⟨sharers, hread⟩ := readStore_clean (s := s.takePkt p) (p := p) hclean
  have hserve : (s.takePkt p).serveRead p = (s.takePkt p).readStore p t off (reqBytes p.size) := by rw [State.serveRead, hsp]
  obtain ⟨x, hnet, hop, htag, hsrc, hdata, hpsn⟩ := dat_answers (s := s) (p := p)
    (u := { s.takePkt p with sharers := sharers }) rfl p.dest
    ((List.range (reqBytes p.size)).map fun i => (s.peek t (off + i)).1.data) 0
  rw [List.length_map, List.length_range, if_congr (reqBytes_eq_line (size_of_pktFault hok)) rfl rfl] at hop
  rw [List.map_map] at hdata
  exact ⟨_, (exec_pktRd_served harr hok).trans (congrArg _ (hserve.trans hread)), ⟨x, hnet, hop, htag, hsrc, hdata, hpsn⟩,
    rfl, rfl, rfl⟩

/-! ### Registers, task tables, host memory -/

omit harr in
/-- Register space takes no line (R39). -/
theorem size_of_regs (hsp : spaceOf p.addr = .regs) : reqBytes p.size ≠ 64 := by
  obtain ⟨-, hacc⟩ := wellSized_accepted_of_pktFault hok
  intro hline
  rw [accepted, hsp, hline] at hacc
  dsimp only at hacc
  split at hacc
  · simp [regAccess] at hacc
  · simp at hacc

omit harr hok in
/-- Reading a register changes at most its fields that a read clears, and their marks (R15, R541). -/
theorem readUnit_net (a : Nat) (wide : Bool) : (s.readUnit a wide).2.net = s.net := by
  unfold State.readUnit
  split
  · rfl
  · dsimp only [State.readReg]
    unfold State.clearRead
    dsimp only
    split <;> rfl

theorem completes_pktRd_regs (hsp : spaceOf p.addr = .regs) : Completes (.pktRd p) s fun u => ∃ x,
    u.net = s.net.erase p ++ [x] ∧ x.op = .datShort ∧ x.tag = p.tag ∧ x.src = p.src ∧
    x.data = (leBytes (reqBytes p.size) ((s.takePkt p).readUnit p.addr (reqBytes p.size == 8)).1).map some := by
  refine ⟨_, exec_pktRd_served harr hok, ?_⟩
  rw [State.serveRead, hsp]
  obtain ⟨x, hnet, hop, htag, hsrc, hdata, -⟩ := dat_answers (s := s) (p := p) (readUnit_net (s := s.takePkt p) p.addr _) p.dest
    (leBytes (reqBytes p.size) ((s.takePkt p).readUnit p.addr (reqBytes p.size == 8)).1) 0
  rw [length_leBytes, if_neg (size_of_regs hok hsp)] at hop
  exact ⟨x, hnet, hop, htag, hsrc, hdata⟩

theorem completes_pktRd_desc {f off : Nat} (hsp : spaceOf p.addr = .desc f off) : Completes (.pktRd p) s fun u =>
    u = { s with net := u.net } ∧ ∃ x, u.net = s.net.erase p ++ [x] ∧ x.tag = p.tag ∧ x.src = p.src ∧
      x.data = (s.descBytes f off (reqBytes p.size)).map some := by
  refine ⟨_, exec_pktRd_served harr hok, ?_⟩
  rw [State.serveRead, hsp]
  exact ⟨rfl, _, rfl, rfl, rfl, rfl⟩

theorem completes_pktRd_host (hsp : spaceOf p.addr = .host) :
    Completes (.pktRd p) s fun u => u.hmw = s.hmw ++ [p] ∧ u.net = s.net.erase p := by
  refine ⟨_, exec_pktRd_served harr hok, ?_⟩
  rw [State.serveRead, hsp]
  exact ⟨rfl, rfl⟩

end

/-- Settles O35: a refused request leaves the network and is answered, and each space answers the others in its own way. -/
theorem readPackets : Obligations.ReadPackets := by
  unfold Obligations.ReadPackets
  intro s p _ harr
  refine ⟨fun st hst => ⟨_, exec_pktRd_refused harr hst, answers_rsp rfl _ _ _, rfl⟩, fun hok =>
    ⟨fun t off hsp hclean => completes_pktRd_store harr hok hsp hclean, fun hsp => completes_pktRd_regs harr hok hsp,
      fun f off hsp => completes_pktRd_desc harr hok hsp, fun hsp => completes_pktRd_host harr hok hsp⟩⟩

end Sys2Proof
end

section
/-! PROOFS. Packets at a router (R298, R306, R309, R314): what the counters of damaged heads and words leave of the routes, and the
hop that the active table gives. -/

namespace Sys2Proof

open Sys2Proof.Machine

set_option Elab.async false

/-! ### Poison bits -/

/-- The poison bits of the words with bad parity are set, beside those that were (R298). -/
theorem bit_foldl_or (l : List Nat) (m i : Nat) : bit (l.foldl (fun m i => m ||| 2 ^ i) m) i = (bit m i || decide (i ∈ l)) := by
  induction l generalizing m with
  | nil => simp
  | cons j l ih =>
    rw [List.foldl_cons, ih, bit_eq_testBit, Nat.testBit_or, Nat.testBit_two_pow, ← bit_eq_testBit, Bool.or_assoc]
    simp [eq_comm]

theorem parityHits_fst (s : State) (p : Pkt) (bad : Nat) : ∃ m, (s.parityHits p bad).1 = { p with psn := m } ∧
    ∀ i, bit m i = (bit p.psn i || (decide (i < dataWords p) && bit bad i)) := by
  refine ⟨_, rfl, fun i => ?_⟩
  rw [bit_foldl_or]
  simp [List.mem_filter]

/-- A packet without bad words goes on as it is. -/
theorem parityHits_none (s : State) (p : Pkt) : (s.parityHits p 0).1 = p := by
  have hnone : (List.range (dataWords p)).filter (bit 0) = [] := List.filter_eq_nil_iff.mpr fun i _ => by simp [bit]
  rw [State.parityHits, hnone]
  rfl

/-! ### Events -/

theorem faultEdge_keeps (s old : State) : (s.faultEdge old).net = s.net ∧ (s.faultEdge old).regs = s.regs := by
  unfold State.faultEdge
  split <;> exact ⟨rfl, rfl⟩

/-- Also a CRITICAL event leaves the network, and of the registers all but DEV_FAULT (R547). -/
theorem raise_keeps {s : State} (h : rising s.regs = true) (code sclass loc data : Nat) :
    (s.raise code sclass loc data).net = s.net ∧
    ∀ r i, r.addr i ≠ Reg.addr .DEV_FAULT 0 → (s.raise code sclass loc data).reg r i = s.reg r i := by
  unfold State.raise State.raiseAt
  dsimp only
  split
  · exact ⟨rfl, fun _ _ _ => rfl⟩
  · exact ⟨(faultEdge_keeps ..).1, fun r i hr => (reg_congr (faultEdge_keeps ..).2 r i).trans
      (reg_setReg (s := { s with logQ := _ }) h _ _ _ _ _ hr)⟩

/-! ### Counters of the network -/

/-- The packet has left the network, and the routes and the states of the floors are as they were. -/
structure Lifted (s u : State) (p : Pkt) : Prop where
  rises : rising u.regs = true
  net : u.net = s.net.erase p
  bank : u.activeBank = s.activeBank
  isOpen : u.floorOpen = s.floorOpen
  down : u.floorDown = s.floorDown

section
variable {s u : State} {p : Pkt}

theorem lifted_takePkt (h : rising s.regs = true) : Lifted s (s.takePkt p) p := ⟨h, rfl, rfl, rfl, rfl⟩

/-- A counter between NOC_ROUTE_CTL and the states of the floors is no part of the routes (R319). -/
theorem Lifted.bumpBy (h : Lifted s u p) {r : Reg} (hlo : 0x4000a0000 < r.addr 0 := by decide)
    (hhi : r.addr 0 < 0x4000a0080 := by decide) (n : Nat) : Lifted s (u.bumpBy r 0 n) p := by
  have hother {q : Reg} {i : Nat} (hq : q.addr i ≠ r.addr 0) : (u.bumpBy r 0 n).reg q i = u.reg q i := reg_setReg h.rises _ _ _ _ _ hq
  have hctl : (u.bumpBy r 0 n).fld nocActive 0 = u.fld nocActive 0 :=
    congrArg (bits · 0 0) (hother (q := .NOC_ROUTE_CTL) (by
      have haddr : Reg.addr .NOC_ROUTE_CTL 0 = 0x4000a0000 := rfl
      omega))
  have hrt (i : Nat) : (u.bumpBy r 0 n).reg .NOC_RT i = u.reg .NOC_RT i := hother (by
    have hbase : 0x4000c0000 ≤ Reg.addr .NOC_RT i := by simp only [Reg.addr, Reg.info]; omega
    omega)
  have hfloor (f : Nat) : (u.bumpBy r 0 n).fld nocState f = u.fld nocState f :=
    congrArg (bits · 18 16) (hother (q := .NOC_FLOOR) (by
      have hbase : 0x4000a0080 ≤ Reg.addr .NOC_FLOOR f := by simp only [Reg.addr, Reg.info]; omega
      omega))
  refine ⟨rising_setReg h.rises _ _ _, h.net, ?_, ?_, ?_⟩
  · rw [← h.bank]
    funext r e
    rw [State.activeBank, State.activeBank, State.bank, State.bank, hctl, hrt]
  · rw [← h.isOpen]
    funext f
    rw [State.floorOpen, State.floorOpen, hfloor]
  · rw [← h.down]
    funext f
    rw [State.floorDown, State.floorDown, hfloor]

theorem Lifted.bump (h : Lifted s u p) {r : Reg} (hlo : 0x4000a0000 < r.addr 0 := by decide)
    (hhi : r.addr 0 < 0x4000a0080 := by decide) : Lifted s (u.bump r 0) p := h.bumpBy hlo hhi 1

/-- A head forwarded: taken from the network, a corrected error counted, words with bad parity counted. -/
def headTaken (s : State) (p : Pkt) (err : Fin 3) (bad : Nat) : State :=
  ((if err = 1 then (s.takePkt p).bump .NOC_HDR_CE 0 else s.takePkt p).parityHits p bad).2

theorem lifted_headTaken (h : rising s.regs = true) (err : Fin 3) (bad : Nat) : Lifted s (headTaken s p err bad) p := by
  unfold headTaken State.parityHits
  dsimp only
  split
  · exact (lifted_takePkt h).bump.bumpBy (n := _)
  · exact (lifted_takePkt h).bumpBy (n := _)

/-! ### The hop -/

/-- The packet is free to take the hop that the table gives: it does not leave a fenced floor (R314). -/
theorem hopPkt_eq (h : leaving p p.router = false ∨ s.floorOpen p.router = true) : s.hopPkt p =
    match hopOf s.activeBank p.router p.dest (pktNet p) with
    | .none => s.unrouted p.router p
    | .here => { s with net := s.net ++ [{ p with local_ := true }] }
    | .router r' =>
      if r' < 32 ∧ s.floorDown r' ∧ p.dest = r' then s.enterOff p.router r' p
      else { s with net := s.net ++ [{ p with router := r' }] } := by
  have hfree : ¬ (leaving p p.router = true ∧ (!s.floorOpen p.router) = true) := by
    rintro ⟨hleave, hshut⟩
    rcases h with h | h <;> simp [h] at hleave hshut
  unfold State.hopPkt
  exact if_neg hfree

end

section
variable {s : State} {p : Pkt} (hc : Canon s) (haway : p.local_ = false) (hrouter : p.router < 100) (hnext : s.isNext p = true)
include haway hrouter hnext

theorem exec_routerForward {err : Fin 3} (herr : err ≠ 2) (bad : Nat) :
    exec (.routerForward p err bad) s = .next ((headTaken s p err bad).hopPkt ((s.takePkt p).parityHits p bad).1) := by
  have harm : exec (.routerForward p err bad) s = execRouterForward p err bad s := rfl
  rw [harm, execRouterForward, if_neg (by simp [haway, hnext]; omega)]
  dsimp only
  rw [if_neg herr]
  rfl

theorem exec_routerForward_damaged (bad : Nat) : exec (.routerForward p 2 bad) s =
    .next (((s.takePkt p).bump .NOC_HDR_UE 0).raise 0x4301 0xA p.router (pktNet p)) := by
  have harm : exec (.routerForward p 2 bad) s = execRouterForward p 2 bad s := rfl
  rw [harm, execRouterForward, if_neg (by simp [haway, hnext]; omega)]
  rfl

include hc

/-- A damaged head is dropped, counted and raised (R298). -/
theorem completes_routerForward_damaged (bad : Nat) : Completes (.routerForward p 2 bad) s fun u =>
    u.net = s.net.erase p ∧ Logs s u 0x4301 p.router ∧ u.reg .NOC_HDR_UE 0 = min 0xFFFFFFFF (s.reg .NOC_HDR_UE 0 + 1) := by
  have hrise := rising_bump (s := s.takePkt p) hc.regs .NOC_HDR_UE 0
  obtain ⟨hnet, hreg⟩ := raise_keeps hrise 0x4301 0xA p.router (pktNet p)
  exact ⟨_, exec_routerForward_damaged haway hrouter hnext bad, hnet, raise_logs ((s.takePkt p).bump .NOC_HDR_UE 0) _ _ _ _,
    (hreg _ _ (by decide)).trans (reg_bump_self (s := s.takePkt p) hc.regs _ _)⟩

variable (hfree : leaving p p.router = false ∨ s.floorOpen p.router = true)
include hfree

theorem completes_routerForward_router {r' : Nat} {err : Fin 3} (herr : err ≠ 2) (bad : Nat)
    (hhop : hopOf s.activeBank p.router p.dest (pktNet p) = .router r') (hon : ¬ (r' < 32 ∧ s.floorDown r' = true ∧ p.dest = r')) :
    Completes (.routerForward p err bad) s fun u => ∃ m, u.net = s.net.erase p ++ [{ p with router := r', psn := m }] ∧
      ∀ i, bit m i = (bit p.psn i || (decide (i < dataWords p) && bit bad i)) := by
  obtain ⟨m, hpkt, hbits⟩ := parityHits_fst (s.takePkt p) p bad
  obtain ⟨-, hnet, hbank, hopen, hdown⟩ := lifted_headTaken (p := p) hc.regs err bad
  refine ⟨_, exec_routerForward haway hrouter hnext herr bad, m, ?_, hbits⟩
  have htable : hopOf (headTaken s p err bad).activeBank p.router p.dest (pktNet { p with psn := m }) = .router r' := hbank ▸ hhop
  rw [hpkt, hopPkt_eq (hopen ▸ hfree)]
  dsimp only
  rw [htable]
  dsimp only
  rw [hdown, if_neg hon, hnet]

theorem completes_routerForward_here (hhop : hopOf s.activeBank p.router p.dest (pktNet p) = .here) :
    Completes (.routerForward p 0 0) s fun u => u.net = s.net.erase p ++ [{ p with local_ := true }] := by
  obtain ⟨-, hnet, hbank, hopen, -⟩ := lifted_headTaken (p := p) hc.regs 0 0
  refine ⟨_, exec_routerForward haway hrouter hnext (by decide) 0, ?_⟩
  rw [parityHits_none, hopPkt_eq (hopen ▸ hfree), hbank, hhop]
  exact congrArg (· ++ [_]) hnet

theorem completes_routerForward_none (hhop : hopOf s.activeBank p.router p.dest (pktNet p) = .none) (hreq : isRequest p = true) :
    Completes (.routerForward p 0 0) s fun u => Answers s u p stNoRoute 0 := by
  obtain ⟨-, hnet, hbank, hopen, -⟩ := lifted_headTaken (p := p) hc.regs 0 0
  refine ⟨_, exec_routerForward haway hrouter hnext (by decide) 0, ?_⟩
  rw [parityHits_none, hopPkt_eq (hopen ▸ hfree), hbank, hhop]
  dsimp only
  rw [State.unrouted, if_pos hreq]
  exact ⟨_, congrArg (· ++ [_]) hnet, rfl, rfl, rfl, rfl, rfl, rfl⟩

end

/-- Settles O39: a sound head takes the hop of its entry, a damaged one is dropped. -/
theorem routersForward : Obligations.RoutersForward := by
  unfold Obligations.RoutersForward
  intro s p bad hc haway hrouter hnext
  exact ⟨fun hfree => ⟨fun r' err herr hhop hon => completes_routerForward_router hc haway hrouter hnext hfree herr bad hhop hon,
    fun hhop => completes_routerForward_here hc haway hrouter hnext hfree hhop,
    fun hhop hreq => completes_routerForward_none hc haway hrouter hnext hfree hhop hreq⟩,
    completes_routerForward_damaged hc haway hrouter hnext bad⟩

end Sys2Proof
end

section
/-! PROOFS. Route tables (R306, R308, R310): the bits of NOC_ROUTE_CTL, a bank written from a table, and a commit begun and made. -/

namespace Sys2Proof

open Sys2Proof.Machine

set_option Elab.async false

/-! ### Places of the entries (R306) -/

theorem noc_rt_addr (i : Nat) : 0x4000c0000 ≤ Reg.addr .NOC_RT i := by
  simp only [Reg.addr, Reg.info]
  omega

theorem noc_rt_apart {i j : Nat} (h : i ≠ j) : Reg.addr .NOC_RT i ≠ Reg.addr .NOC_RT j := by
  simp only [Reg.addr, Reg.info]
  omega

/-- Where the entry of a router and a node stands in bank `b`. -/
def entryAt (b : Nat) (x : Nat × Nat) : Nat := 128 * x.1 + 64 * b + x.2

/-- Every router with every node. -/
def allEntries : List (Nat × Nat) := List.range 53 ×ˢ List.range 64

theorem nodup_entryAt (b : Nat) : (allEntries.map (entryAt b)).Nodup := by
  refine (List.nodup_range.product List.nodup_range).map_on ?_
  rintro ⟨r, e⟩ hx ⟨r', e'⟩ hy hxy
  simp only [List.mem_product, List.mem_range] at hx hy
  simp only [entryAt] at hxy
  exact Prod.ext (by dsimp only; omega) (by dsimp only; omega)

/-! ### A bank written from a table -/

section
variable {s : State}

theorem writeBank_eq (s : State) (b : Nat) (tb : RTable) :
    s.writeBank b tb = allEntries.foldl (fun s x => s.setReg .NOC_RT (entryAt b x) (tb x.1 x.2)) s := by
  simp only [State.writeBank, allEntries, SProd.sprod, List.product, List.foldl_flatMap, List.foldl_map, entryAt]

theorem writeBank_frame (s : State) (b : Nat) (tb : RTable) : ∃ regs, s.writeBank b tb = { s with regs := regs } := by
  rw [writeBank_eq]
  refine List.foldlRecOn (motive := fun u : State => ∃ regs, u = { s with regs := regs }) _ _ ⟨_, rfl⟩ fun u hu _ _ => ?_
  obtain ⟨_, rfl⟩ := hu
  exact ⟨_, rfl⟩

section
variable (h : rising s.regs = true)
include h

/-- Each entry is its own register. -/
theorem entry_setReg (i j v : Nat) : (s.setReg .NOC_RT i v).reg .NOC_RT j = if j = i then v % 2 ^ 64 else s.reg .NOC_RT j := by
  by_cases hij : j = i
  · rw [if_pos hij, hij]
    exact reg_setReg_self h .NOC_RT i v
  · rw [if_neg hij]
    exact reg_setReg h _ _ _ _ _ (noc_rt_apart hij)

theorem bank_writeBank {b r e : Nat} (hr : r < 53) (he : e < 64) (tb : RTable) :
    (s.writeBank b tb).bank b r e = tb r e % 2 ^ 64 := by
  have hmem : (r, e) ∈ allEntries := List.mem_product.mpr ⟨List.mem_range.mpr hr, List.mem_range.mpr he⟩
  have hread := read_foldl_of_mem (read := fun u : State => u.reg .NOC_RT) (key := entryAt b) (val := fun x => tb x.1 x.2 % 2 ^ 64)
    (write := fun s x => s.setReg .NOC_RT (entryAt b x) (tb x.1 x.2)) (Inv := fun u : State => rising u.regs = true)
    (fun _ _ hu => rising_setReg hu _ _ _) (fun u x n hu => entry_setReg hu (entryAt b x) n (tb x.1 x.2)) h (nodup_entryAt b) hmem
  rw [writeBank_eq]
  exact hread

/-- The bits of NOC_ROUTE_CTL stand before the tables. -/
theorem reg_writeBank_other {q : Reg} {i : Nat} (hq : q.addr i < 0x4000c0000) (b : Nat) (tb : RTable) :
    (s.writeBank b tb).reg q i = s.reg q i := by
  rw [writeBank_eq]
  refine (List.foldlRecOn (motive := fun u : State => rising u.regs = true ∧ u.reg q i = s.reg q i) _ _ ⟨h, rfl⟩ ?_).2
  rintro u ⟨hrise, hsame⟩ x -
  have hat := noc_rt_addr (entryAt b x)
  exact ⟨rising_setReg hrise _ _ _, (reg_setReg hrise _ _ _ _ _ (by omega)).trans hsame⟩

end

/-! ### Commits (R308) -/

section
variable (h : rising s.regs = true)
include h

theorem startDrain_starts : s.startDrain.flag nocPend 0 = true ∧ s.startDrain.fld nocActive 0 = s.fld nocActive 0 := by
  have hfld : s.startDrain.fld = (s.setFld nocPend 0 1).fld := fld_congr rfl
  rw [State.flag, hfld]
  exact ⟨decide_eq_true (fld_setFld_self h (by decide) (by decide) 0 1),
    fld_setFld_apart h nocPend nocActive rfl (by decide) (by decide) (by decide) 0 1⟩

theorem bank_startDrain (b r e : Nat) : s.startDrain.bank b r e = s.bank b r e :=
  reg_setFld_other (f := nocPend) h (by
    have hat := noc_rt_addr (128 * r + 64 * b + e)
    have hctl : nocPend.r.addr 0 = 0x4000a0000 := rfl
    omega) 1

/-- The banks change their places, and OOO stays as it was. -/
theorem swapBanks_swaps : s.swapBanks.fld nocActive 0 = 1 - s.fld nocActive 0 ∧ s.swapBanks.fld nocOoo 0 = s.fld nocOoo 0 := by
  have hrise := rising_setFld h nocActive 0 (1 - s.fld nocActive 0)
  have hfld : s.swapBanks.fld = ((s.setFld nocActive 0 (1 - s.fld nocActive 0)).setFld nocPend 0 0).fld := fld_congr rfl
  rw [hfld]
  refine ⟨(fld_setFld_apart hrise nocPend nocActive rfl (by decide) (by decide) (by decide) 0 0).trans ?_,
    (fld_setFld_apart hrise nocPend nocOoo rfl (by decide) (by decide) (by decide) 0 0).trans
      (fld_setFld_apart h nocActive nocOoo rfl (by decide) (by decide) (by decide) 0 _)⟩
  rw [fld_setFld_self h (by decide) (by decide)]
  exact Nat.mod_eq_of_lt (show 1 - s.fld nocActive 0 < 2 by omega)

end

end

end Sys2Proof
end

section
/-! PROOFS. Plans, commits and reads of the routes, and the statistics of initiators (R308, R310, R313, R318, R319). -/

namespace Sys2Proof

open Sys2Proof.Machine

set_option Elab.async false

/-! ### Commands that wait, and the end of their wait -/

section
variable {s u : State} {c : Cmd} {op timeout : Nat} {w : CmdWait}

theorem WaitsFor.same {v : State} (h : WaitsFor s u c op w timeout) (hc : v.cmds = u.cmds := by exact rfl)
    (hr : v.replies = u.replies := by exact rfl) : WaitsFor s v c op w timeout :=
  ⟨hc.trans h.1, hr.trans h.2⟩

/-- A command that starts to wait changes the commands in progress and the replies. -/
theorem await_frame (s : State) (c : Cmd) (op : Nat) (w : CmdWait) (timeout : Nat) : ∃ cmds replies,
    s.await c op w timeout = { s with cmds := cmds, replies := replies } := by
  unfold State.await State.interim
  split
  · exact ⟨_, _, rfl⟩
  · exact ⟨_, s.replies, rfl⟩

/-- The end of a wait changes the commands in progress, the drains, and the places that replies go to. -/
theorem finish_frame (s : State) (w : CmdWait) (status : Nat) (data : List Byte) : ∃ cmds drains replies mgmt orphans,
    s.finish w status data = { s with cmds := cmds, drains := drains, replies := replies, mgmt := mgmt, orphans := orphans } := by
  obtain ⟨replies, mgmt, orphans, h⟩ := foldl_reply_frame (status := status) (data := data) (s.cmds.filter fun x => x.wait = w)
    { s with cmds := s.cmds.filter fun x => x.wait ≠ w, drains := s.drains.filter (· ≠ w) }
  exact ⟨_, _, replies, mgmt, orphans, h⟩

theorem fld_finish (s : State) (w : CmdWait) (status : Nat) (data : List Byte) : (s.finish w status data).fld = s.fld := by
  obtain ⟨_, _, _, _, _, h⟩ := finish_frame s w status data
  exact fld_congr (by rw [h])

end

section
variable {s : State} {c : Cmd} (hc : Canon s)

/-! ### ROUTE_PLAN (R310) -/

section
variable {l : List (Nat × Nat × Nat × Nat)}

/-- The first commit of a plan: additions written into the inactive bank, the command waiting, the removals kept for the second. -/
def planned (s : State) (c : Cmd) (l : List (Nat × Nat × Nat × Nat)) : State :=
  { (s.prepareBank (l.filter fun x => !isRemoval x)).await c 0x4001 (.routePlan 0) 0 with
    noc := { s.noc with plan := l.filter isRemoval, planStep := 1 } }

theorem routePlanCmd_of_sound (hfirst : tableFault ((l.filter fun x => !isRemoval x).foldl changeTable s.activeBank) s.floorDown = none)
    (hsecond : tableFault ((l.filter isRemoval).foldl changeTable ((l.filter fun x => !isRemoval x).foldl changeTable s.activeBank))
      s.floorDown = none) (hidle : s.routing = false) : s.routePlanCmd c l = (planned s c l).startDrain := by
  obtain ⟨regs, hbank⟩ := writeBank_frame s (1 - s.fld nocActive 0) ((l.filter fun x => !isRemoval x).foldl changeTable s.activeBank)
  obtain ⟨cmds, replies, hawait⟩ := await_frame (s.prepareBank (l.filter fun x => !isRemoval x)) c 0x4001 (.routePlan 0) 0
  have hnoc : ((s.prepareBank (l.filter fun x => !isRemoval x)).await c 0x4001 (.routePlan 0) 0).noc = s.noc := by
    rw [hawait, State.prepareBank, hbank]
  rw [State.routePlanCmd]
  dsimp only
  rw [hfirst, hsecond]
  simp only [Option.or, hidle, Bool.false_eq_true, if_false, hnoc]
  rfl

include hc

/-- What the first commit of a plan leaves before injection stops. -/
theorem planned_bank (l : List (Nat × Nat × Nat × Nat)) : rising (planned s c l).regs = true ∧
    (planned s c l).fld nocActive 0 = s.fld nocActive 0 ∧ ∀ r e, r < 53 → e < 64 →
      (planned s c l).bank (1 - s.fld nocActive 0) r e = (l.filter fun x => !isRemoval x).foldl changeTable s.activeBank r e % 2 ^ 64 := by
  have hregs : (planned s c l).regs = (s.prepareBank (l.filter fun x => !isRemoval x)).regs := by
    obtain ⟨cmds, replies, hawait⟩ := await_frame (s.prepareBank (l.filter fun x => !isRemoval x)) c 0x4001 (.routePlan 0) 0
    rw [planned, hawait]
  refine ⟨by rw [hregs]; exact hc.prepareBank.regs, ?_, fun r e hr he => ?_⟩
  · have hctl : (planned s c l).reg .NOC_ROUTE_CTL 0 = s.reg .NOC_ROUTE_CTL 0 :=
      (reg_congr hregs _ _).trans (reg_writeBank_other (q := .NOC_ROUTE_CTL) (i := 0) hc.regs (by decide) _ _)
    exact fld_of_reg hctl
  · exact (reg_congr hregs _ _).trans (bank_writeBank hc.regs hr he _)

theorem completes_routePlan (ha : Accepted s c 0x4001 (changeBytes l) false) (hlen : l.length ≤ 250) (hok : changeFault l = none)
    (hfirst : tableFault ((l.filter fun x => !isRemoval x).foldl changeTable s.activeBank) s.floorDown = none)
    (hsecond : tableFault ((l.filter isRemoval).foldl changeTable ((l.filter fun x => !isRemoval x).foldl changeTable s.activeBank))
      s.floorDown = none) (hidle : s.routing = false) : Completes (.routePlan c l) s fun u =>
        WaitsFor s u c 0x4001 (.routePlan 0) 0 ∧ u.noc.draining = true ∧ u.noc.planStep = 1 ∧
        u.fld nocActive 0 = s.fld nocActive 0 ∧ ∀ r e, r < 53 → e < 64 → u.bank (1 - s.fld nocActive 0) r e =
          (l.filter fun x => !isRemoval x).foldl changeTable s.activeBank r e % 2 ^ 64 := by
  have hrun : exec (.routePlan c l) s = .next (planned (s.unfetch c) c l).startDrain := by
    have harm : exec (.routePlan c l) s = execRoutePlan c l s := rfl
    rw [harm, execRoutePlan, runCmd_of_accepted ha, if_neg (by omega), hok]
    exact congrArg _ (routePlanCmd_of_sound (s := s.unfetch c) hfirst hsecond hidle)
  obtain ⟨hrise, hactive, hbank⟩ := planned_bank (c := c) (hc.unfetch (c := c)) l
  have hanswers : answering ((s.unfetch c).prepareBank (l.filter fun x => !isRemoval x)) = answering s := by
    obtain ⟨regs, hprep⟩ := writeBank_frame (s.unfetch c) (1 - (s.unfetch c).fld nocActive 0)
      ((l.filter fun x => !isRemoval x).foldl changeTable (s.unfetch c).activeBank)
    rw [State.prepareBank, hprep]
    rfl
  exact ⟨_, hrun, (WaitsFor.of_answering hanswers ha.here ha.live _ _).same, rfl, rfl,
    (startDrain_starts hrise).2.trans hactive, fun r e hr he => (bank_startDrain hrise _ r e).trans (hbank r e hr he)⟩

end

/-! ### ROUTE_COMMIT (R308) -/

section
variable {timeout : Nat} (hidle : s.routing = false) (hsound : tableFault (s.bank (1 - s.fld nocActive 0)) s.floorDown = none)
include hidle hsound

theorem routeCommitCmd_of_sound (order : Nat) : s.routeCommitCmd c order timeout =
    if order = 0 then ((s.interim c 0x4002).swapBanks).reply c 0x4002 stOk []
    else (s.await c 0x4002 .routeCommit timeout).startDrain := by
  rw [State.routeCommitCmd, hsound, hidle]
  rfl

theorem exec_routeCommit {order : Nat} (horder : order ≤ 1)
    (ha : Accepted s c 0x4002 (leBytes 1 order ++ leBytes 2 timeout) false) : exec (.routeCommit c order timeout) s = .next (
      if order = 0 then (((s.unfetch c).interim c 0x4002).swapBanks).reply c 0x4002 stOk []
      else ((s.unfetch c).await c 0x4002 .routeCommit timeout).startDrain) := by
  have harm : exec (.routeCommit c order timeout) s = execRouteCommit c order timeout s := rfl
  rw [harm, execRouteCommit, runCmd_of_accepted ha, if_neg (by omega)]
  exact congrArg _ (routeCommitCmd_of_sound (s := s.unfetch c) hidle hsound order)

include hc

theorem completes_routeCommit_atOnce (ha : Accepted s c 0x4002 (leBytes 1 0 ++ leBytes 2 timeout) false) (hpack : c.pack = false) :
    Completes (.routeCommit c 0 timeout) s fun u =>
      Replies s u c 0x4002 stOk [] ∧ u.fld nocActive 0 = 1 - s.fld nocActive 0 := by
  have hinterim : (s.unfetch c).interim c 0x4002 = s.unfetch c := if_neg (by simp [hpack])
  have hrun := exec_routeCommit hidle hsound (by decide) ha
  rw [if_pos rfl, hinterim] at hrun
  have hactive := (swapBanks_swaps (s := s.unfetch c) hc.regs).1
  rw [show (s.unfetch c).fld = s.fld from fld_congr rfl] at hactive
  have hanswers : answering (s.unfetch c).swapBanks = answering s := rfl
  refine ⟨_, hrun, Replies.of_answering hanswers ha.here ha.live _ _, ?_⟩
  rw [fld_reply, hactive]

theorem completes_routeCommit_ordered (ha : Accepted s c 0x4002 (leBytes 1 1 ++ leBytes 2 timeout) false) :
    Completes (.routeCommit c 1 timeout) s fun u => WaitsFor s u c 0x4002 .routeCommit timeout ∧ u.noc.draining = true ∧
      u.flag nocPend 0 = true ∧ u.fld nocActive 0 = s.fld nocActive 0 := by
  have hrun := exec_routeCommit hidle hsound (by decide) ha
  rw [if_neg (by decide)] at hrun
  obtain ⟨hpend, hactive⟩ := startDrain_starts (s := (s.unfetch c).await c 0x4002 .routeCommit timeout) hc.unfetch.await.regs
  rw [await_regs] at hactive
  exact ⟨_, hrun, (WaitsFor.of_answering (u := s.unfetch c) rfl ha.here ha.live _ _).same, rfl, hpend, hactive⟩

end

include hc in
/-- After 2 us the drain of an ordered commit ends with packets under way, and OOO says so (R308). -/
theorem completes_commitDrainTimeout (hdrain : s.noc.draining = true) (hbusy : s.netEmpty = false)
    (hdue : s.noc.since + 2000 ≤ s.tim.clk) (hstep : s.noc.planStep = 0) : Completes .commitDrainTimeout s fun u =>
      Finishes s u .routeCommit stOk [] ∧ u.fld nocActive 0 = 1 - s.fld nocActive 0 ∧ u.flag nocOoo 0 = true ∧
      u.noc.draining = false := by
  have hrun : exec .commitDrainTimeout s = .next ((s.setFld nocOoo 0 1).swapBanks.finish .routeCommit stOk []) := by
    have harm : exec .commitDrainTimeout s = execCommitDrainTimeout s := rfl
    have hstep' : (s.setFld nocOoo 0 1).swapBanks.noc.planStep = 0 := hstep
    rw [harm, execCommitDrainTimeout, if_pos ⟨hdrain, by rw [hbusy]; rfl, hdue⟩, State.commitDone]
    dsimp only
    rw [if_neg (by rw [hstep']; decide), if_neg (by rw [hstep']; decide)]
  obtain ⟨hactive, hooo⟩ := swapBanks_swaps (s := s.setFld nocOoo 0 1) (rising_setFld hc.regs _ _ _)
  have hanswers : answering (s.setFld nocOoo 0 1).swapBanks = answering s := rfl
  refine ⟨_, hrun, Finishes.of_answering hanswers _ _ _, ?_, ?_, ?_⟩
  · rw [fld_finish, hactive, fld_setFld_apart hc.regs nocOoo nocActive rfl (by decide) (by decide) (by decide)]
  · rw [State.flag, fld_finish, hooo]
    exact decide_eq_true (fld_setFld_self hc.regs (by decide) (by decide) 0 1)
  · obtain ⟨_, _, _, _, _, hfinish⟩ := finish_frame (s.setFld nocOoo 0 1).swapBanks .routeCommit stOk []
    rw [hfinish]
    rfl

theorem completes_routeCommitTimeout {x : InProg} (hfind : (s.cmds.find? fun x => x.wait = .routeCommit ∧ x.deadline.any (· ≤ s.tim.clk)) = some x)
    (hhere : x.cmd.remote = 0) (hlive : s.orphans.contains x.cmd = false) : Completes .routeCommitTimeout s fun u =>
      u.cmds = s.cmds.erase x ∧ Replies s u x.cmd x.op stTimeout [] ∧ OnlyAnswers s u := by
  have hrun : exec .routeCommitTimeout s = .next (State.reply { s with cmds := s.cmds.erase x } x.cmd x.op stTimeout []) := by
    have harm : exec .routeCommitTimeout s = execRouteCommitTimeout s := rfl
    rw [harm, execRouteCommitTimeout, hfind]
  refine ⟨_, hrun, ?_⟩
  rw [reply_live (s := { s with cmds := s.cmds.erase x }) hhere hlive]
  exact ⟨rfl, rfl, rfl⟩

/-! ### ROUTE_READ and NOC_STATS (R318) -/

theorem completes_routeRead {r bank : Nat} (hr : r ≤ 52) (hbank : bank ≤ 1)
    (ha : Accepted s c 0x4003 (leBytes 1 r ++ leBytes 1 bank) false) : Completes (.routeRead c r bank) s fun u =>
      Replies s u c 0x4003 stOk ((List.range 64).flatMap fun e => leBytes 4 (s.bank bank r e)) ∧ OnlyAnswers s u := by
  have harm : exec (.routeRead c r bank) s = execRouteRead c r bank s := rfl
  rw [Completes, harm, execRouteRead, runCmd_of_accepted ha, if_neg (by omega), if_neg (by omega)]
  exact ⟨_, rfl, replies_reply (s := s.unfetch c) ha.here ha.live, reply_onlyAnswers ha.here ha.live⟩

theorem completes_nocStats {first n : Nat} (hn : 1 ≤ n) (hmost : n ≤ 15) (hfit : first + n ≤ 560)
    (ha : Accepted s c 0x4006 (leBytes 2 first ++ leBytes 1 n) false) : Completes (.nocStats c first n) s fun u =>
      Replies s u c 0x4006 stOk ((List.range n).flatMap fun i => s.statRec (first + i)) ∧ OnlyAnswers s u := by
  have harm : exec (.nocStats c first n) s = execNocStats c first n s := rfl
  rw [Completes, harm, execNocStats, runCmd_of_accepted ha, if_neg (by omega), if_neg (by omega)]
  exact ⟨_, rfl, replies_reply (s := s.unfetch c) ha.here ha.live, reply_onlyAnswers ha.here ha.live⟩

end

/-! ### Statistics zeroed (R313) -/

/-- A register of the block of statistics that resets to zero reads zero once the block has been cleared. -/
theorem reg_clearStats (s : State) {r : Reg} {i : Nat} (hlo : 0x4000b0000 ≤ r.addr i) (hhi : r.addr i < 0x4000b0000 + 64 * 560)
    (hzero : r.resetVal i = 0) : s.clearStats.reg r i = 0 := by
  have hbase : Reg.NOC_ISTAT_BYTES.addr 0 = 0x4000b0000 := rfl
  have hgone : ∀ p ∈ s.clearStats.regs, p.1 ≠ r.addr i := by
    intro p hp hat
    have hkeep := (List.mem_filter.mp hp).2
    simp [hat, hbase] at hkeep
    omega
  rw [State.reg, tget_unlisted hgone, hzero]
  rfl

theorem completes_nocStatClear (s : State) {v : Word} (hclr : v.getLsbD 31 = true) : Completes (.nocStatClear 0 v) s fun u =>
    ∀ i, i < 560 → u.reg .NOC_ISTAT_BYTES i = 0 ∧ u.reg .NOC_ISTAT_PKTS i = 0 ∧ u.reg .NOC_ISTAT_NPDONE i = 0 ∧
      u.reg .NOC_ISTAT_MAXLAT i = 0 ∧ ∀ k, k < 8 → u.reg .NOC_ISTAT_HIST (8 * i + k) = 0 := by
  have hrun : exec (.nocStatClear 0 v) s = .next (s.setFld statFreeze 0 (bits v.toNat 30 30)).clearStats := by
    have harm : exec (.nocStatClear 0 v) s = execNocStatClear 0 v s := rfl
    have hbit : bit v.toNat 31 = true := (bit_eq_testBit _ _).trans hclr
    rw [harm, execNocStatClear, if_pos ⟨rfl, hclr⟩, State.statCtlWrite, if_pos hbit]
  refine ⟨_, hrun, fun i hi => ⟨?_, ?_, ?_, ?_, fun k hk => ?_⟩⟩ <;>
    exact reg_clearStats _ (by simp only [Reg.addr, Reg.info]; omega) (by simp only [Reg.addr, Reg.info]; omega) rfl

/-- Settles O40: a plan and a commit begun, commits that end, and what is read and zeroed. -/
theorem routePlansAndStatistics : Obligations.RoutePlansAndStatistics := by
  unfold Obligations.RoutePlansAndStatistics
  intro s hc
  exact ⟨fun c l ha hlen hok hfirst hsecond hidle => completes_routePlan hc ha hlen hok hfirst hsecond hidle,
    fun c timeout hidle hsound => ⟨fun ha hpack => completes_routeCommit_atOnce hc hidle hsound ha hpack,
      fun ha => completes_routeCommit_ordered hc hidle hsound ha⟩,
    fun hdrain hbusy hdue hstep => completes_commitDrainTimeout hc hdrain hbusy hdue hstep,
    fun x hfind hhere hlive => completes_routeCommitTimeout hfind hhere hlive,
    fun c r bank hr hbank ha => completes_routeRead hr hbank ha,
    fun c first n hn hmost hfit ha => completes_nocStats hn hmost hfit ha,
    fun v hclr => completes_nocStatClear s hclr⟩

end Sys2Proof
end

section
/-! PROOFS. Fences (R314 to R316) and the codes of floors (R409, R410, R419): gravity and kiln change no state of a floor in the network,
and a fence answers the parked requests. -/

namespace Sys2Proof

open Sys2Proof.Machine

set_option Elab.async false

/-! ### Codes -/

/-- The registers in which gravity and kiln note what they do to a floor (R431, R432). -/
def codeRegs : List Reg := [.GRV_FSTAT, .KLN_FLOOR]

theorem codeRegs_apart {r : Reg} (hr : r ∈ codeRegs) (i j : Nat) : Reg.addr .NOC_FLOOR j ≠ r.addr i := by
  simp only [codeRegs, List.mem_cons, List.not_mem_nil, or_false] at hr
  rcases hr with rfl | rfl <;> simp only [Reg.addr, Reg.info] <;> omega

/-- `u` differs from `s` by work of gravity and kiln at most, and every floor has its state in the network. -/
structure CodeWork (s u : State) : Prop where
  rises : rising u.regs = true
  states : ∀ j, u.fld nocState j = s.fld nocState j
  frame : ∃ regs slots gravs logQ, u = { s with regs := regs, slots := slots, gravs := gravs, logQ := logQ }

section
variable {s u : State}

theorem CodeWork.refl (h : rising s.regs = true) : CodeWork s s := ⟨h, fun _ => rfl, _, _, _, _, rfl⟩

theorem CodeWork.ite {a b : State} {c : Prop} [Decidable c] (ha : CodeWork s a) (hb : CodeWork s b) : CodeWork s (if c then a else b) := by
  split
  · exact ha
  · exact hb

theorem CodeWork.foldl {β : Type} {f : State → β → State} {l : List β} (h : CodeWork s u)
    (hf : ∀ v x, CodeWork s v → CodeWork s (f v x)) : CodeWork s (l.foldl f u) := foldl_write_inv (Inv := (CodeWork s ·)) hf l h

theorem CodeWork.setFld {g : Fld} {i v : Nat} (h : CodeWork s u) (hg : g.r ∈ codeRegs := by decide) : CodeWork s (u.setFld g i v) where
  rises := rising_setFld h.rises _ _ _
  states j := (fld_setFld_other h.rises nocState g (codeRegs_apart hg i j) v).trans (h.states j)
  frame := by
    obtain ⟨_, _, _, _, rfl⟩ := h.frame
    exact ⟨_, _, _, _, rfl⟩

theorem CodeWork.modGrav {f : Nat} {g : GravSt → GravSt} (h : CodeWork s u) : CodeWork s (u.modGrav f g) where
  rises := h.rises
  states := h.states
  frame := by
    obtain ⟨_, _, _, _, rfl⟩ := h.frame
    exact ⟨_, _, _, _, rfl⟩

theorem CodeWork.modSlot {t k : Nat} {g : SlotSt → SlotSt} (h : CodeWork s u) : CodeWork s (u.modSlot t k g) where
  rises := h.rises
  states := h.states
  frame := by
    obtain ⟨_, _, _, _, rfl⟩ := h.frame
    exact ⟨_, _, _, _, rfl⟩

theorem CodeWork.raise {code sclass loc data : Nat} (h : CodeWork s u) (hc : faultBit code = 0 := by decide) :
    CodeWork s (u.raise code sclass loc data) := by
  rw [State.raise, raiseAt_plain hc]
  refine ⟨h.rises, h.states, ?_⟩
  obtain ⟨_, _, _, _, rfl⟩ := h.frame
  exact ⟨_, _, _, _, rfl⟩

theorem CodeWork.setCode {f n : Nat} (h : CodeWork s u) : CodeWork s (u.setCode f n) := h.setFld

theorem CodeWork.setClo {f n : Nat} (h : CodeWork s u) : CodeWork s (u.setClo f n) := CodeWork.setFld h.setFld

theorem CodeWork.holdCode {f : Nat} (h : CodeWork s u) : CodeWork s (u.holdCode f) := h.setCode

theorem CodeWork.rehold {f : Nat} (h : CodeWork s u) : CodeWork s (u.rehold f) := .ite h.holdCode h

theorem CodeWork.marginLost {f i : Nat} (h : CodeWork s u) : CodeWork s (u.marginLost f i) :=
  (CodeWork.raise (.ite h.setFld h.modGrav)).setClo.setCode

theorem CodeWork.calibrated {f : Nat} {ok : Bool} {clo lost : Nat} (h : CodeWork s u) : CodeWork s (u.calibrated f ok clo lost) :=
  .ite (CodeWork.rehold (.foldl (CodeWork.setClo (CodeWork.modGrav (CodeWork.setFld h.setFld))) fun _ _ h => h.marginLost))
    (CodeWork.raise (CodeWork.modGrav (CodeWork.setFld h.setFld)))

theorem CodeWork.abandonMove {f : Nat} (h : CodeWork s u) : CodeWork s (u.abandonMove f) := by
  unfold State.abandonMove
  dsimp only
  split
  · exact h
  · exact h.modSlot.modSlot.modGrav.setFld

section
variable (h : CodeWork s u)
include h

theorem CodeWork.answers : answering u = answering s := by obtain ⟨_, _, _, _, rfl⟩ := h.frame; rfl
theorem CodeWork.floors : u.floors = s.floors := by obtain ⟨_, _, _, _, rfl⟩ := h.frame; rfl
theorem CodeWork.net : u.net = s.net := by obtain ⟨_, _, _, _, rfl⟩ := h.frame; rfl
theorem CodeWork.written : u.written = s.written := by obtain ⟨_, _, _, _, rfl⟩ := h.frame; rfl

end

/-! ### Requests answered together -/

theorem foldl_rsp_frame (node status result : Nat) (l : List Pkt) (s : State) : ∃ net,
    l.foldl (fun s p => s.rsp node p status result) s = { s with net := net } ∧ net.length = s.net.length + l.length := by
  induction l generalizing s with
  | nil => exact ⟨_, rfl, rfl⟩
  | cons p l ih =>
    obtain ⟨net, hnet, hlen⟩ := ih (s.rsp node p status result)
    refine ⟨net, hnet, hlen.trans ?_⟩
    rw [State.rsp, State.sendAnswer, List.length_append, List.length_singleton, List.length_cons]
    omega

/-! ### The fence of a power-off (R315) -/

/-- What the fence of a power-off notes of its floor at time `n`. -/
def fencedFloor (n : Nat) (now : Bool) (x : FloorSt) : FloorSt :=
  { x with park := [], fencedAt := n, drainTo0 := now, offWhy := 1, fenceRaised := false }

/-- The floor FENCED, its parked requests answered and its move given up. -/
def shut (s : State) (f : Nat) : State :=
  ((((s.floor f).park.foldl (fun s p => s.rsp f p stDomainOff 0) s).setFld nocState f 1).abandonMove f)

theorem fence_eq (s : State) (f : Nat) (now : Bool) :
    s.fence f 1 now = ((shut s f).modFloor f (fencedFloor (shut s f).tim.clk now)).holdCode f := rfl

theorem shut_shuts (hc : Canon s) (f : Nat) : rising (shut s f).regs = true ∧ answering (shut s f) = answering s ∧
    (shut s f).fld nocState f = 1 ∧ (shut s f).floors = s.floors ∧ (shut s f).net.length = s.net.length + (s.floor f).park.length := by
  obtain ⟨net, hnet, hlen⟩ := foldl_rsp_frame f stDomainOff 0 (s.floor f).park s
  have hself := fld_setFld_self (s := { s with net := net }) (f := nocState) hc.regs (by decide) (by decide) f 1
  have hwork := (CodeWork.refl (s := State.setFld { s with net := net } nocState f 1) (rising_setFld hc.regs _ _ _)).abandonMove (f := f)
  rw [shut, hnet]
  exact ⟨hwork.rises, hwork.answers, (hwork.states f).trans hself, hwork.floors, (congrArg List.length hwork.net).trans hlen⟩

theorem fence_fences (hc : Canon s) (f : Nat) (now : Bool) : answering (s.fence f 1 now) = answering s ∧
    (s.fence f 1 now).fld nocState f = 1 ∧ ((s.fence f 1 now).floor f).park = [] ∧ ((s.fence f 1 now).floor f).drainTo0 = now ∧
    (s.fence f 1 now).net.length = s.net.length + (s.floor f).park.length := by
  obtain ⟨hrise, hanswers, hstate, hfloors, hlen⟩ := shut_shuts hc f
  have hwork := (CodeWork.refl (s := (shut s f).modFloor f (fencedFloor (shut s f).tim.clk now)) hrise).holdCode (f := f)
  have hfloor : (s.fence f 1 now).floor f = fencedFloor (shut s f).tim.clk now ((shut s f).floor f) := by
    rw [fence_eq, State.floor, hwork.floors]
    exact floor_setFloor (hfloors ▸ rising_of_twf hc.floors) _ _
  rw [hfloor, fence_eq]
  exact ⟨hwork.answers.trans hanswers, (hwork.states f).trans hstate, rfl, rfl, (congrArg List.length hwork.net).trans hlen⟩

/-! ### FLOOR_POWER_OFF (R316) -/

section
variable {c : Cmd} {f timeout : Nat} (hf : f ≤ 31) (hbusy : s.floorBusy f = false) (hopen : s.floorOpen f = true)
  (hcrossed : s.routedThrough f = false)
include hbusy hopen hcrossed

/-- An OPEN floor that nothing loads, freezes or crosses passes the checks of R316. -/
theorem powerOff_passes (busy crossed go : State) :
    (if s.floorBusy f ∨ !s.floorOpen f then busy else if s.routedThrough f then crossed else go) = go := by
  rw [if_neg (by simp [hbusy, hopen]), if_neg (by simp [hcrossed])]

include hf

theorem exec_floorPowerOffDrain (ha : Accepted s c 0x4004 (leBytes 1 f ++ leBytes 1 0 ++ leBytes 2 timeout) false) :
    exec (.floorPowerOffDrain c f timeout) s = .next (((s.unfetch c).await c 0x4004 (.floorOff f) timeout).fence f 1 false) := by
  have harm : exec (.floorPowerOffDrain c f timeout) s = execFloorPowerOffDrain c f timeout s := rfl
  rw [harm, execFloorPowerOffDrain, runCmd_of_accepted ha, if_neg (by omega)]
  exact congrArg _ (powerOff_passes (s := s.unfetch c) hbusy hopen hcrossed _ _ _)

theorem exec_floorPowerOffAbort (ha : Accepted s c 0x4004 (leBytes 1 f ++ leBytes 1 1 ++ leBytes 2 timeout) false)
    (hidle : s.poweringOff f = false) :
    exec (.floorPowerOffAbort c f timeout) s = .next (((s.unfetch c).await c 0x4004 (.floorOff f) timeout).fence f 1 true) := by
  have harm : exec (.floorPowerOffAbort c f timeout) s = execFloorPowerOffAbort c f timeout s := rfl
  have hfirst : ¬ ((s.unfetch c).poweringOff f = true ∧ (!((s.unfetch c).floor f).drainTo0) = true) := fun h =>
    absurd (hidle.symm.trans h.1) (by decide)
  rw [harm, execFloorPowerOffAbort, runCmd_of_accepted ha, if_neg (by omega), if_neg hfirst]
  exact congrArg _ (powerOff_passes (s := s.unfetch c) hbusy hopen hcrossed _ _ _)

end

/-- The command of a power-off waits, and its floor is fenced. -/
theorem powerOff_begins (hc : Canon s) {c : Cmd} (f timeout : Nat) (now : Bool) (hr : c.remote = 0)
    (ho : s.orphans.contains c = false) {v : State} (hv : ((s.unfetch c).await c 0x4004 (.floorOff f) timeout).fence f 1 now = v) :
    WaitsFor s v c 0x4004 (.floorOff f) timeout ∧ v.fld nocState f = 1 ∧ (v.floor f).park = [] ∧ (v.floor f).drainTo0 = now ∧
    v.net.length = s.net.length + (s.floor f).park.length := by
  subst hv
  obtain ⟨hanswers, hstate, hpark, hnow, hlen⟩ :=
    fence_fences (s := (s.unfetch c).await c 0x4004 (.floorOff f) timeout) hc.unfetch.await f now
  have hwaits : WaitsFor s ((s.unfetch c).await c 0x4004 (.floorOff f) timeout) c 0x4004 (.floorOff f) timeout :=
    WaitsFor.of_answering (u := s.unfetch c) rfl hr ho _ _
  obtain ⟨_, _, hawait⟩ := await_frame (s.unfetch c) c 0x4004 (.floorOff f) timeout
  refine ⟨hwaits.same (congrArg (fun x => x.2.2.1) hanswers) (congrArg (fun x => x.1) hanswers), hstate, hpark, hnow, hlen.trans ?_⟩
  rw [hawait]
  rfl

/-! ### FLOOR_POWER_ON (R317) -/

theorem completes_floorPowerOn (hc : Canon s) {c : Cmd} {f : Nat} (hf : f ≤ 31) (hoff : s.fld nocState f = 3)
    (ha : Accepted s c 0x4005 (leBytes 1 f) false) : Completes (.floorPowerOn c f) s fun u =>
      WaitsFor s u c 0x4005 (.floorOn f) 0 ∧ u.fld nocState f = 4 ∧ u.code f = 40 := by
  have hrun : exec (.floorPowerOn c f) s =
      .next ((((s.unfetch c).await c 0x4005 (.floorOn f) 0).setFld nocState f 4).setCode f 40) := by
    have harm : exec (.floorPowerOn c f) s = execFloorPowerOn c f s := rfl
    have hoff' : ¬ (s.unfetch c).fld nocState f ≠ 3 := not_not.mpr hoff
    rw [harm, execFloorPowerOn, runCmd_of_accepted ha, if_neg (by omega), if_neg hoff']
  have hrise : rising ((s.unfetch c).await c 0x4005 (.floorOn f) 0).regs = true := hc.unfetch.await.regs
  have hwork := (CodeWork.refl (rising_setFld hrise nocState f 4)).setCode (f := f) (n := 40)
  have hwaits : WaitsFor s ((s.unfetch c).await c 0x4005 (.floorOn f) 0) c 0x4005 (.floorOn f) 0 :=
    WaitsFor.of_answering (u := s.unfetch c) rfl ha.here ha.live _ _
  refine ⟨_, hrun, hwaits.same, (hwork.states f).trans (fld_setFld_self hrise (by decide) (by decide) f 4), ?_⟩
  exact fld_setFld_self (rising_setFld hrise nocState f 4) (by decide) (by decide) f _

end

end Sys2Proof
end

section
/-! PROOFS. The end of a drain and of a power-off, and the end of a power-on (R315, R317). -/

namespace Sys2Proof

open Sys2Proof.Machine

set_option Elab.async false

/-! ### What a drain timeout leaves (R315) -/

/-- Where the blocks of the floors begin: every register of the network is before them. -/
def floorBlocks : Nat := 0x410000000

/-- `u` differs from `s` by requests of a floor given up: registers of the network stay, so do the reasons of the fences, and records
are added only. -/
structure GivenUp (s u : State) : Prop where
  rises : rising u.regs = true
  floorsRise : rising u.floors = true
  regs : ∀ r i, r.addr i < floorBlocks → u.reg r i = s.reg r i
  whys : ∀ j, (u.floor j).offWhy = (s.floor j).offWhy
  logs : s.logQ <+: u.logQ

section
variable {s u : State}

theorem GivenUp.refl (hr : rising s.regs = true) (hf : rising s.floors = true) : GivenUp s s :=
  ⟨hr, hf, fun _ _ _ => rfl, fun _ => rfl, List.prefix_rfl⟩

/-- A change of other parts of the state. -/
theorem GivenUp.same {v : State} (h : GivenUp s u) (hr : v.regs = u.regs := by exact rfl) (hf : v.floors = u.floors := by exact rfl)
    (hl : v.logQ = u.logQ := by exact rfl) : GivenUp s v where
  rises := hr ▸ h.rises
  floorsRise := hf ▸ h.floorsRise
  regs r i hi := (reg_congr hr r i).trans (h.regs r i hi)
  whys j := (congrArg (fun t => (tget FloorSt.init t j).offWhy) hf).trans (h.whys j)
  logs := hl ▸ h.logs

theorem GivenUp.ite {a b : State} {c : Prop} [Decidable c] (ha : GivenUp s a) (hb : GivenUp s b) : GivenUp s (if c then a else b) := by
  split
  · exact ha
  · exact hb

theorem GivenUp.foldl {β : Type} {f : State → β → State} {l : List β} (h : GivenUp s u)
    (hf : ∀ v x, GivenUp s v → GivenUp s (f v x)) : GivenUp s (l.foldl f u) := foldl_write_inv (Inv := (GivenUp s ·)) hf l h

theorem GivenUp.setReg {r : Reg} {i v : Nat} (h : GivenUp s u) (hr : floorBlocks ≤ r.info.base := by decide) :
    GivenUp s (u.setReg r i v) where
  rises := rising_setReg h.rises _ _ _
  floorsRise := h.floorsRise
  regs q j hj := by
    have hle : r.info.base ≤ r.addr i := by unfold Reg.addr; omega
    exact (reg_setReg h.rises r q i j v (by omega)).trans (h.regs q j hj)
  whys := h.whys
  logs := h.logs

theorem GivenUp.setFld {f : Fld} {i v : Nat} (h : GivenUp s u) (hr : floorBlocks ≤ f.r.info.base := by decide) :
    GivenUp s (u.setFld f i v) := h.setReg hr

theorem GivenUp.modFloor {f : Nat} {g : FloorSt → FloorSt} (h : GivenUp s u) (hg : ∀ x, (g x).offWhy = x.offWhy) :
    GivenUp s (u.modFloor f g) where
  rises := h.rises
  floorsRise := rising_tput h.floorsRise
  regs := h.regs
  whys j := by
    rw [State.modFloor_eq, State.floor, State.setFloor_floors, tget_tput h.floorsRise]
    split
    · next hj =>
      rw [hg, hj]
      exact h.whys f
    · exact h.whys j
  logs := h.logs

theorem GivenUp.raise {code sclass loc data : Nat} (h : GivenUp s u) (hc : faultBit code = 0 := by decide) :
    GivenUp s (u.raise code sclass loc data) := by
  rw [State.raise, raiseAt_plain hc]
  exact ⟨h.rises, h.floorsRise, h.regs, h.whys, h.logs.trans (List.prefix_append _ _)⟩

theorem GivenUp.qEval {q : Nat} (h : GivenUp s u) : GivenUp s (u.qEval q) := by
  have hcrossed (v : Nat) : GivenUp s (((u.setFld queAbove q v).setFld queCrossed q 1).bumpFld queCnt q) :=
    GivenUp.setFld (GivenUp.setFld h.setFld)
  exact .ite h (.ite (hcrossed _).raise (hcrossed _))

theorem GivenUp.dropStaged {q i : Nat} (h : GivenUp s u) : GivenUp s (u.dropStaged q i) := GivenUp.qEval h.same

theorem GivenUp.closeFlow {f id : Nat} {kind : EndKind} (h : GivenUp s u) : GivenUp s (u.closeFlow f id kind) := by
  have hseq (g : List SeqEnt → List SeqEnt) : GivenUp s (u.modFloor f fun x => { x with seq := g x.seq }) := h.modFloor fun _ => rfl
  unfold State.closeFlow
  dsimp only
  split
  · exact h
  · split
    · exact (GivenUp.setFld (hseq _)).dropStaged
    · exact .ite (hseq _).dropStaged.raise (hseq _)

/-- The tiles and the dispatches of the floor given up, before its own lists are emptied. -/
theorem GivenUp.giveUp {f : Nat} (h : GivenUp s u) : GivenUp s (u.giveUp f) ∧ ((u.giveUp f).floor f).park = [] := by
  unfold State.giveUp
  dsimp only
  generalize hv : List.foldl _ (List.foldl _ u (floorTiles f)) _ = v
  have hgiven : GivenUp s v := by
    subst hv
    refine .foldl (.foldl h fun _ _ h => h.same) fun _ d h => ?_
    cases d.flow with
    | some _ => exact h.closeFlow
    | none => exact h
  exact ⟨hgiven.modFloor fun _ => rfl, congrArg FloorSt.park (floor_setFloor hgiven.floorsRise _ _)⟩

/-- A counter rises by what is counted and stays at 0xFFFF_FFFF (R319). -/
theorem reg_bumpBy_self (h : rising s.regs = true) (r : Reg) (i n : Nat) :
    (s.bumpBy r i n).reg r i = min 0xFFFFFFFF (s.reg r i + n) := by
  rw [State.bumpBy, reg_setReg_self h]
  exact Nat.mod_eq_of_lt (by omega)

/-- The requests that the drain timeout answers, counted; `net` holds their answers. -/
def counted (s : State) (f : Nat) (net : List Pkt) : State :=
  State.bumpBy { s with net := net } .NOC_ABORTED 0 (s.unanswered f).length

theorem drainAbort_eq (s : State) (f : Nat) : ∃ net,
    s.drainAbort f = ((counted s f net).giveUp f).raise 0x4202 2 f ((s.unanswered f).length % 65536) := by
  obtain ⟨net, hnet, -⟩ := foldl_rsp_frame f stAborted 0 (s.unanswered f)
    { s with net := s.net.filter fun p => !(p.router == f && p.local_ && isRequest p) }
  exact ⟨net, by rw [State.drainAbort, hnet]; rfl⟩

/-- The drain timeout counts what it answers, gives up the rest, and says so in its log. -/
theorem drainAbort_aborts (hc : Canon s) (f : Nat) : rising (s.drainAbort f).regs = true ∧ ((s.drainAbort f).floor f).park = [] ∧
    ((s.drainAbort f).floor f).offWhy = (s.floor f).offWhy ∧ Logs s (s.drainAbort f) 0x4202 f ∧
    (s.drainAbort f).reg .NOC_ABORTED 0 = min 0xFFFFFFFF (s.reg .NOC_ABORTED 0 + (s.unanswered f).length) := by
  obtain ⟨net, habort⟩ := drainAbort_eq s f
  have hcount : (counted s f net).reg .NOC_ABORTED 0 = min 0xFFFFFFFF (s.reg .NOC_ABORTED 0 + (s.unanswered f).length) :=
    reg_bumpBy_self (s := { s with net := net }) hc.regs _ _ _
  have hrise : rising (counted s f net).regs = true := rising_setReg (s := { s with net := net }) hc.regs _ _ _
  obtain ⟨hgiven, hpark⟩ := (GivenUp.refl hrise (rising_of_twf hc.floors)).giveUp (f := f)
  obtain ⟨hregs, hfloors⟩ :=
    raise_regs_floors (s := (counted s f net).giveUp f) (code := 0x4202) (by decide) 2 f ((s.unanswered f).length % 65536)
  have hfloor : (s.drainAbort f).floor f = ((counted s f net).giveUp f).floor f := by
    rw [habort, State.floor, hfloors, State.floor]
  obtain ⟨l, hl⟩ : s.logQ <+: ((counted s f net).giveUp f).logQ := hgiven.logs
  obtain ⟨l', hl', r, hmem, hr⟩ := raise_logs ((counted s f net).giveUp f) 0x4202 2 f ((s.unanswered f).length % 65536)
  rw [hfloor, habort]
  refine ⟨hregs ▸ hgiven.rises, hpark, hgiven.whys f, ⟨l ++ l', ?_, r, List.mem_append_right _ hmem, hr⟩, ?_⟩
  · rw [hl', ← hl, List.append_assoc]
  · rw [reg_congr hregs, hgiven.regs _ _ (by decide), hcount]

/-! ### FLOOR_DRAINED and FLOOR_DRAIN_TIMEOUT -/

/-- The floor of a power-off becomes DRAINED and is held later, at its power-off. -/
theorem becomeDrained_of_powerOff {f : Nat} (hwhy : (s.floor f).offWhy = 1) : s.becomeDrained f = s.setFld nocState f 2 :=
  if_neg fun h => absurd (hwhy.symm.trans h) (by decide)

theorem completes_floorDrained (hc : Canon s) {f : FloorNo} (hfenced : s.draining f = true) (hdrained : s.drained f = true)
    (hwhy : (s.floor f).offWhy = 1) :
    Completes (.floorDrained f) s fun u => u.fld nocState f = 2 ∧ u = { s with regs := u.regs } := by
  have hrun : exec (.floorDrained f) s = .next (s.setFld nocState f 2) := by
    have harm : exec (.floorDrained f) s = execFloorDrained f s := rfl
    rw [harm, execFloorDrained, hfenced, hdrained, becomeDrained_of_powerOff hwhy]
    rfl
  exact ⟨_, hrun, fld_setFld_self hc.regs (by decide) (by decide) f 2, rfl⟩

theorem completes_floorDrainTimeout (hc : Canon s) {f : FloorNo} (hfenced : s.draining f = true) (hdrained : s.drained f = false)
    (hcopy : s.copying f = false) (hwhy : (s.floor f).offWhy = 1)
    (hdue : (s.floor f).fencedAt + (if (s.floor f).drainTo0 then 0 else s.reg .NOC_DRAIN_TO 0 % 65536 * 1000) ≤ s.tim.clk) :
    Completes (.floorDrainTimeout f) s fun u => u.fld nocState f = 2 ∧ Logs s u 0x4202 f ∧ (u.floor f).park = [] ∧
      u.reg .NOC_ABORTED 0 = min 0xFFFFFFFF (s.reg .NOC_ABORTED 0 + (s.unanswered f).length) := by
  obtain ⟨hrise, hpark, hkept, hlogs, hcount⟩ := drainAbort_aborts hc f
  have hrun : exec (.floorDrainTimeout f) s = .next ((s.drainAbort f).setFld nocState f 2) := by
    have harm : exec (.floorDrainTimeout f) s = execFloorDrainTimeout f s := rfl
    rw [harm, execFloorDrainTimeout, hfenced, hdrained, hcopy, becomeDrained_of_powerOff (hkept.trans hwhy)]
    exact if_pos (by simpa using hdue)
  have hne : Reg.addr .NOC_ABORTED 0 ≠ Reg.addr .NOC_FLOOR f := by simp only [Reg.addr, Reg.info]; omega
  exact ⟨_, hrun, fld_setFld_self hrise (by decide) (by decide) f 2, hlogs, hpark, (reg_setFld_other hrise hne 2).trans hcount⟩

end

end Sys2Proof
end

section
/-! PROOFS. Floors without and with supply (R315, R317), and the settled statement about floors that go off and on. -/

namespace Sys2Proof

open Sys2Proof.Machine

set_option Elab.async false

section
variable {s u : State}

/-! ### FLOOR_OFF (R315) -/

/-- No entry of the floor and its tiles is left in the tables that its supply keeps. -/
def unlisted (s : State) (f : Nat) : State :=
  { s with
    slots := s.slots.filter fun p => p.1 / 128 ≠ f, tiles := s.tiles.filter fun p => p.1 / 16 ≠ f
    floors := s.floors.filter fun p => p.1 ≠ f, gravs := s.gravs.filter fun p => p.1 ≠ f
    turns := s.turns.filter fun p => p.1 / 16 ≠ f }

/-- What the supply of a held floor kept, gone; `raised` is kept of its fence. -/
def unpowered (s : State) (f : Nat) (raised : Bool) : State :=
  (unlisted ((s.resetFloorRegs f).wipeFrames f) f).modFloor f fun x => { x with fenceRaised := raised }

/-- The floor without supply, image and code. -/
def codeless (s : State) (f : Nat) (raised : Bool) : State := ((unpowered s f raised).noImage f).setFld grvVnow f 0

/-- A held floor OFF. -/
def supplyOff (s : State) (f : Nat) (raised : Bool) : State := (codeless s f raised).setFld nocState f 3

theorem powerOff_eq (s : State) (f : Nat) : s.powerOff f = supplyOff (s.holdFloor f) f (s.floor f).fenceRaised := by
  unfold State.powerOff supplyOff codeless unpowered unlisted
  rfl

theorem mem_floorTiles {t f : Nat} (ht : t / 16 = f) : t ∈ floorTiles f :=
  List.mem_map.2 ⟨t % 16, List.mem_range.2 (by omega), by omega⟩

/-- What runs on a tile goes with the supply of its floor. -/
theorem reg_ctx_unpowered {t f : Nat} (raised : Bool) (ht : t / 16 = f) : (unpowered s f raised).reg .TIL_CTX t = 0 := by
  have hshare : Reg.addr .TIL_CTX t ∈ shareAddrs .TIL_CTX t 512 :=
    List.mem_map.2 ⟨0, List.mem_range.2 (by decide), congrArg (Reg.addr .TIL_CTX) (by simp [Reg.count, Reg.info])⟩
  have hgone : Reg.addr .TIL_CTX t ∈ (floorTiles f).flatMap fun t => tileRegs.flatMap fun r => shareAddrs r t 512 :=
    List.mem_flatMap.2 ⟨t, mem_floorTiles ht, List.mem_flatMap.2 ⟨.TIL_CTX, by decide, hshare⟩⟩
  have hreset : (unpowered s f raised).reg .TIL_CTX t =
      (tget (BitVec.ofNat 64 (Reg.resetVal .TIL_CTX t)) (s.resetFloorRegs f).regs (Reg.addr .TIL_CTX t)).toNat := rfl
  rw [hreset, tget_unlisted]
  · rfl
  · intro p hp he
    have hkept := (List.mem_filter.1 hp).2
    rw [he] at hkept
    simp [hgone] at hkept

/-! A floor without an image -/

theorem rising_noImage (h : rising s.regs = true) (f : Nat) : rising (s.noImage f).regs = true := rising_setFld (rising_setFld h _ _ _) _ _ _

theorem reg_noImage (h : rising s.regs = true) {q : Reg} {i f : Nat} (hq : q.addr i ≠ Reg.addr .CFG_FLOOR f) :
    (s.noImage f).reg q i = s.reg q i := by
  have hregs : (s.noImage f).regs = ((s.setFld ⟨.CFG_FLOOR, 63, 60⟩ f 0).setFld cfgDigest f 0).regs := rfl
  have himage : rising (s.setFld ⟨.CFG_FLOOR, 63, 60⟩ f 0).regs = true := rising_setFld h _ _ _
  calc (s.noImage f).reg q i
      = ((s.setFld ⟨.CFG_FLOOR, 63, 60⟩ f 0).setFld cfgDigest f 0).reg q i := reg_congr hregs q i
    _ = (s.setFld ⟨.CFG_FLOOR, 63, 60⟩ f 0).reg q i := reg_setFld_other (f := cfgDigest) himage hq 0
    _ = s.reg q i := reg_setFld_other (f := ⟨.CFG_FLOOR, 63, 60⟩) h hq 0

section
variable (hc : Canon s) {f : Nat} (raised : Bool)
include hc

theorem rising_codeless : rising (codeless s f raised).regs = true := rising_setFld (rising_noImage hc.resetFloorRegs.regs f) _ _ _

theorem state_supplyOff : (supplyOff s f raised).fld nocState f = 3 :=
  fld_setFld_self (s := codeless s f raised) (rising_codeless hc raised) (by decide) (by decide) f 3

theorem code_supplyOff (hf : f < 32) : (supplyOff s f raised).fld grvVnow f = 0 := by
  have hne : Reg.addr .GRV_FSTAT f ≠ Reg.addr .NOC_FLOOR f := by simp only [Reg.addr, Reg.info]; omega
  calc (supplyOff s f raised).fld grvVnow f
      = (codeless s f raised).fld grvVnow f :=
        fld_setFld_other (s := codeless s f raised) (rising_codeless hc raised) grvVnow nocState hne 3
    _ = 0 := fld_setFld_self (s := (unpowered s f raised).noImage f) (rising_noImage hc.resetFloorRegs.regs f)
        (by decide) (by decide) f 0

theorem ctx_supplyOff (hf : f < 32) {t : Nat} (ht : t / 16 = f) : (supplyOff s f raised).reg .TIL_CTX t = 0 := by
  have hfloor : Reg.addr .TIL_CTX t ≠ Reg.addr .NOC_FLOOR f := by simp only [Reg.addr, Reg.info]; omega
  have hgrav : Reg.addr .TIL_CTX t ≠ Reg.addr .GRV_FSTAT f := by simp only [Reg.addr, Reg.info]; omega
  have hcfg : Reg.addr .TIL_CTX t ≠ Reg.addr .CFG_FLOOR f := by simp only [Reg.addr, Reg.info]; omega
  have hbare : rising (unpowered s f raised).regs = true := hc.resetFloorRegs.regs
  calc (supplyOff s f raised).reg .TIL_CTX t
      = (codeless s f raised).reg .TIL_CTX t :=
        reg_setFld_other (s := codeless s f raised) (f := nocState) (rising_codeless hc raised) hfloor 3
    _ = ((unpowered s f raised).noImage f).reg .TIL_CTX t :=
        reg_setFld_other (s := (unpowered s f raised).noImage f) (f := grvVnow) (rising_noImage hbare f) hgrav 0
    _ = (unpowered s f raised).reg .TIL_CTX t := reg_noImage hbare hcfg
    _ = 0 := reg_ctx_unpowered raised ht

end

theorem tile_supplyOff {t f : Nat} (raised : Bool) (ht : t / 16 = f) : (supplyOff s f raised).tile t = .init := by
  refine tget_unlisted fun p hp he => ?_
  have hkept := (List.mem_filter (as := s.tiles).1 hp).2
  simp [he, ht] at hkept

theorem slot_supplyOff {t f k : Nat} (raised : Bool) (ht : t / 16 = f) (hk : k < 8) : (supplyOff s f raised).slot t k = .init := by
  have hfloor : (8 * t + k) / 128 = f := by omega
  refine tget_unlisted fun p hp he => ?_
  have hkept := (List.mem_filter (as := s.slots).1 hp).2
  simp [he, hfloor] at hkept

/-- No command waits on for `w` once its wait has ended; tables and registers stay. -/
theorem finish_leaves (s : State) (w : CmdWait) (status : Nat) (data : List Byte) :
    (∀ x ∈ (s.finish w status data).cmds, x.wait ≠ w) ∧ (s.finish w status data).regs = s.regs ∧
    (s.finish w status data).tiles = s.tiles ∧ (s.finish w status data).slots = s.slots := by
  obtain ⟨_, _, _, _, _, hframe⟩ := finish_frame s w status data
  refine ⟨fun x hx => ?_, by rw [hframe], by rw [hframe], by rw [hframe]⟩
  rw [(finish_finishes s w status data).waiting] at hx
  simpa using (List.mem_filter.1 hx).2

theorem exec_floorOff {f : FloorNo} (hdrained : s.fld nocState f = 2) (hwhy : (s.floor f).offWhy = 1) :
    exec (.floorOff f) s = .next ((supplyOff (s.holdFloor f) f (s.floor f).fenceRaised).finish (.floorOff f) stOk []) := by
  have harm : exec (.floorOff f) s = execFloorOff f s := rfl
  rw [harm, execFloorOff, if_pos ⟨hdrained, hwhy⟩, powerOff_eq]

/-- What FLOOR_OFF leaves of a held floor. -/
theorem finish_supplyOff (hc : Canon s) {f : Nat} (hf : f < 32) (raised : Bool) {w : CmdWait} {v : State}
    (hv : (supplyOff s f raised).finish w stOk [] = v) : v.fld nocState f = 3 ∧ v.fld grvVnow f = 0 ∧ (∀ x ∈ v.cmds, x.wait ≠ w) ∧
    ∀ t, t / 16 = f → v.tile t = .init ∧ v.reg .TIL_CTX t = 0 ∧ ∀ k, k < 8 → v.slot t k = .init := by
  subst hv
  obtain ⟨hcmds, hregs, htiles, hslots⟩ := finish_leaves (supplyOff s f raised) w stOk []
  refine ⟨by rw [fld_finish, state_supplyOff hc], by rw [fld_finish, code_supplyOff hc raised hf], hcmds, fun t ht => ⟨?_, ?_, ?_⟩⟩
  · rw [State.tile, htiles]
    exact tile_supplyOff raised ht
  · rw [reg_congr hregs, ctx_supplyOff hc raised hf ht]
  · intro k hk
    rw [State.slot, hslots]
    exact slot_supplyOff raised ht hk

/-! ### FLOOR_POWER_ON_DONE (R317) -/

/-- Every byte of a floor whose memory was initialised reads as never written (R271). -/
theorem peek_fresh {t f : Nat} (off : Nat) (ht : t / 16 = f) (hw : u.written = (s.initFloorMem f).written) : (u.peek t off).2 = true := by
  have hpage : u.physPage t (off / 4096 % 128) < 132 := physPage_lt u t (Nat.mod_lt _ (by decide))
  have hfloor : u.phys t off / 64 / (132 * 64 * 16) = f := by
    unfold State.phys physByte
    omega
  have hfresh : u.fresh (u.phys t off) = true := by
    rw [State.fresh, hw, tget_unlisted]
    · rfl
    · intro p hp he
      have hkept := (List.mem_filter (as := s.written).1 hp).2
      rw [he] at hkept
      exact absurd hfloor (by simpa using hkept)
  unfold State.peek
  dsimp only
  rw [if_pos hfresh]

/-- The floor after its calibration: FENCED at its code, or OFF at none. -/
def poweredOn (u : State) (f : Nat) (ok : Bool) : State :=
  if ok then (u.setFld nocState f 1).holdCode f else (u.setFld nocState f 3).setFld grvVnow f 0

theorem poweredOn_state (h : CodeWork s u) (f : Nat) (ok : Bool) : (poweredOn u f ok).fld nocState f = (if ok then 1 else 3) ∧
    answering (poweredOn u f ok) = answering s ∧ (poweredOn u f ok).written = s.written := by
  have hrefl (v : Nat) := CodeWork.refl (rising_setFld h.rises nocState f v)
  cases ok with
  | true =>
    have hwork := (hrefl 1).holdCode (f := f)
    exact ⟨(hwork.states f).trans (fld_setFld_self h.rises (by decide) (by decide) f 1), hwork.answers.trans h.answers,
      hwork.written.trans h.written⟩
  | false =>
    have hwork := (hrefl 3).setFld (g := grvVnow) (i := f) (v := 0)
    exact ⟨(hwork.states f).trans (fld_setFld_self h.rises (by decide) (by decide) f 3), hwork.answers.trans h.answers,
      hwork.written.trans h.written⟩

theorem completes_floorPowerOnDone (hc : Canon s) (f : FloorNo) (ok : Bool) (clo : Fin 51) (lost : BitVec 16)
    (hpower : s.fld nocState f = 4) : Completes (.floorPowerOnDone f ok clo lost) s fun u =>
      u.fld nocState f = (if ok then 1 else 3) ∧ Finishes s u (.floorOn f) (if ok then stOk else stFault) [] ∧
      ∀ t off, t / 16 = f.val → (u.peek t off).2 = true := by
  have hwork := (CodeWork.refl (s := s.initFloorMem f) hc.regs).calibrated (f := f) (ok := ok) (clo := clo) (lost := lost.toNat)
  obtain ⟨hstate, hanswers, hwritten⟩ := poweredOn_state hwork f ok
  have hrun : exec (.floorPowerOnDone f ok clo lost) s = .next
      ((poweredOn ((s.initFloorMem f).calibrated f ok clo lost.toNat) f ok).finish (.floorOn f) (if ok then stOk else stFault) []) := by
    have harm : exec (.floorPowerOnDone f ok clo lost) s = execFloorPowerOnDone f ok clo lost s := rfl
    rw [harm, execFloorPowerOnDone, if_pos hpower]
    cases ok <;> rfl
  have hfinish := finish_frame (poweredOn ((s.initFloorMem f).calibrated f ok clo lost.toNat) f ok) (.floorOn f)
    (if ok then stOk else stFault) []
  have hanswers' : answering (poweredOn ((s.initFloorMem f).calibrated f ok clo lost.toNat) f ok) = answering s := hanswers
  refine ⟨_, hrun, by rw [fld_finish]; exact hstate, Finishes.of_answering hanswers' _ _ _, fun t off ht => ?_⟩
  obtain ⟨_, _, _, _, _, hframe⟩ := hfinish
  exact peek_fresh off ht (by rw [hframe]; exact hwritten)

end

/-- Settles O41: the fence answers and holds its floor, the end of its drain and its timeout set the state, the supply's end leaves
tables without the floor's entries, and calibration touches no state of a floor. -/
theorem floorsGoOffAndOn : Obligations.FloorsGoOffAndOn := by
  unfold Obligations.FloorsGoOffAndOn
  intro s hc
  refine ⟨fun c f timeout hf hbusy hopen hcrossed => ⟨fun ha => ?_, fun ha hidle => ?_⟩, fun f => ⟨?_, ?_, ?_, ?_⟩, ?_⟩
  · exact ⟨_, exec_floorPowerOffDrain hf hbusy hopen hcrossed ha, powerOff_begins hc f timeout false ha.here ha.live rfl⟩
  · obtain ⟨hwaits, hstate, hpark, hnow, -⟩ := powerOff_begins hc f timeout true ha.here ha.live rfl
    exact ⟨_, exec_floorPowerOffAbort hf hbusy hopen hcrossed ha hidle, hwaits, hstate, hpark, hnow⟩
  · exact completes_floorDrained hc
  · exact completes_floorDrainTimeout hc
  · intro hdrained hwhy
    obtain ⟨hstate, hcode, hcmds, htiles⟩ := finish_supplyOff (hc.holdFloor (f := f)) f.isLt (s.floor f).fenceRaised rfl
    exact ⟨_, exec_floorOff hdrained hwhy, hstate, hcode, hcmds, fun t ht => htiles t (congrArg Fin.val ht)⟩
  · exact completes_floorPowerOnDone hc f
  · exact fun c f hf hoff ha => completes_floorPowerOn hc hf hoff ha

end Sys2Proof
end

section
/-! PROOFS. One rim clock (R321, R308): a route commit that completes in it leaves the time and the waiting commands. -/

namespace Sys2Proof

open Sys2Proof.Machine

set_option Elab.async false

variable {s : State}

/-- The time and the waiting commands. -/
def timeAndQueue (s : State) : TimeSt × List Instr := (s.tim, s.pending)

theorem timeAndQueue_finish (s : State) (w : CmdWait) (status : Nat) (data : List Byte) :
    timeAndQueue (s.finish w status data) = timeAndQueue s := by
  obtain ⟨_, _, _, _, _, h⟩ := finish_frame s w status data
  rw [h]
  rfl

theorem timeAndQueue_prepareBank (s : State) (l : List (Nat × Nat × Nat × Nat)) :
    timeAndQueue (s.prepareBank l) = timeAndQueue s := by
  obtain ⟨_, h⟩ := writeBank_frame s (1 - s.fld nocActive 0) (l.foldl changeTable s.activeBank)
  rw [State.prepareBank, h]
  rfl

theorem timeAndQueue_startDrain (s : State) : timeAndQueue s.startDrain = timeAndQueue s := rfl

/-- A route commit made writes routes and answers commands: the time and the waiting commands stay. -/
theorem timeAndQueue_commitDone (s : State) : timeAndQueue s.commitDone = timeAndQueue s := by
  unfold State.commitDone
  dsimp only
  split
  · exact (timeAndQueue_startDrain _).trans (timeAndQueue_prepareBank _ _)
  split
  · exact timeAndQueue_finish _ _ _ _
  · exact timeAndQueue_finish _ _ _ _

theorem timeAndQueue_commitTick (s : State) : timeAndQueue s.commitTick = timeAndQueue s := by
  unfold State.commitTick
  split
  · exact timeAndQueue_commitDone s
  · rfl

/-- Without steering device time advances by 1 (R321, R322). -/
theorem now_advanceTime (h : s.fld tmbSrcact 0 = 0) : s.advanceTime.tim.now = (s.tim.now + 1) % 2 ^ 64 := by
  simp [State.advanceTime, h]

/-- A rim clock counts, and time advances while it runs. -/
theorem timeAndQueue_tick (s : State) : timeAndQueue s.tick =
    timeAndQueue (if s.tim.running then State.advanceTime { s with tim := { s.tim with clk := s.tim.clk + 1 } }
      else { s with tim := { s.tim with clk := s.tim.clk + 1 } }) :=
  timeAndQueue_commitTick _

/-- Settles O2: with the queue empty the step is `State.tick`, and what a commit does in it touches neither time nor queue. -/
theorem idleStepIsOneRimClock : Obligations.IdleStepIsOneRimClock := by
  unfold Obligations.IdleStepIsOneRimClock
  intro s hq
  have hstep : step s = .next s.tick := by rw [step, hq]
  have htick := timeAndQueue_tick s
  refine ⟨s.tick, hstep, ?_⟩
  cases hrun : s.tim.running with
  | false =>
    rw [hrun, if_neg Bool.false_ne_true] at htick
    obtain ⟨htim, hpending⟩ := Prod.mk.inj htick
    rw [htim, hpending]
    exact ⟨rfl, hq, fun _ => rfl, fun h => absurd h Bool.false_ne_true⟩
  | true =>
    rw [hrun, if_pos rfl] at htick
    obtain ⟨htim, hpending⟩ := Prod.mk.inj htick
    rw [htim, hpending]
    exact ⟨rfl, hq, fun h => absurd h (by decide), fun _ hsrc _ =>
      now_advanceTime (s := { s with tim := { s.tim with clk := s.tim.clk + 1 } }) hsrc⟩

end Sys2Proof
end

section
/-! PROOFS. Work at the output pins and the trip lines (R342 to R344, R372 to R380, R393 to R403): gate outputs, valve links, trip
sources and notices to guards write registers of the trip matrix and of the field block only, and neither lanes nor time. -/

namespace Sys2Proof

open Sys2Proof.Machine

set_option Elab.async false

/-- The registers of the trip matrix and of the field block lie from here on, those of time and racks before (R37). -/
def pinRegs : Nat := 0x400050000

/-- The state with nothing in the parts that pins and trip lines may change. -/
def besidePins (s : State) : State :=
  { s with regs := [], free := 0, once := [], trip := .init, gates := [], vls := [], notices := [], logQ := [], irqs := [] }

/-- `u` differs from `s` by work of pins and trip lines at most. -/
structure PinWork (s u : State) : Prop where
  rises : rising u.regs = true
  regs : ∀ r i, r.addr i < pinRegs → u.reg r i = s.reg r i
  rest : besidePins u = besidePins s

variable {s u : State}

theorem PinWork.refl (h : rising s.regs = true) : PinWork s s := ⟨h, fun _ _ _ => rfl, rfl⟩

/-- A change of those parts other than the registers. -/
theorem PinWork.others {free once trip gates vls notices logQ irqs} (h : PinWork s u) : PinWork s { u with
    free := free, once := once, trip := trip, gates := gates, vls := vls, notices := notices, logQ := logQ, irqs := irqs } :=
  ⟨h.rises, h.regs, h.rest⟩

theorem PinWork.ite {a b : State} {c : Prop} [Decidable c] (ha : PinWork s a) (hb : PinWork s b) : PinWork s (if c then a else b) := by
  split
  · exact ha
  · exact hb

theorem PinWork.foldl {β : Type} {f : State → β → State} {l : List β} (h : PinWork s u)
    (hf : ∀ v x, PinWork s v → PinWork s (f v x)) : PinWork s (l.foldl f u) := foldl_write_inv (Inv := (PinWork s ·)) hf l h

/-! ### Registers, events, notices -/

theorem base_le_addr (r : Reg) (i : Nat) : r.info.base ≤ r.addr i := by
  rw [Reg.addr]
  omega

theorem PinWork.setReg {r : Reg} {i v : Nat} (h : PinWork s u) (hr : pinRegs ≤ r.info.base := by decide) : PinWork s (u.setReg r i v) where
  rises := rising_setReg h.rises r i v
  regs q j hq := by
    have hat := base_le_addr r i
    exact (reg_setReg h.rises r q i j v (by omega)).trans (h.regs q j hq)
  rest := h.rest

theorem PinWork.setFld {f : Fld} {i v : Nat} (h : PinWork s u) (hf : pinRegs ≤ f.r.info.base := by decide) : PinWork s (u.setFld f i v) :=
  h.setReg hf

theorem PinWork.bump {r : Reg} {i : Nat} (h : PinWork s u) (hr : pinRegs ≤ r.info.base := by decide) : PinWork s (u.bump r i) :=
  h.setReg hr

theorem PinWork.raiseAt {time code sclass loc data : Nat} (h : PinWork s u) (hc : faultBit code = 0 := by decide) :
    PinWork s (u.raiseAt time code sclass loc data) := by
  rw [raiseAt_plain hc]
  exact h.others

theorem PinWork.raiseOnceK {r : Reg} {i sub code sclass loc data : Nat} (h : PinWork s u) (hc : faultBit code = 0 := by decide) :
    PinWork s (u.raiseOnceK r i sub code sclass loc data) :=
  .ite h (PinWork.raiseAt h.others hc)

theorem PinWork.notice {t cause sel : Nat} (h : PinWork s u) : PinWork s (u.notice t cause sel) := .ite h.others h

/-! ### Gate outputs (R372 to R376) -/

theorem PinWork.modGate {g : Nat} {f : GateSt → GateSt} (h : PinWork s u) : PinWork s (u.modGate g f) := h.others

theorem PinWork.setGate {g : Nat} {x : GateSt} (h : PinWork s u) : PinWork s (u.setGate g x) := h.others

theorem PinWork.gateStage3 {g t8 : Nat} (h : PinWork s u) : PinWork s (u.gateStage3 g t8) :=
  .ite h (.ite (PinWork.setGate (.ite h.modGate h)) (.ite h.modGate h))

theorem PinWork.gateFall {g t8 : Nat} (h : PinWork s u) : PinWork s (u.gateFall g t8) := .ite h.setGate h

theorem PinWork.gateRise {g t8 : Nat} (h : PinWork s u) : PinWork s (u.gateRise g t8) :=
  .ite h (.ite h.setGate (.ite h.setGate.bump.raiseOnceK h))

theorem PinWork.gateClash {e t8 : Nat} (h : PinWork s u) : PinWork s (u.gateClash e t8) := .ite h.modGate.modGate h

theorem PinWork.forceGate {g t8 : Nat} {p : Option Bool} (h : PinWork s u) : PinWork s (u.forceGate g t8 p) := by
  unfold State.forceGate
  exact h.modGate

/-- One output brought up to time: it is forced, or its stage runs. -/
theorem PinWork.forcedOr {f : State → Nat → Nat → State} (hf : ∀ v g t8, PinWork s v → PinWork s (f v g t8)) {g t8 : Nat}
    (h : PinWork s u) : PinWork s (match u.gateForced g with
      | some p => u.forceGate g t8 p
      | none => f u g t8) := by
  split
  · exact h.forceGate
  · exact hf u g t8 h

theorem PinWork.refreshPair {g t8 : Nat} (h : PinWork s u) : PinWork s (u.refreshPair g t8) := by
  have rise (v : State) (g t8 : Nat) (h : PinWork s v) := h.gateRise (g := g) (t8 := t8)
  have fall (v : State) (g t8 : Nat) (h : PinWork s v) := h.gateFall (g := g) (t8 := t8)
  have stage3 (v : State) (g t8 : Nat) (h : PinWork s v) := h.gateStage3 (g := g) (t8 := t8)
  unfold State.refreshPair
  exact .forcedOr rise (.forcedOr rise (PinWork.gateClash (.forcedOr fall (.forcedOr fall (.forcedOr stage3 (.forcedOr stage3 h))))))

theorem PinWork.refreshBank {b : Nat} (h : PinWork s u) : PinWork s (u.refreshBank b) := .foldl h fun _ _ h => h.refreshPair

theorem PinWork.loadPwm {g : Nat} {v : Word} (h : PinWork s u) : PinWork s (u.loadPwm g v) := .ite h (.ite h.modGate h.modGate)

/-! ### Valve links (R378 to R380) -/

theorem PinWork.modVl {l : Nat} {f : VlSt → VlSt} (h : PinWork s u) : PinWork s (u.modVl l f) := h.others

theorem PinWork.vlSend {l : Nat} {safe : Bool} {ins : Word} (h : PinWork s u) : PinWork s (u.vlSend l safe ins) := by
  have hseq {v : Nat} : PinWork s (u.setFld vlSeq l v) := h.setFld
  unfold State.vlSend
  exact hseq.modVl

theorem PinWork.vlRequest {l : Nat} {safe : Bool} {ins : Word} (h : PinWork s u) : PinWork s (u.vlRequest l safe ins) :=
  .ite h (.ite h.modVl h.vlSend)

theorem PinWork.vlHold {l : Nat} (h : PinWork s u) : PinWork s (u.vlHold l) :=
  .ite h.modVl (PinWork.modVl (.ite h.bump h)).vlSend

/-! ### Trip lines (R393 to R403) -/

theorem PinWork.sendFrames (h : PinWork s u) : PinWork s u.sendFrames := .foldl h fun _ _ h => .ite h.others h

theorem PinWork.takeHolds {old : State} {n : Nat} (h : PinWork s u) : PinWork s (u.takeHolds old n) :=
  .foldl (.foldl h fun _ _ h => .ite h.refreshBank h) fun _ _ h => .ite h.vlHold h

theorem PinWork.snapLine {n : Nat} {forced : Bool} (h : PinWork s u) : PinWork s (u.snapLine n forced) :=
  .foldl h fun _ _ h => h.setReg

theorem PinWork.latchLine {n : Nat} {cands : List Nat} (h : PinWork s u) : PinWork s (u.latchLine n cands) := by
  unfold State.latchLine
  dsimp only
  split
  · exact h
  · have hstatus {v w : Nat} : PinWork s ((u.setReg .TRP_STATUS 0 v).setReg .TRP_CAPS n w) := h.setReg.setReg
    have hcapt {v w x : Nat} : PinWork s (((u.setReg .TRP_STATUS 0 v).setReg .TRP_CAPS n w).fresh64.2.setReg .TRP_CAPT n x) :=
      hstatus.others.setReg
    have hcount {v w x : Nat} {forced : Bool} : PinWork s (((((u.setReg .TRP_STATUS 0 v).setReg .TRP_CAPS n w).fresh64.2.setReg
        .TRP_CAPT n x).snapLine n forced).bump .TRP_LINE_CNT n) := hcapt.snapLine.bump
    exact .ite h (PinWork.takeHolds (.foldl (PinWork.others (PinWork.raiseAt (code := 0x7101) (PinWork.others
      hcount))) fun _ _ h => h.notice))

theorem PinWork.joinLatch {n : Nat} {cands : List Nat} (h : PinWork s u) : PinWork s (u.joinLatch n cands) := by
  have hcaps {v : Nat} {forced : Bool} : PinWork s ((u.setReg .TRP_CAPS n v).snapLine n forced) := (h.setReg).snapLine
  exact .ite h hcaps.others

theorem PinWork.latchLines {srcs : List Nat} (h : PinWork s u) : PinWork s (u.latchLines srcs) :=
  PinWork.sendFrames (.foldl h fun _ _ h => .ite h.joinLatch h.latchLine)

theorem PinWork.setSrcs {l : List (Nat × Bool)} (h : PinWork s u) : PinWork s (u.setSrcs l) := by
  have hput : PinWork s (l.foldl (fun s x => s.putSrc x.1 x.2) u) := .foldl h fun _ _ h => h.setReg
  have hsee {up : List Nat} : PinWork s (up.foldl State.seeSrc (l.foldl (fun s x => s.putSrc x.1 x.2) u)) :=
    .foldl hput fun _ _ h => h.setReg
  exact .ite hsee.others hsee.others.latchLines

theorem PinWork.refreshMsrc {l : Nat} (h : PinWork s u) : PinWork s (u.refreshMsrc l) := .ite h h.setSrcs

/-! ### What of the rest is as it was -/

section
variable (h : PinWork s u)
include h

theorem PinWork.lanes : u.lanes = s.lanes := by
  have hrest := congrArg State.lanes h.rest
  exact hrest

theorem PinWork.tim : u.tim = s.tim := by
  have hrest := congrArg State.tim h.rest
  exact hrest

theorem PinWork.answers : answering u = answering s := by
  have hrest := congrArg answering h.rest
  exact hrest

theorem PinWork.lane (l : Nat) : u.lane l = s.lane l := by rw [State.lane, h.lanes, State.lane]

theorem PinWork.fld {f : Fld} {i : Nat} (hf : f.r.addr i < pinRegs) : u.fld f i = s.fld f i := by
  rw [State.fld, State.fld, h.regs f.r i hf]

end

end Sys2Proof
end

section
/-! PROOFS. Lanes and racks (R332 to R346): an entry accepted or found late, misses and released values by what of the lane's
registers and rack they write, and the setpoint lanes that a frame lane releases first. -/

namespace Sys2Proof

open Sys2Proof.Machine

set_option Elab.async false

variable {s u : State}

/-! ### One lane written -/

theorem lane_setLane (h : rising s.lanes = true) (l j : Nat) (x : LaneSt) : (s.setLane l x).lane j = if j = l then x else s.lane j :=
  tget_tput h

theorem lane_modLane (h : rising s.lanes = true) (l : Nat) (g : LaneSt → LaneSt) : (s.modLane l g).lane l = g (s.lane l) :=
  (lane_setLane h l l _).trans (if_pos rfl)

/-! ### Accepting entries (R339) -/

/-- The entry that an offer forms (R332, R340). -/
def offeredEntry (s : State) (p r fine : Nat) (val : Word) (psn setT : Bool) : Entry :=
  { r := r, fine := fine, val := val, psn := psn, setT := setT, port := p, clk := s.tim.clk }

/-- Lane `l` is on and not draining (R333, R351). -/
structure LaneOpen (s : State) (l : Nat) : Prop where
  number : l ≤ 783
  on : s.flag laneEn l = true
  stays : (s.lane l).drain = false

/-- An entry for release time `r` is in time on lane `l`, alone at that time, and finds room (R339). -/
structure RoomFor (s : State) (l r : Nat) : Prop where
  inTime : s.tim.now + s.fld laneGuard l ≤ r
  alone : ∀ e ∈ (s.lane l).rack, e.r ≠ r
  room : (s.lane l).rack.length < 4

/-- The lane without an entry of its rack. -/
def withoutEntry (e : Entry) (x : LaneSt) : LaneSt := { x with rack := x.rack.erase e }

/-- The lane with one entry more in its rack. -/
def withEntry (e : Entry) (x : LaneSt) : LaneSt := { x with rack := rackIns e x.rack }

section
variable {p l r fine : Nat} {val : Word} {psn setT : Bool} (hopen : LaneOpen s l) (hbound : setT = true → s.flag laneBound l = true)
include hopen hbound

/-- No check of the first row of R339 matches. -/
theorem lane_takes : ¬ ((!true) = true ∨ 783 < l ∨ (!s.flag laneEn l) = true ∨ (setT = true ∧ (!s.flag laneBound l) = true) ∨
    (s.lane l).drain = true) := by
  obtain ⟨hl, hen, hdrain⟩ := hopen
  rintro (h | h | h | ⟨hset, h⟩ | h)
  · exact absurd h (by decide)
  · omega
  · simp [hen] at h
  · simp [hbound hset] at h
  · simp [hdrain] at h

theorem accept_late (hlate : r < s.tim.now + s.fld laneGuard l) : s.accept p l true (some r) fine val psn setT =
    (2, (s.bump .RAK_LATE 0).raiseOnceK .RAK_LATE 0 (l + 1) 0x5102 6 l (r + p * 2 ^ 64)) := by
  rw [State.accept, if_neg (lane_takes hopen hbound)]
  exact if_pos (decide_eq_true hlate)

/-- An entry in time for a free release time is racked in release order. -/
theorem accept_inserts (hroom : RoomFor s l r) : s.accept p l true (some r) fine val psn setT =
    (0, s.modLane l (withEntry (offeredEntry s p r fine val psn setT))) := by
  obtain ⟨htime, halone, hlen⟩ := hroom
  have hnone : ¬ ((s.lane l).rack.any fun x => x.r == r) = true := by simpa using halone
  rw [State.accept, if_neg (lane_takes hopen hbound)]
  exact (if_neg (by simpa using htime)).trans ((if_neg hnone).trans (if_neg (by omega)))

end

/-! ### Misses and released values (R333, R342, R343) -/

/-- What a miss writes of the racks: MISSES, RAK_MISS_TOTAL and CONSEC (R342). -/
def missNoted (s : State) (l : Nat) : State :=
  ((s.bumpFld lstatMisses l).bump .RAK_MISS_TOTAL 0).setFld lstatConsec l (min 15 (s.fld lstatConsec l + 1))

theorem rising_missNoted (h : rising s.regs = true) (l : Nat) : rising (missNoted s l).regs = true :=
  rising_setFld (rising_bump (rising_setFld h _ _ _) _ _) _ _ _

theorem reg_missNoted_other (h : rising s.regs = true) {q : Reg} {j l : Nat} (hstat : q.addr j ≠ Reg.addr .RAK_LSTAT l)
    (htotal : q.addr j ≠ Reg.addr .RAK_MISS_TOTAL 0) : (missNoted s l).reg q j = s.reg q j := by
  have hmisses := rising_setFld h lstatMisses l (min (2 ^ 16 - 1) (s.fld lstatMisses l + 1))
  exact (reg_setFld_other (f := lstatConsec) (rising_bump hmisses _ _) hstat _).trans
    ((reg_setReg hmisses _ _ _ _ _ htotal).trans (reg_setFld_other (f := lstatMisses) h hstat _))

theorem lstat_apart (l : LaneNo) : Reg.addr .RAK_LSTAT l ≠ Reg.addr .RAK_MISS_TOTAL 0 := by
  simp only [Reg.addr, Reg.info]
  omega

theorem psn_apart (l : LaneNo) : Reg.addr .RAK_PSN 0 ≠ Reg.addr .RAK_LSTAT l := by
  simp only [Reg.addr, Reg.info]
  omega

theorem lstat_below (l : LaneNo) : Reg.addr .RAK_LSTAT l < pinRegs := by
  simp only [Reg.addr, Reg.info, pinRegs]
  omega

theorem lstat_missNoted (h : rising s.regs = true) (l : LaneNo) :
    (missNoted s l).fld lstatMisses l = min 65535 (s.fld lstatMisses l + 1) ∧
    (missNoted s l).fld lstatConsec l = min 15 (s.fld lstatConsec l + 1) := by
  have hmisses := rising_setFld h lstatMisses l (min (2 ^ 16 - 1) (s.fld lstatMisses l + 1))
  have htotal := rising_bump hmisses .RAK_MISS_TOTAL 0
  constructor
  · refine (fld_setFld_apart htotal lstatConsec lstatMisses rfl (by decide) (by decide) (by decide) _ _).trans
      ((fld_setReg_other hmisses lstatMisses (lstat_apart l) _).trans ((fld_setFld_self h (by decide) (by decide) _ _).trans ?_))
    exact Nat.mod_eq_of_lt (show min 65535 _ < 65536 by omega)
  · refine (fld_setFld_self htotal (by decide) (by decide) _ _).trans ?_
    exact Nat.mod_eq_of_lt (show min 15 _ < 16 by omega)

/-- The rest of a miss is an event, a notice and a trip source. -/
theorem missCount_pins (h : rising s.regs = true) (l r time : Nat) (poison : Bool) :
    PinWork (missNoted s l) (s.missCount l r time poison) := by
  have hnoted := PinWork.refl (rising_missNoted h l)
  have hevent {data : Nat} {c : Prop} [Decidable c] :
      PinWork (missNoted s l) (if c then (missNoted s l).raiseAt time 0x5101 6 l data else missNoted s l) := .ite hnoted.raiseAt hnoted
  exact PinWork.refreshMsrc (.ite hevent.notice hevent)

theorem PinWork.laneToSafe {l : Nat} (h : PinWork s u) : PinWork s (u.laneToSafe l) :=
  .ite h.refreshPair (.ite h.vlRequest (.ite h.setReg h))

/-- A miss action changes of its lane the safe state and the STICKY hold only. -/
theorem missAction_pins (h : rising s.regs = true) (l : Nat) (safe : Bool) :
    PinWork (if safe then s.modLane l fun x => { x with safe := true, sticky := x.sticky || s.flag laneSticky l } else s)
      (s.missAction l safe) := by
  unfold State.missAction
  cases safe with
  | false =>
    rw [if_neg Bool.false_ne_true, if_neg Bool.false_ne_true]
    exact .ite (PinWork.refl h).vlRequest (PinWork.refl h)
  | true =>
    rw [if_pos rfl, if_pos rfl]
    exact PinWork.laneToSafe (.refl h)

theorem rack_missAction (h : rising s.regs = true) (hl : rising s.lanes = true) (l : Nat) (safe : Bool) :
    ((s.missAction l safe).lane l).rack = (s.lane l).rack ∧ ((s.missAction l safe).lane l).last = (s.lane l).last := by
  rw [(missAction_pins h l safe).lane]
  cases safe with
  | false => exact ⟨rfl, rfl⟩
  | true =>
    rw [if_pos rfl, lane_modLane hl]
    exact ⟨rfl, rfl⟩

theorem reg_missAction (h : rising s.regs = true) (l : Nat) (safe : Bool) {q : Reg} {j : Nat} (hq : q.addr j < pinRegs) :
    (s.missAction l safe).reg q j = s.reg q j := by
  rw [(missAction_pins h l safe).regs q j hq]
  cases safe <;> rfl

/-- A value released becomes the lane's last one and ends its safe state; the rest is the pin's or the link's. -/
theorem releaseValue_pins (h : rising s.regs = true) (l fine : Nat) (v : Word) :
    PinWork (s.modLane l fun x => { x with last := some v, safe := false }) (s.releaseValue l fine v) := by
  have hlane : PinWork (s.modLane l fun x => { x with last := some v, safe := false })
    (s.modLane l fun x => { x with last := some v, safe := false }) := .refl h
  refine .ite (PinWork.refreshPair ?_) (.ite hlane.vlRequest (.ite (.ite hlane hlane.setReg) hlane))
  split
  · exact hlane.loadPwm.modGate
  · exact hlane.loadPwm

/-- A miss with its action: what the lane's counts and its rack read afterwards (R342). -/
theorem missed_counts (hr : rising s.regs = true) (hl : rising s.lanes = true) (l : LaneNo) (r time : Nat) (poison safe : Bool) :
    (((s.missCount l r time poison).missAction l safe).lane l).rack = (s.lane l).rack ∧
    (((s.missCount l r time poison).missAction l safe).lane l).last = (s.lane l).last ∧
    ((s.missCount l r time poison).missAction l safe).fld lstatMisses l = min 65535 (s.fld lstatMisses l + 1) ∧
    ((s.missCount l r time poison).missAction l safe).fld lstatConsec l = min 15 (s.fld lstatConsec l + 1) ∧
    ((s.missCount l r time poison).missAction l safe).reg .RAK_PSN 0 = s.reg .RAK_PSN 0 := by
  have hcount := missCount_pins hr l r time poison
  have hlane : (s.missCount l r time poison).lane l = s.lane l := hcount.lane l
  have hreg {q : Reg} {j : Nat} (hq : q.addr j < pinRegs) :
      ((s.missCount l r time poison).missAction l safe).reg q j = (missNoted s l).reg q j :=
    (reg_missAction hcount.rises l safe hq).trans (hcount.regs q j hq)
  have hfld {f : Fld} (hf : f.r = .RAK_LSTAT) :
      ((s.missCount l r time poison).missAction l safe).fld f l = (missNoted s l).fld f l := by
    rw [State.fld, State.fld, hreg (by rw [hf]; exact lstat_below l)]
  obtain ⟨hrack, hlast⟩ := rack_missAction hcount.rises (hcount.lanes ▸ hl) l safe
  obtain ⟨hmisses, hconsec⟩ := lstat_missNoted hr l
  exact ⟨hrack.trans (congrArg _ hlane), hlast.trans (congrArg _ hlane), (hfld rfl).trans hmisses, (hfld rfl).trans hconsec,
    (hreg (by decide)).trans (reg_missNoted_other hr (psn_apart l) (by decide))⟩

/-! ### The setpoint lanes of a link (R333, R378) -/

/-- The first setpoint lane, and the place of its RAK_LSTAT. -/
def setpointLanes : Nat := 592
def setpointRegs : Nat := 0x400042000 + 4 * 592

/-- `u` differs from `s` by releases on setpoint lanes at most. -/
structure SetpointWork (s u : State) : Prop where
  rises : rising u.regs = true
  lanesRise : rising u.lanes = true
  regs : ∀ r i, r.addr i < setpointRegs → u.reg r i = s.reg r i
  lanes : ∀ j, j < setpointLanes → u.lane j = s.lane j
  tim : u.tim = s.tim

theorem SetpointWork.refl (hc : Canon s) : SetpointWork s s :=
  ⟨hc.regs, rising_of_twf hc.lanes, fun _ _ _ => rfl, fun _ _ => rfl, rfl⟩

theorem SetpointWork.pins {v : State} (h : SetpointWork s u) (k : PinWork u v) : SetpointWork s v where
  rises := k.rises
  lanesRise := k.lanes ▸ h.lanesRise
  regs r i hr := (k.regs r i (by rw [setpointRegs] at hr; rw [pinRegs]; omega)).trans (h.regs r i hr)
  lanes j hj := (k.lane j).trans (h.lanes j hj)
  tim := k.tim.trans h.tim

theorem SetpointWork.modLane {m : Nat} {g : LaneSt → LaneSt} (h : SetpointWork s u) (hm : setpointLanes ≤ m) :
    SetpointWork s (u.modLane m g) where
  rises := h.rises
  lanesRise := rising_tput h.lanesRise
  regs := h.regs
  lanes j hj := ((lane_setLane h.lanesRise m j _).trans (if_neg (by omega))).trans (h.lanes j hj)
  tim := h.tim

theorem SetpointWork.setReg {r : Reg} {i v : Nat} (h : SetpointWork s u) (hr : setpointRegs ≤ r.addr i) : SetpointWork s (u.setReg r i v) where
  rises := rising_setReg h.rises r i v
  lanesRise := h.lanesRise
  regs q j hq := (reg_setReg h.rises r q i j v (by omega)).trans (h.regs q j hq)
  lanes := h.lanes
  tim := h.tim

theorem SetpointWork.ite {a b : State} {c : Prop} [Decidable c] (ha : SetpointWork s a) (hb : SetpointWork s b) :
    SetpointWork s (if c then a else b) := by
  split
  · exact ha
  · exact hb

section
variable {m : Nat} (hm : setpointLanes ≤ m)
include hm

theorem SetpointWork.missCount {r time : Nat} {poison : Bool} (h : SetpointWork s u) : SetpointWork s (u.missCount m r time poison) := by
  have hstat : setpointRegs ≤ Reg.addr .RAK_LSTAT m := by
    simp only [setpointLanes] at hm
    simp only [Reg.addr, Reg.info, setpointRegs]
    omega
  have hnoted : SetpointWork s (missNoted u m) :=
    SetpointWork.setReg (SetpointWork.setReg (SetpointWork.setReg h hstat) (show setpointRegs ≤ Reg.addr .RAK_MISS_TOTAL 0 by decide)) hstat
  exact hnoted.pins (missCount_pins h.rises m r time poison)

theorem SetpointWork.missAction {safe : Bool} (h : SetpointWork s u) : SetpointWork s (u.missAction m safe) := by
  refine SetpointWork.pins ?_ (missAction_pins h.rises m safe)
  exact .ite (h.modLane hm) h

theorem SetpointWork.releaseEntry {e : Entry} (h : SetpointWork s u) : SetpointWork s (u.releaseEntry m e) := by
  have hout : SetpointWork s (u.modLane m fun x => { x with rack := x.rack.erase e }) := h.modLane hm
  exact .ite (((hout.setReg (r := .RAK_PSN) (i := 0) (by decide)).missCount hm).missAction hm)
    (.ite ((hout.missCount hm).missAction hm) ((hout.modLane hm).pins (releaseValue_pins hout.rises m e.fine e.val)))

theorem SetpointWork.laneRelease (h : SetpointWork s u) : SetpointWork s (u.laneRelease m) := by
  unfold State.laneRelease
  split
  · exact h
  · exact h.releaseEntry hm
  · exact (h.modLane hm).missAction hm
  · exact .ite (h.releaseEntry hm) ((h.modLane hm).missAction hm)

theorem SetpointWork.releaseUpTo {r n : Nat} (h : SetpointWork s u) : SetpointWork s (u.releaseUpTo m r n) := by
  induction n generalizing u with
  | zero => exact h
  | succ n ih => exact .ite (ih (h.laneRelease hm)) h

end

theorem setpointWork_setpointsFirst (hc : Canon s) (l r : Nat) : SetpointWork s (s.setpointsFirst l r) := by
  refine .ite (foldl_write_inv (Inv := (SetpointWork s ·)) (fun u k h => h.releaseUpTo ?_) _ (.refl hc)) (.refl hc)
  rw [setpointLanes]
  omega

theorem setpointsFirst_of_not_frame {l : Nat} (hl : l < 512 ∨ 560 ≤ l) (r : Nat) : s.setpointsFirst l r = s :=
  if_neg (by omega)

end Sys2Proof
end

section
/-! PROOFS. Words at rack ports, RACK_PUT, releases and deadline checks (R335 to R346, R352), and the settled statement about them. -/

namespace Sys2Proof

open Sys2Proof.Machine

set_option Elab.async false

variable {s : State}

/-! ### Words at a FIXSET port (R335) -/

/-- NEXT is a lane's number, so it does not overflow before it wraps at LANE_HI. -/
theorem portNext_advanceNext (h : rising s.regs = true) {p l : Nat} (hnext : s.fld portNext p = l) (hl : l ≤ 783) :
    (s.advanceNext p).fld portNext p = if l = s.fld portHi p then s.fld portLo p else l + 1 := by
  have hlo : s.fld portLo p < 1024 := fld_lt s portLo p
  subst hnext
  refine (fld_setFld_self (f := portNext) h (by decide) (by decide) p _).trans ?_
  rw [Nat.mod_eq_of_lt (show s.fld portNext p + 1 < 1024 by omega)]
  exact Nat.mod_eq_of_lt (show _ < 1024 by split <;> omega)

/-- Port `p` forms FIXSET entries, the next one for lane `l`, whose rack set gives release time `r` (R335, R338). -/
structure FixsetPort (s : State) (p l r : Nat) : Prop where
  unpaired : s.portModeOf (p / 2 * 2) ≠ some 2
  fixset : s.portModeOf p = some 1
  next : s.fld portNext p = l
  inRange : s.portRange p l = true
  bound : s.flag laneBound l = true
  due : s.setTime l = some r

theorem rackWord_racks (hr : rising s.regs = true) (hl : rising s.lanes = true) {p l r : Nat} (hport : FixsetPort s p l r)
    (hopen : LaneOpen s l) (hroom : RoomFor s l r) (tok : Tok) : (s.rackWord p tok).net = s.net ∧
      ((s.rackWord p tok).lane l).rack = rackIns (offeredEntry s p r (s.fld portFine p) tok.v tok.psn true) (s.lane l).rack ∧
      (s.rackWord p tok).fld portNext p = if l = s.fld portHi p then s.fld portLo p else l + 1 := by
  obtain ⟨hpaired, hmode, hnext, hrange, hbound, hset⟩ := hport
  have hword : s.rackWord p tok = s.fixWord p tok := by simp only [State.rackWord, if_neg hpaired, hmode]
  rw [hword, State.fixWord, hnext, hrange, hset, accept_inserts hopen (fun _ => hbound) hroom]
  exact ⟨rfl, congrArg LaneSt.rack (lane_modLane hl l _), portNext_advanceNext (s := s.modLane l _) hr hnext hopen.number⟩

/-- The word at the front of rack port `p.addr`: its value, and whether it is poisoned. -/
def rackTok (p : Pkt) : Tok := ⟨BitVec.ofNat 32 (leNat (p.data.map (·.getD 0#8))), p.psn % 2 = 1⟩

/-- A bridge word stands at the rim hub for a rack port that can take it (R334). -/
structure AtRackPort (s : State) (p : Pkt) : Prop where
  arrived : s.arrived p = true
  bridge : p.op = .bridge
  hub : p.dest = 32
  port : p.addr < 32
  free : s.pairBusy p.addr = false

/-- It is taken, its credit returns, and its port has it. -/
theorem exec_rackPortWord {p : Pkt} (h : AtRackPort s p) : ∃ floors, exec (.rackPortWord p) s =
      .next (State.rackWord { s with net := s.net.erase p, floors := floors } p.addr (rackTok p)) := by
  have harm : exec (.rackPortWord p) s = execRackPortWord p s := rfl
  refine ⟨((s.takePkt p).returnCredit p).floors, ?_⟩
  rw [harm, execRackPortWord, if_pos ⟨h.arrived, h.bridge, h.hub, h.port, by rw [h.free]; rfl⟩, returnCredit_frame]
  rfl

theorem completes_rackPortWord (hc : Canon s) {p : Pkt} {l r : Nat} (hword : AtRackPort s p) (hport : FixsetPort s p.addr l r)
    (hopen : LaneOpen s l) (hroom : RoomFor s l r) : Completes (.rackPortWord p) s fun u => u.net = s.net.erase p ∧
    (u.lane l).rack = rackIns (offeredEntry s p.addr r (s.fld portFine p.addr) (rackTok p).v (rackTok p).psn true) (s.lane l).rack ∧
    u.fld portNext p.addr = if l = s.fld portHi p.addr then s.fld portLo p.addr else l + 1 := by
  obtain ⟨floors, hrun⟩ := exec_rackPortWord hword
  obtain ⟨hpaired, hmode, hnext, hrange, hbound, hset⟩ := hport
  obtain ⟨hl, hen, hstays⟩ := hopen
  obtain ⟨htime, halone, hlen⟩ := hroom
  exact ⟨_, hrun, rackWord_racks (s := { s with net := s.net.erase p, floors := floors }) hc.regs (rising_of_twf hc.lanes)
    ⟨hpaired, hmode, hnext, hrange, hbound, hset⟩ ⟨hl, hen, hstays⟩ ⟨htime, halone, hlen⟩ _⟩

/-! ### Replies beside the racks -/

theorem lanes_reply (s : State) (c : Cmd) (op status : Nat) (data : List Byte) : (s.reply c op status data).lanes = s.lanes := by
  rcases reply_cases s c op status data with h | ⟨-, h⟩ | ⟨-, h⟩ <;> rw [h]

theorem lane_reply (s : State) (c : Cmd) (op status : Nat) (data : List Byte) (l : Nat) :
    (s.reply c op status data).lane l = s.lane l := by
  rw [State.lane, lanes_reply, State.lane]

theorem reg_reply (s : State) (c : Cmd) (op status : Nat) (data : List Byte) (r : Reg) (i : Nat) :
    (s.reply c op status data).reg r i = s.reg r i := by
  refine reg_congr ?_ r i
  rcases reply_cases s c op status data with h | ⟨-, h⟩ | ⟨-, h⟩ <;> rw [h]

/-! ### RACK_PUT of an explicitly timed entry (R339, R352) -/

section
variable {c : Cmd} {l fine : Nat} {v : Word} (hfine : fine ≤ 7) (hown : s.cmdOwns c 4 l = true)
include hfine hown

theorem rackPutCmd_of_accept {r res : Nat} {u : State} (hacc : s.accept 0xFF l true (some r) fine v false false = (res, u)) :
    s.rackPutCmd c l 1 fine r v 0 =
      if res = 0 then u.reply c 0x5003 stOk []
      else if res = 1 then u.badParam c 0x5003 0
      else if res = 2 then u.badParam c 0x5003 4
      else u.reply c 0x5003 stBusy [] := by
  have hpriv : ¬ (l < 784 ∧ (!s.cmdOwns c 4 l) = true) := by simp [hown]
  have hacc' : s.accept 0xFF l true (some r) fine v (0 == 1) (1 == 0) = (res, u) := hacc
  unfold State.rackPutCmd
  dsimp only
  rw [if_neg (by decide), if_neg (by omega), if_neg (by decide), if_neg hpriv, if_pos rfl, hacc']
  rfl

variable {r : DWord} (ha : Accepted s c 0x5003
  (leBytes 2 l ++ leBytes 1 1 ++ leBytes 1 fine ++ leBytes 8 r.toNat ++ leBytes 4 v.toNat ++ leBytes 1 0) true)
include ha

theorem exec_rackPut {res : Nat} {u : State}
    (hacc : (s.unfetch c).accept 0xFF l true (some r.toNat) fine v false false = (res, u)) : exec (.rackPut c l 1 fine r v 0) s = .next (
      if res = 0 then u.reply c 0x5003 stOk []
      else if res = 1 then u.badParam c 0x5003 0
      else if res = 2 then u.badParam c 0x5003 4
      else u.reply c 0x5003 stBusy []) := by
  have harm : exec (.rackPut c l 1 fine r v 0) s = execRackPut c l 1 fine r v 0 s := rfl
  rw [harm, execRackPut, runCmd_of_accepted ha, rackPutCmd_of_accept (s := s.unfetch c) hfine hown hacc]

variable (hc : Canon s) (hopen : LaneOpen s l)
include hc hopen

theorem completes_rackPut (hroom : RoomFor s l r.toNat) : Completes (.rackPut c l 1 fine r v 0) s fun u =>
    Replies s u c 0x5003 stOk [] ∧ (u.lane l).rack = rackIns (offeredEntry s 0xFF r.toNat fine v false false) (s.lane l).rack ∧
    ∀ l', l' ≠ l → u.lane l' = s.lane l' := by
  have hacc := accept_inserts (s := s.unfetch c) (p := 0xFF) (fine := fine) (val := v) (psn := false) (setT := false)
    ⟨hopen.number, hopen.on, hopen.stays⟩ (fun h => absurd h Bool.false_ne_true) ⟨hroom.inTime, hroom.alone, hroom.room⟩
  have hrun := (exec_rackPut hfine hown ha hacc).trans (congrArg _ (if_pos rfl))
  have hlane (j : Nat) := (lane_reply ((s.unfetch c).modLane l (withEntry (offeredEntry (s.unfetch c) 0xFF r.toNat fine v false false)))
    c 0x5003 stOk [] j).trans (lane_setLane (s := s.unfetch c) (rising_of_twf hc.lanes) l j _)
  refine ⟨_, hrun, Replies.of_answering (u := (s.unfetch c).modLane l _) rfl ha.here ha.live _ _, ?_,
    fun j hj => (hlane j).trans (if_neg hj)⟩
  rw [hlane, if_pos rfl]
  rfl

theorem completes_rackPut_late (hlate : r.toNat < s.tim.now + s.fld laneGuard l) : Completes (.rackPut c l 1 fine r v 0) s fun u =>
    Replies s u c 0x5003 stBadParam [4#8, 0#8] ∧ u.lanes = s.lanes ∧
    u.reg .RAK_LATE 0 = min 0xFFFFFFFF (s.reg .RAK_LATE 0 + 1) := by
  have hacc := accept_late (s := s.unfetch c) (p := 0xFF) (fine := fine) (val := v) (psn := false) (setT := false)
    ⟨hopen.number, hopen.on, hopen.stays⟩ (fun h => absurd h Bool.false_ne_true) hlate
  have hpins := PinWork.raiseOnceK (r := .RAK_LATE) (i := 0) (sub := l + 1) (code := 0x5102) (sclass := 6) (loc := l)
    (data := r.toNat + 0xFF * 2 ^ 64) (PinWork.refl (s := (s.unfetch c).bump .RAK_LATE 0) (rising_bump hc.regs _ _))
  refine ⟨_, exec_rackPut hfine hown ha hacc, Replies.of_answering hpins.answers ha.here ha.live _ _, ?_, ?_⟩
  · exact (lanes_reply _ _ _ _ _).trans hpins.lanes
  · exact (reg_reply _ _ _ _ _ _ _).trans ((hpins.regs .RAK_LATE 0 (by decide)).trans (reg_bump_self hc.regs _ _))

end

/-! ### Releases (R333, R342, R346) -/

section
variable (hr : rising s.regs = true) (hl : rising s.lanes = true) {l : LaneNo} {e : Entry} {rest : List Entry}
  (hrack : (s.lane l).rack = e :: rest)

include hl hrack in
/-- The entry at the front taken out of the rack. -/
theorem lane_withoutEntry : (s.modLane l (withoutEntry e)).lane l = { s.lane l with rack := rest } := by
  rw [lane_modLane hl, withoutEntry, hrack, List.erase_cons_head]

include hr hl hrack

theorem releaseEntry_sound (hpsn : e.psn = false) (hkept : s.timeFenced = false ∨ s.flag laneSys l = false ∨ e.setT = true) :
    ((s.releaseEntry l e).lane l).rack = rest ∧ ((s.releaseEntry l e).lane l).last = some e.val ∧
    ((s.releaseEntry l e).lane l).safe = false := by
  have hkeep : ¬ (s.timeFenced = true ∧ s.flag laneSys l = true ∧ (!e.setT) = true) := by
    rcases hkept with h | h | h <;> simp [h]
  have hrun : s.releaseEntry l e = (s.modLane l (withoutEntry e)).releaseValue l e.fine e.val :=
    (if_neg (by simp [hpsn])).trans (if_neg hkeep)
  have hpins := releaseValue_pins (s := s.modLane l (withoutEntry e)) hr l e.fine e.val
  rw [hrun, hpins.lane, lane_modLane (rising_tput hl), lane_withoutEntry hl hrack]
  exact ⟨rfl, rfl, rfl⟩

theorem releaseEntry_poisoned (hpsn : e.psn = true) :
    ((s.releaseEntry l e).lane l).rack = rest ∧ ((s.releaseEntry l e).lane l).last = (s.lane l).last ∧
    (s.releaseEntry l e).fld lstatMisses l = min 65535 (s.fld lstatMisses l + 1) ∧
    (s.releaseEntry l e).fld lstatConsec l = min 15 (s.fld lstatConsec l + 1) ∧
    (s.releaseEntry l e).reg .RAK_PSN 0 = min 0xFFFFFFFF (s.reg .RAK_PSN 0 + 1) := by
  have hrun : s.releaseEntry l e = (((s.modLane l (withoutEntry e)).bump .RAK_PSN 0).missCount l e.r s.tim.now true).missAction l
      (s.flag laneAct l) := if_pos hpsn
  have hlane : ((s.modLane l (withoutEntry e)).bump .RAK_PSN 0).lane l = { s.lane l with rack := rest } := lane_withoutEntry hl hrack
  have hfld (f : Fld) (hf : f.r = .RAK_LSTAT) : ((s.modLane l (withoutEntry e)).bump .RAK_PSN 0).fld f l = s.fld f l :=
    fld_setReg_other (s := s.modLane l (withoutEntry e)) hr f (by rw [hf]; exact (psn_apart l).symm) _
  have hcounts := missed_counts (s := (s.modLane l (withoutEntry e)).bump .RAK_PSN 0) (rising_bump hr _ _) (rising_tput hl) l e.r s.tim.now
    true (s.flag laneAct l)
  rw [← hrun, hlane, hfld _ rfl, hfld _ rfl, reg_bump_self (s := s.modLane l (withoutEntry e)) hr] at hcounts
  exact hcounts

end

/-- Releases on the setpoint lanes of a link come before its frame lane's, and leave that lane as it was. -/
theorem setpointsFirst_lane (hc : Canon s) (l : LaneNo) (r : Nat) : (s.setpointsFirst l r).lane l = s.lane l ∧
    ∀ (f : Fld) (i : Nat), f.r.addr i ≤ Reg.addr .RAK_LSTAT l → (s.setpointsFirst l r).fld f i = s.fld f i := by
  by_cases hframe : l.val < 560
  · have hwork := setpointWork_setpointsFirst hc l r
    refine ⟨hwork.lanes l (by rw [setpointLanes]; omega), fun f i hf => ?_⟩
    have hstat : Reg.addr .RAK_LSTAT l < setpointRegs := by
      simp only [Reg.addr, Reg.info, setpointRegs]
      omega
    rw [State.fld, State.fld, hwork.regs f.r i (hf.trans_lt hstat)]
  · rw [setpointsFirst_of_not_frame (by omega)]
    exact ⟨rfl, fun _ _ _ => rfl⟩

section
variable {l : LaneNo} {e : Entry} {rest : List Entry} (hc : Canon s) (hrack : (s.lane l).rack = e :: rest)
  (hmisses : (s.lane l).misses = []) (hdue : e.r ≤ s.tim.now)
include hc hrack hmisses hdue

theorem exec_rackRelease : exec (.rackRelease l) s = .next ((s.setpointsFirst l e.r).releaseEntry l e) := by
  have harm : exec (.rackRelease l) s = execRackRelease l s := rfl
  obtain ⟨hlane, -⟩ := setpointsFirst_lane hc l e.r
  simp only [harm, execRackRelease, State.laneDue, hrack, hmisses, if_pos hdue, State.laneRelease, hlane]

theorem completes_rackRelease_sound (hpsn : e.psn = false)
    (hkept : s.timeFenced = false ∨ s.flag laneSys l = false ∨ e.setT = true) : Completes (.rackRelease l) s fun u =>
      (u.lane l).rack = rest ∧ (u.lane l).last = some e.val ∧ (u.lane l).safe = false := by
  have hwork := setpointWork_setpointsFirst hc l e.r
  obtain ⟨hlane, hflds⟩ := setpointsFirst_lane hc l e.r
  refine ⟨_, exec_rackRelease hc hrack hmisses hdue,
    releaseEntry_sound hwork.rises hwork.lanesRise (by rw [hlane, hrack]) hpsn ?_⟩
  have hstatus : Reg.addr .TMB_STATUS 0 ≤ Reg.addr .RAK_LSTAT l := by
    simp only [Reg.addr, Reg.info]
    omega
  have hconf : Reg.addr .RAK_LANE l ≤ Reg.addr .RAK_LSTAT l := by
    simp only [Reg.addr, Reg.info]
    omega
  rw [State.timeFenced, State.flag, State.flag, hflds tmbFenced 0 hstatus, hflds laneSys l hconf]
  exact hkept

theorem completes_rackRelease_poisoned (hpsn : e.psn = true) : Completes (.rackRelease l) s fun u =>
    (u.lane l).rack = rest ∧ (u.lane l).last = (s.lane l).last ∧
    u.fld lstatMisses l = min 65535 (s.fld lstatMisses l + 1) ∧ u.fld lstatConsec l = min 15 (s.fld lstatConsec l + 1) ∧
    (l.val < 512 ∨ 560 ≤ l.val → u.reg .RAK_PSN 0 = min 0xFFFFFFFF (s.reg .RAK_PSN 0 + 1)) := by
  have hwork := setpointWork_setpointsFirst hc l e.r
  obtain ⟨hlane, hflds⟩ := setpointsFirst_lane hc l e.r
  obtain ⟨hout, hlast, hmiss, hconsec, hcount⟩ := releaseEntry_poisoned hwork.rises hwork.lanesRise (by rw [hlane, hrack]) hpsn
  rw [hlane] at hlast
  rw [hflds lstatMisses l le_rfl] at hmiss
  rw [hflds lstatConsec l le_rfl] at hconsec
  refine ⟨_, exec_rackRelease hc hrack hmisses hdue, hout, hlast, hmiss, hconsec, fun hl => ?_⟩
  rw [hcount, setpointsFirst_of_not_frame hl]

end

/-! ### Deadline checks (R341, R342, R346) -/

/-- The check of batch `b` for its step started at `t` noted as made. -/
def withCheck (b t : Nat) (x : LaneSt) : LaneSt := { x with checked := tput 0 x.checked b (t + 1) }

/-- The miss action for release time `r` queued, and no entry left for it. -/
def withMiss (r : Nat) (safe : Bool) (x : LaneSt) : LaneSt :=
  { x with rack := x.rack.filter fun e => e.r != r, misses := x.misses ++ [(r, safe)] }

theorem withMiss_of_absent {r : Nat} {x : LaneSt} (h : x.rack.find? (fun e => e.r == r) = none) (safe : Bool) :
    withMiss r safe x = { x with misses := x.misses ++ [(r, safe)] } := by
  have hall : (x.rack.filter fun e => e.r != r) = x.rack := List.filter_eq_self.mpr fun e he => by
    simpa using List.find?_eq_none.mp h e he
  rw [withMiss, hall]

/-- With an entry in time the check ends the run of misses. -/
theorem laneCheck_onTime {l r : Nat} {e : Entry} (hfind : (s.lane l).rack.find? (fun e => e.r == r) = some e) (hpsn : e.psn = false)
    (hkept : s.timeFenced = false ∨ s.flag laneSys l = false) : s.laneCheck l r = (s.setFld lstatConsec l 0).refreshMsrc l := by
  have hok : ((s.lane l).rack.find? fun e => e.r == r).any (fun e => !e.psn) = true := by simp [hfind, hpsn]
  exact if_pos ⟨hok, by rcases hkept with h | h <;> simp [h]⟩

/-- Without an entry it counts a miss and queues its action. -/
theorem laneCheck_absent (hr : rising s.regs = true) (hl : rising s.lanes = true) {l : LaneNo} {r : Nat}
    (hfind : (s.lane l).rack.find? (fun e => e.r == r) = none) :
    ((s.laneCheck l r).lane l).misses = (s.lane l).misses ++ [(r, s.flag laneAct l)] ∧
    ((s.laneCheck l r).lane l).rack = (s.lane l).rack ∧
    (s.laneCheck l r).fld lstatMisses l = min 65535 (s.fld lstatMisses l + 1) ∧
    (s.laneCheck l r).fld lstatConsec l = min 15 (s.fld lstatConsec l + 1) := by
  have hrun : s.laneCheck l r =
      (s.modLane l (withMiss r (s.flag laneAct l))).missCount l r (r - s.fld laneGuard l) false := by
    rw [State.laneCheck, hfind]
    rfl
  have hpins := missCount_pins (s := s.modLane l (withMiss r (s.flag laneAct l))) hr l r (r - s.fld laneGuard l) false
  have hlane : (missNoted (s.modLane l (withMiss r (s.flag laneAct l))) l).lane l = _ :=
    (lane_modLane hl l _).trans (withMiss_of_absent hfind _)
  obtain ⟨hmisses, hconsec⟩ := lstat_missNoted (s := s.modLane l (withMiss r (s.flag laneAct l))) hr l
  rw [hrun, hpins.lane, hlane, hpins.fld (f := lstatMisses) (lstat_below l),
    hpins.fld (f := lstatConsec) (lstat_below l)]
  exact ⟨rfl, rfl, hmisses, hconsec⟩

section
variable {l : LaneNo} {r b t : Nat} (hc : Canon s) (hdue : s.checksDue l = [(r, b, t)])
include hdue

theorem exec_rackDeadlineCheck : exec (.rackDeadlineCheck l) s = .next ((s.modLane l (withCheck b t)).laneCheck l r) := by
  have harm : exec (.rackDeadlineCheck l) s = .next (s.checkNext l) := rfl
  simp only [harm, State.checkNext, hdue, List.map_nil, List.foldl_nil, List.foldl_cons, if_true]
  rfl

include hc

theorem completes_rackDeadlineCheck_onTime {e : Entry} (hfind : (s.lane l).rack.find? (fun e => e.r == r) = some e)
    (hpsn : e.psn = false) (hkept : s.timeFenced = false ∨ s.flag laneSys l = false) : Completes (.rackDeadlineCheck l) s fun u =>
      u.fld lstatConsec l = 0 ∧ (u.lane l).rack = (s.lane l).rack ∧ (u.lane l).misses = (s.lane l).misses := by
  have hlane := lane_modLane (rising_of_twf hc.lanes) l (withCheck b t)
  have hrun := laneCheck_onTime (s := s.modLane l (withCheck b t)) (l := l) (by rw [hlane]; exact hfind) hpsn hkept
  have hpins := (PinWork.refl (s := (s.modLane l (withCheck b t)).setFld lstatConsec l 0)
    (rising_setFld hc.regs _ _ _)).refreshMsrc (l := l)
  refine ⟨_, (exec_rackDeadlineCheck hdue).trans (congrArg _ hrun), ?_, ?_⟩
  · exact (hpins.fld (f := lstatConsec) (lstat_below l)).trans
      (fld_setFld_self (s := s.modLane l (withCheck b t)) hc.regs (by decide) (by decide) _ _)
  · rw [hpins.lane, show ((s.modLane l (withCheck b t)).setFld lstatConsec l 0).lane l = withCheck b t (s.lane l) from hlane]
    exact ⟨rfl, rfl⟩

theorem completes_rackDeadlineCheck_absent (hfind : (s.lane l).rack.find? (fun e => e.r == r) = none) :
    Completes (.rackDeadlineCheck l) s fun u => (u.lane l).misses = (s.lane l).misses ++ [(r, s.flag laneAct l)] ∧
      (u.lane l).rack = (s.lane l).rack ∧ u.fld lstatMisses l = min 65535 (s.fld lstatMisses l + 1) ∧
      u.fld lstatConsec l = min 15 (s.fld lstatConsec l + 1) := by
  have hlane := lane_modLane (rising_of_twf hc.lanes) l (withCheck b t)
  obtain ⟨hmisses, hrack, hcounts⟩ := laneCheck_absent (s := s.modLane l (withCheck b t)) (l := l) (r := r) hc.regs
    (rising_tput (rising_of_twf hc.lanes)) (by rw [hlane]; exact hfind)
  rw [hlane] at hmisses hrack
  exact ⟨_, exec_rackDeadlineCheck hdue, hmisses, hrack, hcounts⟩

end

/-- Settles O47: what is accepted is racked by `accept_inserts`, what is released or missed touches of the racks its lane and its
counts, and pins and trip lines touch neither. -/
theorem racksAcceptAndRelease : Obligations.RacksAcceptAndRelease := by
  unfold Obligations.RacksAcceptAndRelease
  intro s hc
  refine ⟨?_, ?_, ?_, ?_⟩
  · intro p r harr hop hdest haddr hbusy hpaired hmode l hrange hl hen hbound hdrain hset htime halone hroom
    exact completes_rackPortWord hc ⟨harr, hop, hdest, haddr, hbusy⟩ ⟨hpaired, hmode, rfl, hrange, hbound, hset⟩
      ⟨hl, hen, hdrain⟩ ⟨htime, halone, hroom⟩
  · intro c l fine r v hl hfine hown hen hdrain ha
    have hopen : LaneOpen s l := ⟨hl, hen, hdrain⟩
    exact ⟨fun htime halone hroom => completes_rackPut hfine hown ha hc hopen ⟨htime, halone, hroom⟩,
      completes_rackPut_late hfine hown ha hc hopen⟩
  · exact fun l e rest hrack hmisses hdue => ⟨completes_rackRelease_sound hc hrack hmisses hdue,
      completes_rackRelease_poisoned hc hrack hmisses hdue⟩
  · exact fun l r b t hdue => ⟨fun ⟨_, hfind, hpsn⟩ => completes_rackDeadlineCheck_onTime hc hdue hfind hpsn,
      completes_rackDeadlineCheck_absent hc hdue⟩

end Sys2Proof
end

section
/-! PROOFS. Device time (R321 to R327): LOCK and the fence, the edges of PPS_IN and PPS_OUT, jumps of the time, and the settled
statement about the timebase. -/

namespace Sys2Proof

open Sys2Proof.Machine

set_option Elab.async false

variable {s : State}

/-! ### LOCK, HOLDOVER and the fence (R321 to R324) -/

theorem flag_setFld_self (h : rising s.regs = true) {f : Fld} (hlo : f.lo = f.hi) (hhi : f.hi < 64) (i : Nat) (b : Bool) :
    (s.setFld f i (b2n b)).flag f i = b := by
  rw [State.flag, fld_setFld_self h hlo.le hhi, hlo, Nat.add_sub_cancel_left]
  cases b <;> rfl

theorem flag_setFld_apart (h : rising s.regs = true) (f g : Fld) (hr : g.r = f.r) (hlo : f.lo ≤ f.hi) (hhi : g.hi < 64)
    (hap : g.hi < f.lo ∨ f.hi < g.lo) (i v : Nat) : (s.setFld f i v).flag g i = s.flag g i := by
  rw [State.flag, State.flag, fld_setFld_apart h f g hr hlo hhi hap]

theorem flag_setLock (h : rising s.regs = true) (b : Bool) : (s.setLock b).flag tmbLock 0 = b :=
  flag_setFld_self h rfl (by decide) 0 b

/-- LOCK is a bit of TMB_STATUS; every other register stays. -/
theorem reg_setLock_other (h : rising s.regs = true) {q : Reg} {j : Nat} (hq : q.addr j ≠ Reg.addr .TMB_STATUS 0) (b : Bool) :
    (s.setLock b).reg q j = s.reg q j :=
  reg_setFld_other (f := tmbLock) h hq _

/-- A PLL that has locked makes LOCK in LOCAL mode (R322). -/
theorem lockDue_local (hsrc : s.fld tmbSrcact 0 = 0) (hpll : s.tim.pll = true) : s.lockDue = true := by
  simp [State.lockDue, hsrc, hpll]

/-- In PPS mode there is no LOCK before an edge comes in time after the one before (R322). -/
theorem lockDue_pps (hsrc : s.fld tmbSrcact 0 = 1) (hedge : s.tim.edgeOk = false) : s.lockDue = false := by
  simp [State.lockDue, hsrc, hedge]

theorem completes_rimPllLock (hc : Canon s) (hreset : s.dev.resetN = true) : Completes .rimPllLock s fun u =>
    u.tim.running = true ∧ u.tim.pll = true ∧ u.tim.now = s.tim.now ∧ (s.fld tmbSrcact 0 = 0 → u.flag tmbLock 0 = true) := by
  have hrun : exec .rimPllLock s = .next (if State.lockDue { s with tim := { s.tim with pll := true, running := true } } then
      State.setLock { s with tim := { s.tim with pll := true, running := true } } true
      else { s with tim := { s.tim with pll := true, running := true } }) := if_neg (by simp [hreset])
  refine ⟨_, hrun, ?_⟩
  split
  · exact ⟨rfl, rfl, rfl, fun _ => flag_setLock (s := { s with tim := _ }) hc.regs true⟩
  next hlock =>
    exact ⟨rfl, rfl, rfl, fun hsrc => absurd (lockDue_local (s := { s with tim := { s.tim with pll := true, running := true } }) hsrc rfl) hlock⟩

theorem completes_rimPllLockLoss (hc : Canon s) : Completes .rimPllLockLoss s fun u =>
    u.tim.pll = false ∧ u.flag tmbLock 0 = false ∧ u.tim.now = s.tim.now :=
  ⟨_, rfl, rfl, flag_setLock (s := { s with tim := { s.tim with pll := false } }) hc.regs false, rfl⟩

theorem raise_plain {code : Nat} (hcode : faultBit code = 0) (sclass loc data : Nat) :
    (s.raise code sclass loc data).regs = s.regs ∧ Logs s (s.raise code sclass loc data) code loc := by
  refine ⟨?_, raise_logs s code sclass loc data⟩
  rw [State.raise, raiseAt_plain hcode]

theorem completes_ppsMissing (hc : Canon s) {e : Int} (hsrc : s.fld tmbSrcact 0 = 1) (hhold : s.flag tmbHoldover 0 = false)
    (hlast : s.tim.lastEdge = some e) (hlate : e + (second + 10000 : Nat) < (s.tim.now : Int)) :
    Completes .ppsMissing s fun u => u.flag tmbHoldover 0 = true ∧ u.flag tmbLock 0 = false ∧ Logs s u 0x5203 0 := by
  have hrun : exec .ppsMissing s = .next (((State.setLock { s with tim := { s.tim with edgeOk := false } } false).setFld tmbHoldover 0 1).raise
      0x5203 0 0 0) := if_pos ⟨hsrc, by simp [hhold], by simpa [hlast] using hlate⟩
  have hlock : rising (State.setLock { s with tim := { s.tim with edgeOk := false } } false).regs = true := rising_setFld hc.regs _ _ _
  obtain ⟨hregs, hlogs⟩ := raise_plain (s := (State.setLock { s with tim := { s.tim with edgeOk := false } } false).setFld tmbHoldover 0 1)
    (code := 0x5203) (by decide) 0 0 0
  refine ⟨_, hrun, ?_, ?_, hlogs⟩
  · rw [flag_congr hregs]
    exact flag_setFld_self hlock rfl (by decide) 0 true
  · rw [flag_congr hregs, flag_setFld_apart hlock tmbHoldover tmbLock rfl (by decide) (by decide) (by decide)]
    exact flag_setLock (s := { s with tim := { s.tim with edgeOk := false } }) hc.regs false

theorem completes_timeFenced (hc : Canon s) (hrunning : s.tim.running = true) (hfree : s.timeFenced = false) (hdue : s.fenceDue = true) :
    Completes .timeFenced s fun u => u.timeFenced = true ∧
      u.reg .TMB_FENCE_CNT 0 = min 0xFFFFFFFF (s.reg .TMB_FENCE_CNT 0 + 1) ∧ Logs s u 0x5201 0 := by
  have hrun : exec .timeFenced s = .next (((s.setFld tmbFenced 0 1).bump .TMB_FENCE_CNT 0).raise 0x5201 0 0 0) :=
    if_pos ⟨hrunning, by simp [hfree], hdue⟩
  have hset := rising_setFld hc.regs tmbFenced 0 1
  obtain ⟨hregs, hlogs⟩ := raise_plain (s := (s.setFld tmbFenced 0 1).bump .TMB_FENCE_CNT 0) (code := 0x5201) (by decide) 0 0 0
  refine ⟨_, hrun, ?_, ?_, hlogs⟩
  · rw [State.timeFenced, flag_congr hregs, State.flag, State.bump, State.bumpBy, fld_setReg_other hset tmbFenced (by decide)]
    exact flag_setFld_self hc.regs (f := tmbFenced) rfl (by decide) 0 true
  · rw [reg_congr hregs, reg_bump_self hset, reg_setFld_other (f := tmbFenced) hc.regs (by decide)]

theorem completes_timeRestored (hc : Canon s) (hfenced : s.timeFenced = true) (hlock : s.flag tmbLock 0 = true)
    (herr : s.pherr.natAbs ≤ s.reg .TMB_FENCE_NS 0 % 65536) :
    Completes .timeRestored s fun u => u.timeFenced = false ∧ Logs s u 0x5202 0 := by
  have hrun : exec .timeRestored s = .next ((s.setFld tmbFenced 0 0).raise 0x5202 0 0 0) := if_pos ⟨hfenced, hlock, herr⟩
  obtain ⟨hregs, hlogs⟩ := raise_plain (s := s.setFld tmbFenced 0 0) (code := 0x5202) (by decide) 0 0 0
  refine ⟨_, hrun, ?_, hlogs⟩
  rw [State.timeFenced, flag_congr hregs]
  exact flag_setFld_self hc.regs rfl (by decide) 0 false

/-! ### PPS_OUT (R325) -/

theorem completes_ppsOutPulse_rise (hrunning : s.tim.running = true) (hen : s.flag tmbPpsoen 0 = true) (hlow : s.tim.ppsOut = false)
    (hnew : s.tim.ppsRose ≤ s.tim.now / second) (hwhole : s.tim.now % second < max 1 s.tim.adv) :
    Completes (.ppsOutPulse true) s fun u =>
      u.tim.ppsOut = true ∧ u.tim.ppsUp = s.tim.dev ∧ u.tim.now = s.tim.now ∧ u = { s with tim := u.tim } := by
  have hrun : exec (.ppsOutPulse true) s = .next { s with tim :=
      { s.tim with ppsOut := true, ppsRose := s.tim.now / second + 1, ppsUp := s.tim.dev } } :=
    if_pos ⟨hrunning, hen, by simp [hlow], hnew, hwhole⟩
  exact ⟨_, hrun, rfl, rfl, rfl, rfl⟩

theorem completes_ppsOutPulse_fall (hhigh : s.tim.ppsOut = true) (hlong : s.tim.ppsUp + 1000000 ≤ s.tim.dev) :
    Completes (.ppsOutPulse false) s fun u => u = { s with tim := { s.tim with ppsOut := false } } :=
  ⟨_, if_pos ⟨hhigh, hlong⟩, rfl⟩

/-! ### An edge of PPS_IN in PPS mode (R322, R323) -/

/-- The stamp of an edge that comes now: within 2 ns, and else free (R323). -/
def edgeStamp (s : State) : Nat := s.tim.now - 2 + (Config.freeValue s.free).toNat % (min s.tim.now 2 + 3)

/-- The edge comes within the window of R322 after the one before. -/
def edgeInTime (s : State) : Bool :=
  s.tim.lastEdge.any fun e => decide (e + (second - 10000 : Nat) ≤ (s.tim.now : Int) ∧ (s.tim.now : Int) ≤ e + (second + 10000 : Nat))

/-- The edge stamped, its phase error noted. -/
def edgeStamped (s : State) : State :=
  { (State.setReg { s with free := s.free + 1 } .TMB_PPS_LAST 0 (edgeStamp s)).setReg .TMB_PHERR 0
      (word32 (phaseError (edgeStamp s) (s.reg .TMB_PPS_OFS 0))) with
    tim := { s.tim with lastEdge := some s.tim.now, edgeOk := edgeInTime s } }

/-- LOCK and HOLDOVER as the edge leaves them. -/
def edgeLocked (s : State) : State :=
  if edgeInTime s then ((edgeStamped s).setLock (edgeStamped s).lockDue).setFld tmbHoldover 0 0
  else (edgeStamped s).setLock (edgeStamped s).lockDue

theorem ppsEdge_eq (s : State) : s.ppsEdge = (edgeLocked s).steer := rfl

theorem edgeStamp_bounds (s : State) : s.tim.now - 2 ≤ edgeStamp s ∧ edgeStamp s ≤ s.tim.now + 2 := by
  have hfree := Nat.mod_lt (Config.freeValue s.free).toNat (show 0 < min s.tim.now 2 + 3 by omega)
  unfold edgeStamp
  omega

theorem word32_lt (v : Int) : word32 v < 2 ^ 32 := (BitVec.ofInt 32 v).isLt

section
variable (h : rising s.regs = true)
include h

theorem rising_edgeStamped : rising (edgeStamped s).regs = true := rising_setReg (rising_setReg (s := { s with free := _ }) h _ _ _) _ _ _

theorem reg_edgeStamped_other {q : Reg} {j : Nat} (hlast : q.addr j ≠ Reg.addr .TMB_PPS_LAST 0) (herr : q.addr j ≠ Reg.addr .TMB_PHERR 0) :
    (edgeStamped s).reg q j = s.reg q j :=
  (reg_setReg (rising_setReg (s := { s with free := s.free + 1 }) h _ _ _) _ _ _ _ _ herr).trans
    (reg_setReg (s := { s with free := s.free + 1 }) h _ _ _ _ _ hlast)

theorem reg_edgeStamped (hnow : s.tim.now < 2 ^ 63) : (edgeStamped s).reg .TMB_PPS_LAST 0 = edgeStamp s ∧
    (edgeStamped s).reg .TMB_PHERR 0 = word32 (phaseError (edgeStamp s) (s.reg .TMB_PPS_OFS 0)) := by
  have hset := rising_setReg (s := { s with free := s.free + 1 }) h .TMB_PPS_LAST 0 (edgeStamp s)
  obtain ⟨-, hmost⟩ := edgeStamp_bounds s
  constructor
  · refine (reg_setReg hset .TMB_PHERR .TMB_PPS_LAST 0 0 _ (by decide)).trans
      ((reg_setReg_self (s := { s with free := s.free + 1 }) h .TMB_PPS_LAST 0 _).trans ?_)
    exact Nat.mod_eq_of_lt (by omega)
  · refine (reg_setReg_self hset .TMB_PHERR 0 _).trans (Nat.mod_eq_of_lt ?_)
    have hword := word32_lt (phaseError (edgeStamp s) (s.reg .TMB_PPS_OFS 0))
    omega

/-- LOCK and HOLDOVER are bits of TMB_STATUS. -/
theorem reg_edgeLocked_other {q : Reg} {j : Nat} (hq : q.addr j ≠ Reg.addr .TMB_STATUS 0) :
    (edgeLocked s).reg q j = (edgeStamped s).reg q j := by
  have hlock := reg_setLock_other (rising_edgeStamped h) hq (edgeStamped s).lockDue
  have hrise : rising ((edgeStamped s).setLock (edgeStamped s).lockDue).regs = true := rising_setFld (rising_edgeStamped h) tmbLock 0 _
  unfold edgeLocked
  split
  · exact (reg_setFld_other (f := tmbHoldover) hrise hq 0).trans hlock
  · exact hlock

theorem lock_firstEdge (hsrc : s.fld tmbSrcact 0 = 1) (hfirst : s.tim.lastEdge = none) : (edgeLocked s).flag tmbLock 0 = false := by
  have hout : edgeInTime s = false := by rw [edgeInTime, hfirst]; rfl
  have hsrc' : (edgeStamped s).fld tmbSrcact 0 = 1 := by
    rw [State.fld, reg_edgeStamped_other h (by decide) (by decide)]
    exact hsrc
  rw [edgeLocked, hout, lockDue_pps hsrc' hout]
  exact flag_setLock (rising_edgeStamped h) false

theorem ppsEdge_stamps (hsrc : s.fld tmbSrcact 0 = 1) (hnow : s.tim.now < 2 ^ 63) :
    s.tim.now - 2 ≤ s.ppsEdge.reg .TMB_PPS_LAST 0 ∧ s.ppsEdge.reg .TMB_PPS_LAST 0 ≤ s.tim.now + 2 ∧
    s.ppsEdge.reg .TMB_PHERR 0 = word32 (phaseError (s.ppsEdge.reg .TMB_PPS_LAST 0) (s.reg .TMB_PPS_OFS 0)) ∧
    s.ppsEdge.tim.lastEdge = some (s.tim.now : Int) ∧ (s.tim.lastEdge = none → s.ppsEdge.flag tmbLock 0 = false) := by
  have hregs : s.ppsEdge.reg = (edgeLocked s).reg := rfl
  obtain ⟨hlast, herr⟩ := reg_edgeStamped h hnow
  obtain ⟨hleast, hmost⟩ := edgeStamp_bounds s
  rw [hregs, reg_edgeLocked_other h (by decide), reg_edgeLocked_other h (by decide), hlast, herr]
  refine ⟨hleast, hmost, rfl, ?_, lock_firstEdge h hsrc⟩
  rw [ppsEdge_eq, edgeLocked]
  split <;> rfl

end

/-! ### Jumps of device time (R327) -/

/-- The time after a jump to `v`: what is periodic against it starts afresh. -/
def jumpedTime (t : TimeSt) (v : Nat) : TimeSt :=
  { t with now := v, adv := 1, ppsRose := 0, lastEdge := t.lastEdge.map fun e => v - (t.now - e) }

theorem carRealign_frame (s : State) (c : Nat) : ∃ cars, s.carRealign c = { s with cars := cars } := by
  unfold State.carRealign
  dsimp only
  split
  · exact ⟨_, rfl⟩
  · exact ⟨_, rfl⟩

theorem jumpTo_frame (s : State) (v : Nat) : ∃ tiles encs adcs sds sup cars, s.jumpTo v = { s with
    tim := jumpedTime s.tim v, tiles := tiles, encs := encs, adcs := adcs, sds := sds, sup := sup, cars := cars } := by
  unfold State.jumpTo
  refine List.foldlRecOn (motive := fun u : State => ∃ tiles encs adcs sds sup cars, u = { s with
    tim := jumpedTime s.tim v, tiles := tiles, encs := encs, adcs := adcs, sds := sds, sup := sup, cars := cars })
    _ _ ⟨_, _, _, _, _, _, rfl⟩ fun u hu c _ => ?_
  obtain ⟨_, _, _, _, _, _, rfl⟩ := hu
  obtain ⟨_, hcars⟩ := carRealign_frame { s with tim := jumpedTime s.tim v, tiles := _, encs := _, adcs := _, sds := _, sup := _, cars := _ } c
  rw [hcars]
  exact ⟨_, _, _, _, _, _, rfl⟩

/-- A jump leaves the commands and their replies; on a master it counts an epoch. -/
theorem timeSet_frame (s : State) (v : Nat) : ∃ regs tiles encs adcs sds sup cars, s.timeSet v = { s with
    tim := jumpedTime s.tim v, regs := regs, tiles := tiles, encs := encs, adcs := adcs, sds := sds, sup := sup, cars := cars } := by
  obtain ⟨_, _, _, _, _, _, hjump⟩ := jumpTo_frame s v
  unfold State.timeSet
  rw [hjump]
  dsimp only
  split
  · exact ⟨_, _, _, _, _, _, _, rfl⟩
  · exact ⟨s.regs, _, _, _, _, _, _, rfl⟩

theorem timeSet_answers (s : State) (v : Nat) :
    answering (s.timeSet v) = answering { s with tim := jumpedTime s.tim v } ∧ (s.timeSet v).tim = jumpedTime s.tim v := by
  obtain ⟨_, _, _, _, _, _, _, h⟩ := timeSet_frame s v
  rw [h]
  exact ⟨rfl, rfl⟩

/-- The epoch count is no bit of TMB_STATUS. -/
theorem source_timeSet (h : rising s.regs = true) (v : Nat) : (s.timeSet v).fld tmbSrcact 0 = s.fld tmbSrcact 0 := by
  obtain ⟨_, _, _, _, _, _, hjump⟩ := jumpTo_frame s v
  have hregs : (s.jumpTo v).regs = s.regs := by rw [hjump]
  have hsrc : (s.jumpTo v).fld tmbSrcact 0 = s.fld tmbSrcact 0 := by rw [fld_congr hregs]
  unfold State.timeSet
  dsimp only
  split
  · exact (fld_setFld_other (hregs ▸ h) tmbSrcact tepEcnt (by decide) _).trans hsrc
  · exact hsrc

/-! ### Edges that a TIME_SET waits for, and those that none waits for (R327) -/

theorem exec_ppsInEdge {rising : Bool} (hrunning : s.tim.running = true) (hactive : rising ≠ s.flag tmbPpspol 0) :
    exec (.ppsInEdge rising) s = .next (if s.timeSetEdge.fld tmbSrcact 0 = 1 then s.timeSetEdge.ppsEdge else s.timeSetEdge) :=
  if_neg (by simp [hrunning, hactive])

theorem timeSetEdge_none (hnone : s.tim.setTo = []) : ∃ cmds drains replies mgmt orphans, s.timeSetEdge =
    { s with cmds := cmds, drains := drains, replies := replies, mgmt := mgmt, orphans := orphans } := by
  have hsame : { s with tim := { s.tim with setTo := [] } } = s := by rw [← hnone]
  unfold State.timeSetEdge
  dsimp only
  rw [hsame, hnone]
  split
  · exact finish_frame s .timeSet stBusy []
  · exact finish_frame s .timeSet stOk []

theorem completes_ppsInEdge_pps (hc : Canon s) {rising : Bool} (hrunning : s.tim.running = true) (hactive : rising ≠ s.flag tmbPpspol 0)
    (hsrc : s.fld tmbSrcact 0 = 1) (hnone : s.tim.setTo = []) (hnow : s.tim.now < 2 ^ 63) : Completes (.ppsInEdge rising) s fun u =>
      s.tim.now - 2 ≤ u.reg .TMB_PPS_LAST 0 ∧ u.reg .TMB_PPS_LAST 0 ≤ s.tim.now + 2 ∧
      u.reg .TMB_PHERR 0 = word32 (phaseError (u.reg .TMB_PPS_LAST 0) (s.reg .TMB_PPS_OFS 0)) ∧
      u.tim.lastEdge = some (s.tim.now : Int) ∧ (s.tim.lastEdge = none → u.flag tmbLock 0 = false) := by
  obtain ⟨cmds, drains, replies, mgmt, orphans, hedge⟩ := timeSetEdge_none hnone
  have hrun := exec_ppsInEdge hrunning hactive
  rw [hedge] at hrun
  exact ⟨_, hrun.trans (congrArg _ (if_pos hsrc)),
    ppsEdge_stamps (s := { s with cmds := cmds, drains := drains, replies := replies, mgmt := mgmt, orphans := orphans }) hc.regs hsrc hnow⟩

/-- No TIME_SET waits any more. -/
def noneWaits (s : State) : State := { s with tim := { s.tim with setTo := [] } }

theorem timeSetEdge_one {c : Cmd} {v : Nat} (hone : s.tim.setTo = [(c, v)]) (hidle : s.timeBusy = false) :
    s.timeSetEdge = ((noneWaits s).timeSet v).finish .timeSet stOk [] := by
  have hidle' : ¬ (noneWaits s).timeBusy = true := by
    rw [show (noneWaits s).timeBusy = s.timeBusy from rfl, hidle]
    exact Bool.false_ne_true
  rw [State.timeSetEdge, hone]
  exact if_neg hidle'

theorem tim_reply (s : State) (c : Cmd) (op status : Nat) (data : List Byte) : (s.reply c op status data).tim = s.tim := by
  rcases reply_cases s c op status data with h | ⟨-, h⟩ | ⟨-, h⟩ <;> rw [h]

theorem tim_finish (s : State) (w : CmdWait) (status : Nat) (data : List Byte) : (s.finish w status data).tim = s.tim := by
  obtain ⟨_, _, _, _, _, h⟩ := finish_frame s w status data
  rw [h]

theorem completes_ppsInEdge_set (hc : Canon s) {rising : Bool} (hrunning : s.tim.running = true) (hactive : rising ≠ s.flag tmbPpspol 0)
    {c : Cmd} {v : Nat} (hsrc : s.fld tmbSrcact 0 ≠ 1) (hone : s.tim.setTo = [(c, v)]) (hidle : s.timeBusy = false) :
    Completes (.ppsInEdge rising) s fun u => u.tim.now = v ∧ u.tim.setTo = [] ∧ Finishes s u .timeSet stOk [] := by
  have hrun := exec_ppsInEdge hrunning hactive
  rw [timeSetEdge_one hone hidle, fld_finish, source_timeSet (s := noneWaits s) hc.regs v,
    if_neg (show (noneWaits s).fld tmbSrcact 0 ≠ 1 from hsrc)] at hrun
  obtain ⟨hanswers, htim⟩ := timeSet_answers (noneWaits s) v
  obtain ⟨hwaiting, htold⟩ := Finishes.of_answering hanswers .timeSet stOk []
  refine ⟨_, hrun, ?_, ?_, hwaiting, htold⟩
  · rw [tim_finish, htim]
    rfl
  · rw [tim_finish, htim]
    rfl

/-! ### TIME_SET and TIME_READ (R327, R352) -/

section
variable {c : Cmd} {time : DWord}

theorem timeSetCmd_idle (hidle : s.timeBusy = false) (hsrc : s.fld tmbSrcact 0 ≠ 2) (t : Nat) {at_ : Nat} (hat : at_ ≤ 1) :
    s.timeSetCmd c t at_ = if at_ = 0 then (s.timeSet t).reply c 0x5001 stOk []
      else State.waitCmd { s with tim := { s.tim with setTo := s.tim.setTo ++ [(c, t)] } } c 0x5001 .timeSet 2000000 := by
  rw [State.timeSetCmd, if_neg (by omega), if_neg (by simp [hidle]), if_neg hsrc]

theorem exec_timeSet {at_ : Nat} (ha : Accepted s c 0x5001 (leBytes 8 time.toNat ++ leBytes 1 at_) false) :
    exec (.timeSet c time at_) s = .next ((s.unfetch c).timeSetCmd c time.toNat at_) := by
  have harm : exec (.timeSet c time at_) s = execTimeSet c time at_ s := rfl
  rw [harm, execTimeSet, runCmd_of_accepted ha]

theorem completes_timeSet_atOnce (ha : Accepted s c 0x5001 (leBytes 8 time.toNat ++ leBytes 1 0) false)
    (hsrc : s.fld tmbSrcact 0 ≠ 2) (hidle : s.timeBusy = false) :
    Completes (.timeSet c time 0) s fun u => Replies s u c 0x5001 stOk [] ∧ u.tim.now = time.toNat := by
  have hrun := (exec_timeSet ha).trans (congrArg _ (timeSetCmd_idle (s := s.unfetch c) hidle hsrc time.toNat (Nat.zero_le 1)))
  rw [if_pos rfl] at hrun
  obtain ⟨hanswers, htim⟩ := timeSet_answers (s.unfetch c) time.toNat
  have hreplies : Replies s _ c 0x5001 stOk [] := Replies.of_answering hanswers ha.here ha.live stOk []
  refine ⟨_, hrun, hreplies, ?_⟩
  rw [tim_reply, htim]
  rfl

theorem completes_timeSet_busy (ha : Accepted s c 0x5001 (leBytes 8 time.toNat ++ leBytes 1 0) false) (hbusy : s.timeBusy = true) :
    Completes (.timeSet c time 0) s fun u => Replies s u c 0x5001 stBusy [] ∧ OnlyAnswers s u := by
  have hrun : exec (.timeSet c time 0) s = .next ((s.unfetch c).reply c 0x5001 stBusy []) :=
    (exec_timeSet ha).trans (congrArg _ ((if_neg (by decide)).trans (if_pos hbusy)))
  exact ⟨_, hrun, replies_reply (s := s.unfetch c) ha.here ha.live, reply_onlyAnswers ha.here ha.live⟩

theorem completes_timeSet_atEdge (ha : Accepted s c 0x5001 (leBytes 8 time.toNat ++ leBytes 1 1) false)
    (hsrc : s.fld tmbSrcact 0 ≠ 2) (hidle : s.timeBusy = false) :
    Completes (.timeSet c time 1) s fun u => u.tim.setTo = s.tim.setTo ++ [(c, time.toNat)] ∧ u.tim.now = s.tim.now ∧
      ∃ x, u.cmds = s.cmds ++ [x] ∧ x.cmd = c ∧ x.wait = .timeSet ∧ x.deadline = some (s.tim.clk + 2000000000) := by
  have hrun := (exec_timeSet ha).trans (congrArg _ (timeSetCmd_idle (s := s.unfetch c) hidle hsrc time.toNat le_rfl))
  exact ⟨_, hrun, rfl, rfl, _, rfl, rfl, rfl, rfl⟩

theorem completes_timeRead (ha : Accepted s c 0x5002 [] false) : Completes (.timeRead c) s fun u => Replies s u c 0x5002 stOk
    (leBytes 8 s.tim.now ++ leBytes 4 (s.reg .TMB_STATUS 0) ++ leBytes 4 (s.reg .TMB_PHERR 0)) ∧ OnlyAnswers s u := by
  have hrun : exec (.timeRead c) s = .next ((s.unfetch c).reply c 0x5002 stOk
      (leBytes 8 s.tim.now ++ leBytes 4 (s.reg .TMB_STATUS 0) ++ leBytes 4 (s.reg .TMB_PHERR 0))) := by
    have harm : exec (.timeRead c) s = execTimeRead c s := rfl
    rw [harm, execTimeRead, runCmd_of_accepted ha]
    rfl
  exact ⟨_, hrun, replies_reply (s := s.unfetch c) ha.here ha.live, reply_onlyAnswers ha.here ha.live⟩

end

/-- The TIME_SET `x` waits no longer, the others do. -/
def othersWait (s : State) (x : InProg) : State :=
  { s with cmds := s.cmds.filter fun y => y ≠ x, tim := { s.tim with setTo := s.tim.setTo.filter fun p => p.1 ≠ x.cmd } }

/-- The one TIME_SET that has waited its 2 s replies TIMEOUT. -/
theorem completes_timeSetPpsTimeout {x : InProg} (hone : s.cmds.filter s.setExpired = [x]) (hr : x.cmd.remote = 0)
    (ho : s.orphans.contains x.cmd = false) : Completes .timeSetPpsTimeout s fun u => u.cmds = s.cmds.filter (fun y => y ≠ x) ∧
      u.tim.setTo = s.tim.setTo.filter (fun p => p.1 ≠ x.cmd) ∧ Replies s u x.cmd x.op stTimeout [] := by
  have hcmds : (s.cmds.filter fun y => !([x].contains y)) = s.cmds.filter fun y => y ≠ x := List.filter_congr fun y _ => by simp
  have hset : (s.tim.setTo.filter fun p => !([x].any fun x => x.cmd == p.1)) = s.tim.setTo.filter fun p => p.1 ≠ x.cmd :=
    List.filter_congr fun p _ => by
      simp only [List.any_cons, List.any_nil, Bool.or_false, ne_eq, decide_not, @eq_comm _ p.1 x.cmd]
      rfl
  have hrun : exec .timeSetPpsTimeout s = .next ((othersWait s x).reply x.cmd x.op stTimeout []) := by
    have harm : exec .timeSetPpsTimeout s = execTimeSetPpsTimeout s := rfl
    rw [harm, execTimeSetPpsTimeout, hone, othersWait, ← hcmds, ← hset]
    rfl
  rw [reply_live (s := othersWait s x) hr ho] at hrun
  exact ⟨_, hrun, rfl, rfl, rfl⟩

/-- Settles O46: one lemma for each of the events and commands of the timebase. -/
theorem timebaseEvents : Obligations.TimebaseEvents := by
  unfold Obligations.TimebaseEvents
  intro s hc
  refine ⟨completes_rimPllLock hc, completes_rimPllLockLoss hc, fun rising hrunning hactive => ⟨?_, ?_⟩, fun e => completes_ppsMissing hc,
    completes_timeFenced hc, completes_timeRestored hc, completes_ppsOutPulse_rise, completes_ppsOutPulse_fall,
    fun c time => ⟨fun ha hsrc => ⟨?_, ?_⟩, ?_, ?_⟩, fun x => completes_timeSetPpsTimeout⟩
  · exact completes_ppsInEdge_pps hc hrunning hactive
  · exact fun c v => completes_ppsInEdge_set hc hrunning hactive
  · exact completes_timeSet_atOnce ha hsrc
  · exact completes_timeSet_busy ha
  · exact completes_timeSet_atEdge
  · exact completes_timeRead

end Sys2Proof
end
